-- ==== Sys2Proof/Word.lean ====
section
/-! DEFINITION. The word and byte types, and the sparse map that the state's memories and register file are made of. -/
namespace Sys2Proof

/-- One byte (R8). -/
abbrev Byte := BitVec 8

/-- One 32-bit word (R8, R10). -/
abbrev Word := BitVec 32

/-- A sparse map: keys strictly rising, and no entry equal to what an unlisted key reads as. -/
abbrev SMap (α : Type) := List (Nat × α)

end Sys2Proof
end

