-- ==== Sys2Proof/Syntax.lean ====
section
/-! DEFINITION. The commands of the OZ9648 block: one constructor for each row of the table of operations and events, with
the operands that the row's rule names. The rows give no operands and no bits, so the operands are the model's. -/
namespace Sys2Proof

/-- Who writes a register: the pair, whose writes leave at the tick boundary, or a Vinko window (R12, R481). -/
inductive Writer where
  | pair
  | vinko
deriving DecidableEq, Repr

/-- The code of a writer in KEY_REJ_LAST.SRC (Table 17-3). -/
def Writer.code : Writer → Nat
  | .pair => 0
  | .vinko => 1

/-- A block that watches the heartbeat (R157, R215, R253). -/
inductive Block where
  | quadrant (q : Fin 4)
  | lighting
  | fieldIo
deriving DecidableEq, Repr

/-- A CAN frame on the bus: identifier, format bits, DLC, the XL header fields, the payload. -/
structure BusFrame where
  id : BitVec 29
  ide : Bool
  rtr : Bool := false
  dlc : BitVec 4 := 0
  fdf : Bool := false
  brs : Bool := false
  esi : Bool := false
  xlf : Bool := false
  sdt : Byte := 0
  vcid : Byte := 0
  sec : Bool := false
  af : Word := 0
  data : List Byte := []
deriving DecidableEq, Repr

/-- The occupied bus time that an event ends: its 5 ns cycles in the present frame interval, and whether it began there. -/
structure Span where
  occ : BitVec 24
  sof : Bool
deriving DecidableEq, Repr

/-- A channel and the current in mA that its comparator sees (R136). -/
structure ChanAmps where
  c : Fin 20
  i : BitVec 17
deriving DecidableEq, Repr

/-- A bank of the module, and its feed in 16 mV (R99). -/
structure PumpFeed where
  b : Fin 8
  v : BitVec 12
deriving DecidableEq, Repr

/-- A thermal group and its sensor in °C (R217). -/
structure GroupTemp where
  g : Fin 6
  t : BitVec 8
deriving DecidableEq, Repr

/-- A sensor bus that is stuck, in a read of its cycle or else in a raw transfer (R231). -/
structure StuckBus where
  b : Fin 2
  read : Bool
deriving DecidableEq, Repr

/-- An input (DI 0 to 31, CI from 32), and whether it is above 36 V (R243). -/
structure OverInput where
  ch : Fin 40
  high : Bool
deriving DecidableEq, Repr

/-- A low-side output, and whether its drain is below 2.0 V (R251). -/
structure LowDrain where
  k : Fin 8
  low : Bool
deriving DecidableEq, Repr

/-- A CAN controller, and whether the frame of another node is in progress on its bus (R266). -/
structure BusyCan where
  n : Fin 12
  busy : Bool
deriving DecidableEq, Repr

/-- A word and who writes it. -/
structure WordBy where
  v : Word
  w : Writer
deriving DecidableEq, Repr

/-- Who reads, the pair (none) or the Vinko initiator of a slot, and at which cycle of the tick (R274). -/
structure ReadBy where
  r : Option (Fin 16)
  cyc : BitVec 11
deriving DecidableEq, Repr

/-- A CAN controller and a cycle of the tick (R274). -/
structure LockAt where
  n : Fin 12
  cyc : BitVec 11
deriving DecidableEq, Repr

/-- What follows a CAN error: a dominant bit after the flag; how often a bit error met an active error or overload flag sent, or eight
more dominant bits followed one (ISO 11898-1); the transmitter delay measured in the frame (R265, R279). -/
structure AfterError where
  dom : Bool
  flags : Fin 16
  delay : Option Byte
deriving DecidableEq, Repr

/-- A port and the bus time that its wake signal occupied (R286, R300). -/
structure WakePhase where
  p : Fin 24
  sp : Span
deriving DecidableEq, Repr

/-- A port P(4 + p), and whether its TXD is held dominant beyond its limit (R288). -/
structure TxdLevel where
  p : Fin 20
  stuck : Bool
deriving DecidableEq, Repr

/-- The bytes of a LIN response and the checksum byte after them (R294). -/
structure LinBytes where
  bytes : List Byte
  chk : Byte
deriving DecidableEq, Repr

/-- A dominant phase in units of 10 µs, and the bus time that it occupied (R300, R302). -/
structure DomPhase where
  len : BitVec 9
  sp : Span
deriving DecidableEq, Repr

/-- A backbone port and the gPTP domain of a message on it (R320). -/
structure SyncPort where
  n : Fin 2
  domain : Byte
deriving DecidableEq, Repr

/-- An Ethernet frame: addresses, VLAN tag (PCP and identifier), R-TAG sequence number, EtherType, payload. -/
structure EthFrame where
  dst : BitVec 48
  src : BitVec 48
  vlan : Option (BitVec 3 × BitVec 12) := none
  rtag : Option (BitVec 16) := none
  etype : BitVec 16
  payload : List Byte := []
deriving DecidableEq, Repr

/-- The SecTAG of a backbone frame: whether its ICV verifies under the installed SAK, and its packet number (R314). -/
structure SecTag where
  verifies : Bool
  pn : Word
deriving DecidableEq, Repr

/-- A message of a received ACF frame (R325): a CAN frame, a LIN frame with identifier and bytes, or another type; and its bus. -/
inductive AcfMsg where
  | can (bus : Nat) (frame : BusFrame)
  | lin (bus : Nat) (id : Fin 64) (bytes : List Byte)
  | other
deriving DecidableEq, Repr

/-- An error that a SECDED memory finds on a read (R420, R421): the memory as Table 15-6 codes it, the recorded address, whether
it is uncorrectable. -/
structure EccHit where
  mem : Fin 4
  addr : Word
  ue : Bool
deriving DecidableEq, Repr

/-- A trap that a core has taken before a command's instruction, at `pc` (R394): an illegal instruction; a fetch at `a` that is
refused (R485), or, `ue`, finds an uncorrectable error (R421). -/
inductive EarlyTrap where
  | illegal (pc : Word)
  | fetch (pc a : Word) (ue : Bool)
deriving DecidableEq, Repr

/-- What a core has executed up to and with a command's instruction (R394 to R396): the cycles and the instructions since its
previous command, this one included, the trap that one of them took, the registers that they have written, whether they returned
from a trap (MRET), the address of this instruction, and whether it is a compressed one. -/
structure Ran where
  cycles : BitVec 12 := 1
  instrs : BitVec 12 := 1
  trap : Option EarlyTrap := none
  regs : List (Fin 32 × Word) := []
  mret : Bool := false
  pc : Word := 0
  short : Bool := false
deriving DecidableEq, Repr

/-- A CSR instruction (R394): read and write, read and set, read and clear. -/
inductive CsrOp where
  | rw
  | rs
  | rc
deriving DecidableEq, Repr

/-- What a start step has found (Table 16-1): whether its own pass condition holds (S2, S3; in rescue, whether a PLL has locked),
the selected source (S1: 1 VPOD, 2 VBL), the quadrants whose saved block is bad (S0), the injection test (S4), whether SIG of
each bank or slot verifies (S5, S6), the quadrants whose microcode fails twice (S7), the ports that reach their state (S9), the
span counter and the temperature code (S7 after Shelf, and where the Frame starts). -/
structure StepRes where
  pass : Bool := true
  src : Fin 3 := 1
  aonBad : BitVec 4 := 0
  inj : Option (Fin 4 × Fin 65) := none
  sigA : Bool := true
  sigB : Bool := true
  ucodeBad : BitVec 4 := 0
  ports : BitVec 24 := 0xFFFFFF
  span : BitVec 48 := 0
  temp : Byte := 0
deriving DecidableEq, Repr

/-- A Vinko transaction as it arrives (Tables 11-3 and 11-5): the backbone port, the source MAC address, SEQ, the window, POSTED,
ADDR, AUX, and whether its header, length or frame is malformed. -/
structure VnkReq where
  port : Fin 2
  mac : BitVec 48
  seq : BitVec 16
  win : Byte
  posted : Bool := false
  addr : Word := 0
  aux : Word := 0
  malformed : Bool := false
deriving DecidableEq, Repr

/-- The commands of the block, one constructor for each row of the table of operations and events. -/
inductive Instr where
  /-- TICK_BOUNDARY: The boundary that ends the tick; `ecc`: what the memory scrubber has found in it. -/
  | tickBoundary (ecc : List EccHit)
  /-- COMMIT_ASSEMBLY: The commit assembly of the tick; `bad`: the rods whose repair fails its read-back. -/
  | commitAssembly (bad : List (Fin 1024))
  /-- ROD_RELOAD_DONE: The reload of a rod from flash completes. -/
  | rodReloadDone
  /-- COMMIT_FREEZE: The staged image is frozen; where a cycle of frequency correction and one of slew in the same direction are both due, `slewFirst` says which the tick takes. -/
  | commitFreeze (slewFirst : Bool)
  /-- FRAME_BOUNDARY: A frame boundary, with the substrate codes of the four quadrants and the bus time up to it of the frames in progress on ports P02 to P23. -/
  | frameBoundary (t0 t1 t2 t3 : Byte) (busy : List (Fin 22 × Span))
  /-- SUPERFRAME_BOUNDARY: A superframe boundary, with the RC period measured in 1/256 ns and the AON temperature code. -/
  | superframeBoundary (period : BitVec 24) (temp : Byte)
  /-- HOLDOVER_ENTRY: No offset update for three update intervals. -/
  | holdoverEntry
  /-- HOLDOVER_EXPIRE: HOLDOVER_LIM superframes pass in Holdover. -/
  | holdoverExpire
  /-- SEQ_RUN_START: A write of SEQ_CTL.RUN 1 by `w`. -/
  | seqRunStart (w : Writer)
  /-- SEQ_RUN_STOP: A write of SEQ_CTL.RUN 0 by `w`. -/
  | seqRunStop (w : Writer)
  /-- TAB_NEXT: A write of SEQ_CTL.TAB_NEXT by `w`. -/
  | tabNext (t : Fin 2) (w : Writer)
  /-- TICK_LO_READ: A read of TICK_LO. -/
  | tickLoRead
  /-- TILE_WRITE: A word write to tile memory by `w`. -/
  | tileWrite (copy : Fin 2) (rod : Fin 1024) (word : Fin 64) (v : Word) (w : Writer)
  /-- ROLLBACK_RELEASE: The re-executed tick is agreed, `delay` × 10 ns after the boundary. -/
  | rollbackRelease (delay : BitVec 16)
  /-- NOP: A bead with no effect. -/
  | nop (slot : Fin 3) (pos : Fin 56) (ops : BitVec 26)
  /-- CH_SET: A bead stages a channel command. -/
  | chSet (slot : Fin 3) (pos : Fin 56) (ops : BitVec 26)
  /-- BANK_SET: A bead stages on or off for a bank. -/
  | bankSet (slot : Fin 3) (pos : Fin 56) (ops : BitVec 26)
  /-- MOT_CMD: A bead stages a bridge command. -/
  | motCmd (slot : Fin 3) (pos : Fin 56) (ops : BitVec 26)
  /-- LS_SET: A bead stages low-side states. -/
  | lsSet (slot : Fin 3) (pos : Fin 56) (ops : BitVec 26)
  /-- LED_SET: A bead stages a sink duty. -/
  | ledSet (slot : Fin 3) (pos : Fin 56) (ops : BitVec 26)
  /-- TOP_CTL: A bead stages an engine command. -/
  | topCtl (slot : Fin 3) (pos : Fin 56) (ops : BitVec 26)
  /-- SAMP_DI: A bead captures an input group. -/
  | sampDi (slot : Fin 3) (pos : Fin 56) (ops : BitVec 26)
  /-- SAMP_CI: A bead captures counters. -/
  | sampCi (slot : Fin 3) (pos : Fin 56) (ops : BitVec 26)
  /-- SAMP_IS: A bead captures the current results of a bank. -/
  | sampIs (slot : Fin 3) (pos : Fin 56) (ops : BitVec 26)
  /-- SAMP_FV: A bead captures a feed voltage. -/
  | sampFv (slot : Fin 3) (pos : Fin 56) (ops : BitVec 26)
  /-- SAMP_PG: A bead captures PAGE_IRQ and PAGE_STAT. -/
  | sampPg (slot : Fin 3) (pos : Fin 56) (ops : BitVec 26)
  /-- MOV_C2E: A bead stages a CAN object for a talker stream; `ecc`: the word of the object whose read finds an error, uncorrectable or not. -/
  | movC2e (slot : Fin 3) (pos : Fin 56) (ops : BitVec 26) (ecc : Option (Fin 20 × Bool))
  /-- MOV_E2C: A bead stages the head of an ingress queue into an object. -/
  | movE2c (slot : Fin 3) (pos : Fin 56) (ops : BitVec 26)
  /-- CAN_TXQ: A bead stages the entry of an object into an arbitration queue; `ecc`: the word of the object whose read finds an error, uncorrectable or not. -/
  | canTxq (slot : Fin 3) (pos : Fin 56) (ops : BitVec 26) (ecc : Option (Fin 20 × Bool))
  /-- LIN_HDR: A bead stages a LIN header. -/
  | linHdr (slot : Fin 3) (pos : Fin 56) (ops : BitVec 26)
  /-- NM_STEP: A bead advances an engine by one step. -/
  | nmStep (slot : Fin 3) (pos : Fin 56) (ops : BitVec 26)
  /-- DISPATCH: A bead queues a task slice. -/
  | dispatch (slot : Fin 3) (pos : Fin 56) (ops : BitVec 26)
  /-- PRM_DONE: A bead marks a promise delivered. -/
  | prmDone (slot : Fin 3) (pos : Fin 56) (ops : BitVec 26)
  /-- DIAG_REQ: A bead stages a diagnostic request. -/
  | diagReq (slot : Fin 3) (pos : Fin 56) (ops : BitVec 26)
  /-- DOM_WAKE: A bead requests the wake of a domain. -/
  | domWake (slot : Fin 3) (pos : Fin 56) (ops : BitVec 26)
  /-- SKIP_IF: A bead skips the next beads on a sample bit. -/
  | skipIf (slot : Fin 3) (pos : Fin 56) (ops : BitVec 26)
  /-- EVENT: A bead raises an event. -/
  | event (slot : Fin 3) (pos : Fin 56) (ops : BitVec 26)
  /-- END: A bead ends the rod. -/
  | endBead (slot : Fin 3) (pos : Fin 56) (ops : BitVec 26)
  /-- REQ_GO: A write of REQ_GO by `w`. -/
  | reqGo (w : Writer)
  /-- ADMISSION_DECISION: The admission unit decides the request at the head of its queue. -/
  | admissionDecision
  /-- PROMISE_DEADLINE: The boundary that ends the deadline tick of a promise. -/
  | promiseDeadline (num : BitVec 16)
  /-- ENV_INTERVAL_END: A frame interval ends for port P02 + `p`. -/
  | envIntervalEnd (p : Fin 22)
  /-- CH_CMD_WRITE: A write of CH_CMD[c] by `w`. -/
  | chCmdWrite (q : Fin 4) (c : Fin 20) (v : Word) (w : Writer)
  /-- CELL_STEP: The next cell of a graded turn-on. -/
  | cellStep (q : Fin 4) (c : Fin 20)
  /-- SLEW_END: The slew of a transition ends. -/
  | slewEnd (q : Fin 4) (c : Fin 20)
  /-- PWM_PERIOD_START: A PWM period starts. -/
  | pwmPeriodStart (q : Fin 4) (c : Fin 20)
  /-- PWM_ON_END: The on-time of a PWM period ends. -/
  | pwmOnEnd (q : Fin 4) (c : Fin 20)
  /-- DEAD_TIME_END: The dead time of a half-bridge ends. -/
  | deadTimeEnd (q : Fin 4) (c : Fin 20)
  /-- SENSE_CONVERSION: A current conversion with its result, and the output and feed voltages at that instant. -/
  | senseConversion (q : Fin 4) (c : Fin 20) (is : BitVec 12) (outV : BitVec 10) (feedV : BitVec 12)
  /-- TEMP_CONVERSION: A junction conversion with its code. -/
  | tempConversion (q : Fin 4) (c : Fin 20) (tj : BitVec 8)
  /-- PAIR_EN_WRITE: A write of QCFG.PAIR_EN. -/
  | pairEnWrite (q : Fin 4) (v : Bool) (w : Writer)
  /-- SHORT_TRIP: The current of a switch reaches `c.i` mA. -/
  | shortTrip (q : Fin 4) (c : ChanAmps)
  /-- OVERCURRENT_TRIP: Conversions exceed the applicable limit throughout the filter time. -/
  | overcurrentTrip (q : Fin 4) (c : Fin 20)
  /-- PEAK_TIMER_TRIP: The peak timer of a half-bridge reaches 500 ms. -/
  | peakTimerTrip (q : Fin 4) (c : Fin 20)
  /-- RETRY_PAUSE_END: A retry pause ends. -/
  | retryPauseEnd (q : Fin 4) (c : Fin 20)
  /-- RETRY_CNT_RESET: One second of conduction since the latest trip. -/
  | retryCntReset (q : Fin 4) (c : Fin 20)
  /-- THERMAL_SHUTDOWN: A junction reaches 175 °C. -/
  | thermalShutdown (q : Fin 4) (c : Fin 20)
  /-- THERMAL_RECOVERY: A junction falls to 160 °C. -/
  | thermalRecovery (q : Fin 4) (c : Fin 20)
  /-- THERM_CNT_RESET: Sixty seconds without a thermal event. -/
  | thermCntReset (q : Fin 4) (c : Fin 20)
  /-- LATCH_CLR: A write of 1 to LATCH_CLR takes effect. -/
  | latchClr (q : Fin 4) (c : Fin 20)
  /-- CLAMP_END: The clamp conduction of a turn-off ends with energy `e` in 0.1 mJ. -/
  | clampEnd (q : Fin 4) (c : Fin 20) (e : BitVec 24)
  /-- SAG_BEGIN: The feed falls below 6.0 V, to code `v`. -/
  | sagBegin (q : Fin 4) (v : BitVec 12)
  /-- SAG_END: The feed returns to 6.2 V, code `v`. -/
  | sagEnd (q : Fin 4) (v : BitVec 12)
  /-- RESERVOIR_OFF: A bank's reservoir falls below its hold level during a sag. -/
  | reservoirOff (b : Fin 8)
  /-- FEED_BELOW_2V8: The feed falls below 2.8 V, to code `v`. -/
  | feedBelow2v8 (q : Fin 4) (v : BitVec 12)
  /-- UNDERVOLTAGE_OFF: The 5 ms timer expires with the feed at code `v`. -/
  | undervoltageOff (q : Fin 4) (v : BitVec 12)
  /-- OVERVOLTAGE: The feed stays above the overvoltage threshold for 10 µs, at code `v`. -/
  | overvoltage (q : Fin 4) (v : BitVec 12)
  /-- OVERVOLTAGE_RELEASE: The feed falls below the release threshold, to code `v`. -/
  | overvoltageRelease (q : Fin 4) (v : BitVec 12)
  /-- INRUSH_QUEUE_START: The coordinator serves the head of a bank's queue. -/
  | inrushQueueStart (b : Fin 8)
  /-- INRUSH_WINDOW_END: A channel's inrush window ends. -/
  | inrushWindowEnd (q : Fin 4) (c : Fin 20)
  /-- REVERSE_CURRENT: Reverse current `i`, in the class LSB, above the threshold. -/
  | reverseCurrent (q : Fin 4) (c : Fin 20) (i : BitVec 12)
  /-- REVERSE_CURRENT_END: The reverse current has stayed below the threshold for 1 ms. -/
  | reverseCurrentEnd (q : Fin 4) (c : Fin 20)
  /-- REVERSE_FEED: The feed stays below −0.6 V for 10 µs. -/
  | reverseFeed (q : Fin 4)
  /-- REVERSE_FEED_END: The feed returns above 2.8 V. -/
  | reverseFeedEnd (q : Fin 4)
  /-- GROUND_LOSS: The quadrant's ground differs by more than 0.6 V for 20 µs. -/
  | groundLoss (q : Fin 4)
  /-- GROUND_LOSS_CLEAR: Ten milliseconds without the condition. -/
  | groundLossClear (q : Fin 4)
  /-- HEARTBEAT_SILENCE: No heartbeat reaches a block for its timeout. -/
  | heartbeatSilence (b : Block)
  /-- SAFE_PATTERN_TOGGLE: The ON or OFF time of Safe pattern `p` ends. -/
  | safePatternToggle (q : Fin 4) (p : Fin 2)
  /-- HOLD_LIMIT: Hold has lasted a block's limit. -/
  | holdLimit (b : Block)
  /-- SAFE_REL: A write of 1 to a block's SAFE_REL takes effect. -/
  | safeRel (b : Block)
  /-- OFF_OL: A request of kind OFF_OL is released. -/
  | offOl (q : Fin 4) (c : Fin 20)
  /-- OFF_STB: A request of kind OFF_STB is released. -/
  | offStb (q : Fin 4) (c : Fin 20)
  /-- ON_CHK: A request of kind ON_CHK is released. -/
  | onChk (q : Fin 4) (c : Fin 20)
  /-- AUTO: A request of kind AUTO is released. -/
  | auto (q : Fin 4) (c : Fin 20)
  /-- CANCEL: A request of kind CANCEL is released. -/
  | cancel (q : Fin 4) (c : Fin 20)
  /-- CLEAR: A request of kind CLEAR is released. -/
  | clear (q : Fin 4) (c : Fin 20)
  /-- PULL_DOWN_PHASE_END: The pull-down phase ends with OUT_V at `v`. -/
  | pullDownPhaseEnd (q : Fin 4) (c : Fin 20) (v : BitVec 10)
  /-- PULL_UP_PHASE_END: The pull-up phase ends with OUT_V at `v`. -/
  | pullUpPhaseEnd (q : Fin 4) (c : Fin 20) (v : BitVec 10)
  /-- NO_MEAS_TIMEOUT: OL_CNT + 2 ticks or periods pass with too few I_ON values. -/
  | noMeasTimeout (q : Fin 4) (c : Fin 20)
  /-- CHG_POP: A read of CHG_POP by `r`. -/
  | chgPop (r : Writer)
  /-- BR_EN_WRITE: A write of BR_CFG.EN. -/
  | brEnWrite (k : Fin 8) (v : Bool) (w : Writer)
  /-- COAST: The Frame owner's command COAST is released. -/
  | coast (k : Fin 8)
  /-- FWD: The Frame owner's command FWD is released. -/
  | fwd (k : Fin 8) (duty : BitVec 12)
  /-- REV: The Frame owner's command REV is released. -/
  | rev (k : Fin 8) (duty : BitVec 12)
  /-- BRAKE_LS: The Frame owner's command BRAKE_LS is released. -/
  | brakeLs (k : Fin 8)
  /-- BRAKE_HS: The Frame owner's command BRAKE_HS is released. -/
  | brakeHs (k : Fin 8)
  /-- REVERSAL_BRAKE_END: The reversal brake time ends. -/
  | reversalBrakeEnd (k : Fin 8)
  /-- CHOP: The driving member's current reaches ICHOP. -/
  | chop (k : Fin 8)
  /-- STALL_MASK_END: The stall mask ends. -/
  | stallMaskEnd (k : Fin 8)
  /-- CURRENT_STALL: IBR has stayed at or above STALL_I for STALL_T. -/
  | currentStall (k : Fin 8)
  /-- HALL_STALL: No valid transition of the named pair for HALL_T. -/
  | hallStall (k : Fin 8)
  /-- QUADRATURE_TRANSITION: A valid transition at cycle `cyc` of the tick; `lead` when A leads B. -/
  | quadratureTransition (j : Fin 4) (lead : Bool) (cyc : BitVec 11)
  /-- ILLEGAL_TRANSITION: Both filtered levels change in one sample. -/
  | illegalTransition (j : Fin 4)
  /-- QD_POS_WRITE: A write of QD_POS. -/
  | qdPosWrite (j : Fin 4) (v : Word) (w : Writer)
  /-- SINK_CMD_WRITE: A write of SINK_CMD by `w`. -/
  | sinkCmdWrite (n : Fin 48) (v : BitVec 16) (w : Writer)
  /-- SINK_PERIOD_START: The on-phase of a sink starts. -/
  | sinkPeriodStart (n : Fin 48)
  /-- SINK_ON_END: The on-time of a sink ends. -/
  | sinkOnEnd (n : Fin 48)
  /-- SINK_MEASURE: A sink is measured: its drop in 25 mV and its current in 0.1 mA. -/
  | sinkMeasure (n : Fin 48) (drop : BitVec 8) (cur : BitVec 10)
  /-- GROUP_OVERTEMP: A group's sensor reading in °C as it rises: 150 is its trip. -/
  | groupOvertemp (g : GroupTemp)
  /-- GROUP_RESUME: A group's sensor reads 135 °C or below. -/
  | groupResume (g : Fin 6)
  /-- TH_LATCH_CLR: A write of 1 to TH.LATCH_CLR takes effect. -/
  | thLatchClr
  /-- STOP: Engine command STOP. -/
  | stop (e : Fin 4)
  /-- START: Engine command START. -/
  | start (e : Fin 4) (addr : BitVec 8)
  /-- PAUSE: Engine command PAUSE. -/
  | pause (e : Fin 4)
  /-- RESUME: Engine command RESUME. -/
  | resume (e : Fin 4)
  /-- FLAG: Engine command FLAG. -/
  | flag (e : Fin 4) (addr : BitVec 8)
  /-- WAIT: Instruction WAIT on engine `e`. -/
  | wait (e : Fin 4) (n : BitVec 12)
  /-- LDA: Instruction LDA on engine `e`. -/
  | lda (e : Fin 4) (k : Fin 16)
  /-- LDB: Instruction LDB on engine `e`. -/
  | ldb (e : Fin 4) (k : Fin 16)
  /-- RMPA: Instruction RMPA on engine `e`. -/
  | rmpa (e : Fin 4) (n : BitVec 8) (k : Fin 16)
  /-- RMPB: Instruction RMPB on engine `e`. -/
  | rmpb (e : Fin 4) (n : BitVec 8) (k : Fin 16)
  /-- PSET: Instruction PSET on engine `e`. -/
  | pset (e : Fin 4) (h : Bool) (v : BitVec 8)
  /-- ROT: Instruction ROT on engine `e`. -/
  | rot (e : Fin 4) (d : Bool) (w : Fin 16)
  /-- SHF: Instruction SHF on engine `e`. -/
  | shf (e : Fin 4) (i d : Bool) (w : Fin 16)
  /-- LOOP: Instruction LOOP on engine `e`. -/
  | loop (e : Fin 4) (c : Fin 4) (a : BitVec 8)
  /-- LDC: Instruction LDC on engine `e`. -/
  | ldc (e : Fin 4) (c : Fin 4) (v : BitVec 8)
  /-- JMP: Instruction JMP on engine `e`. -/
  | jmp (e : Fin 4) (a : BitVec 8)
  /-- FLAG_INSTRUCTION: Instruction FLAG on engine `e`. -/
  | flagInstruction (e f : Fin 4) (v : Bool)
  /-- WFLG: Instruction WFLG on engine `e`. -/
  | wflg (e f : Fin 4) (v : Bool)
  /-- END_INSTRUCTION: Instruction END on engine `e`. -/
  | endInstruction (e : Fin 4) (z : Bool)
  /-- RAMP_STEP: A ramp step of engine `e` ends. -/
  | rampStep (e : Fin 4)
  /-- ENGINE_LOCAL_STEP: The engines step on the block's own timer. -/
  | engineLocalStep
  /-- PROG_WRITE: A write of a program word. -/
  | progWrite (e : Fin 4) (i : Fin 128) (v : Word) (w : Writer)
  /-- READ_CYCLE: The read cycle of a sensor bus is due. -/
  | readCycle (b : Fin 2)
  /-- SENSOR_READ: The read of the next triple of a bus's cycle ends; its eight bytes, the first lowest. -/
  | sensorRead (b : Fin 2) (ok : Bool) (data : BitVec 64)
  /-- BUS_STUCK: A sensor bus is stuck, in a read of its cycle or in a raw transfer. -/
  | busStuck (b : StuckBus)
  /-- RAW_TRANSFER: A write of XF_CTL takes effect. -/
  | rawTransfer (v : Word)
  /-- RAW_TRANSFER_DONE: A raw transfer ends; the bytes read, the first lowest. -/
  | rawTransferDone (nack : Bool) (data : BitVec 128)
  /-- APPLY: TGT_Y.APPLY acts on a triple. -/
  | apply (t : Fin 16)
  /-- NEIGHBOUR_PIN_SHORT_TEST: A write of NB_CTL.GO takes effect. -/
  | neighbourPinShortTest
  /-- NEIGHBOUR_STEP: The step of one sink ends: its pin low, its lower and its upper neighbour shorted to it. -/
  | neighbourStep (low below above : Bool)
  /-- RAW_LEVEL_CHANGE: An input crosses into its on region, or into its off region. -/
  | rawLevelChange (i : Fin 32) (on : Bool)
  /-- DEBOUNCE_EXPIRE: The raw level of an input has held for its debounce time. -/
  | debounceExpire (i : Fin 32)
  /-- CLEANING_PULSE_END: A cleaning pulse ends. -/
  | cleaningPulseEnd (i : Fin 32)
  /-- INPUT_OV: An input stays above 36 V for 1 ms, or falls below it. -/
  | inputOv (ch : OverInput)
  /-- CI_EDGE: An edge of a counting input at cycle `cyc`. -/
  | ciEdge (j : Fin 8) (rising : Bool) (cyc : BitVec 11)
  /-- CI_WINDOW_END: A counting window ends. -/
  | ciWindowEnd (j : Fin 8)
  /-- LS_CMD_WRITE: A write of LS_CMD by `w`. -/
  | lsCmdWrite (v : BitVec 16) (w : Writer)
  /-- LS_CURRENT_LIMIT: An output has been in current limit for 50 µs. -/
  | lsCurrentLimit (k : Fin 8)
  /-- LS_THERMAL: A low-side junction reaches 175 °C. -/
  | lsThermal (k : Fin 8)
  /-- LS_THERMAL_RESUME: A low-side junction cools to 160 °C. -/
  | lsThermalResume (k : Fin 8)
  /-- LS_OPEN_LOAD: The drain has stayed below 2.0 V for 10 ms while off, or rises again. -/
  | lsOpenLoad (k : LowDrain)
  /-- DIAG_CMD_READ: Diagnostic command READ is released. -/
  | diagCmdRead (ch : Fin 64)
  /-- DIAG_CMD_READ_CLEAR: Diagnostic command READ_CLEAR is released. -/
  | diagCmdReadClear (ch : Fin 64)
  /-- DIAG_CMD_TEST: Diagnostic command TEST is released. -/
  | diagCmdTest (ch : Fin 64)
  /-- DIAG_ANSWER: One hundred ticks after the release: the measured voltage and the outcome of a comparator test. -/
  | diagAnswer (value : BitVec 10) (fail : Bool)
  /-- PARK_SENSE_SAMPLE: a sample of the inputs in Park (R257) -/
  | parkSenseSample (raw : Word)
  /-- CAN_MODE_OFF: A write of MODE 0 takes effect, where another node's frame is in progress at its end. -/
  | canModeOff (n : BusyCan)
  /-- CAN_MODE_NORMAL: A write of MODE 1 takes effect, as CAN_MODE_OFF's, or is refused. -/
  | canModeNormal (n : BusyCan)
  /-- CAN_MODE_LISTEN_ONLY: A write of MODE 2 takes effect, as CAN_MODE_OFF's, or is refused. -/
  | canModeListenOnly (n : BusyCan)
  /-- BUILD: A write of 1 to CTL.BUILD takes effect. -/
  | build (n : Fin 12)
  /-- CAN_FRAME_VALID: A received frame becomes valid at cycle `cyc`. -/
  | canFrameValid (n : Fin 12) (f : BusFrame) (cyc : BitVec 11) (sp : Span)
  /-- CONDITIONAL_CLEAR: A write of bytes 8 to 11 of an object. -/
  | conditionalClear (o : BitVec 12) (v : WordBy)
  /-- LOCK_TAKE: A read of bytes 0 to 3 of an object by the pair (`none`) or by the Vinko initiator in slot `r`. -/
  | lockTake (o : BitVec 12) (r : Option (Fin 16))
  /-- LOCK_RELEASE: A read of bytes 76 to 79 of an object. -/
  | lockRelease (o : BitVec 12) (r : ReadBy)
  /-- LOCK_TIMEOUT: A lock through a Vinko window has become older than LOCK_TO. -/
  | lockTimeout (n : LockAt)
  /-- TXQ_REQ: A write of TXQ_REQ with GO 1 by `w`. -/
  | txqReq (n : Fin 12) (o : BitVec 12) (w : Writer)
  /-- CAN_TX_SUCCESS: The frame being sent is sent without error, with the transmitter delay measured. -/
  | canTxSuccess (n : Fin 12) (cyc : BitVec 11) (delay : Byte) (sp : Span)
  /-- CAN_ERROR: An error frame: LEC code less 1, the role, the place (0 arbitration, 1 before the CRC field, 2 later), a dominant bit after the error flag, the bit errors in and the eights of dominant bits after its flags, the transmitter delay where its edge was sent; in its place `ecc`: the word of the object being sent whose read finds an error, uncorrectable or not. -/
  | canError (n : Fin 12) (tx : Bool) (code : Fin 6) (dataPhase : Bool) (region : Fin 3) (dom : AfterError) (sp : Span) (ecc : Option (Fin 20 × Bool))
  /-- BO_DELAY_END: The bus-off delay ends. -/
  | boDelayEnd (n : Fin 12)
  /-- BUS_OFF_RECOVERY_DONE: 128 occurrences of 11 recessive bits have been seen. -/
  | busOffRecoveryDone (n : Fin 12)
  /-- RESTART: A write of 1 to BO.RESTART takes effect. -/
  | restart (n : Fin 12)
  /-- TRX_NORMAL: A write of REQ 3 of port `p` takes effect. -/
  | trxNormal (p : Fin 24)
  /-- TRX_LISTEN_ONLY: A write of REQ 2 takes effect. -/
  | trxListenOnly (p : Fin 24)
  /-- TRX_STANDBY: A write of REQ 1 takes effect. -/
  | trxStandby (p : Fin 24)
  /-- TRX_SLEEP: A write of REQ 0 takes effect. -/
  | trxSleep (p : Fin 24)
  /-- TRX_CHANGE_DONE: The state change of a transceiver or PHY completes. -/
  | trxChangeDone (p : Fin 24)
  /-- BUS_WAKE: A dominant phase, wake pulse, activity or TC10 pulse longer than the filter. -/
  | busWake (p : WakePhase)
  /-- TXD_TIMEOUT: TXD of a port is held dominant beyond its limit, or is recessive again. -/
  | txdTimeout (p : TxdLevel)
  /-- BUS_DOMINANT: The bus has been dominant for 2.5 ms while the module is not sending. -/
  | busDominant (n : Fin 12)
  /-- TRX_OVERTEMP: The transceiver of port P(4 + p) overheats. -/
  | trxOvertemp (p : Fin 20)
  /-- LIN_FRAME_END: The response of the frame in progress ends or times out: RES less 1, where a complete response is judged by its checksum, the response bytes, the checksum byte read. -/
  | linFrameEnd (p : Fin 8) (res : Fin 6) (bytes : LinBytes) (cyc : BitVec 11)
  /-- WAKE_TX: A write of 1 to CTL.WAKE_TX takes effect. -/
  | wakeTx (p : Fin 8)
  /-- UNEXPLAINED_DOMINANT: In Normal, a dominant phase of `len.len` × 10 µs that no header explains. -/
  | unexplainedDominant (p : Fin 8) (len : DomPhase)
  /-- PLCA_CYCLE: A BEACON opens a cycle; the cycle before it lasted `us` µs. -/
  | plcaCycle (n : Fin 2) (us : BitVec 16)
  /-- T1S_FRAME_SENT: A frame is sent in the module's opportunity. -/
  | t1sFrameSent (n : Fin 2) (sp : Span)
  /-- T1S_COLLISION: A collision, in the module's opportunity or outside it. -/
  | t1sCollision (n : Fin 2) (own : Bool)
  /-- FOREIGN_BEACON: A BEACON that the module did not send. -/
  | foreignBeacon (n : Fin 2)
  /-- LINK_DOWN: The link of backbone port `n` goes down. -/
  | linkDown (n : Fin 2)
  /-- LINK_UP: The link of backbone port `n` comes up with signal quality `sqi`. -/
  | linkUp (n : Fin 2) (sqi : BitVec 3)
  /-- PODL_POWER_APPEAR: PoDL power appears on backbone port `n`. -/
  | podlPowerAppear (n : Fin 2)
  /-- TC10_SLEEP_DONE: The sleep handshake of backbone port `n` ends. -/
  | tc10SleepDone (n : Fin 2)
  /-- BB_FRAME_RX: A frame arrives on backbone port `n`; `host`: its destination is the host port. -/
  | bbFrameRx (n : Fin 2) (tag : Option SecTag) (host : Bool) (f : EthFrame)
  /-- MKA_SAK_INSTALL: The firmware installs an agreed SAK on backbone port `n`. -/
  | mkaSakInstall (n : Fin 2) (sak : BitVec 128)
  /-- FRER_RESET: The recovery function of a source and VLAN reaches its reset timeout. -/
  | frerReset (mac : BitVec 48) (vlan : BitVec 12)
  /-- FOLLOW_UP: A Follow_Up of gPTP domain `n.domain` on backbone port `n.n` for a Sync received at cycle `cyc`: origin timestamp and correction in ns, mean link delay. -/
  | followUp (n : SyncPort) (origin : BitVec 64) (mld : Word) (cyc : BitVec 11)
  /-- SLAVE_CHANGEOVER: The slave port has missed three sync intervals while the standby port receives Sync. -/
  | slaveChangeover
  /-- SYNC_TX: A sync interval ends on T1S port `n`. -/
  | syncTx (n : Fin 2) (cyc : BitVec 11)
  /-- ACF_FRAME: The first copy of an AVTP frame of stream `sid`, from backbone port `n`, is unpacked at cycle `cyc`. -/
  | acfFrame (n : Fin 2) (sid : BitVec 64) (seq : Byte) (cyc : BitVec 11) (msgs : List AcfMsg)
  /-- READ: A READ request; `ecc`: the words whose read finds an error, uncorrectable or not. -/
  | read (r : VnkReq) (ecc : List (Word × Bool))
  /-- WRITE: A WRITE request. -/
  | write (r : VnkReq) (data : List Word)
  /-- WRITE_M: A WRITE_M request: values and masks. -/
  | writeM (r : VnkReq) (data : List (Word × Word))
  /-- PROMISE: A PROMISE request: the descriptor, the frame of a T1S_TX, the cycle of its intake. -/
  | promise (r : VnkReq) (w0 w1 w2 w3 : Word) (frame : List Byte) (cyc : BitVec 11)
  /-- IDENTIFY: An IDENTIFY request. -/
  | identify (r : VnkReq)
  /-- VINKO_TIMEOUT: The TO of a window passes for an open transaction. -/
  | vinkoTimeout (slot : Fin 16) (seq : BitVec 16)
  /-- PREFETCH_EXPIRE: A prefetch buffer passes PF_AGE. -/
  | prefetchExpire (slot : Fin 16)
  /-- FAR_COMPLETE: The far side of a transaction completes, result 0, or fails. -/
  | farComplete (slot : Fin 16) (seq : BitVec 16) (result : Byte) (data : List Byte)
  /-- CAN_TP_SEND: A write of the message length to a CAN_TP window. -/
  | canTpSend (r : VnkReq) (len : Word)
  /-- OPEN: UPDATE OPEN. -/
  | updOpen (r : VnkReq)
  /-- ERASE: UPDATE ERASE. -/
  | erase (r : VnkReq)
  /-- ERASE_DONE: The erase completes. -/
  | eraseDone
  /-- UPDATE_WRITE: UPDATE WRITE. -/
  | updateWrite (r : VnkReq) (data : List Word)
  /-- VERIFY: UPDATE VERIFY. -/
  | verify (r : VnkReq)
  /-- VERIFY_DONE: The verification ends; `sig`: SIG verifies under an unrevoked key. -/
  | verifyDone (sig : Bool)
  /-- ACTIVATE: UPDATE ACTIVATE. -/
  | activate (r : VnkReq)
  /-- STATUS: UPDATE STATUS. -/
  | status (r : VnkReq)
  /-- CLOSE: UPDATE CLOSE. -/
  | close (r : VnkReq)
  /-- REJECT: UPDATE REJECT. -/
  | reject (r : VnkReq)
  /-- REVOKE: UPDATE REVOKE; `sig`: its signature verifies. -/
  | revoke (r : VnkReq) (slot : Byte) (sig : Bool)
  /-- HOLD_WRITE: A write of NM_CTL.HOLD takes effect. -/
  | holdWrite (n : Fin 22) (v : Bool)
  /-- RPT_REQ: A write of 1 to RPT_REQ takes effect. -/
  | rptReq (n : Fin 22)
  /-- RPT_TIMER_EXPIRE: The step at which the Repeat Message timer reaches 0. -/
  | rptTimerExpire (n : Fin 22)
  /-- NM_TIMER_EXPIRE: The step at which the NM timer reaches 0 in Ready Sleep. -/
  | nmTimerExpire (n : Fin 22)
  /-- PBS_TIMER_EXPIRE: The step at which the Prepare Bus Sleep timer reaches 0. -/
  | pbsTimerExpire (n : Fin 22)
  /-- FW_TIMER_EXPIRE: The step at which the Wake Check timer reaches 0. -/
  | fwTimerExpire (n : Fin 22)
  /-- READY_SLEEP_REPORT: The step at which RS_TIME reaches RS_REPORT. -/
  | readySleepReport (n : Fin 22)
  /-- VPOD_LOSS: VPOD below 8.5 V for 20 µs (R369); both supplies in 16 mV -/
  | vpodLoss (vpod vbl : BitVec 12)
  /-- VPOD_RETURN: VPOD at or above 9.0 V for 10 ms (R369) -/
  | vpodReturn (vpod vbl : BitVec 12)
  /-- HOLDUP_START: neither input usable (R371) -/
  | holdupStart (vpod vbl : BitVec 12)
  /-- COLD_RESET: Power-on, or the rail below its reset threshold. -/
  | coldReset
  /-- AUX_LOW: auxiliary output below 4.5 V (R372); the highest feed in 16 mV -/
  | auxLow (feed : BitVec 12)
  /-- AUX_RECOVER: auxiliary output at or above 4.7 V for 1 ms (R372) -/
  | auxRecover
  /-- REQUEST_RUN: TARGET Run with GO 1 (R375) -/
  | requestRun (w : Writer)
  /-- REQUEST_DOZE: TARGET Doze with GO 1 (R381) -/
  | requestDoze (w : Writer)
  /-- REQUEST_PARK: TARGET Park with GO 1 (R378) -/
  | requestPark (w : Writer)
  /-- REQUEST_SHELF: TARGET Shelf with GO 1 (R382) -/
  | requestShelf (w : Writer)
  /-- COMMIT_POINT: the end of the drain (R93, R376) -/
  | commitPoint
  /-- PARK_STOP: handshake and archive complete (R378); whether the archive was written -/
  | parkStop (ok : Bool)
  /-- PARK_POWER_DOWN: the domains power off (R378) -/
  | parkPowerDown
  /-- PARK_WAKE: the Park exit (R380); RC counts, temperature code, quadrants whose microcode is good -/
  | parkWake (atWake atRestart : BitVec 40) (temp : Byte) (ucodeOk aonBad : BitVec 4)
  /-- DOZE_EXIT: the Doze exit (R381) -/
  | dozeExit
  /-- SHELF_WAKE: PoDL power appears on a backbone port in Shelf, at a count of the span counter. -/
  | shelfWake (p : Fin 2) (atWake : BitVec 40)
  /-- SHELF_MEMORY_LOSS: VBL below 3.0 V for 20 ms in Shelf without VPOD (R382) -/
  | shelfMemoryLoss
  /-- DOM_SLEEP: a write of DOM_SLEEP (R384) -/
  | domSleep (mask : Word) (w : Writer)
  /-- DOMAIN_READY: A waking domain becomes ready. -/
  | domainReady (d : Fin 31)
  /-- AON_TIMER_EXPIRE: the AON timer expires (R386) -/
  | aonTimerExpire
  /-- TICK_INTERRUPT: the pair takes the tick interrupt (R397); `holly` names the core in split mode -/
  | tickInterrupt (holly : Bool)
  /-- ECALL: an environment call (R394, R397) -/
  | ecall (holly : Bool) (r : Ran)
  /-- EBREAK: a breakpoint (R394) -/
  | ebreak (holly : Bool) (r : Ran)
  /-- WFI: wait for interrupt (R394, R397) -/
  | wfi (holly : Bool) (r : Ran)
  /-- FENCE: (R394) -/
  | fence (holly : Bool) (r : Ran)
  /-- FENCE_I: (R394) -/
  | fenceI (holly : Bool) (r : Ran)
  /-- PAIR_STORE: A store of 2^k bytes. -/
  | pairStore (holly : Bool) (a : Word) (k : Fin 3) (v : Word) (r : Ran)
  /-- PAIR_LOAD: A load of 2^k bytes; `ecc`: an error it finds, uncorrectable or not. -/
  | pairLoad (holly : Bool) (a : Word) (k : Fin 3) (signed : Bool) (rd : Fin 32) (ecc : Option Bool) (r : Ran)
  /-- SLICE_BUDGET_EXCEPTION: mslice steps to 0 (R396, R399) -/
  | sliceBudgetException (holly : Bool)
  /-- TICK_METER_LIMIT: the tick meter reaches 2040 (R398) -/
  | tickMeterLimit (holly : Bool)
  /-- TICK_AGREED: the signature compares (R401) -/
  | tickAgreed
  /-- MISMATCH: a mismatch in a field (R405); the leading core's address; how many of the latest replay entries are not agreed (R406) -/
  | mismatch (field : Fin 4) (addr : Word) (late : Fin 4)
  /-- RESTORE_DONE: the restore completes (R405) -/
  | restoreDone
  /-- CHECKER_ALARM: a rail or parity fault of the checker (R411) -/
  | checkerAlarm (parity : Bool)
  /-- INJECTION_TEST_DONE: the injection test ends (R413); the first failing field and pattern -/
  | injectionTestDone (fail : Option (Fin 4 × Fin 65))
  /-- WARM_RESET: A Warm reset. -/
  | warmReset
  /-- WATCHDOG_EXPIRE: (R414) -/
  | watchdogExpire
  /-- WDT_KICK: a write of WDT_KICK (R414) -/
  | wdtKick (key : Byte) (w : Writer)
  /-- SLICE_READ: A read of PAIR.SLICE. -/
  | sliceRead (holly : Bool) (rd : Fin 32) (r : Ran)
  /-- DEBUG_HALT: (R463) -/
  | debugHalt
  /-- EVENT_RECORD: The writer takes the next queued record; `ecc`: the word of the log memory whose read finds an error, uncorrectable or not. -/
  | eventRecord (ecc : Option (BitVec 12 × Bool))
  /-- CRITICAL_WRITE_THROUGH: The next Critical record is written to the critical ring, or the write fails. -/
  | criticalWriteThrough (ok : Bool)
  /-- RAISE: A write of RAISE. -/
  | raiseEvent (v : Word) (w : Writer)
  /-- REC_DATA0_READ: A read of REC_DATA0. -/
  | recData0Read
  /-- START_STEP_COMPLETE: The start step in progress ends with what it has found. -/
  | startStepComplete (r : StepRes)
  /-- START_WATCHDOG: The start step in progress exceeds twice its Max time: at S9 on `port`, where of the ports before it `ports` have reached their states. -/
  | startWatchdog (port : Fin 24) (ports : BitVec 24)
  /-- START_COMPLETE: One hundred heartbeats after S10, `ms` after S0. -/
  | startComplete (ms : BitVec 16)
  /-- OTP_PROGRAM: A write of OTP_CMD.GO. -/
  | otpProgram (w : Writer)
  /-- CAK_WRITE: A write of a word of SEC.CAK. -/
  | cakWrite (i : Fin 4) (v : Word) (w : Writer)
  /-- DBG_AUTH_READ: A read of DBG_AUTH returns a fresh challenge. -/
  | dbgAuthRead (challenge : BitVec 128)
  /-- DBG_AUTH_WRITE: A signature under a key slot is written to DBG_AUTH; `ok`: it verifies. -/
  | dbgAuthWrite (slot : Fin 4) (ok : Bool)
  /-- DIAGNOSTIC_SESSION_CONTROL: UDS DiagnosticSessionControl. -/
  | diagnosticSessionControl (sub : Byte)
  /-- ECU_RESET: UDS ECUReset. -/
  | ecuReset (sub : Byte)
  /-- READ_DATA_BY_IDENTIFIER: UDS ReadDataByIdentifier. -/
  | readDataByIdentifier (did : BitVec 16)
  /-- REQUEST_SEED: UDS SecurityAccess request seed, with the seed drawn. -/
  | requestSeed (seed : BitVec 128)
  /-- SEND_KEY: UDS SecurityAccess send key; `ok`: the signature verifies. -/
  | sendKey (slot : Fin 4) (ok : Bool)
  /-- ROUTINE_CONTROL: UDS RoutineControl; `sig`: a REVOKE's signature verifies. -/
  | routineControl (sub : Byte) (rid : BitVec 16) (opt : List Byte) (sig : Bool)
  /-- REQUEST_DOWNLOAD: UDS RequestDownload. -/
  | requestDownload (format : Byte) (addr size : Word)
  /-- TRANSFER_DATA: UDS TransferData. -/
  | transferData (counter : Byte) (data : List Byte)
  /-- REQUEST_TRANSFER_EXIT: UDS RequestTransferExit. -/
  | requestTransferExit
  /-- TESTER_PRESENT: UDS TesterPresent. -/
  | testerPresent (sub : Byte)
  /-- SESSION_TIMEOUT: IDLE_TO passes without a transaction. -/
  | sessionTimeout
  /-- HANDOVER_START: Boundary B of a live handover. -/
  | handoverStart
  /-- EXPORT_DONE: A write of EXPORT_DONE takes effect. -/
  | exportDone
  /-- IMPORT_OK: A write of IMPORT_OK takes effect. -/
  | importOk
  /-- IMPORT_FAIL: A write of IMPORT_FAIL takes effect. -/
  | importFail
  /-- CTL_REJECT: A write of UPD.CTL.REJECT takes effect. -/
  | ctlReject
  /-- EXPORT_TIMEOUT: No EXPORT_DONE by 0.60 ms. -/
  | exportTimeout
  /-- IMPORT_TIMEOUT: No IMPORT_OK by 1.90 ms. -/
  | importTimeout
  /-- PROBATION_PASS: The probation ends without failure. -/
  | probationPass
  /-- KEY_OPEN: A write of PAGE_KEY.CMD 0x4B. -/
  | keyOpen (pg : Fin 64) (w : Writer)
  /-- KEY_CLOSE: A write of another PAGE_KEY.CMD. -/
  | keyClose (pg : Fin 64) (v : Byte) (w : Writer)
  /-- LOCKDOWN: A write of PAGE_KEY with LOCKDOWN 1. -/
  | lockdown (pg : Fin 64) (cmd : Byte) (w : Writer)
  /-- SOFTWARE_RESET: A write of 0xD1 to SYS.CTL.RST. -/
  | softwareReset (w : Writer)
  /-- REGISTER_WRITE: A write to a register word: by a Vinko window under a mask, by the pair whole. -/
  | registerWrite (pg : Fin 64) (word : Fin 1024) (v mask : Word) (w : Writer)
  /-- FEED_ABOVE_2V8: The feed rises above 2.8 V, to code `v`. -/
  | feedAbove2v8 (q : Fin 4) (v : BitVec 12)
  /-- CHARGE_PUMP_READY: A bank's charge pump becomes ready, the feed at code `b.v`. -/
  | chargePumpReady (b : PumpFeed)
  /-- HOLDUP_END: an input returns (R371) -/
  | holdupEnd (vpod vbl : BitVec 12)
  /-- CAN_BUS_INTEGRATED: 11 recessive bits have been seen. -/
  | canBusIntegrated (n : Fin 12)
  /-- T1S_FRAME_RX: A frame with a good check sequence is received. -/
  | t1sFrameRx (n : Fin 2) (f : EthFrame) (sp : Span)
  /-- TRX_OVERTEMP_END: It has cooled. -/
  | trxOvertempEnd (p : Fin 20)
  /-- RC_FIELD_READ: A read of a register word by a core, or by a Vinko window (`none`). -/
  | rcFieldRead (pg : Fin 64) (word : Fin 1024) (reader : Option Bool)
  /-- CSR_ACCESS: a CSR instruction (R394, R396); `src` is `none` where nothing is written -/
  | csrAccess (holly : Bool) (a : BitVec 12) (op : CsrOp) (src : Option Word) (rd : Fin 32) (r : Ran)
  /-- TAP_INSTRUCTION: An instruction of the test access port: 0 BYPASS, 1 IDCODE, 2 SAMPLE/PRELOAD, 3 EXTEST. -/
  | tapInstruction (i : Fin 4)
  /-- DEBUG_RESUME: (R56, R463) -/
  | debugResume
  /-- OTP_PROGRAM_DONE: An OTP program command completes; `stuck`: requested bits that read back 0. -/
  | otpProgramDone (stuck : Word)
deriving DecidableEq, Repr

end Sys2Proof
end

