-- ==== Sys2Proof/Config.lean ====
section
/-! DEFINITION. The free values: what the spec leaves to the module or to real arithmetic, as constants with no body. -/
namespace Sys2Proof.Config

/-- What the module computes for e to the power of minus `t / tau`, before it is held to the bounds of that power: the spec gives no
precision (R143, R165). (Log: DESIGN CHOICE 28) -/
opaque expFree (t tau : Nat) : Rat

/-- The series of e to the power of minus `x` from its term `k` on, `n` further terms, relative to the term `k - 1`. -/
def expSeries (x : Rat) (k : Nat) : Nat → Rat
  | 0 => 1
  | n + 1 => 1 - x / (k : Rat) * expSeries x (k + 1) n

/-- A bound of e to the power of minus `t / tau`: `e1` bounds 1/e on the same side, and the series of the fraction ends with the term
of degree `n`, odd for a lower bound, even for an upper one; beyond 64 time constants it is `far`. -/
def expBound (e1 far : Rat) (n t tau : Nat) : Rat :=
  if 64 < t / tau then far else e1 ^ (t / tau) * expSeries ((t % tau : Nat) / (tau : Rat)) 1 n

/-- The factor by which a decay of `t` over the time constant `tau`, in one unit, multiplies a model term (R143, R165): e to the
power of minus `t / tau` within some 10⁻⁷ of its value. (Log: DESIGN CHOICE 28) -/
def expNeg (t tau : Nat) : Rat :=
  let lo := expBound (367879441171 / 1000000000000) 0 9 t tau
  let hi := expBound (367879441172 / 1000000000000) (1 / 1000000000000) 10 t tau
  if expFree t tau < lo then lo else if hi < expFree t tau then hi else expFree t tau

/-- The frequency correction in 10⁻⁹ after an offset update with phase error `ph` in ns, `old` being the correction before it (R27 bounds it
and does not say how it is found). (Log: DESIGN CHOICE 119) -/
opaque freqLoop (old ph : Int) : Int

/-- The TICK that a quadrant estimates for a record raised at TICK `t` while its link was silent (R164). (Log: DESIGN CHOICE 30) -/
opaque estTick (t : Nat) : Nat

/-- The threshold `k` of the off-state classification in 0.1 mV before it is held to its band (Table 05-1): 0 V_LOW,
1 V_OL, 2 V_STB; `net` 0 for 12 V, 1 for 24 V. (Log: DESIGN CHOICE 31) -/
opaque offThreshold (k net : Nat) : Nat

/-- Whether a published quotient `num / den` is rounded up: a colour coordinate, the mean of RC measurements, a mean or a share of
a superframe (R119, R125, R126, R234 and R387 do not say how they are rounded). (Log: DESIGN CHOICE 32) -/
opaque roundUp (num den : Nat) : Bool

/-- The master's share of the current of an H pair that carried none in the superframe, which R119 does not state.
(Log: DESIGN CHOICE 108) -/
opaque idleShare : Nat

/-- A published colour value whose formula leaves the number format (R234 does not say what is shown). (Log: DESIGN CHOICE 33) -/
opaque measOut (num den : Int) : Nat

/-- The change of a loop duty `d` under gain `g` where a target count and the count read are both 0 (R234 divides by the target count).
(Log: DESIGN CHOICE 138) -/
opaque loopFree (d g : Nat) : Int

/-- Whether a bus carries a frame of another node when a write of MODE takes effect at TICK `t` (R266). (Log: DESIGN CHOICE 143) -/
opaque busBusy (n t : Nat) : Bool

/-- The place of a frame that a transceiver's leaving Normal cuts short, and whether it is a data phase (R285).
(Log: DESIGN CHOICE 144) -/
opaque cutAt (n t : Nat) : Nat

/-- The receive error count after a good frame that ends a count above 127, less 119: ISO 11898-1 leaves 119 to 127
(R279). (Log: DESIGN CHOICE 45) -/
opaque recBack : Nat

/-- Which of `n` free chain slots a controller takes next (R269 does not say). (Log: DESIGN CHOICE 42) -/
opaque poolPick (n : Nat) : Nat

/-- mtval of a trap whose value the RISC-V privileged specification leaves to the implementation and R394 does not give: by
cause and by the address concerned. (Log: DESIGN CHOICE 61) -/
opaque trapValue (cause addr : Nat) : Nat

/-- The four bytes of session timing in the positive response to DiagnosticSessionControl, which R467 leaves to ISO 14229-1 and the
server. (Log: DESIGN CHOICE 82) -/
opaque udsTiming : Nat

/-- Whether the CRC-32C of the settings snapshot still holds at TICK `t`: R469 does not say how the snapshot lies in the handover region,
which the firmware writes too. (Log: DESIGN CHOICE 112) -/
opaque regionHolds (t : Nat) : Bool

end Sys2Proof.Config
end

