-- ==== Sys2Proof/Machine/Cells.lean ====
section
/-! DEFINITION. The operations of the sparse map, and the register-field descriptor with its
access code (R12), its reset class (R15) and the rule by which a written value is stored. -/
namespace Sys2Proof

/-- The value listed at a key. -/
def SMap.find? {α : Type} : SMap α → Nat → Option α
  | [], _ => none
  | (k, v) :: rest, q => if k = q then some v else SMap.find? rest q

/-- The value at a key, `d` where none is listed. -/
def SMap.get {α : Type} (d : α) (m : SMap α) (k : Nat) : α := (SMap.find? m k).getD d

/-- List `v` at `k`, keys kept rising. -/
def SMap.put {α : Type} : SMap α → Nat → α → SMap α
  | [], q, v => [(q, v)]
  | (k, w) :: rest, q, v =>
    if q < k then (q, v) :: (k, w) :: rest
    else if q = k then (q, v) :: rest
    else (k, w) :: SMap.put rest q v

/-- Remove the entry at `k`. -/
def SMap.del {α : Type} (m : SMap α) (k : Nat) : SMap α := m.filter fun e => e.1 != k

/-- Write `v` at `k`; the default `d` is never listed. -/
def SMap.set {α : Type} [DecidableEq α] (d : α) (m : SMap α) (k : Nat) (v : α) : SMap α :=
  if v = d then SMap.del m k else SMap.put m k v

/-- The canonical form: keys strictly rising, no entry equal to the default. -/
def SMap.wf {α : Type} [DecidableEq α] (d : α) (m : SMap α) : Bool :=
  (m.map (·.1)).Pairwise (· < ·) && m.all fun e => e.2 != d

namespace Machine

/-- The access codes of Table 00-4 (R12). -/
inductive Access where
  | rw | ro | wo | w1c | w1s | rc | rwl
deriving DecidableEq, Repr

/-- The reset classes of Table 00-5 (R15). -/
inductive ResetClass where
  | warm | cold | keep
deriving DecidableEq, Repr

/-- How a value written to a field is stored, where its Meaning says so. -/
inductive Fix where
  /-- As written. -/
  | plain
  /-- A value outside `lo` to `hi` is stored as the nearer limit. -/
  | clamp (lo hi : Nat)
  /-- A value outside `lo` to `hi` is stored as `v`. -/
  | outside (lo hi v : Nat)
  /-- 0 is stored; another value below `lo` is stored as `lo`. -/
  | zeroOr (lo : Nat)
  /-- A value not listed is stored as `v`. -/
  | oneOf (l : List Nat) (v : Nat)
  /-- The value stored for each written code. -/
  | tab (l : List Nat)
deriving DecidableEq, Repr

/-- A register field: page index, word offset, lowest bit, width, access, reset class, reset value, storing rule. -/
structure Fld where
  page : Nat
  off : Nat
  lo : Nat
  w : Nat
  acc : Access
  cls : ResetClass
  rst : Nat
  fix : Fix
deriving DecidableEq, Repr

/-- The code of a reset class inside a field's key. -/
def ResetClass.code : ResetClass → Nat
  | .warm => 0
  | .cold => 1
  | .keep => 2

/-- The key of a field in the register map: its address, its lowest bit and its reset class. -/
def Fld.key (f : Fld) : Nat := (((f.page * 4096 + f.off) * 32 + f.lo) * 4) + f.cls.code

/-- The largest value the field holds. -/
def Fld.max (f : Fld) : Nat := 2 ^ f.w - 1

/-- The value stored for a written value. (Log: DEDUCED 38) -/
def Fix.apply (x : Fix) (v : Nat) : Nat :=
  match x with
  | .plain => v
  | .clamp lo hi => if v < lo then lo else if hi < v then hi else v
  | .outside lo hi d => if v < lo ∨ hi < v then d else v
  | .zeroOr lo => if v = 0 then 0 else if v < lo then lo else v
  | .oneOf l d => if l.contains v then v else d
  | .tab l => l.getD v v

end Machine
end Sys2Proof
end

