-- ==== Sys2Proof/Machine/Regs.lean ====
section
/-! DEFINITION. Every register field of the register tables (Tables 01-7 to 17-3) under its own name,
with its page, offset, bits, access code, reset class, reset value and storing rule, and for each page
kind the fields of the word at an offset. Written from the tables of spec/. -/
namespace Sys2Proof.Machine.Reg
open Sys2Proof.Machine

/-- The class of channel index `c` within its quadrant (R97, Table 03-2): 0 H, 1 M, 2 L, 3 half-bridge. -/
def chanClass (c : Nat) : Nat :=
  let i := c % 10
  if i = 0 then 0 else if i < 4 then 1 else if i < 8 then 2 else 3

/-- One of four values by the class of channel index `c`. -/
def byClass (c h m l b : Nat) : Nat :=
  match chanClass c with
  | 0 => h
  | 1 => m
  | 2 => l
  | _ => b

/-- PAGE_ID.INST: the number of the page among pages of its kind (Table 17-2). -/
def pageInst (pg : Nat) : Nat :=
  if 0x10 ≤ pg ∧ pg ≤ 0x13 then pg - 0x10
  else if 0x20 ≤ pg ∧ pg ≤ 0x2B then pg - 0x20
  else if 0x30 ≤ pg ∧ pg ≤ 0x37 then pg - 0x30
  else if pg = 0x39 then 1 else if pg = 0x3B then 1 else 0

/-- PAGE_ID.TYPE: the index of the first page of the kind (Table 17-2). -/
def pageType (pg : Nat) : Nat := pg - pageInst pg

/-- PAGE_CAP.DOMAIN: the domain code of the page (Table 17-1, Table 13-7); 0xFF for AON. -/
def pageDomain (pg : Nat) : Nat :=
  if pg = 0x03 ∨ pg = 0x04 then 0xFF
  else if pg = 0x09 then 30
  else if 0x10 ≤ pg ∧ pg ≤ 0x13 then 24 + (pg - 0x10)
  else if pg = 0x15 ∨ pg = 0x16 then 29
  else if 0x18 ≤ pg ∧ pg ≤ 0x1A then 28
  else if 0x20 ≤ pg ∧ pg ≤ 0x2B then 4 + (pg - 0x20)
  else if 0x30 ≤ pg ∧ pg ≤ 0x37 then 16 + (pg - 0x30)
  else if pg = 0x38 ∨ pg = 0x39 then 2 + (pg - 0x38)
  else if pg = 0x3A ∨ pg = 0x3B then pg - 0x3A
  else 31

/-- PAGE_CAP.KEYED: 1 where the block's own registers hold RWL fields. -/
def pageKeyed (pg : Nat) : Nat :=
  if pg = 0x01 ∨ pg = 0x02 ∨ pg = 0x05 ∨ pg = 0x07 then 0 else 1

/-- PAGE_CAP.LAST_OFF: the highest implemented word offset of the page, from the register tables. -/
def pageLast (pg : Nat) : Nat :=
  match pg with
  | 0x00 => 0x124 | 0x01 => 0x17C | 0x02 => 0x100 | 0x03 => 0x2FC | 0x04 => 0x130 | 0x05 => 0x110
  | 0x06 => 0x11C | 0x07 => 0x14C | 0x08 => 0x154 | 0x09 => 0x134 | 0x0A => 0xFFC | 0x0B => 0x578
  | 0x0C => 0x1FC | 0x0D => 0x118 | 0x10 => 0x714 | 0x11 => 0x678 | 0x12 => 0x678 | 0x13 => 0x678
  | 0x14 => 0x144 | 0x15 => 0x304 | 0x16 => 0x364 | 0x18 => 0x440 | 0x19 => 0xFFC | 0x1A => 0x61C
  | 0x2C => 0x10C | 0x38 => 0x210 | 0x39 => 0x210 | 0x3A => 0x210 | 0x3B => 0x210
  | 0x3C => 0x69C | 0x3D => 0x4FC | 0x3E => 0x7FC | 0x3F => 0x408
  | n => if 0x20 ≤ n ∧ n ≤ 0x2B then 0x210 else if 0x30 ≤ n ∧ n ≤ 0x37 then 0xAFC else 0x1C

/-- TRX_CTL.REQ at reset: 0b01 on CAN and LIN pages, 0b00 on TS pages, 0b11 on BB pages (Table 09-7, R309, R313). -/
def trxReqRst (pg : Nat) : Nat :=
  if pg = 0x38 ∨ pg = 0x39 then 0 else if pg = 0x3A ∨ pg = 0x3B then 3 else 1

/-- TRX_CTL.REQ as stored: on TS and BB pages 1 and 2 are stored as 0 (R307, R313), on LIN pages 2 as 1 (R299). -/
def trxReqFix (pg : Nat) : Fix :=
  if 0x38 ≤ pg ∧ pg ≤ 0x3B then .outside 3 3 0 else if 0x30 ≤ pg ∧ pg ≤ 0x37 then .tab [0, 1, 1, 3] else .plain

/-- WFLT as stored: on LIN pages 3 is stored as 2 (R300). -/
def trxWfltFix (pg : Nat) : Fix := if 0x30 ≤ pg ∧ pg ≤ 0x37 then .clamp 0 2 else .plain

/-- A word at one offset. -/
def at0 (b off : Nat) (l : List Fld) : List Fld := if off = b then l else []

/-- `n` words at a stride. -/
def at1 (b s n off : Nat) (f : Nat → List Fld) : List Fld :=
  if b ≤ off ∧ (off - b) % s = 0 ∧ (off - b) / s < n then f ((off - b) / s) else []

/-- `n1` groups of `n2` words. -/
def at2 (b s1 n1 s2 n2 off : Nat) (f : Nat → Nat → List Fld) : List Fld :=
  let i := (off - b) / s1
  let r := (off - b) % s1
  if b ≤ off ∧ i < n1 ∧ r % s2 = 0 ∧ r / s2 < n2 then f i (r / s2) else []

/-- Table 01-7: FRM 0x100 [0]. -/
def FRM.RUN : Fld := ⟨0x0A, 0x100, 0, 1, .rwl, .warm, 0, .plain⟩
/-- Table 01-7: FRM 0x100 [4]. -/
def FRM.TAB_NEXT : Fld := ⟨0x0A, 0x100, 4, 1, .rwl, .warm, 0, .plain⟩
/-- Table 01-8: FRM 0x104 [0]. -/
def FRM.RUNNING : Fld := ⟨0x0A, 0x104, 0, 1, .ro, .warm, 0, .plain⟩
/-- Table 01-8: FRM 0x104 [4]. -/
def FRM.TAB_ACT : Fld := ⟨0x0A, 0x104, 4, 1, .ro, .warm, 0, .plain⟩
/-- Table 01-8: FRM 0x104 [5]. -/
def FRM.SWAP_PEND : Fld := ⟨0x0A, 0x104, 5, 1, .ro, .warm, 0, .plain⟩
/-- Table 01-8: FRM 0x104 [9:8]. -/
def FRM.SYNC : Fld := ⟨0x0A, 0x104, 8, 2, .ro, .warm, 0, .plain⟩
/-- Table 01-8: FRM 0x104 [12]. -/
def FRM.ROLLBACK : Fld := ⟨0x0A, 0x104, 12, 1, .ro, .warm, 0, .plain⟩
/-- Table 01-8: FRM 0x104 [13]. -/
def FRM.SAFE_ORDER : Fld := ⟨0x0A, 0x104, 13, 1, .ro, .warm, 0, .plain⟩
/-- Table 01-8: FRM 0x104 [14]. -/
def FRM.CFG_ERR : Fld := ⟨0x0A, 0x104, 14, 1, .ro, .warm, 0, .plain⟩
/-- Table 01-9: FRM 0x108 [31:0]. -/
def FRM.TICK_LO : Fld := ⟨0x0A, 0x108, 0, 32, .ro, .keep, 0, .plain⟩
/-- Table 01-9: FRM 0x10C [15:0]. -/
def FRM.TICK_HI : Fld := ⟨0x0A, 0x10C, 0, 16, .ro, .keep, 0, .plain⟩
/-- Table 01-9: FRM 0x110 [7:0]. -/
def FRM.GEN0 : Fld := ⟨0x0A, 0x110, 0, 8, .rwl, .warm, 0, .plain⟩
/-- Table 01-9: FRM 0x110 [15:8]. -/
def FRM.GEN1 : Fld := ⟨0x0A, 0x110, 8, 8, .rwl, .warm, 0, .plain⟩
/-- Table 01-9: FRM 0x114 [9:0]. -/
def FRM.SLACK_BASE : Fld := ⟨0x0A, 0x114, 0, 10, .rwl, .warm, 1008, .plain⟩
/-- Table 01-9: FRM 0x114 [22:16]. -/
def FRM.SLACK_LEN : Fld := ⟨0x0A, 0x114, 16, 7, .rwl, .warm, 16, .outside 2 64 2⟩
/-- Table 01-9: FRM 0x118 [15:0]. -/
def FRM.PHASE_ERR : Fld := ⟨0x0A, 0x118, 0, 16, .ro, .warm, 0, .plain⟩
/-- Table 01-9: FRM 0x118 [31:16]. -/
def FRM.SLEW_LEFT : Fld := ⟨0x0A, 0x118, 16, 16, .ro, .warm, 0, .plain⟩
/-- Table 01-9: FRM 0x11C [15:0]. -/
def FRM.HOLDOVER_LIM : Fld := ⟨0x0A, 0x11C, 0, 16, .rwl, .warm, 10, .clamp 1 65535⟩
/-- Table 01-9: FRM 0x120 [15:0]. -/
def FRM.BEAD_ERR_CNT : Fld := ⟨0x0A, 0x120, 0, 16, .rc, .warm, 0, .plain⟩
/-- Table 01-9: FRM 0x124 [9:0]. -/
def FRM.ERR_ROD : Fld := ⟨0x0A, 0x124, 0, 10, .ro, .warm, 0, .plain⟩
/-- Table 01-9: FRM 0x124 [21:16]. -/
def FRM.ERR_BEAD : Fld := ⟨0x0A, 0x124, 16, 6, .ro, .warm, 0, .plain⟩
/-- Table 01-9: FRM 0x124 [27:24]. -/
def FRM.ERR_CAUSE : Fld := ⟨0x0A, 0x124, 24, 4, .ro, .warm, 0, .plain⟩
/-- Table 01-9: FRM 0x128 [15:0]. -/
def FRM.CONFLICT_CNT : Fld := ⟨0x0A, 0x128, 0, 16, .rc, .warm, 0, .plain⟩
/-- Table 01-9: FRM 0x12C [15:0]. -/
def FRM.DOM_SKIP_CNT : Fld := ⟨0x0A, 0x12C, 0, 16, .rc, .warm, 0, .plain⟩
/-- Table 01-9: FRM 0x130 [10:0]. -/
def FRM.DISPATCH_SUM : Fld := ⟨0x0A, 0x130, 0, 11, .ro, .warm, 0, .plain⟩
/-- Table 01-9: FRM 0x134 [15:0]. -/
def FRM.ROLLBACK_CNT : Fld := ⟨0x0A, 0x134, 0, 16, .rc, .keep, 0, .plain⟩
/-- Table 01-9: FRM 0x800 + 0x4 * i [31:0]. -/
def FRM.SAMPLE (i : Nat) : Fld := ⟨0x0A, 0x800 + 0x4 * i, 0, 32, .ro, .warm, 0, .plain⟩
/-- Table 01-9: FRM 0xC00 + 0x4 * i [31:0]. -/
def FRM.SNAP (i : Nat) : Fld := ⟨0x0A, 0xC00 + 0x4 * i, 0, 32, .ro, .warm, 0, .plain⟩
/-- Table 01-9: FRM 0x400 + 0x200 * t + 0x4 * p [9:0]. -/
def FRM.TAB_SA (t p : Nat) : Fld := ⟨0x0A, 0x400 + 0x200 * t + 0x4 * p, 0, 10, .rwl, .warm, 1023, .plain⟩
/-- Table 01-9: FRM 0x400 + 0x200 * t + 0x4 * p [25:16]. -/
def FRM.TAB_SB (t p : Nat) : Fld := ⟨0x0A, 0x400 + 0x200 * t + 0x4 * p, 16, 10, .rwl, .warm, 1023, .plain⟩
/-- Table 01-10: TIL 0x100 [0]. -/
def TIL.SCRUB_EN : Fld := ⟨0x0C, 0x100, 0, 1, .rwl, .warm, 1, .plain⟩
/-- Table 01-10: TIL 0x104 [0]. -/
def TIL.DEGRADED : Fld := ⟨0x0C, 0x104, 0, 1, .ro, .keep, 0, .plain⟩
/-- Table 01-10: TIL 0x104 [1]. -/
def TIL.RELOAD_BUSY : Fld := ⟨0x0C, 0x104, 1, 1, .ro, .warm, 0, .plain⟩
/-- Table 01-10: TIL 0x104 [2]. -/
def TIL.OOS_ANY : Fld := ⟨0x0C, 0x104, 2, 1, .ro, .warm, 0, .plain⟩
/-- Table 01-10: TIL 0x104 [25:16]. -/
def TIL.SCRUB_POS : Fld := ⟨0x0C, 0x104, 16, 10, .ro, .warm, 0, .plain⟩
/-- Table 01-10: TIL 0x108 [15:0]. -/
def TIL.FAIL_A_CNT : Fld := ⟨0x0C, 0x108, 0, 16, .rc, .keep, 0, .plain⟩
/-- Table 01-10: TIL 0x10C [15:0]. -/
def TIL.FAIL_B_CNT : Fld := ⟨0x0C, 0x10C, 0, 16, .rc, .keep, 0, .plain⟩
/-- Table 01-10: TIL 0x110 [15:0]. -/
def TIL.DOUBLE_CNT : Fld := ⟨0x0C, 0x110, 0, 16, .rc, .keep, 0, .plain⟩
/-- Table 01-10: TIL 0x114 [9:0]. -/
def TIL.FAIL_ROD : Fld := ⟨0x0C, 0x114, 0, 10, .ro, .keep, 0, .plain⟩
/-- Table 01-10: TIL 0x114 [11:10]. -/
def TIL.FAIL_COPY : Fld := ⟨0x0C, 0x114, 10, 2, .ro, .keep, 0, .plain⟩
/-- Table 01-10: TIL 0x114 [12]. -/
def TIL.FAIL_HDR : Fld := ⟨0x0C, 0x114, 12, 1, .ro, .keep, 0, .plain⟩
/-- Table 01-10: TIL 0x114 [13]. -/
def TIL.FAIL_SCRUB : Fld := ⟨0x0C, 0x114, 13, 1, .ro, .keep, 0, .plain⟩
/-- Table 01-10: TIL 0x114 [31:16]. -/
def TIL.FAIL_TICK16 : Fld := ⟨0x0C, 0x114, 16, 16, .ro, .keep, 0, .plain⟩
/-- Table 01-10: TIL 0x118 [9:0]. -/
def TIL.RELOAD_ROD : Fld := ⟨0x0C, 0x118, 0, 10, .ro, .warm, 1023, .plain⟩
/-- Table 01-10: TIL 0x180 + 0x4 * i [31:0]. -/
def TIL.OOS (i : Nat) : Fld := ⟨0x0C, 0x180 + 0x4 * i, 0, 32, .ro, .warm, 0, .plain⟩
/-- Table 02-13: PRM 0x100 [0]. -/
def PRM.EN : Fld := ⟨0x0B, 0x100, 0, 1, .rwl, .warm, 1, .plain⟩
/-- Table 02-13: PRM 0x104 [10:0]. -/
def PRM.OPEN : Fld := ⟨0x0B, 0x104, 0, 11, .ro, .warm, 0, .plain⟩
/-- Table 02-13: PRM 0x104 [21:16]. -/
def PRM.INTAKE : Fld := ⟨0x0B, 0x104, 16, 6, .ro, .warm, 0, .plain⟩
/-- Table 02-13: PRM 0x104 [24]. -/
def PRM.DRAINING : Fld := ⟨0x0B, 0x104, 24, 1, .ro, .warm, 0, .plain⟩
/-- Table 02-13: PRM 0x108 [31:0]. -/
def PRM.ACCEPT_CNT : Fld := ⟨0x0B, 0x108, 0, 32, .rc, .keep, 0, .plain⟩
/-- Table 02-13: PRM 0x10C [31:0]. -/
def PRM.REFUSE_CNT : Fld := ⟨0x0B, 0x10C, 0, 32, .rc, .keep, 0, .plain⟩
/-- Table 02-13: PRM 0x110 [31:0]. -/
def PRM.KEPT_CNT : Fld := ⟨0x0B, 0x110, 0, 32, .rc, .keep, 0, .plain⟩
/-- Table 02-13: PRM 0x114 [31:0]. -/
def PRM.BREACH_CNT : Fld := ⟨0x0B, 0x114, 0, 32, .rc, .keep, 0, .plain⟩
/-- Table 02-13: PRM 0x118 [7:0]. -/
def PRM.REF_REASON : Fld := ⟨0x0B, 0x118, 0, 8, .ro, .keep, 0, .plain⟩
/-- Table 02-13: PRM 0x118 [15:8]. -/
def PRM.REF_SOURCE : Fld := ⟨0x0B, 0x118, 8, 8, .ro, .keep, 0, .plain⟩
/-- Table 02-13: PRM 0x118 [19:16]. -/
def PRM.REF_CLASS : Fld := ⟨0x0B, 0x118, 16, 4, .ro, .keep, 0, .plain⟩
/-- Table 02-13: PRM 0x11C [15:0]. -/
def PRM.BR_NUM : Fld := ⟨0x0B, 0x11C, 0, 16, .ro, .keep, 0, .plain⟩
/-- Table 02-13: PRM 0x11C [19:16]. -/
def PRM.BR_CAUSE : Fld := ⟨0x0B, 0x11C, 16, 4, .ro, .keep, 0, .plain⟩
/-- Table 02-13: PRM 0x11C [23:20]. -/
def PRM.BR_CLASS : Fld := ⟨0x0B, 0x11C, 20, 4, .ro, .keep, 0, .plain⟩
/-- Table 02-13: PRM 0x11C [31:24]. -/
def PRM.BR_SOURCE : Fld := ⟨0x0B, 0x11C, 24, 8, .ro, .keep, 0, .plain⟩
/-- Table 02-13: PRM 0x120 [15:0]. -/
def PRM.NEXT_NUM : Fld := ⟨0x0B, 0x120, 0, 16, .ro, .warm, 1, .plain⟩
/-- Table 02-13: PRM 0x124 [10:0]. -/
def PRM.RESET_OPEN : Fld := ⟨0x0B, 0x124, 0, 11, .ro, .keep, 0, .plain⟩
/-- Table 02-13: PRM 0x128 [15:0]. -/
def PRM.REC_SEL : Fld := ⟨0x0B, 0x128, 0, 16, .rw, .warm, 0, .plain⟩
/-- Table 02-13: PRM 0x12C + 0x4 * i [31:0]. -/
def PRM.REC_DATA (i : Nat) : Fld := ⟨0x0B, 0x12C + 0x4 * i, 0, 32, .ro, .warm, 0, .plain⟩
/-- Table 02-13: PRM 0x13C [15:0]. -/
def PRM.DRAIN_LIM : Fld := ⟨0x0B, 0x13C, 0, 16, .rwl, .warm, 64, .clamp 1 65535⟩
/-- Table 02-13: PRM 0x140 + 0x4 * i [31:0]. -/
def PRM.REQ (i : Nat) : Fld := ⟨0x0B, 0x140 + 0x4 * i, 0, 32, .rw, .warm, 0, .plain⟩
/-- Table 02-13: PRM 0x150 [0]. -/
def PRM.REQ_GO : Fld := ⟨0x0B, 0x150, 0, 1, .wo, .warm, 0, .plain⟩
/-- Table 02-13: PRM 0x154 [0]. -/
def PRM.ANS_VALID : Fld := ⟨0x0B, 0x154, 0, 1, .ro, .warm, 0, .plain⟩
/-- Table 02-13: PRM 0x154 [1]. -/
def PRM.ANS_ACCEPTED : Fld := ⟨0x0B, 0x154, 1, 1, .ro, .warm, 0, .plain⟩
/-- Table 02-13: PRM 0x154 [15:8]. -/
def PRM.ANS_CODE : Fld := ⟨0x0B, 0x154, 8, 8, .ro, .warm, 0, .plain⟩
/-- Table 02-13: PRM 0x154 [31:16]. -/
def PRM.ANS_NUM : Fld := ⟨0x0B, 0x154, 16, 16, .ro, .warm, 0, .plain⟩
/-- Table 02-13: PRM 0x158 [31:0]. -/
def PRM.ANS_DL_LO : Fld := ⟨0x0B, 0x158, 0, 32, .ro, .warm, 0, .plain⟩
/-- Table 02-13: PRM 0x15C [15:0]. -/
def PRM.ANS_DL_HI : Fld := ⟨0x0B, 0x15C, 0, 16, .ro, .warm, 0, .plain⟩
/-- Table 02-13: PRM 0x200 + 0x4 * i [15:0]. -/
def PRM.REFUSE_BY (i : Nat) : Fld := ⟨0x0B, 0x200 + 0x4 * i, 0, 16, .rc, .keep, 0, .plain⟩
/-- Table 02-13: PRM 0x240 + 0x4 * i [15:0]. -/
def PRM.BREACH_BY (i : Nat) : Fld := ⟨0x0B, 0x240 + 0x4 * i, 0, 16, .rc, .keep, 0, .plain⟩
/-- Table 02-13: PRM 0x300 + 0x4 * i [5:0]. -/
def PRM.BEADS (i : Nat) : Fld := ⟨0x0B, 0x300 + 0x4 * i, 0, 6, .ro, .warm, 0, .plain⟩
/-- Table 02-13: PRM 0x300 + 0x4 * i [26:16]. -/
def PRM.CYCLES (i : Nat) : Fld := ⟨0x0B, 0x300 + 0x4 * i, 16, 11, .ro, .warm, 0, .plain⟩
/-- Table 02-13: PRM 0x400 + 0x10 * P [15:0]. -/
def PRM.ENV_OCC (P : Nat) : Fld := ⟨0x0B, 0x400 + 0x10 * P, 0, 16, .rwl, .warm, 0, .plain⟩
/-- Table 02-13: PRM 0x400 + 0x10 * P [23:16]. -/
def PRM.ENV_FRAMES (P : Nat) : Fld := ⟨0x0B, 0x400 + 0x10 * P, 16, 8, .rwl, .warm, 0, .plain⟩
/-- Table 02-13: PRM 0x404 + 0x10 * P [15:0]. -/
def PRM.ENV_MEAS_OCC (P : Nat) : Fld := ⟨0x0B, 0x404 + 0x10 * P, 0, 16, .ro, .warm, 0, .plain⟩
/-- Table 02-13: PRM 0x404 + 0x10 * P [23:16]. -/
def PRM.ENV_MEAS_FRAMES (P : Nat) : Fld := ⟨0x0B, 0x404 + 0x10 * P, 16, 8, .ro, .warm, 0, .plain⟩
/-- Table 02-13: PRM 0x408 + 0x10 * P [15:0]. -/
def PRM.ENV_OVER_CNT (P : Nat) : Fld := ⟨0x0B, 0x408 + 0x10 * P, 0, 16, .rc, .keep, 0, .plain⟩
/-- Table 03-8: HQ 0x100 + 0x40 * c [3:0]. -/
def HQ.RETRY_N (q c : Nat) : Fld := ⟨0x10 + q, 0x100 + 0x40 * c, 0, 4, .rwl, .warm, 3, .clamp 1 15⟩
/-- Table 03-8: HQ 0x100 + 0x40 * c [7:4]. -/
def HQ.THERM_M (q c : Nat) : Fld := ⟨0x10 + q, 0x100 + 0x40 * c, 4, 4, .rwl, .warm, 3, .clamp 1 15⟩
/-- Table 03-8: HQ 0x100 + 0x40 * c [8]. -/
def HQ.UV_POL (q c : Nat) : Fld := ⟨0x10 + q, 0x100 + 0x40 * c, 8, 1, .rwl, .warm, 0, .plain⟩
/-- Table 03-8: HQ 0x100 + 0x40 * c [18:16]. -/
def HQ.CLASS (q c : Nat) : Fld := ⟨0x10 + q, 0x100 + 0x40 * c, 16, 3, .ro, .cold, chanClass c, .plain⟩
/-- Table 03-8: HQ 0x100 + 0x40 * c [22:19]. -/
def HQ.NCELL (q c : Nat) : Fld := ⟨0x10 + q, 0x100 + 0x40 * c, 19, 4, .ro, .cold, byClass c 8 4 1 4, .plain⟩
/-- Table 03-9: HQ 0x104 + 0x40 * c [2:0]. -/
def HQ.SLEW (q c : Nat) : Fld := ⟨0x10 + q, 0x104 + 0x40 * c, 0, 3, .rwl, .warm, 5, .clamp (byClass c 3 2 1 0) 7⟩
/-- Table 03-9: HQ 0x104 + 0x40 * c [3]. -/
def HQ.OFF_FAST (q c : Nat) : Fld := ⟨0x10 + q, 0x104 + 0x40 * c, 3, 1, .rwl, .warm, 0, .plain⟩
/-- Table 03-9: HQ 0x104 + 0x40 * c [5:4]. -/
def HQ.PWM_FREQ (q c : Nat) : Fld := ⟨0x10 + q, 0x104 + 0x40 * c, 4, 2, .rwl, .warm, 0, .plain⟩
/-- Table 03-9: HQ 0x104 + 0x40 * c [11:8]. -/
def HQ.PHASE (q c : Nat) : Fld := ⟨0x10 + q, 0x104 + 0x40 * c, 8, 4, .rwl, .warm, 0, .plain⟩
/-- Table 03-9: HQ 0x104 + 0x40 * c [22:16]. -/
def HQ.DEAD (q c : Nat) : Fld := ⟨0x10 + q, 0x104 + 0x40 * c, 16, 7, .rwl, .warm, 10, .clamp 2 127⟩
/-- Table 03-10: HQ 0x108 + 0x40 * c [2:0]. -/
def HQ.ACT (q c : Nat) : Fld := ⟨0x10 + q, 0x108 + 0x40 * c, 0, 3, .rw, .warm, 0, .plain⟩
/-- Table 03-10: HQ 0x108 + 0x40 * c [31:16]. -/
def HQ.ARG (q c : Nat) : Fld := ⟨0x10 + q, 0x108 + 0x40 * c, 16, 16, .rw, .warm, 0, .plain⟩
/-- Table 03-11: HQ 0x10C + 0x40 * c [3:0]. -/
def HQ.OWN_SET (q c : Nat) : Fld := ⟨0x10 + q, 0x10C + 0x40 * c, 0, 4, .ro, .warm, 1, .plain⟩
/-- Table 03-11: HQ 0x10C + 0x40 * c [5:4]. -/
def HQ.OWN_EFF (q c : Nat) : Fld := ⟨0x10 + q, 0x10C + 0x40 * c, 4, 2, .ro, .warm, 0, .plain⟩
/-- Table 03-11: HQ 0x10C + 0x40 * c [10:8]. -/
def HQ.OUT (q c : Nat) : Fld := ⟨0x10 + q, 0x10C + 0x40 * c, 8, 3, .ro, .warm, 0, .plain⟩
/-- Table 03-11: HQ 0x10C + 0x40 * c [11]. -/
def HQ.SLEWING (q c : Nat) : Fld := ⟨0x10 + q, 0x10C + 0x40 * c, 11, 1, .ro, .warm, 0, .plain⟩
/-- Table 03-11: HQ 0x10C + 0x40 * c [15:12]. -/
def HQ.CELLS_ON (q c : Nat) : Fld := ⟨0x10 + q, 0x10C + 0x40 * c, 12, 4, .ro, .warm, 0, .plain⟩
/-- Table 03-11: HQ 0x10C + 0x40 * c [20:16]. -/
def HQ.PERMIT (q c : Nat) : Fld := ⟨0x10 + q, 0x10C + 0x40 * c, 16, 5, .ro, .warm, 0, .plain⟩
/-- Table 03-11: HQ 0x10C + 0x40 * c [21]. -/
def HQ.PAIRED (q c : Nat) : Fld := ⟨0x10 + q, 0x10C + 0x40 * c, 21, 1, .ro, .warm, 0, .plain⟩
/-- Table 03-11: HQ 0x10C + 0x40 * c [22]. -/
def HQ.SLAVE (q c : Nat) : Fld := ⟨0x10 + q, 0x10C + 0x40 * c, 22, 1, .ro, .warm, 0, .plain⟩
/-- Table 03-12: HQ 0x110 + 0x40 * c [11:0]. -/
def HQ.IS (q c : Nat) : Fld := ⟨0x10 + q, 0x110 + 0x40 * c, 0, 12, .ro, .warm, 0, .plain⟩
/-- Table 03-12: HQ 0x110 + 0x40 * c [27:16]. -/
def HQ.I_ON (q c : Nat) : Fld := ⟨0x10 + q, 0x110 + 0x40 * c, 16, 12, .ro, .warm, 0, .plain⟩
/-- Table 03-12: HQ 0x114 + 0x40 * c [9:0]. -/
def HQ.OUT_V (q c : Nat) : Fld := ⟨0x10 + q, 0x114 + 0x40 * c, 0, 10, .ro, .warm, 0, .plain⟩
/-- Table 03-12: HQ 0x114 + 0x40 * c [23:16]. -/
def HQ.TJ (q c : Nat) : Fld := ⟨0x10 + q, 0x114 + 0x40 * c, 16, 8, .ro, .warm, 0, .plain⟩
/-- Table 03-13: HQ 0x600 [0]. -/
def HQ.PAIR_EN (q : Nat) : Fld := ⟨0x10 + q, 0x600, 0, 1, .rwl, .warm, 0, .plain⟩
/-- Table 03-13: HQ 0x600 [1]. -/
def HQ.NET (q : Nat) : Fld := ⟨0x10 + q, 0x600, 1, 1, .rwl, .warm, 0, .plain⟩
/-- Table 03-13: HQ 0x604 [11:0]. -/
def HQ.FEED_V (q : Nat) : Fld := ⟨0x10 + q, 0x604, 0, 12, .ro, .warm, 0, .plain⟩
/-- Table 03-13: HQ 0x608 [11:0]. -/
def HQ.FEED_VMIN (q : Nat) : Fld := ⟨0x10 + q, 0x608, 0, 12, .ro, .warm, 4095, .plain⟩
/-- Table 03-13: HQ 0x608 [31]. -/
def HQ.VMIN_RST (q : Nat) : Fld := ⟨0x10 + q, 0x608, 31, 1, .wo, .warm, 0, .plain⟩
/-- Table 03-13: HQ 0x60C [13:0]. -/
def HQ.FEED_I (q : Nat) : Fld := ⟨0x10 + q, 0x60C, 0, 14, .ro, .warm, 0, .plain⟩
/-- Table 03-13: HQ 0x610 + 0x4 * i [0]. -/
def HQ.CP_RDY (q i : Nat) : Fld := ⟨0x10 + q, 0x610 + 0x4 * i, 0, 1, .ro, .warm, 0, .plain⟩
/-- Table 03-13: HQ 0x610 + 0x4 * i [15:8]. -/
def HQ.TJ_MAX (q i : Nat) : Fld := ⟨0x10 + q, 0x610 + 0x4 * i, 8, 8, .ro, .warm, 0, .plain⟩
/-- Table 03-13: HQ 0x610 + 0x4 * i [29:16]. -/
def HQ.BANK_I (q i : Nat) : Fld := ⟨0x10 + q, 0x610 + 0x4 * i, 16, 14, .ro, .warm, 0, .plain⟩
/-- Table 03-13: HQ 0x618 [15:0]. -/
def HQ.QDISS (q : Nat) : Fld := ⟨0x10 + q, 0x618, 0, 16, .ro, .warm, 0, .plain⟩
/-- Table 03-13: HQ 0x61C [7:0]. -/
def HQ.QTEMP (q : Nat) : Fld := ⟨0x10 + q, 0x61C, 0, 8, .ro, .warm, 0, .plain⟩
/-- Table 03-13: HQ 0x620 [0]. -/
def HQ.IMBAL (q : Nat) : Fld := ⟨0x10 + q, 0x620, 0, 1, .ro, .warm, 0, .plain⟩
/-- Table 03-13: HQ 0x620 [15:8]. -/
def HQ.SHARE (q : Nat) : Fld := ⟨0x10 + q, 0x620, 8, 8, .ro, .warm, 0, .plain⟩
/-- Table 03-13: HQ 0x624 [15:0]. -/
def HQ.CMD_REJ_CNT (q : Nat) : Fld := ⟨0x10 + q, 0x624, 0, 16, .rc, .warm, 0, .plain⟩
/-- Table 03-13: HQ 0x628 [4:0]. -/
def HQ.CMD_REJ_CH (q : Nat) : Fld := ⟨0x10 + q, 0x628, 0, 5, .ro, .warm, 0, .plain⟩
/-- Table 03-13: HQ 0x628 [10:8]. -/
def HQ.CMD_REJ_CAUSE (q : Nat) : Fld := ⟨0x10 + q, 0x628, 8, 3, .ro, .warm, 0, .plain⟩
/-- Table 03-13: HQ 0x62C [13:0]. -/
def HQ.FEED_MEAN (q : Nat) : Fld := ⟨0x10 + q, 0x62C, 0, 14, .ro, .warm, 0, .plain⟩
/-- Table 03-13: HQ 0x630 [15:0]. -/
def HQ.OVER_CNT (q : Nat) : Fld := ⟨0x10 + q, 0x630, 0, 16, .rc, .keep, 0, .plain⟩
/-- Table 03-14: HQ 0x700 [15:0]. -/
def HQ.MOD_I_LIVE : Fld := ⟨0x10, 0x700, 0, 16, .ro, .warm, 0, .plain⟩
/-- Table 03-14: HQ 0x700 [31:16]. -/
def HQ.MOD_I_MEAN : Fld := ⟨0x10, 0x700, 16, 16, .ro, .warm, 0, .plain⟩
/-- Table 03-14: HQ 0x704 [15:0]. -/
def HQ.MOD_ESTIMATE : Fld := ⟨0x10, 0x704, 0, 16, .ro, .warm, 0, .plain⟩
/-- Table 03-14: HQ 0x704 [31:16]. -/
def HQ.MOD_BUDGET : Fld := ⟨0x10, 0x704, 16, 16, .ro, .warm, 40000, .plain⟩
/-- Table 03-14: HQ 0x708 [7:0]. -/
def HQ.BASEPLATE : Fld := ⟨0x10, 0x708, 0, 8, .ro, .warm, 0, .plain⟩
/-- Table 03-14: HQ 0x70C [15:0]. -/
def HQ.ALLOW : Fld := ⟨0x10, 0x70C, 0, 16, .rwl, .warm, 7000, .plain⟩
/-- Table 03-14: HQ 0x710 [15:0]. -/
def HQ.AGG_OVER_CNT : Fld := ⟨0x10, 0x710, 0, 16, .rc, .keep, 0, .plain⟩
/-- Table 03-14: HQ 0x714 [15:0]. -/
def HQ.DISS_OVER_CNT : Fld := ⟨0x10, 0x714, 0, 16, .rc, .keep, 0, .plain⟩
/-- Table 04-8: HQ 0x118 + 0x40 * c [11:0]. -/
def HQ.ILIM (q c : Nat) : Fld := ⟨0x10 + q, 0x118 + 0x40 * c, 0, 12, .rwl, .warm, byClass c 1500 1500 1800 1800, .plain⟩
/-- Table 04-8: HQ 0x118 + 0x40 * c [14:12]. -/
def HQ.ISC (q c : Nat) : Fld := ⟨0x10 + q, 0x118 + 0x40 * c, 12, 3, .rwl, .warm, 3, .plain⟩
/-- Table 04-8: HQ 0x118 + 0x40 * c [19:16]. -/
def HQ.OC_FILT (q c : Nat) : Fld := ⟨0x10 + q, 0x118 + 0x40 * c, 16, 4, .rwl, .warm, 2, .clamp 0 9⟩
/-- Table 04-8: HQ 0x11C + 0x40 * c [11:0]. -/
def HQ.INR_ILIM (q c : Nat) : Fld := ⟨0x10 + q, 0x11C + 0x40 * c, 0, 12, .rwl, .warm, byClass c 1500 1500 1800 1800, .plain⟩
/-- Table 04-8: HQ 0x11C + 0x40 * c [23:16]. -/
def HQ.INR_WIN (q c : Nat) : Fld := ⟨0x10 + q, 0x11C + 0x40 * c, 16, 8, .rwl, .warm, 0, .plain⟩
/-- Table 04-9: HQ 0x120 + 0x40 * c [3:0]. -/
def HQ.XSEC (q c : Nat) : Fld := ⟨0x10 + q, 0x120 + 0x40 * c, 0, 4, .rwl, .warm, byClass c 5 2 0 4, .clamp 0 9⟩
/-- Table 04-9: HQ 0x120 + 0x40 * c [7:4]. -/
def HQ.BF (q c : Nat) : Fld := ⟨0x10 + q, 0x120 + 0x40 * c, 4, 4, .rwl, .warm, 0, .zeroOr 8⟩
/-- Table 04-9: HQ 0x120 + 0x40 * c [11:8]. -/
def HQ.WIRE_FAST (q c : Nat) : Fld := ⟨0x10 + q, 0x120 + 0x40 * c, 8, 4, .rwl, .warm, 8, .zeroOr 4⟩
/-- Table 04-9: HQ 0x120 + 0x40 * c [19:12]. -/
def HQ.TAU2 (q c : Nat) : Fld := ⟨0x10 + q, 0x120 + 0x40 * c, 12, 8, .rwl, .warm, 30, .clamp 6 180⟩
/-- Table 04-9: HQ 0x120 + 0x40 * c [23:20]. -/
def HQ.WIRE_REARM (q c : Nat) : Fld := ⟨0x10 + q, 0x120 + 0x40 * c, 20, 4, .rwl, .warm, 10, .clamp 1 15⟩
/-- Table 04-9: HQ 0x120 + 0x40 * c [24]. -/
def HQ.WIRE_LATCH (q c : Nat) : Fld := ⟨0x10 + q, 0x120 + 0x40 * c, 24, 1, .rwl, .warm, 1, .plain⟩
/-- Table 04-9: HQ 0x120 + 0x40 * c [25]. -/
def HQ.WIRE_EN (q c : Nat) : Fld := ⟨0x10 + q, 0x120 + 0x40 * c, 25, 1, .rwl, .warm, 1, .plain⟩
/-- Table 04-9: HQ 0x124 + 0x40 * c [15:0]. -/
def HQ.THETA (q c : Nat) : Fld := ⟨0x10 + q, 0x124 + 0x40 * c, 0, 16, .ro, .keep, 0, .plain⟩
/-- Table 04-9: HQ 0x124 + 0x40 * c [23:16]. -/
def HQ.TRIPS (q c : Nat) : Fld := ⟨0x10 + q, 0x124 + 0x40 * c, 16, 8, .ro, .keep, 0, .plain⟩
/-- Table 04-10: HQ 0x128 + 0x40 * c [15:0]. -/
def HQ.CLAMP_BUDGET (q c : Nat) : Fld := ⟨0x10 + q, 0x128 + 0x40 * c, 0, 16, .rwl, .warm, byClass c 6000 2500 600 0, .clamp 0 (byClass c 6000 2500 600 0)⟩
/-- Table 04-10: HQ 0x128 + 0x40 * c [23:16]. -/
def HQ.CLAMP_TAU (q c : Nat) : Fld := ⟨0x10 + q, 0x128 + 0x40 * c, 16, 8, .rwl, .warm, byClass c 80 50 20 0, .clamp (byClass c 1 1 1 0) (byClass c 255 255 255 0)⟩
/-- Table 04-10: HQ 0x128 + 0x40 * c [27:24]. -/
def HQ.CLAMP_REARM (q c : Nat) : Fld := ⟨0x10 + q, 0x128 + 0x40 * c, 24, 4, .rwl, .warm, 8, .plain⟩
/-- Table 04-10: HQ 0x12C + 0x40 * c [15:0]. -/
def HQ.CLAMP_B (q c : Nat) : Fld := ⟨0x10 + q, 0x12C + 0x40 * c, 0, 16, .ro, .keep, 0, .plain⟩
/-- Table 04-10: HQ 0x12C + 0x40 * c [31:16]. -/
def HQ.E_LAST (q c : Nat) : Fld := ⟨0x10 + q, 0x12C + 0x40 * c, 16, 16, .ro, .keep, 0, .plain⟩
/-- Table 04-11: HQ 0x130 + 0x40 * c [2:0]. -/
def HQ.SAFE_CFG (q c : Nat) : Fld := ⟨0x10 + q, 0x130 + 0x40 * c, 0, 3, .rwl, .warm, 0, .outside 0 (byClass c 4 4 4 2) 0⟩
/-- Table 04-11: HQ 0x130 + 0x40 * c [31]. -/
def HQ.LATCH_CLR (q c : Nat) : Fld := ⟨0x10 + q, 0x130 + 0x40 * c, 31, 1, .wo, .warm, 0, .plain⟩
/-- Table 04-11: HQ 0x134 + 0x40 * c [3:0]. -/
def HQ.RETRY_CNT (q c : Nat) : Fld := ⟨0x10 + q, 0x134 + 0x40 * c, 0, 4, .ro, .keep, 0, .plain⟩
/-- Table 04-11: HQ 0x134 + 0x40 * c [7:4]. -/
def HQ.THERM_CNT (q c : Nat) : Fld := ⟨0x10 + q, 0x134 + 0x40 * c, 4, 4, .ro, .keep, 0, .plain⟩
/-- Table 04-11: HQ 0x134 + 0x40 * c [8]. -/
def HQ.RETRY_L (q c : Nat) : Fld := ⟨0x10 + q, 0x134 + 0x40 * c, 8, 1, .ro, .keep, 0, .plain⟩
/-- Table 04-11: HQ 0x134 + 0x40 * c [9]. -/
def HQ.THERM_L (q c : Nat) : Fld := ⟨0x10 + q, 0x134 + 0x40 * c, 9, 1, .ro, .keep, 0, .plain⟩
/-- Table 04-11: HQ 0x134 + 0x40 * c [10]. -/
def HQ.WIRE_L (q c : Nat) : Fld := ⟨0x10 + q, 0x134 + 0x40 * c, 10, 1, .ro, .keep, 0, .plain⟩
/-- Table 04-11: HQ 0x134 + 0x40 * c [11]. -/
def HQ.UV (q c : Nat) : Fld := ⟨0x10 + q, 0x134 + 0x40 * c, 11, 1, .w1c, .keep, 0, .plain⟩
/-- Table 04-11: HQ 0x134 + 0x40 * c [12]. -/
def HQ.STB (q c : Nat) : Fld := ⟨0x10 + q, 0x134 + 0x40 * c, 12, 1, .w1c, .warm, 0, .plain⟩
/-- Table 04-11: HQ 0x134 + 0x40 * c [13]. -/
def HQ.TIED (q c : Nat) : Fld := ⟨0x10 + q, 0x134 + 0x40 * c, 13, 1, .w1c, .warm, 0, .plain⟩
/-- Table 04-11: HQ 0x134 + 0x40 * c [14]. -/
def HQ.REV (q c : Nat) : Fld := ⟨0x10 + q, 0x134 + 0x40 * c, 14, 1, .ro, .warm, 0, .plain⟩
/-- Table 04-11: HQ 0x134 + 0x40 * c [25:16]. -/
def HQ.PAUSE_LEFT (q c : Nat) : Fld := ⟨0x10 + q, 0x134 + 0x40 * c, 16, 10, .ro, .keep, 0, .plain⟩
/-- Table 04-12: HQ 0x640 [16:0]. -/
def HQ.HB_TO (q : Nat) : Fld := ⟨0x10 + q, 0x640, 0, 17, .rwl, .warm, 100, .clamp 30 100000⟩
/-- Table 04-12: HQ 0x644 [13:0]. -/
def HQ.HOLD_LIM (q : Nat) : Fld := ⟨0x10 + q, 0x644, 0, 14, .rwl, .warm, 500, .plain⟩
/-- Table 04-12: HQ 0x648 [1:0]. -/
def HQ.WATCH (q : Nat) : Fld := ⟨0x10 + q, 0x648, 0, 2, .ro, .warm, 0, .plain⟩
/-- Table 04-12: HQ 0x648 [2]. -/
def HQ.SAFE (q : Nat) : Fld := ⟨0x10 + q, 0x648, 2, 1, .ro, .warm, 0, .plain⟩
/-- Table 04-12: HQ 0x648 [3]. -/
def HQ.HOLD (q : Nat) : Fld := ⟨0x10 + q, 0x648, 3, 1, .ro, .warm, 0, .plain⟩
/-- Table 04-12: HQ 0x648 [4]. -/
def HQ.UCODE (q : Nat) : Fld := ⟨0x10 + q, 0x648, 4, 1, .ro, .cold, 0, .plain⟩
/-- Table 04-12: HQ 0x648 [5]. -/
def HQ.SAG (q : Nat) : Fld := ⟨0x10 + q, 0x648, 5, 1, .ro, .warm, 0, .plain⟩
/-- Table 04-12: HQ 0x648 [6]. -/
def HQ.OV (q : Nat) : Fld := ⟨0x10 + q, 0x648, 6, 1, .ro, .warm, 0, .plain⟩
/-- Table 04-12: HQ 0x648 [7]. -/
def HQ.REV_FEED (q : Nat) : Fld := ⟨0x10 + q, 0x648, 7, 1, .ro, .warm, 0, .plain⟩
/-- Table 04-12: HQ 0x648 [8]. -/
def HQ.GND_LOSS (q : Nat) : Fld := ⟨0x10 + q, 0x648, 8, 1, .ro, .warm, 0, .plain⟩
/-- Table 04-12: HQ 0x648 [31:16]. -/
def HQ.UCODE_VER (q : Nat) : Fld := ⟨0x10 + q, 0x648, 16, 16, .ro, .cold, 0, .plain⟩
/-- Table 04-12: HQ 0x64C [0]. -/
def HQ.SAFE_REL (q : Nat) : Fld := ⟨0x10 + q, 0x64C, 0, 1, .wo, .warm, 0, .plain⟩
/-- Table 04-12: HQ 0x650 + 0x4 * i [9:0]. -/
def HQ.PAT_ON (q i : Nat) : Fld := ⟨0x10 + q, 0x650 + 0x4 * i, 0, 10, .rwl, .warm, 330, .clamp 1 1023⟩
/-- Table 04-12: HQ 0x650 + 0x4 * i [19:10]. -/
def HQ.PAT_OFF (q i : Nat) : Fld := ⟨0x10 + q, 0x650 + 0x4 * i, 10, 10, .rwl, .warm, 330, .clamp 1 1023⟩
/-- Table 04-12: HQ 0x650 + 0x4 * i [20]. -/
def HQ.PAT_START (q i : Nat) : Fld := ⟨0x10 + q, 0x650 + 0x4 * i, 20, 1, .rwl, .warm, 1, .plain⟩
/-- Table 04-12: HQ 0x658 + 0x4 * i [11:0]. -/
def HQ.INR_BUD (q i : Nat) : Fld := ⟨0x10 + q, 0x658 + 0x4 * i, 0, 12, .rwl, .warm, 800, .plain⟩
/-- Table 04-12: HQ 0x658 + 0x4 * i [27:16]. -/
def HQ.BILIM (q i : Nat) : Fld := ⟨0x10 + q, 0x658 + 0x4 * i, 16, 12, .rwl, .warm, 900, .plain⟩
/-- Table 04-12: HQ 0x660 [3:0]. -/
def HQ.QLEN0 (q : Nat) : Fld := ⟨0x10 + q, 0x660, 0, 4, .ro, .warm, 0, .plain⟩
/-- Table 04-12: HQ 0x660 [4]. -/
def HQ.PAUSED0 (q : Nat) : Fld := ⟨0x10 + q, 0x660, 4, 1, .ro, .warm, 0, .plain⟩
/-- Table 04-12: HQ 0x660 [11:8]. -/
def HQ.QLEN1 (q : Nat) : Fld := ⟨0x10 + q, 0x660, 8, 4, .ro, .warm, 0, .plain⟩
/-- Table 04-12: HQ 0x660 [12]. -/
def HQ.PAUSED1 (q : Nat) : Fld := ⟨0x10 + q, 0x660, 12, 1, .ro, .warm, 0, .plain⟩
/-- Table 04-12: HQ 0x664 [15:0]. -/
def HQ.OVERPLAN_CNT (q : Nat) : Fld := ⟨0x10 + q, 0x664, 0, 16, .rc, .keep, 0, .plain⟩
/-- Table 04-12: HQ 0x664 [31:16]. -/
def HQ.PAUSE_CNT (q : Nat) : Fld := ⟨0x10 + q, 0x664, 16, 16, .rc, .keep, 0, .plain⟩
/-- Table 04-12: HQ 0x668 [11:0]. -/
def HQ.SAG_VMIN (q : Nat) : Fld := ⟨0x10 + q, 0x668, 0, 12, .ro, .keep, 4095, .plain⟩
/-- Table 04-12: HQ 0x668 [31:16]. -/
def HQ.SAG_LEN (q : Nat) : Fld := ⟨0x10 + q, 0x668, 16, 16, .ro, .keep, 0, .plain⟩
/-- Table 04-12: HQ 0x66C [15:0]. -/
def HQ.SAG_CNT (q : Nat) : Fld := ⟨0x10 + q, 0x66C, 0, 16, .rc, .keep, 0, .plain⟩
/-- Table 04-12: HQ 0x66C [31:16]. -/
def HQ.UV_CNT (q : Nat) : Fld := ⟨0x10 + q, 0x66C, 16, 16, .rc, .keep, 0, .plain⟩
/-- Table 04-12: HQ 0x670 [15:0]. -/
def HQ.SILENCE_CNT (q : Nat) : Fld := ⟨0x10 + q, 0x670, 0, 16, .rc, .keep, 0, .plain⟩
/-- Table 04-12: HQ 0x670 [31:16]. -/
def HQ.HOLD_EXP_CNT (q : Nat) : Fld := ⟨0x10 + q, 0x670, 16, 16, .rc, .keep, 0, .plain⟩
/-- Table 04-12: HQ 0x674 [15:0]. -/
def HQ.PROT_DIS_CNT (q : Nat) : Fld := ⟨0x10 + q, 0x674, 0, 16, .rc, .keep, 0, .plain⟩
/-- Table 04-12: HQ 0x674 [31:16]. -/
def HQ.QEVT_LOST (q : Nat) : Fld := ⟨0x10 + q, 0x674, 16, 16, .rc, .keep, 0, .plain⟩
/-- Table 04-12: HQ 0x678 [4:0]. -/
def HQ.TIE_CH (q : Nat) : Fld := ⟨0x10 + q, 0x678, 0, 5, .ro, .warm, 0, .plain⟩
/-- Table 04-12: HQ 0x678 [14:8]. -/
def HQ.TIE_PART (q : Nat) : Fld := ⟨0x10 + q, 0x678, 8, 7, .ro, .warm, 127, .plain⟩
/-- Table 04-12: HQ 0x678 [31:16]. -/
def HQ.TIE_TICK16 (q : Nat) : Fld := ⟨0x10 + q, 0x678, 16, 16, .ro, .warm, 0, .plain⟩
/-- Table 05-5: HQ 0x138 + 0x40 * c [11:0]. -/
def HQ.OL_ION (q c : Nat) : Fld := ⟨0x10 + q, 0x138 + 0x40 * c, 0, 12, .rwl, .warm, byClass c 25 25 10 20, .plain⟩
/-- Table 05-5: HQ 0x138 + 0x40 * c [15:12]. -/
def HQ.OL_CNT (q c : Nat) : Fld := ⟨0x10 + q, 0x138 + 0x40 * c, 12, 4, .rwl, .warm, 4, .clamp 1 15⟩
/-- Table 05-5: HQ 0x138 + 0x40 * c [17:16]. -/
def HQ.IPU (q c : Nat) : Fld := ⟨0x10 + q, 0x138 + 0x40 * c, 16, 2, .rwl, .warm, 1, .clamp 0 2⟩
/-- Table 05-5: HQ 0x138 + 0x40 * c [20:18]. -/
def HQ.SETTLE (q c : Nat) : Fld := ⟨0x10 + q, 0x138 + 0x40 * c, 18, 3, .rwl, .warm, 2, .clamp 0 5⟩
/-- Table 05-5: HQ 0x138 + 0x40 * c [21]. -/
def HQ.ON_AUTO (q c : Nat) : Fld := ⟨0x10 + q, 0x138 + 0x40 * c, 21, 1, .rwl, .warm, 1, .plain⟩
/-- Table 05-5: HQ 0x138 + 0x40 * c [22]. -/
def HQ.LOWDUTY (q c : Nat) : Fld := ⟨0x10 + q, 0x138 + 0x40 * c, 22, 1, .rwl, .warm, 0, .plain⟩
/-- Table 05-6: HQ 0x13C + 0x40 * c [3:0]. -/
def HQ.DIAG_CODE (q c : Nat) : Fld := ⟨0x10 + q, 0x13C + 0x40 * c, 0, 4, .ro, .warm, 0, .plain⟩
/-- Table 05-6: HQ 0x13C + 0x40 * c [4]. -/
def HQ.DIAG_BUSY (q c : Nat) : Fld := ⟨0x10 + q, 0x13C + 0x40 * c, 4, 1, .ro, .warm, 0, .plain⟩
/-- Table 05-6: HQ 0x13C + 0x40 * c [7:5]. -/
def HQ.DIAG_KIND (q c : Nat) : Fld := ⟨0x10 + q, 0x13C + 0x40 * c, 5, 3, .ro, .warm, 0, .plain⟩
/-- Table 05-6: HQ 0x13C + 0x40 * c [17:8]. -/
def HQ.V_MEAS (q c : Nat) : Fld := ⟨0x10 + q, 0x13C + 0x40 * c, 8, 10, .ro, .warm, 0, .plain⟩
/-- Table 05-6: HQ 0x13C + 0x40 * c [29:27]. -/
def HQ.DIAG_REQ (q c : Nat) : Fld := ⟨0x10 + q, 0x13C + 0x40 * c, 27, 3, .wo, .warm, 0, .plain⟩
/-- Table 05-6: HQ 0x13C + 0x40 * c [30]. -/
def HQ.DIAG_REQ_GO (q c : Nat) : Fld := ⟨0x10 + q, 0x13C + 0x40 * c, 30, 1, .wo, .warm, 0, .plain⟩
/-- Table 05-7: DIA 0x100 [0]. -/
def DIA.POP_OWNER : Fld := ⟨0x14, 0x100, 0, 1, .rwl, .warm, 0, .plain⟩
/-- Table 05-7: DIA 0x104 [5:0]. -/
def DIA.FIFO_LVL : Fld := ⟨0x14, 0x104, 0, 6, .ro, .warm, 0, .plain⟩
/-- Table 05-7: DIA 0x104 [14:8]. -/
def DIA.BUSY_N : Fld := ⟨0x14, 0x104, 8, 7, .ro, .warm, 0, .plain⟩
/-- Table 05-7: DIA 0x108 [6:0]. -/
def DIA.CHG_OUT : Fld := ⟨0x14, 0x108, 0, 7, .rc, .warm, 0, .plain⟩
/-- Table 05-7: DIA 0x108 [7]. -/
def DIA.CHG_VALID : Fld := ⟨0x14, 0x108, 7, 1, .rc, .warm, 0, .plain⟩
/-- Table 05-7: DIA 0x108 [11:8]. -/
def DIA.CHG_OLD : Fld := ⟨0x14, 0x108, 8, 4, .rc, .warm, 0, .plain⟩
/-- Table 05-7: DIA 0x108 [15:12]. -/
def DIA.CHG_NEW : Fld := ⟨0x14, 0x108, 12, 4, .rc, .warm, 0, .plain⟩
/-- Table 05-7: DIA 0x108 [31:16]. -/
def DIA.CHG_TICK16 : Fld := ⟨0x14, 0x108, 16, 16, .rc, .warm, 0, .plain⟩
/-- Table 05-7: DIA 0x10C [15:0]. -/
def DIA.FIFO_LOST : Fld := ⟨0x14, 0x10C, 0, 16, .rc, .keep, 0, .plain⟩
/-- Table 05-7: DIA 0x110 [15:0]. -/
def DIA.REQ_REJ_CNT : Fld := ⟨0x14, 0x110, 0, 16, .rc, .warm, 0, .plain⟩
/-- Table 05-7: DIA 0x114 [15:0]. -/
def DIA.FAULT_CNT : Fld := ⟨0x14, 0x114, 0, 16, .rc, .keep, 0, .plain⟩
/-- Table 05-7: DIA 0x120 + 0x4 * i [31:0]. -/
def DIA.SUMMARY (i : Nat) : Fld := ⟨0x14, 0x120 + 0x4 * i, 0, 32, .ro, .warm, 0, .plain⟩
/-- Table 06-4: MOT 0x100 + 0x20 * k [0]. -/
def MOT.BR_EN (k : Nat) : Fld := ⟨0x15, 0x100 + 0x20 * k, 0, 1, .rwl, .warm, 0, .plain⟩
/-- Table 06-4: MOT 0x100 + 0x20 * k [2:1]. -/
def MOT.STALL_ACT (k : Nat) : Fld := ⟨0x15, 0x100 + 0x20 * k, 1, 2, .rwl, .warm, 2, .clamp 0 2⟩
/-- Table 06-4: MOT 0x100 + 0x20 * k [15:8]. -/
def MOT.REV_BRAKE (k : Nat) : Fld := ⟨0x15, 0x100 + 0x20 * k, 8, 8, .rwl, .warm, 20, .plain⟩
/-- Table 06-4: MOT 0x100 + 0x20 * k [18:16]. -/
def MOT.QPAIR (k : Nat) : Fld := ⟨0x15, 0x100 + 0x20 * k, 16, 3, .rwl, .warm, 0, .outside 0 4 0⟩
/-- Table 06-4: MOT 0x100 + 0x20 * k [31:24]. -/
def MOT.MASK (k : Nat) : Fld := ⟨0x15, 0x100 + 0x20 * k, 24, 8, .rwl, .warm, 100, .plain⟩
/-- Table 06-4: MOT 0x104 + 0x20 * k [7:0]. -/
def MOT.RAMP_UP (k : Nat) : Fld := ⟨0x15, 0x104 + 0x20 * k, 0, 8, .rwl, .warm, 0, .plain⟩
/-- Table 06-4: MOT 0x104 + 0x20 * k [15:8]. -/
def MOT.RAMP_DN (k : Nat) : Fld := ⟨0x15, 0x104 + 0x20 * k, 8, 8, .rwl, .warm, 0, .plain⟩
/-- Table 06-4: MOT 0x104 + 0x20 * k [27:16]. -/
def MOT.ICHOP (k : Nat) : Fld := ⟨0x15, 0x104 + 0x20 * k, 16, 12, .rwl, .warm, 0, .plain⟩
/-- Table 06-4: MOT 0x108 + 0x20 * k [11:0]. -/
def MOT.STALL_I (k : Nat) : Fld := ⟨0x15, 0x108 + 0x20 * k, 0, 12, .rwl, .warm, 0, .plain⟩
/-- Table 06-4: MOT 0x108 + 0x20 * k [19:12]. -/
def MOT.STALL_T (k : Nat) : Fld := ⟨0x15, 0x108 + 0x20 * k, 12, 8, .rwl, .warm, 20, .clamp 1 255⟩
/-- Table 06-4: MOT 0x108 + 0x20 * k [27:20]. -/
def MOT.HALL_T (k : Nat) : Fld := ⟨0x15, 0x108 + 0x20 * k, 20, 8, .rwl, .warm, 0, .plain⟩
/-- Table 06-4: MOT 0x10C + 0x20 * k [2:0]. -/
def MOT.MODE (k : Nat) : Fld := ⟨0x15, 0x10C + 0x20 * k, 0, 3, .rw, .warm, 0, .outside 0 4 0⟩
/-- Table 06-4: MOT 0x10C + 0x20 * k [27:16]. -/
def MOT.DUTY (k : Nat) : Fld := ⟨0x15, 0x10C + 0x20 * k, 16, 12, .rw, .warm, 0, .plain⟩
/-- Table 06-4: MOT 0x110 + 0x20 * k [2:0]. -/
def MOT.APPLIED (k : Nat) : Fld := ⟨0x15, 0x110 + 0x20 * k, 0, 3, .ro, .warm, 0, .plain⟩
/-- Table 06-4: MOT 0x110 + 0x20 * k [3]. -/
def MOT.STOPPED (k : Nat) : Fld := ⟨0x15, 0x110 + 0x20 * k, 3, 1, .ro, .warm, 0, .plain⟩
/-- Table 06-4: MOT 0x110 + 0x20 * k [4]. -/
def MOT.CUR_STALL (k : Nat) : Fld := ⟨0x15, 0x110 + 0x20 * k, 4, 1, .ro, .warm, 0, .plain⟩
/-- Table 06-4: MOT 0x110 + 0x20 * k [5]. -/
def MOT.HALL_STALL (k : Nat) : Fld := ⟨0x15, 0x110 + 0x20 * k, 5, 1, .ro, .warm, 0, .plain⟩
/-- Table 06-4: MOT 0x110 + 0x20 * k [6]. -/
def MOT.REVERSING (k : Nat) : Fld := ⟨0x15, 0x110 + 0x20 * k, 6, 1, .ro, .warm, 0, .plain⟩
/-- Table 06-4: MOT 0x110 + 0x20 * k [7]. -/
def MOT.MASKED (k : Nat) : Fld := ⟨0x15, 0x110 + 0x20 * k, 7, 1, .ro, .warm, 0, .plain⟩
/-- Table 06-4: MOT 0x110 + 0x20 * k [8]. -/
def MOT.CHOP (k : Nat) : Fld := ⟨0x15, 0x110 + 0x20 * k, 8, 1, .ro, .warm, 0, .plain⟩
/-- Table 06-4: MOT 0x110 + 0x20 * k [27:16]. -/
def MOT.DUTY_APPL (k : Nat) : Fld := ⟨0x15, 0x110 + 0x20 * k, 16, 12, .ro, .warm, 0, .plain⟩
/-- Table 06-4: MOT 0x114 + 0x20 * k [15:0]. -/
def MOT.STALL_CNT (k : Nat) : Fld := ⟨0x15, 0x114 + 0x20 * k, 0, 16, .rc, .keep, 0, .plain⟩
/-- Table 06-4: MOT 0x114 + 0x20 * k [31:16]. -/
def MOT.CHOP_CNT (k : Nat) : Fld := ⟨0x15, 0x114 + 0x20 * k, 16, 16, .rc, .warm, 0, .plain⟩
/-- Table 06-4: MOT 0x118 + 0x20 * k [11:0]. -/
def MOT.IBR (k : Nat) : Fld := ⟨0x15, 0x118 + 0x20 * k, 0, 12, .ro, .warm, 0, .plain⟩
/-- Table 06-4: MOT 0x118 + 0x20 * k [27:16]. -/
def MOT.IBR_PEAK (k : Nat) : Fld := ⟨0x15, 0x118 + 0x20 * k, 16, 12, .rc, .warm, 0, .plain⟩
/-- Table 06-5: MOT 0x200 + 0x20 * j [0]. -/
def MOT.QD_EN (j : Nat) : Fld := ⟨0x15, 0x200 + 0x20 * j, 0, 1, .rwl, .warm, 0, .plain⟩
/-- Table 06-5: MOT 0x200 + 0x20 * j [1]. -/
def MOT.INV (j : Nat) : Fld := ⟨0x15, 0x200 + 0x20 * j, 1, 1, .rwl, .warm, 0, .plain⟩
/-- Table 06-5: MOT 0x200 + 0x20 * j [3:2]. -/
def MOT.FILT (j : Nat) : Fld := ⟨0x15, 0x200 + 0x20 * j, 2, 2, .rwl, .warm, 1, .plain⟩
/-- Table 06-5: MOT 0x204 + 0x20 * j [31:0]. -/
def MOT.QD_POS (j : Nat) : Fld := ⟨0x15, 0x204 + 0x20 * j, 0, 32, .rw, .keep, 0, .plain⟩
/-- Table 06-5: MOT 0x208 + 0x20 * j [31:0]. -/
def MOT.QD_PERIOD (j : Nat) : Fld := ⟨0x15, 0x208 + 0x20 * j, 0, 32, .ro, .keep, 4294967295, .plain⟩
/-- Table 06-5: MOT 0x20C + 0x20 * j [31:0]. -/
def MOT.LAST_TS (j : Nat) : Fld := ⟨0x15, 0x20C + 0x20 * j, 0, 32, .ro, .keep, 0, .plain⟩
/-- Table 06-5: MOT 0x210 + 0x20 * j [1:0]. -/
def MOT.QD_DIR (j : Nat) : Fld := ⟨0x15, 0x210 + 0x20 * j, 0, 2, .ro, .keep, 0, .plain⟩
/-- Table 06-5: MOT 0x210 + 0x20 * j [2]. -/
def MOT.QD_POS_OK (j : Nat) : Fld := ⟨0x15, 0x210 + 0x20 * j, 2, 1, .ro, .keep, 0, .plain⟩
/-- Table 06-5: MOT 0x210 + 0x20 * j [23:8]. -/
def MOT.ERR_CNT (j : Nat) : Fld := ⟨0x15, 0x210 + 0x20 * j, 8, 16, .rc, .keep, 0, .plain⟩
/-- Table 06-5: MOT 0x214 + 0x20 * j [31:0]. -/
def MOT.SNAP_POS (j : Nat) : Fld := ⟨0x15, 0x214 + 0x20 * j, 0, 32, .ro, .warm, 0, .plain⟩
/-- Table 06-5: MOT 0x218 + 0x20 * j [31:0]. -/
def MOT.SNAP_PERIOD (j : Nat) : Fld := ⟨0x15, 0x218 + 0x20 * j, 0, 32, .ro, .warm, 4294967295, .plain⟩
/-- Table 06-5: MOT 0x21C + 0x20 * j [1:0]. -/
def MOT.SNAP_DIR (j : Nat) : Fld := ⟨0x15, 0x21C + 0x20 * j, 0, 2, .ro, .warm, 0, .plain⟩
/-- Table 06-5: MOT 0x21C + 0x20 * j [2]. -/
def MOT.SNAP_POS_OK (j : Nat) : Fld := ⟨0x15, 0x21C + 0x20 * j, 2, 1, .ro, .warm, 0, .plain⟩
/-- Table 06-5: MOT 0x21C + 0x20 * j [15:8]. -/
def MOT.SNAP_EDGES (j : Nat) : Fld := ⟨0x15, 0x21C + 0x20 * j, 8, 8, .ro, .warm, 0, .plain⟩
/-- Table 06-6: MOT 0x300 [15:0]. -/
def MOT.REJ_CNT : Fld := ⟨0x15, 0x300, 0, 16, .rc, .warm, 0, .plain⟩
/-- Table 06-6: MOT 0x304 [2:0]. -/
def MOT.REJ_BR : Fld := ⟨0x15, 0x304, 0, 3, .ro, .warm, 0, .plain⟩
/-- Table 06-6: MOT 0x304 [9:8]. -/
def MOT.REJ_CAUSE : Fld := ⟨0x15, 0x304, 8, 2, .ro, .warm, 0, .plain⟩
/-- Table 07-3: LED 0x100 + 0x10 * n [9:0]. -/
def LED.I_SET (n : Nat) : Fld := ⟨0x18, 0x100 + 0x10 * n, 0, 10, .rwl, .warm, 0, .clamp 0 1000⟩
/-- Table 07-3: LED 0x100 + 0x10 * n [12:10]. -/
def LED.SRC (n : Nat) : Fld := ⟨0x18, 0x100 + 0x10 * n, 10, 3, .rwl, .warm, 0, .outside 0 5 0⟩
/-- Table 07-3: LED 0x100 + 0x10 * n [19:16]. -/
def LED.SLOT (n : Nat) : Fld := ⟨0x18, 0x100 + 0x10 * n, 16, 4, .rwl, .warm, 0, .plain⟩
/-- Table 07-3: LED 0x100 + 0x10 * n [21:20]. -/
def LED.SINK_SAFE (n : Nat) : Fld := ⟨0x18, 0x100 + 0x10 * n, 20, 2, .rwl, .warm, 0, .outside 0 2 0⟩
/-- Table 07-3: LED 0x104 + 0x10 * n [15:0]. -/
def LED.SINK_DUTY (n : Nat) : Fld := ⟨0x18, 0x104 + 0x10 * n, 0, 16, .rw, .warm, 0, .plain⟩
/-- Table 07-3: LED 0x108 + 0x10 * n [15:0]. -/
def LED.APPLIED (n : Nat) : Fld := ⟨0x18, 0x108 + 0x10 * n, 0, 16, .ro, .warm, 0, .plain⟩
/-- Table 07-3: LED 0x108 + 0x10 * n [17:16]. -/
def LED.OWN_EFF (n : Nat) : Fld := ⟨0x18, 0x108 + 0x10 * n, 16, 2, .ro, .warm, 0, .plain⟩
/-- Table 07-3: LED 0x108 + 0x10 * n [18]. -/
def LED.OPEN (n : Nat) : Fld := ⟨0x18, 0x108 + 0x10 * n, 18, 1, .ro, .warm, 0, .plain⟩
/-- Table 07-3: LED 0x108 + 0x10 * n [27:20]. -/
def LED.DROP (n : Nat) : Fld := ⟨0x18, 0x108 + 0x10 * n, 20, 8, .ro, .warm, 0, .plain⟩
/-- Table 07-4: LED 0x400 [1:0]. -/
def LED.PERIOD : Fld := ⟨0x18, 0x400, 0, 2, .rwl, .warm, 2, .plain⟩
/-- Table 07-4: LED 0x400 [27:16]. -/
def LED.AGG_LIM : Fld := ⟨0x18, 0x400, 16, 12, .rwl, .warm, 2400, .clamp 0 2400⟩
/-- Table 07-4: LED 0x404 [0]. -/
def LED.SCALED : Fld := ⟨0x18, 0x404, 0, 1, .ro, .warm, 0, .plain⟩
/-- Table 07-4: LED 0x404 [1]. -/
def LED.SAFE : Fld := ⟨0x18, 0x404, 1, 1, .ro, .warm, 0, .plain⟩
/-- Table 07-4: LED 0x404 [2]. -/
def LED.HOLD : Fld := ⟨0x18, 0x404, 2, 1, .ro, .warm, 0, .plain⟩
/-- Table 07-4: LED 0x404 [4:3]. -/
def LED.WATCH : Fld := ⟨0x18, 0x404, 3, 2, .ro, .warm, 0, .plain⟩
/-- Table 07-4: LED 0x408 [16:0]. -/
def LED.HB_TO : Fld := ⟨0x18, 0x408, 0, 17, .rwl, .warm, 100, .clamp 30 100000⟩
/-- Table 07-4: LED 0x40C [0]. -/
def LED.SAFE_REL : Fld := ⟨0x18, 0x40C, 0, 1, .wo, .warm, 0, .plain⟩
/-- Table 07-4: LED 0x40C [29:16]. -/
def LED.HOLD_LIM : Fld := ⟨0x18, 0x40C, 16, 14, .rwl, .warm, 500, .plain⟩
/-- Table 07-4: LED 0x410 [7:0]. -/
def LED.HR_LO : Fld := ⟨0x18, 0x410, 0, 8, .rwl, .warm, 24, .plain⟩
/-- Table 07-4: LED 0x410 [15:8]. -/
def LED.HR_HI : Fld := ⟨0x18, 0x410, 8, 8, .rwl, .warm, 40, .plain⟩
/-- Table 07-4: LED 0x414 [7:0]. -/
def LED.HR_DUTY : Fld := ⟨0x18, 0x414, 0, 8, .ro, .warm, 0, .plain⟩
/-- Table 07-4: LED 0x414 [15:8]. -/
def LED.MIN_DROP : Fld := ⟨0x18, 0x414, 8, 8, .ro, .warm, 0, .plain⟩
/-- Table 07-4: LED 0x414 [23:16]. -/
def LED.HR_SAFE : Fld := ⟨0x18, 0x414, 16, 8, .rwl, .warm, 255, .plain⟩
/-- Table 07-4: LED 0x418 [5:0]. -/
def LED.GROUP_OT : Fld := ⟨0x18, 0x418, 0, 6, .ro, .warm, 0, .plain⟩
/-- Table 07-4: LED 0x418 [13:8]. -/
def LED.LATCHED : Fld := ⟨0x18, 0x418, 8, 6, .ro, .keep, 0, .plain⟩
/-- Table 07-4: LED 0x418 [19:16]. -/
def LED.TH_M : Fld := ⟨0x18, 0x418, 16, 4, .rwl, .warm, 3, .clamp 1 15⟩
/-- Table 07-4: LED 0x418 [31]. -/
def LED.LATCH_CLR : Fld := ⟨0x18, 0x418, 31, 1, .wo, .warm, 0, .plain⟩
/-- Table 07-4: LED 0x41C [0]. -/
def LED.NB_GO : Fld := ⟨0x18, 0x41C, 0, 1, .wo, .warm, 0, .plain⟩
/-- Table 07-4: LED 0x41C [1]. -/
def LED.NB_BUSY : Fld := ⟨0x18, 0x41C, 1, 1, .ro, .warm, 0, .plain⟩
/-- Table 07-4: LED 0x420 + 0x4 * i [22:0]. -/
def LED.NB_SHORT (i : Nat) : Fld := ⟨0x18, 0x420 + 0x4 * i, 0, 23, .ro, .warm, 0, .plain⟩
/-- Table 07-4: LED 0x428 + 0x4 * i [23:0]. -/
def LED.NB_SKIP (i : Nat) : Fld := ⟨0x18, 0x428 + 0x4 * i, 0, 24, .ro, .warm, 0, .plain⟩
/-- Table 07-4: LED 0x430 + 0x4 * i [23:0]. -/
def LED.NB_LOW (i : Nat) : Fld := ⟨0x18, 0x430 + 0x4 * i, 0, 24, .ro, .warm, 0, .plain⟩
/-- Table 07-4: LED 0x438 [15:0]. -/
def LED.SCALE_CNT : Fld := ⟨0x18, 0x438, 0, 16, .rc, .keep, 0, .plain⟩
/-- Table 07-4: LED 0x438 [31:16]. -/
def LED.SILENCE_CNT : Fld := ⟨0x18, 0x438, 16, 16, .rc, .keep, 0, .plain⟩
/-- Table 07-4: LED 0x43C [15:0]. -/
def LED.OPEN_CNT : Fld := ⟨0x18, 0x43C, 0, 16, .rc, .keep, 0, .plain⟩
/-- Table 07-4: LED 0x43C [31:16]. -/
def LED.VNK_REJ_CNT : Fld := ⟨0x18, 0x43C, 16, 16, .rc, .warm, 0, .plain⟩
/-- Table 07-4: LED 0x440 [15:0]. -/
def LED.QEVT_LOST : Fld := ⟨0x18, 0x440, 0, 16, .rc, .keep, 0, .plain⟩
/-- Table 07-4: LED 0x440 [31:16]. -/
def LED.HOLD_EXP_CNT : Fld := ⟨0x18, 0x440, 16, 16, .rc, .keep, 0, .plain⟩
/-- Table 07-5: TOP 0x100 + 0x40 * e [8:0]. -/
def TOP.LEN (e : Nat) : Fld := ⟨0x19, 0x100 + 0x40 * e, 0, 9, .rwl, .warm, 0, .plain⟩
/-- Table 07-5: TOP 0x100 + 0x40 * e [19:16]. -/
def TOP.RSTEP (e : Nat) : Fld := ⟨0x19, 0x100 + 0x40 * e, 16, 4, .rwl, .warm, 1, .clamp 1 15⟩
/-- Table 07-5: TOP 0x104 + 0x40 * e [2:0]. -/
def TOP.CMD_OP (e : Nat) : Fld := ⟨0x19, 0x104 + 0x40 * e, 0, 3, .wo, .warm, 0, .plain⟩
/-- Table 07-5: TOP 0x104 + 0x40 * e [15:8]. -/
def TOP.CMD_ADDR (e : Nat) : Fld := ⟨0x19, 0x104 + 0x40 * e, 8, 8, .wo, .warm, 0, .plain⟩
/-- Table 07-5: TOP 0x104 + 0x40 * e [31]. -/
def TOP.CMD_GO (e : Nat) : Fld := ⟨0x19, 0x104 + 0x40 * e, 31, 1, .wo, .warm, 0, .plain⟩
/-- Table 07-5: TOP 0x108 + 0x40 * e [1:0]. -/
def TOP.STATE (e : Nat) : Fld := ⟨0x19, 0x108 + 0x40 * e, 0, 2, .ro, .warm, 0, .plain⟩
/-- Table 07-5: TOP 0x108 + 0x40 * e [15:8]. -/
def TOP.PC (e : Nat) : Fld := ⟨0x19, 0x108 + 0x40 * e, 8, 8, .ro, .warm, 0, .plain⟩
/-- Table 07-5: TOP 0x108 + 0x40 * e [18:16]. -/
def TOP.FCAUSE (e : Nat) : Fld := ⟨0x19, 0x108 + 0x40 * e, 16, 3, .ro, .warm, 0, .plain⟩
/-- Table 07-5: TOP 0x10C + 0x40 * e [15:0]. -/
def TOP.P (e : Nat) : Fld := ⟨0x19, 0x10C + 0x40 * e, 0, 16, .ro, .warm, 0, .plain⟩
/-- Table 07-5: TOP 0x110 + 0x40 * e [15:0]. -/
def TOP.IA (e : Nat) : Fld := ⟨0x19, 0x110 + 0x40 * e, 0, 16, .ro, .warm, 0, .plain⟩
/-- Table 07-5: TOP 0x110 + 0x40 * e [31:16]. -/
def TOP.IB (e : Nat) : Fld := ⟨0x19, 0x110 + 0x40 * e, 16, 16, .ro, .warm, 0, .plain⟩
/-- Table 07-5: TOP 0x114 + 0x40 * e [31:0]. -/
def TOP.C (e : Nat) : Fld := ⟨0x19, 0x114 + 0x40 * e, 0, 32, .ro, .warm, 0, .plain⟩
/-- Table 07-5: TOP 0x120 + 0x40 * e + 0x4 * i [31:0]. -/
def TOP.LV (e i : Nat) : Fld := ⟨0x19, 0x120 + 0x40 * e + 0x4 * i, 0, 32, .rwl, .warm, 0, .plain⟩
/-- Table 07-5: TOP 0x200 [3:0]. -/
def TOP.FLAGS : Fld := ⟨0x19, 0x200, 0, 4, .ro, .warm, 0, .plain⟩
/-- Table 07-5: TOP 0x204 [15:0]. -/
def TOP.FAULT_CNT : Fld := ⟨0x19, 0x204, 0, 16, .rc, .keep, 0, .plain⟩
/-- Table 07-5: TOP 0x204 [31:16]. -/
def TOP.PROG_REJ_CNT : Fld := ⟨0x19, 0x204, 16, 16, .rc, .warm, 0, .plain⟩
/-- Table 07-5: TOP 0x800 + 0x200 * e + 0x4 * i [31:0]. -/
def TOP.PROG (e i : Nat) : Fld := ⟨0x19, 0x800 + 0x200 * e + 0x4 * i, 0, 32, .rwl, .warm, 0, .plain⟩
/-- Table 07-6: CLR 0x100 + 0x4 * i [0]. -/
def CLR.BUS_EN (i : Nat) : Fld := ⟨0x1A, 0x100 + 0x4 * i, 0, 1, .rwl, .warm, 0, .plain⟩
/-- Table 07-6: CLR 0x100 + 0x4 * i [1]. -/
def CLR.FAST (i : Nat) : Fld := ⟨0x1A, 0x100 + 0x4 * i, 1, 1, .rwl, .warm, 1, .plain⟩
/-- Table 07-6: CLR 0x108 [7:0]. -/
def CLR.PERIOD : Fld := ⟨0x1A, 0x108, 0, 8, .rwl, .warm, 20, .clamp 1 255⟩
/-- Table 07-6: CLR 0x10C [15:0]. -/
def CLR.OVERRUN_CNT : Fld := ⟨0x1A, 0x10C, 0, 16, .rc, .keep, 0, .plain⟩
/-- Table 07-6: CLR 0x10C [31:16]. -/
def CLR.RECOV_CNT : Fld := ⟨0x1A, 0x10C, 16, 16, .rc, .keep, 0, .plain⟩
/-- Table 07-6: CLR 0x200 + 0x40 * t [0]. -/
def CLR.TRI_EN (t : Nat) : Fld := ⟨0x1A, 0x200 + 0x40 * t, 0, 1, .rwl, .warm, 0, .plain⟩
/-- Table 07-6: CLR 0x200 + 0x40 * t [1]. -/
def CLR.TRI_BUS (t : Nat) : Fld := ⟨0x1A, 0x200 + 0x40 * t, 1, 1, .rwl, .warm, 0, .plain⟩
/-- Table 07-6: CLR 0x200 + 0x40 * t [8:2]. -/
def CLR.TRI_ADDR (t : Nat) : Fld := ⟨0x1A, 0x200 + 0x40 * t, 2, 7, .rwl, .warm, 0, .plain⟩
/-- Table 07-6: CLR 0x200 + 0x40 * t [23:16]. -/
def CLR.TRI_REG (t : Nat) : Fld := ⟨0x1A, 0x200 + 0x40 * t, 16, 8, .rwl, .warm, 0, .plain⟩
/-- Table 07-6: CLR 0x200 + 0x40 * t [24]. -/
def CLR.BE (t : Nat) : Fld := ⟨0x1A, 0x200 + 0x40 * t, 24, 1, .rwl, .warm, 0, .plain⟩
/-- Table 07-6: CLR 0x200 + 0x40 * t [28:25]. -/
def CLR.GAIN (t : Nat) : Fld := ⟨0x1A, 0x200 + 0x40 * t, 25, 4, .rwl, .warm, 4, .clamp 1 15⟩
/-- Table 07-6: CLR 0x204 + 0x40 * t + 0x4 * i [31:0]. -/
def CLR.M (t i : Nat) : Fld := ⟨0x1A, 0x204 + 0x40 * t + 0x4 * i, 0, if i = 4 then 16 else 32, .rwl, .warm, 0, .plain⟩
/-- Table 07-6: CLR 0x218 + 0x40 * t [15:0]. -/
def CLR.X (t : Nat) : Fld := ⟨0x1A, 0x218 + 0x40 * t, 0, 16, .rw, .warm, 0, .plain⟩
/-- Table 07-6: CLR 0x218 + 0x40 * t [31:16]. -/
def CLR.Y (t : Nat) : Fld := ⟨0x1A, 0x218 + 0x40 * t, 16, 16, .rw, .warm, 0, .plain⟩
/-- Table 07-6: CLR 0x21C + 0x40 * t [15:0]. -/
def CLR.LUM (t : Nat) : Fld := ⟨0x1A, 0x21C + 0x40 * t, 0, 16, .rw, .warm, 0, .plain⟩
/-- Table 07-6: CLR 0x21C + 0x40 * t [31]. -/
def CLR.APPLY (t : Nat) : Fld := ⟨0x1A, 0x21C + 0x40 * t, 31, 1, .wo, .warm, 0, .plain⟩
/-- Table 07-6: CLR 0x220 + 0x40 * t + 0x4 * i [31:0]. -/
def CLR.ST (t i : Nat) : Fld := ⟨0x1A, 0x220 + 0x40 * t + 0x4 * i, 0, 32, .ro, .warm, 0, .plain⟩
/-- Table 07-6: CLR 0x228 + 0x40 * t + 0x4 * i [31:0]. -/
def CLR.MEAS (t i : Nat) : Fld := ⟨0x1A, 0x228 + 0x40 * t + 0x4 * i, 0, 32, .ro, .warm, 0, .plain⟩
/-- Table 07-6: CLR 0x230 + 0x40 * t [31:0]. -/
def CLR.MXY (t : Nat) : Fld := ⟨0x1A, 0x230 + 0x40 * t, 0, 32, .ro, .warm, 0, .plain⟩
/-- Table 07-6: CLR 0x234 + 0x40 * t [15:0]. -/
def CLR.MLUM (t : Nat) : Fld := ⟨0x1A, 0x234 + 0x40 * t, 0, 16, .ro, .warm, 0, .plain⟩
/-- Table 07-6: CLR 0x234 + 0x40 * t [17:16]. -/
def CLR.TRI_STATE (t : Nat) : Fld := ⟨0x1A, 0x234 + 0x40 * t, 16, 2, .ro, .warm, 0, .plain⟩
/-- Table 07-6: CLR 0x234 + 0x40 * t [31:24]. -/
def CLR.FAILS (t : Nat) : Fld := ⟨0x1A, 0x234 + 0x40 * t, 24, 8, .ro, .warm, 0, .plain⟩
/-- Table 07-6: CLR 0x238 + 0x40 * t + 0x4 * i [31:0]. -/
def CLR.LOOP_D (t i : Nat) : Fld := ⟨0x1A, 0x238 + 0x40 * t + 0x4 * i, 0, 32, .ro, .warm, 0, .plain⟩
/-- Table 07-6: CLR 0x600 [0]. -/
def CLR.XF_BUS : Fld := ⟨0x1A, 0x600, 0, 1, .rw, .warm, 0, .plain⟩
/-- Table 07-6: CLR 0x600 [7:1]. -/
def CLR.XF_ADDR : Fld := ⟨0x1A, 0x600, 1, 7, .rw, .warm, 0, .plain⟩
/-- Table 07-6: CLR 0x600 [12:8]. -/
def CLR.WLEN : Fld := ⟨0x1A, 0x600, 8, 5, .rw, .warm, 0, .plain⟩
/-- Table 07-6: CLR 0x600 [20:16]. -/
def CLR.RLEN : Fld := ⟨0x1A, 0x600, 16, 5, .rw, .warm, 0, .plain⟩
/-- Table 07-6: CLR 0x600 [31]. -/
def CLR.XF_GO : Fld := ⟨0x1A, 0x600, 31, 1, .wo, .warm, 0, .plain⟩
/-- Table 07-6: CLR 0x604 [0]. -/
def CLR.XF_BUSY : Fld := ⟨0x1A, 0x604, 0, 1, .ro, .warm, 0, .plain⟩
/-- Table 07-6: CLR 0x604 [1]. -/
def CLR.XF_NACK : Fld := ⟨0x1A, 0x604, 1, 1, .ro, .warm, 0, .plain⟩
/-- Table 07-6: CLR 0x610 + 0x4 * i [31:0]. -/
def CLR.XF_DATA (i : Nat) : Fld := ⟨0x1A, 0x610 + 0x4 * i, 0, 32, .rw, .warm, 0, .plain⟩
/-- Table 08-4: FIO 0x100 + 0x4 * i [1:0]. -/
def FIO.DI_SET (i : Nat) : Fld := ⟨0x16, 0x100 + 0x4 * i, 0, 2, .rwl, .warm, 2, .plain⟩
/-- Table 08-4: FIO 0x100 + 0x4 * i [3:2]. -/
def FIO.WET (i : Nat) : Fld := ⟨0x16, 0x100 + 0x4 * i, 2, 2, .rwl, .warm, 1, .clamp 0 2⟩
/-- Table 08-4: FIO 0x100 + 0x4 * i [7:4]. -/
def FIO.DEB (i : Nat) : Fld := ⟨0x16, 0x100 + 0x4 * i, 4, 4, .rwl, .warm, 3, .clamp 0 9⟩
/-- Table 08-4: FIO 0x100 + 0x4 * i [10:8]. -/
def FIO.CLEAN (i : Nat) : Fld := ⟨0x16, 0x100 + 0x4 * i, 8, 3, .rwl, .warm, 0, .clamp 0 5⟩
/-- Table 08-4: FIO 0x100 + 0x4 * i [11]. -/
def FIO.INV (i : Nat) : Fld := ⟨0x16, 0x100 + 0x4 * i, 11, 1, .rwl, .warm, 0, .plain⟩
/-- Table 08-4: FIO 0x100 + 0x4 * i [12]. -/
def FIO.PARK_EN (i : Nat) : Fld := ⟨0x16, 0x100 + 0x4 * i, 12, 1, .rwl, .keep, 0, .plain⟩
/-- Table 08-5: FIO 0x180 [31:0]. -/
def FIO.DI_RAW : Fld := ⟨0x16, 0x180, 0, 32, .ro, .warm, 0, .plain⟩
/-- Table 08-5: FIO 0x184 [31:0]. -/
def FIO.DI_FILT : Fld := ⟨0x16, 0x184, 0, 32, .ro, .warm, 0, .plain⟩
/-- Table 08-5: FIO 0x188 [31:0]. -/
def FIO.DI_EDGE : Fld := ⟨0x16, 0x188, 0, 32, .rc, .warm, 0, .plain⟩
/-- Table 08-5: FIO 0x200 + 0x10 * j [1:0]. -/
def FIO.THR (j : Nat) : Fld := ⟨0x16, 0x200 + 0x10 * j, 0, 2, .rwl, .warm, 0, .clamp 0 2⟩
/-- Table 08-5: FIO 0x200 + 0x10 * j [3:2]. -/
def FIO.EDGE (j : Nat) : Fld := ⟨0x16, 0x200 + 0x10 * j, 2, 2, .rwl, .warm, 0, .outside 0 2 0⟩
/-- Table 08-5: FIO 0x200 + 0x10 * j [4]. -/
def FIO.CI_EN (j : Nat) : Fld := ⟨0x16, 0x200 + 0x10 * j, 4, 1, .rwl, .warm, 0, .plain⟩
/-- Table 08-5: FIO 0x200 + 0x10 * j [17:8]. -/
def FIO.GATE (j : Nat) : Fld := ⟨0x16, 0x200 + 0x10 * j, 8, 10, .rwl, .warm, 100, .clamp 1 1023⟩
/-- Table 08-5: FIO 0x204 + 0x10 * j [31:0]. -/
def FIO.CI_COUNT (j : Nat) : Fld := ⟨0x16, 0x204 + 0x10 * j, 0, 32, .ro, .keep, 0, .plain⟩
/-- Table 08-5: FIO 0x208 + 0x10 * j [31:0]. -/
def FIO.CI_PERIOD (j : Nat) : Fld := ⟨0x16, 0x208 + 0x10 * j, 0, 32, .ro, .warm, 4294967295, .plain⟩
/-- Table 08-5: FIO 0x20C + 0x10 * j [15:0]. -/
def FIO.NWIN (j : Nat) : Fld := ⟨0x16, 0x20C + 0x10 * j, 0, 16, .ro, .warm, 0, .plain⟩
/-- Table 08-5: FIO 0x20C + 0x10 * j [16]. -/
def FIO.STALE (j : Nat) : Fld := ⟨0x16, 0x20C + 0x10 * j, 16, 1, .ro, .warm, 1, .plain⟩
/-- Table 08-5: FIO 0x20C + 0x10 * j [17]. -/
def FIO.SAT (j : Nat) : Fld := ⟨0x16, 0x20C + 0x10 * j, 17, 1, .ro, .warm, 0, .plain⟩
/-- Table 08-6: FIO 0x320 [7:0]. -/
def FIO.LS_VAL : Fld := ⟨0x16, 0x320, 0, 8, .rw, .warm, 0, .plain⟩
/-- Table 08-6: FIO 0x320 [15:8]. -/
def FIO.LS_MASK : Fld := ⟨0x16, 0x320, 8, 8, .wo, .warm, 0, .plain⟩
/-- Table 08-6: FIO 0x324 [7:0]. -/
def FIO.LS_OUT : Fld := ⟨0x16, 0x324, 0, 8, .ro, .warm, 0, .plain⟩
/-- Table 08-6: FIO 0x324 [15:8]. -/
def FIO.LS_LOCK : Fld := ⟨0x16, 0x324, 8, 8, .ro, .keep, 0, .plain⟩
/-- Table 08-6: FIO 0x324 [31:16]. -/
def FIO.LS_OWN : Fld := ⟨0x16, 0x324, 16, 16, .ro, .warm, 0, .plain⟩
/-- Table 08-7: FIO 0x340 [0]. -/
def FIO.FAULT : Fld := ⟨0x16, 0x340, 0, 1, .ro, .keep, 0, .plain⟩
/-- Table 08-7: FIO 0x340 [1]. -/
def FIO.SAFE : Fld := ⟨0x16, 0x340, 1, 1, .ro, .warm, 0, .plain⟩
/-- Table 08-7: FIO 0x340 [2]. -/
def FIO.HOLD : Fld := ⟨0x16, 0x340, 2, 1, .ro, .warm, 0, .plain⟩
/-- Table 08-7: FIO 0x340 [4:3]. -/
def FIO.WATCH : Fld := ⟨0x16, 0x340, 3, 2, .ro, .warm, 0, .plain⟩
/-- Table 08-7: FIO 0x340 [5]. -/
def FIO.DIAG_BUSY : Fld := ⟨0x16, 0x340, 5, 1, .ro, .warm, 0, .plain⟩
/-- Table 08-7: FIO 0x344 [16:0]. -/
def FIO.HB_TO : Fld := ⟨0x16, 0x344, 0, 17, .rwl, .warm, 100, .clamp 30 100000⟩
/-- Table 08-7: FIO 0x348 [0]. -/
def FIO.SAFE_REL : Fld := ⟨0x16, 0x348, 0, 1, .wo, .warm, 0, .plain⟩
/-- Table 08-7: FIO 0x348 [29:16]. -/
def FIO.HOLD_LIM : Fld := ⟨0x16, 0x348, 16, 14, .rwl, .warm, 500, .plain⟩
/-- Table 08-7: FIO 0x34C [6:0]. -/
def FIO.PARK_PERIOD : Fld := ⟨0x16, 0x34C, 0, 7, .rwl, .keep, 5, .clamp 1 127⟩
/-- Table 08-7: FIO 0x34C [9:8]. -/
def FIO.CONF : Fld := ⟨0x16, 0x34C, 8, 2, .rwl, .keep, 1, .plain⟩
/-- Table 08-7: FIO 0x350 [5:0]. -/
def FIO.DIAG_CH : Fld := ⟨0x16, 0x350, 0, 6, .rw, .warm, 0, .plain⟩
/-- Table 08-7: FIO 0x350 [9:8]. -/
def FIO.DIAG_KIND : Fld := ⟨0x16, 0x350, 8, 2, .rw, .warm, 0, .plain⟩
/-- Table 08-7: FIO 0x350 [31]. -/
def FIO.DIAG_GO : Fld := ⟨0x16, 0x350, 31, 1, .wo, .warm, 0, .plain⟩
/-- Table 08-7: FIO 0x354 [5:0]. -/
def FIO.RES_CH : Fld := ⟨0x16, 0x354, 0, 6, .ro, .warm, 0, .plain⟩
/-- Table 08-7: FIO 0x354 [7:6]. -/
def FIO.RES_KIND : Fld := ⟨0x16, 0x354, 6, 2, .ro, .warm, 0, .plain⟩
/-- Table 08-7: FIO 0x354 [15:8]. -/
def FIO.RES_CAUSE : Fld := ⟨0x16, 0x354, 8, 8, .ro, .warm, 0, .plain⟩
/-- Table 08-7: FIO 0x354 [25:16]. -/
def FIO.RES_VALUE : Fld := ⟨0x16, 0x354, 16, 10, .ro, .warm, 0, .plain⟩
/-- Table 08-7: FIO 0x354 [31]. -/
def FIO.RES_VALID : Fld := ⟨0x16, 0x354, 31, 1, .ro, .warm, 0, .plain⟩
/-- Table 08-7: FIO 0x358 [15:0]. -/
def FIO.DIAG_REJ_CNT : Fld := ⟨0x16, 0x358, 0, 16, .rc, .warm, 0, .plain⟩
/-- Table 08-7: FIO 0x358 [31:16]. -/
def FIO.FAULT_CNT : Fld := ⟨0x16, 0x358, 16, 16, .rc, .keep, 0, .plain⟩
/-- Table 08-7: FIO 0x35C [15:0]. -/
def FIO.SILENCE_CNT : Fld := ⟨0x16, 0x35C, 0, 16, .rc, .keep, 0, .plain⟩
/-- Table 08-7: FIO 0x35C [31:16]. -/
def FIO.VNK_REJ_CNT : Fld := ⟨0x16, 0x35C, 16, 16, .rc, .warm, 0, .plain⟩
/-- Table 08-7: FIO 0x360 [15:0]. -/
def FIO.CLEAN_DEFER_CNT : Fld := ⟨0x16, 0x360, 0, 16, .rc, .warm, 0, .plain⟩
/-- Table 08-7: FIO 0x360 [31:16]. -/
def FIO.QEVT_LOST : Fld := ⟨0x16, 0x360, 16, 16, .rc, .keep, 0, .plain⟩
/-- Table 08-7: FIO 0x364 [15:0]. -/
def FIO.HOLD_EXP_CNT : Fld := ⟨0x16, 0x364, 0, 16, .rc, .keep, 0, .plain⟩
/-- Table 08-6: FIO 0x300 + 0x4 * k [1:0]. -/
def FIO.LS_SAFE (k : Nat) : Fld := ⟨0x16, 0x300 + 0x4 * k, 0, 2, .rwl, .warm, 0, .outside 0 2 0⟩
/-- Table 08-6: FIO 0x300 + 0x4 * k [2]. -/
def FIO.OL_EN (k : Nat) : Fld := ⟨0x16, 0x300 + 0x4 * k, 2, 1, .rwl, .warm, 1, .plain⟩
/-- Table 09-7: CAN 0x100 [1:0]. -/
def CAN.MODE (n : Nat) : Fld := ⟨0x20 + n, 0x100, 0, 2, .rwl, .warm, 0, .plain⟩
/-- Table 09-7: CAN 0x100 [2]. -/
def CAN.FD_EN (n : Nat) : Fld := ⟨0x20 + n, 0x100, 2, 1, .rwl, .warm, 0, .plain⟩
/-- Table 09-7: CAN 0x100 [3]. -/
def CAN.XL_EN (n : Nat) : Fld := ⟨0x20 + n, 0x100, 3, 1, .rwl, .warm, 0, .plain⟩
/-- Table 09-7: CAN 0x100 [4]. -/
def CAN.PEX (n : Nat) : Fld := ⟨0x20 + n, 0x100, 4, 1, .rwl, .warm, 0, .plain⟩
/-- Table 09-7: CAN 0x100 [5]. -/
def CAN.TMS (n : Nat) : Fld := ⟨0x20 + n, 0x100, 5, 1, .rwl, .warm, 0, .plain⟩
/-- Table 09-7: CAN 0x100 [6]. -/
def CAN.XL_ES (n : Nat) : Fld := ⟨0x20 + n, 0x100, 6, 1, .rwl, .warm, 0, .plain⟩
/-- Table 09-7: CAN 0x100 [7]. -/
def CAN.BO_AUTO (n : Nat) : Fld := ⟨0x20 + n, 0x100, 7, 1, .rwl, .warm, 1, .plain⟩
/-- Table 09-7: CAN 0x100 [8]. -/
def CAN.LOCK_MODE (n : Nat) : Fld := ⟨0x20 + n, 0x100, 8, 1, .rwl, .warm, 0, .plain⟩
/-- Table 09-7: CAN 0x100 [9]. -/
def CAN.BUILD (n : Nat) : Fld := ⟨0x20 + n, 0x100, 9, 1, .wo, .warm, 0, .plain⟩
/-- Table 09-7: CAN 0x100 [23:16]. -/
def CAN.RETRY_LIM (n : Nat) : Fld := ⟨0x20 + n, 0x100, 16, 8, .rwl, .warm, 0, .plain⟩
/-- Table 09-7: CAN 0x100 [31:24]. -/
def CAN.LONELY_N (n : Nat) : Fld := ⟨0x20 + n, 0x100, 24, 8, .rwl, .warm, 8, .clamp 1 255⟩
/-- Table 09-7: CAN 0x104 [1:0]. -/
def CAN.ERRST (n : Nat) : Fld := ⟨0x20 + n, 0x104, 0, 2, .ro, .warm, 3, .plain⟩
/-- Table 09-7: CAN 0x104 [2]. -/
def CAN.LONELY (n : Nat) : Fld := ⟨0x20 + n, 0x104, 2, 1, .ro, .warm, 0, .plain⟩
/-- Table 09-7: CAN 0x104 [3]. -/
def CAN.RECOV (n : Nat) : Fld := ⟨0x20 + n, 0x104, 3, 1, .ro, .warm, 0, .plain⟩
/-- Table 09-7: CAN 0x104 [4]. -/
def CAN.BUILT (n : Nat) : Fld := ⟨0x20 + n, 0x104, 4, 1, .ro, .warm, 0, .plain⟩
/-- Table 09-7: CAN 0x104 [5]. -/
def CAN.DUP (n : Nat) : Fld := ⟨0x20 + n, 0x104, 5, 1, .ro, .warm, 0, .plain⟩
/-- Table 09-7: CAN 0x104 [6]. -/
def CAN.CFG_ERR (n : Nat) : Fld := ⟨0x20 + n, 0x104, 6, 1, .ro, .warm, 0, .plain⟩
/-- Table 09-7: CAN 0x104 [13:8]. -/
def CAN.TXQ_LVL (n : Nat) : Fld := ⟨0x20 + n, 0x104, 8, 6, .ro, .warm, 0, .plain⟩
/-- Table 09-7: CAN 0x108 [7:0]. -/
def CAN.NBT_BRP (n : Nat) : Fld := ⟨0x20 + n, 0x108, 0, 8, .rwl, .warm, 4, .plain⟩
/-- Table 09-7: CAN 0x108 [15:8]. -/
def CAN.NBT_TSEG1 (n : Nat) : Fld := ⟨0x20 + n, 0x108, 8, 8, .rwl, .warm, 62, .plain⟩
/-- Table 09-7: CAN 0x108 [22:16]. -/
def CAN.NBT_TSEG2 (n : Nat) : Fld := ⟨0x20 + n, 0x108, 16, 7, .rwl, .warm, 15, .plain⟩
/-- Table 09-7: CAN 0x108 [29:23]. -/
def CAN.NBT_SJW (n : Nat) : Fld := ⟨0x20 + n, 0x108, 23, 7, .rwl, .warm, 15, .plain⟩
/-- Table 09-7: CAN 0x10C [4:0]. -/
def CAN.DBT_BRP (n : Nat) : Fld := ⟨0x20 + n, 0x10C, 0, 5, .rwl, .warm, 0, .plain⟩
/-- Table 09-7: CAN 0x10C [15:8]. -/
def CAN.DBT_TSEG1 (n : Nat) : Fld := ⟨0x20 + n, 0x10C, 8, 8, .rwl, .warm, 73, .plain⟩
/-- Table 09-7: CAN 0x10C [22:16]. -/
def CAN.DBT_TSEG2 (n : Nat) : Fld := ⟨0x20 + n, 0x10C, 16, 7, .rwl, .warm, 24, .plain⟩
/-- Table 09-7: CAN 0x10C [29:23]. -/
def CAN.DBT_SJW (n : Nat) : Fld := ⟨0x20 + n, 0x10C, 23, 7, .rwl, .warm, 24, .plain⟩
/-- Table 09-7: CAN 0x110 [4:0]. -/
def CAN.XBT_BRP (n : Nat) : Fld := ⟨0x20 + n, 0x110, 0, 5, .rwl, .warm, 0, .plain⟩
/-- Table 09-7: CAN 0x110 [15:8]. -/
def CAN.XBT_TSEG1 (n : Nat) : Fld := ⟨0x20 + n, 0x110, 8, 8, .rwl, .warm, 5, .plain⟩
/-- Table 09-7: CAN 0x110 [22:16]. -/
def CAN.XBT_TSEG2 (n : Nat) : Fld := ⟨0x20 + n, 0x110, 16, 7, .rwl, .warm, 2, .plain⟩
/-- Table 09-7: CAN 0x110 [29:23]. -/
def CAN.XBT_SJW (n : Nat) : Fld := ⟨0x20 + n, 0x110, 23, 7, .rwl, .warm, 2, .plain⟩
/-- Table 09-7: CAN 0x114 [0]. -/
def CAN.EN (n : Nat) : Fld := ⟨0x20 + n, 0x114, 0, 1, .rwl, .warm, 1, .plain⟩
/-- Table 09-7: CAN 0x114 [15:8]. -/
def CAN.TDCO_FD (n : Nat) : Fld := ⟨0x20 + n, 0x114, 8, 8, .rwl, .warm, 75, .plain⟩
/-- Table 09-7: CAN 0x114 [23:16]. -/
def CAN.TDCO_XL (n : Nat) : Fld := ⟨0x20 + n, 0x114, 16, 8, .rwl, .warm, 7, .plain⟩
/-- Table 09-7: CAN 0x114 [31:24]. -/
def CAN.TDCV (n : Nat) : Fld := ⟨0x20 + n, 0x114, 24, 8, .ro, .warm, 0, .plain⟩
/-- Table 09-7: CAN 0x118 [5:0]. -/
def CAN.PWMO (n : Nat) : Fld := ⟨0x20 + n, 0x118, 0, 6, .rwl, .warm, 1, .plain⟩
/-- Table 09-7: CAN 0x118 [13:8]. -/
def CAN.PWMS (n : Nat) : Fld := ⟨0x20 + n, 0x118, 8, 6, .rwl, .warm, 3, .plain⟩
/-- Table 09-7: CAN 0x118 [21:16]. -/
def CAN.PWML (n : Nat) : Fld := ⟨0x20 + n, 0x118, 16, 6, .rwl, .warm, 7, .plain⟩
/-- Table 09-7: CAN 0x11C [7:0]. -/
def CAN.DELAY (n : Nat) : Fld := ⟨0x20 + n, 0x11C, 0, 8, .rwl, .warm, 10, .plain⟩
/-- Table 09-7: CAN 0x11C [31]. -/
def CAN.RESTART (n : Nat) : Fld := ⟨0x20 + n, 0x11C, 31, 1, .wo, .warm, 0, .plain⟩
/-- Table 09-7: CAN 0x120 [7:0]. -/
def CAN.TEC (n : Nat) : Fld := ⟨0x20 + n, 0x120, 0, 8, .ro, .warm, 0, .plain⟩
/-- Table 09-7: CAN 0x120 [14:8]. -/
def CAN.REC (n : Nat) : Fld := ⟨0x20 + n, 0x120, 8, 7, .ro, .warm, 0, .plain⟩
/-- Table 09-7: CAN 0x120 [15]. -/
def CAN.RP (n : Nat) : Fld := ⟨0x20 + n, 0x120, 15, 1, .ro, .warm, 0, .plain⟩
/-- Table 09-7: CAN 0x120 [18:16]. -/
def CAN.LEC (n : Nat) : Fld := ⟨0x20 + n, 0x120, 16, 3, .rc, .warm, 0, .plain⟩
/-- Table 09-7: CAN 0x120 [19]. -/
def CAN.LEC_DATA (n : Nat) : Fld := ⟨0x20 + n, 0x120, 19, 1, .rc, .warm, 0, .plain⟩
/-- Table 09-7: CAN 0x124 [31:0]. -/
def CAN.TX_OK_CNT (n : Nat) : Fld := ⟨0x20 + n, 0x124, 0, 32, .rc, .keep, 0, .plain⟩
/-- Table 09-7: CAN 0x128 [31:0]. -/
def CAN.RX_OK_CNT (n : Nat) : Fld := ⟨0x20 + n, 0x128, 0, 32, .rc, .keep, 0, .plain⟩
/-- Table 09-7: CAN 0x12C [15:0]. -/
def CAN.ERRF_CNT (n : Nat) : Fld := ⟨0x20 + n, 0x12C, 0, 16, .rc, .keep, 0, .plain⟩
/-- Table 09-7: CAN 0x12C [31:16]. -/
def CAN.BO_CNT (n : Nat) : Fld := ⟨0x20 + n, 0x12C, 16, 16, .rc, .keep, 0, .plain⟩
/-- Table 09-7: CAN 0x130 [15:0]. -/
def CAN.LOST_CNT (n : Nat) : Fld := ⟨0x20 + n, 0x130, 0, 16, .rc, .keep, 0, .plain⟩
/-- Table 09-7: CAN 0x130 [31:16]. -/
def CAN.UNMATCH_CNT (n : Nat) : Fld := ⟨0x20 + n, 0x130, 16, 16, .rc, .keep, 0, .plain⟩
/-- Table 09-7: CAN 0x134 [15:0]. -/
def CAN.LONELY_CNT (n : Nat) : Fld := ⟨0x20 + n, 0x134, 0, 16, .rc, .keep, 0, .plain⟩
/-- Table 09-7: CAN 0x134 [31:16]. -/
def CAN.ABORT_CNT (n : Nat) : Fld := ⟨0x20 + n, 0x134, 16, 16, .rc, .keep, 0, .plain⟩
/-- Table 09-7: CAN 0x138 [15:0]. -/
def CAN.TXQ_FULL_CNT (n : Nat) : Fld := ⟨0x20 + n, 0x138, 0, 16, .rc, .keep, 0, .plain⟩
/-- Table 09-7: CAN 0x138 [31:16]. -/
def CAN.E2C_BUSY_CNT (n : Nat) : Fld := ⟨0x20 + n, 0x138, 16, 16, .rc, .keep, 0, .plain⟩
/-- Table 09-7: CAN 0x13C [11:0]. -/
def CAN.DEF_OBJ (n : Nat) : Fld := ⟨0x20 + n, 0x13C, 0, 12, .rwl, .warm, 4095, .plain⟩
/-- Table 09-7: CAN 0x13C [23:16]. -/
def CAN.ACK_RUN (n : Nat) : Fld := ⟨0x20 + n, 0x13C, 16, 8, .ro, .warm, 0, .plain⟩
/-- Table 09-7: CAN 0x140 [11:0]. -/
def CAN.TXQ_OBJ (n : Nat) : Fld := ⟨0x20 + n, 0x140, 0, 12, .wo, .warm, 0, .plain⟩
/-- Table 09-7: CAN 0x140 [31]. -/
def CAN.TXQ_GO (n : Nat) : Fld := ⟨0x20 + n, 0x140, 31, 1, .wo, .warm, 0, .plain⟩
/-- Table 09-7: CAN 0x144 [11:0]. -/
def CAN.LOCK_OBJ (n : Nat) : Fld := ⟨0x20 + n, 0x144, 0, 12, .ro, .warm, 4095, .plain⟩
/-- Table 09-7: CAN 0x144 [31:16]. -/
def CAN.LOCK_BROKEN_CNT (n : Nat) : Fld := ⟨0x20 + n, 0x144, 16, 16, .rc, .keep, 0, .plain⟩
/-- Table 09-7: CAN 0x180 + 0x8 * e [28:0]. -/
def CAN.COLL_ID (n e : Nat) : Fld := ⟨0x20 + n, 0x180 + 0x8 * e, 0, 29, .ro, .keep, 0, .plain⟩
/-- Table 09-7: CAN 0x180 + 0x8 * e [29]. -/
def CAN.COLL_IDE (n e : Nat) : Fld := ⟨0x20 + n, 0x180 + 0x8 * e, 29, 1, .ro, .keep, 0, .plain⟩
/-- Table 09-7: CAN 0x180 + 0x8 * e [30]. -/
def CAN.COLL_VALID (n e : Nat) : Fld := ⟨0x20 + n, 0x180 + 0x8 * e, 30, 1, .ro, .keep, 0, .plain⟩
/-- Table 09-7: CAN 0x184 + 0x8 * e [15:0]. -/
def CAN.COLL_COUNT (n e : Nat) : Fld := ⟨0x20 + n, 0x184 + 0x8 * e, 0, 16, .rc, .keep, 0, .plain⟩
/-- Table 09-7: CAN 0x184 + 0x8 * e [31:16]. -/
def CAN.COLL_TICK16 (n e : Nat) : Fld := ⟨0x20 + n, 0x184 + 0x8 * e, 16, 16, .ro, .keep, 0, .plain⟩
/-- Table 09-7: TRX 0x200 [1:0]. -/
def TRX.REQ (pg : Nat) : Fld := ⟨pg, 0x200, 0, 2, .rw, .warm, trxReqRst pg, trxReqFix pg⟩
/-- Table 09-7: TRX 0x200 [2]. -/
def TRX.WAKE_EN (pg : Nat) : Fld := ⟨pg, 0x200, 2, 1, .rwl, .warm, 1, .plain⟩
/-- Table 09-7: TRX 0x200 [4:3]. -/
def TRX.WFLT (pg : Nat) : Fld := ⟨pg, 0x200, 3, 2, .rwl, .warm, 1, trxWfltFix pg⟩
/-- Table 09-7: TRX 0x204 [1:0]. -/
def TRX.STATE (pg : Nat) : Fld := ⟨pg, 0x204, 0, 2, .ro, .keep, 0, .plain⟩
/-- Table 09-7: TRX 0x204 [2]. -/
def TRX.VCC_ON (pg : Nat) : Fld := ⟨pg, 0x204, 2, 1, .ro, .keep, 0, .plain⟩
/-- Table 09-7: TRX 0x204 [3]. -/
def TRX.BUSY (pg : Nat) : Fld := ⟨pg, 0x204, 3, 1, .ro, .warm, 0, .plain⟩
/-- Table 09-7: TRX 0x204 [4]. -/
def TRX.WAKE (pg : Nat) : Fld := ⟨pg, 0x204, 4, 1, .w1c, .keep, 0, .plain⟩
/-- Table 09-7: TRX 0x204 [5]. -/
def TRX.TXD_TO (pg : Nat) : Fld := ⟨pg, 0x204, 5, 1, .w1c, .warm, 0, .plain⟩
/-- Table 09-7: TRX 0x204 [6]. -/
def TRX.BUS_DOM (pg : Nat) : Fld := ⟨pg, 0x204, 6, 1, .w1c, .warm, 0, .plain⟩
/-- Table 09-7: TRX 0x204 [7]. -/
def TRX.OT (pg : Nat) : Fld := ⟨pg, 0x204, 7, 1, .w1c, .warm, 0, .plain⟩
/-- Table 09-7: TRX 0x208 [1:0]. -/
def TRX.KIND (pg : Nat) : Fld := ⟨pg, 0x208, 0, 2, .ro, .keep, 0, .plain⟩
/-- Table 09-7: TRX 0x20C [31:0]. -/
def TRX.WAKE_TICK (pg : Nat) : Fld := ⟨pg, 0x20C, 0, 32, .ro, .keep, 0, .plain⟩
/-- Table 09-7: TRX 0x210 [15:0]. -/
def TRX.WAKE_CNT (pg : Nat) : Fld := ⟨pg, 0x210, 0, 16, .rc, .keep, 0, .plain⟩
/-- Table 09-7: TRX 0x210 [31:16]. -/
def TRX.TRX_FAULT_CNT (pg : Nat) : Fld := ⟨pg, 0x210, 16, 16, .rc, .keep, 0, .plain⟩
/-- Table 11-11: TRX 0x204 [8]. -/
def TRX.PODL_WAKE (pg : Nat) : Fld := ⟨pg, 0x204, 8, 1, .w1c, .keep, 0, .plain⟩
/-- Table 09-8: OBJ 0x100 [10:0]. -/
def OBJ.POOL_FREE : Fld := ⟨0x2C, 0x100, 0, 11, .ro, .warm, 1536, .plain⟩
/-- Table 09-8: OBJ 0x104 [15:0]. -/
def OBJ.POOL_EMPTY_CNT : Fld := ⟨0x2C, 0x104, 0, 16, .rc, .keep, 0, .plain⟩
/-- Table 09-8: OBJ 0x104 [31:16]. -/
def OBJ.BAD_WRITE_CNT : Fld := ⟨0x2C, 0x104, 16, 16, .rc, .warm, 0, .plain⟩
/-- Table 09-8: OBJ 0x108 [13:0]. -/
def OBJ.LOCK_TO : Fld := ⟨0x2C, 0x108, 0, 14, .rwl, .warm, 1000, .clamp 10 10000⟩
/-- Table 09-8: OBJ 0x10C [11:0]. -/
def OBJ.BAD_OBJ : Fld := ⟨0x2C, 0x10C, 0, 12, .ro, .warm, 0, .plain⟩
/-- Table 09-8: OBJ 0x10C [13:12]. -/
def OBJ.CAUSE : Fld := ⟨0x2C, 0x10C, 12, 2, .ro, .warm, 0, .plain⟩
/-- Table 10-4: LIN 0x100 [0]. -/
def LIN.EN (n : Nat) : Fld := ⟨0x30 + n, 0x100, 0, 1, .rwl, .warm, 0, .plain⟩
/-- Table 10-4: LIN 0x100 [1]. -/
def LIN.NET (n : Nat) : Fld := ⟨0x30 + n, 0x100, 1, 1, .rwl, .warm, 0, .plain⟩
/-- Table 10-4: LIN 0x100 [2]. -/
def LIN.WAKE_TX (n : Nat) : Fld := ⟨0x30 + n, 0x100, 2, 1, .wo, .warm, 0, .plain⟩
/-- Table 10-4: LIN 0x100 [30:16]. -/
def LIN.BAUD (n : Nat) : Fld := ⟨0x30 + n, 0x100, 16, 15, .rwl, .warm, 19200, .clamp 1000 20000⟩
/-- Table 10-4: LIN 0x104 [6:0]. -/
def LIN.WAKE_LEN (n : Nat) : Fld := ⟨0x30 + n, 0x104, 0, 7, .rwl, .warm, 20, .clamp 5 100⟩
/-- Table 10-4: LIN 0x108 [0]. -/
def LIN.BUSY (n : Nat) : Fld := ⟨0x30 + n, 0x108, 0, 1, .ro, .warm, 0, .plain⟩
/-- Table 10-4: LIN 0x108 [6:1]. -/
def LIN.LAST_ID (n : Nat) : Fld := ⟨0x30 + n, 0x108, 1, 6, .ro, .warm, 0, .plain⟩
/-- Table 10-4: LIN 0x108 [9:7]. -/
def LIN.LAST_RES (n : Nat) : Fld := ⟨0x30 + n, 0x108, 7, 3, .ro, .warm, 0, .plain⟩
/-- Table 10-4: LIN 0x10C [15:0]. -/
def LIN.OK_CNT (n : Nat) : Fld := ⟨0x30 + n, 0x10C, 0, 16, .rc, .keep, 0, .plain⟩
/-- Table 10-4: LIN 0x10C [31:16]. -/
def LIN.ERR_CNT (n : Nat) : Fld := ⟨0x30 + n, 0x10C, 16, 16, .rc, .keep, 0, .plain⟩
/-- Table 10-4: LIN 0x110 [15:0]. -/
def LIN.HDR_SKIP_CNT (n : Nat) : Fld := ⟨0x30 + n, 0x110, 0, 16, .rc, .keep, 0, .plain⟩
/-- Table 10-4: LIN 0x110 [31:16]. -/
def LIN.LOST_CNT (n : Nat) : Fld := ⟨0x30 + n, 0x110, 16, 16, .rc, .keep, 0, .plain⟩
/-- Table 10-4: LIN 0x114 [15:0]. -/
def LIN.VNK_REJ_CNT (n : Nat) : Fld := ⟨0x30 + n, 0x114, 0, 16, .rc, .warm, 0, .plain⟩
/-- Table 10-4: LIN 0x400 + 0x4 * id [15:0]. -/
def LIN.SLOT_T (n id : Nat) : Fld := ⟨0x30 + n, 0x400 + 0x4 * id, 0, 16, .rwl, .warm, 0, .plain⟩
/-- Table 10-4: LIN 0x400 + 0x4 * id [17:16]. -/
def LIN.DIR (n id : Nat) : Fld := ⟨0x30 + n, 0x400 + 0x4 * id, 16, 2, .rwl, .warm, 3, .plain⟩
/-- Table 10-4: LIN 0x400 + 0x4 * id [18]. -/
def LIN.CHK (n id : Nat) : Fld := ⟨0x30 + n, 0x400 + 0x4 * id, 18, 1, .rwl, .warm, 1, .plain⟩
/-- Table 10-4: LIN 0x400 + 0x4 * id [23:20]. -/
def LIN.FT_LEN (n id : Nat) : Fld := ⟨0x30 + n, 0x400 + 0x4 * id, 20, 4, .rwl, .warm, 8, .clamp 1 8⟩
/-- Table 10-4: LIN 0x600 + 0x8 * id + 0x4 * i [31:0]. -/
def LIN.PUB (n id i : Nat) : Fld := ⟨0x30 + n, 0x600 + 0x8 * id + 0x4 * i, 0, 32, .rw, .keep, 0, .plain⟩
/-- Table 10-4: LIN 0x800 + 0x8 * id + 0x4 * i [31:0]. -/
def LIN.SUB (n id i : Nat) : Fld := ⟨0x30 + n, 0x800 + 0x8 * id + 0x4 * i, 0, 32, .ro, .keep, 0, .plain⟩
/-- Table 10-4: LIN 0xA00 + 0x4 * id [0]. -/
def LIN.NEW (n id : Nat) : Fld := ⟨0x30 + n, 0xA00 + 0x4 * id, 0, 1, .rw, .warm, 0, .plain⟩
/-- Table 10-4: LIN 0xA00 + 0x4 * id [1]. -/
def LIN.LOST (n id : Nat) : Fld := ⟨0x30 + n, 0xA00 + 0x4 * id, 1, 1, .rw, .warm, 0, .plain⟩
/-- Table 10-4: LIN 0xA00 + 0x4 * id [4:2]. -/
def LIN.RES (n id : Nat) : Fld := ⟨0x30 + n, 0xA00 + 0x4 * id, 2, 3, .ro, .warm, 0, .plain⟩
/-- Table 10-4: LIN 0xA00 + 0x4 * id [11:8]. -/
def LIN.SEQ (n id : Nat) : Fld := ⟨0x30 + n, 0xA00 + 0x4 * id, 8, 4, .ro, .warm, 0, .plain⟩
/-- Table 10-4: LIN 0xA00 + 0x4 * id [31:16]. -/
def LIN.TICK16 (n id : Nat) : Fld := ⟨0x30 + n, 0xA00 + 0x4 * id, 16, 16, .ro, .warm, 0, .plain⟩
/-- Table 10-5: TS 0x100 [0]. -/
def TS.EN (n : Nat) : Fld := ⟨0x38 + n, 0x100, 0, 1, .rwl, .warm, 0, .plain⟩
/-- Table 10-5: TS 0x100 [15:8]. -/
def TS.NODE_CNT (n : Nat) : Fld := ⟨0x38 + n, 0x100, 8, 8, .rwl, .warm, 8, .clamp 2 32⟩
/-- Table 10-5: TS 0x100 [23:16]. -/
def TS.TO (n : Nat) : Fld := ⟨0x38 + n, 0x100, 16, 8, .rwl, .warm, 32, .clamp 1 255⟩
/-- Table 10-5: TS 0x100 [27:24]. -/
def TS.MAX_BC (n : Nat) : Fld := ⟨0x38 + n, 0x100, 24, 4, .rwl, .warm, 0, .plain⟩
/-- Table 10-5: TS 0x104 [7:0]. -/
def TS.BURST_TMR (n : Nat) : Fld := ⟨0x38 + n, 0x104, 0, 8, .rwl, .warm, 128, .plain⟩
/-- Table 10-5: TS 0x104 [11:8]. -/
def TS.ALLOW (n : Nat) : Fld := ⟨0x38 + n, 0x104, 8, 4, .rwl, .warm, 0, .clamp 0 8⟩
/-- Table 10-5: TS 0x104 [31:16]. -/
def TS.T1S_TICKS (n : Nat) : Fld := ⟨0x38 + n, 0x104, 16, 16, .rwl, .warm, 0, .plain⟩
/-- Table 10-5: TS 0x108 [0]. -/
def TS.PLCA_ACT (n : Nat) : Fld := ⟨0x38 + n, 0x108, 0, 1, .ro, .warm, 0, .plain⟩
/-- Table 10-5: TS 0x108 [1]. -/
def TS.DUP_COORD (n : Nat) : Fld := ⟨0x38 + n, 0x108, 1, 1, .w1c, .warm, 0, .plain⟩
/-- Table 10-5: TS 0x108 [7:2]. -/
def TS.PQ_LVL (n : Nat) : Fld := ⟨0x38 + n, 0x108, 2, 6, .ro, .warm, 0, .plain⟩
/-- Table 10-5: TS 0x10C [15:0]. -/
def TS.CYC_MAX (n : Nat) : Fld := ⟨0x38 + n, 0x10C, 0, 16, .rc, .warm, 0, .plain⟩
/-- Table 10-5: TS 0x110 [31:0]. -/
def TS.TX_OK_CNT (n : Nat) : Fld := ⟨0x38 + n, 0x110, 0, 32, .rc, .keep, 0, .plain⟩
/-- Table 10-5: TS 0x114 [31:0]. -/
def TS.RX_OK_CNT (n : Nat) : Fld := ⟨0x38 + n, 0x114, 0, 32, .rc, .keep, 0, .plain⟩
/-- Table 10-5: TS 0x118 [15:0]. -/
def TS.COL_CNT (n : Nat) : Fld := ⟨0x38 + n, 0x118, 0, 16, .rc, .keep, 0, .plain⟩
/-- Table 10-5: TS 0x118 [31:16]. -/
def TS.BEACON_FOREIGN_CNT (n : Nat) : Fld := ⟨0x38 + n, 0x118, 16, 16, .rc, .keep, 0, .plain⟩
/-- Table 11-11: PTP 0x100 [0]. -/
def PTP.EN : Fld := ⟨0x0D, 0x100, 0, 1, .rwl, .warm, 1, .plain⟩
/-- Table 11-11: PTP 0x100 [1]. -/
def PTP.SLAVE : Fld := ⟨0x0D, 0x100, 1, 1, .rwl, .warm, 0, .plain⟩
/-- Table 11-11: PTP 0x100 [2]. -/
def PTP.STANDBY : Fld := ⟨0x0D, 0x100, 2, 1, .rwl, .warm, 1, .plain⟩
/-- Table 11-11: PTP 0x100 [4:3]. -/
def PTP.TS_MASTER : Fld := ⟨0x0D, 0x100, 3, 2, .rwl, .warm, 0, .plain⟩
/-- Table 11-11: PTP 0x100 [11:8]. -/
def PTP.LOG_SYNC : Fld := ⟨0x0D, 0x100, 8, 4, .rwl, .warm, 13, .tab [0,0,0,0,0,0,0,0,11,11,11,11,12,13,14,15]⟩
/-- Table 11-11: PTP 0x100 [19:12]. -/
def PTP.DOMAIN : Fld := ⟨0x0D, 0x100, 12, 8, .rwl, .warm, 0, .plain⟩
/-- Table 11-11: PTP 0x104 [31:0]. -/
def PTP.OFFSET : Fld := ⟨0x0D, 0x104, 0, 32, .ro, .warm, 0, .plain⟩
/-- Table 11-11: PTP 0x108 + 0x4 * i [31:0]. -/
def PTP.MLD (i : Nat) : Fld := ⟨0x0D, 0x108 + 0x4 * i, 0, 32, .ro, .warm, 0, .plain⟩
/-- Table 11-11: PTP 0x118 [15:0]. -/
def PTP.PORT_SW_CNT : Fld := ⟨0x0D, 0x118, 0, 16, .rc, .keep, 0, .plain⟩
/-- Table 11-11: PTP 0x118 [31:16]. -/
def PTP.EPOCH_CHG_CNT : Fld := ⟨0x0D, 0x118, 16, 16, .rc, .keep, 0, .plain⟩
/-- Table 11-11: PTP 0x110 [31:0]. -/
def PTP.EPOCH_LO : Fld := ⟨0x0D, 0x110, 0, 32, .ro, .warm, 0, .plain⟩
/-- Table 11-11: PTP 0x114 [31:0]. -/
def PTP.EPOCH_HI : Fld := ⟨0x0D, 0x114, 0, 32, .ro, .warm, 0, .plain⟩
/-- Table 11-11: BB 0x100 [0]. -/
def BB.EN (n : Nat) : Fld := ⟨0x3A + n, 0x100, 0, 1, .rwl, .warm, 1, .plain⟩
/-- Table 11-11: BB 0x100 [1]. -/
def BB.SPEED (n : Nat) : Fld := ⟨0x3A + n, 0x100, 1, 1, .rwl, .warm, 0, .plain⟩
/-- Table 11-11: BB 0x100 [2]. -/
def BB.ROLE (n : Nat) : Fld := ⟨0x3A + n, 0x100, 2, 1, .rwl, .warm, 0, .plain⟩
/-- Table 11-11: BB 0x100 [3]. -/
def BB.SEC_EN (n : Nat) : Fld := ⟨0x3A + n, 0x100, 3, 1, .rwl, .warm, 1, .plain⟩
/-- Table 11-11: BB 0x100 [4]. -/
def BB.PODL_EN (n : Nat) : Fld := ⟨0x3A + n, 0x100, 4, 1, .rwl, .cold, 1, .plain⟩
/-- Table 11-11: BB 0x104 [0]. -/
def BB.LINK (n : Nat) : Fld := ⟨0x3A + n, 0x104, 0, 1, .ro, .warm, 0, .plain⟩
/-- Table 11-11: BB 0x104 [3:1]. -/
def BB.SQI (n : Nat) : Fld := ⟨0x3A + n, 0x104, 1, 3, .ro, .warm, 0, .plain⟩
/-- Table 11-11: BB 0x104 [4]. -/
def BB.SAK_OK (n : Nat) : Fld := ⟨0x3A + n, 0x104, 4, 1, .ro, .warm, 0, .plain⟩
/-- Table 11-11: BB 0x108 [31:0]. -/
def BB.REPLAY_WIN (n : Nat) : Fld := ⟨0x3A + n, 0x108, 0, 32, .rwl, .warm, 64, .plain⟩
/-- Table 11-11: BB 0x10C [15:0]. -/
def BB.ICV_FAIL_CNT (n : Nat) : Fld := ⟨0x3A + n, 0x10C, 0, 16, .rc, .keep, 0, .plain⟩
/-- Table 11-11: BB 0x10C [31:16]. -/
def BB.REPLAY_CNT (n : Nat) : Fld := ⟨0x3A + n, 0x10C, 16, 16, .rc, .keep, 0, .plain⟩
/-- Table 11-11: BB 0x110 [15:0]. -/
def BB.UNTAGGED_CNT (n : Nat) : Fld := ⟨0x3A + n, 0x110, 0, 16, .rc, .keep, 0, .plain⟩
/-- Table 11-11: BB 0x110 [31:16]. -/
def BB.LINK_DOWN_CNT (n : Nat) : Fld := ⟨0x3A + n, 0x110, 16, 16, .rc, .keep, 0, .plain⟩
/-- Table 11-11: BB 0x114 [31:0]. -/
def BB.RX_OK_CNT (n : Nat) : Fld := ⟨0x3A + n, 0x114, 0, 32, .rc, .keep, 0, .plain⟩
/-- Table 11-11: BB 0x118 [31:0]. -/
def BB.TX_OK_CNT (n : Nat) : Fld := ⟨0x3A + n, 0x118, 0, 32, .rc, .keep, 0, .plain⟩
/-- Table 11-11: ETS 0x100 [2:0]. -/
def ETS.DEF_PCP : Fld := ⟨0x3C, 0x100, 0, 3, .rwl, .warm, 0, .plain⟩
/-- Table 11-11: ETS 0x104 [5:0]. -/
def ETS.HIST_LEN : Fld := ⟨0x3C, 0x104, 0, 6, .rwl, .warm, 32, .clamp 2 32⟩
/-- Table 11-11: ETS 0x104 [23:8]. -/
def ETS.RESET_TO : Fld := ⟨0x3C, 0x104, 8, 16, .rwl, .warm, 100, .plain⟩
/-- Table 11-11: ETS 0x108 + 0x4 * i [31:0]. -/
def ETS.RECOV (i : Nat) : Fld := ⟨0x3C, 0x108 + 0x4 * i, 0, 32, .rc, .keep, 0, .plain⟩
/-- Table 11-11: ETS 0x120 [31:0]. -/
def ETS.TAGLESS_CNT : Fld := ⟨0x3C, 0x120, 0, 32, .rc, .keep, 0, .plain⟩
/-- Table 11-11: ETS 0x400 + 0x20 * p + 0x4 * q [23:0]. -/
def ETS.IDLE_SLOPE (p q : Nat) : Fld := ⟨0x3C, 0x400 + 0x20 * p + 0x4 * q, 0, 24, .rwl, .warm, 0, .plain⟩
/-- Table 11-11: ETS 0x400 + 0x20 * p + 0x4 * q [24]. -/
def ETS.CBS_EN (p q : Nat) : Fld := ⟨0x3C, 0x400 + 0x20 * p + 0x4 * q, 24, 1, .rwl, .warm, 0, .plain⟩
/-- Table 11-11: ETS 0x600 + 0x20 * p + 0x4 * q [31:0]. -/
def ETS.DROP_CNT (p q : Nat) : Fld := ⟨0x3C, 0x600 + 0x20 * p + 0x4 * q, 0, 32, .rc, .keep, 0, .plain⟩
/-- Table 11-12: BRG 0x100 [15:0]. -/
def BRG.ACF_BAD_CNT : Fld := ⟨0x3D, 0x100, 0, 16, .rc, .keep, 0, .plain⟩
/-- Table 11-12: BRG 0x100 [31:16]. -/
def BRG.ACF_RX_CNT : Fld := ⟨0x3D, 0x100, 16, 16, .rc, .keep, 0, .plain⟩
/-- Table 11-12: BRG 0x200 + 0x10 * t [31:0]. -/
def BRG.TS_SID_LO (t : Nat) : Fld := ⟨0x3D, 0x200 + 0x10 * t, 0, 32, .rwl, .warm, 0, .plain⟩
/-- Table 11-12: BRG 0x204 + 0x10 * t [31:0]. -/
def BRG.TS_SID_HI (t : Nat) : Fld := ⟨0x3D, 0x204 + 0x10 * t, 0, 32, .rwl, .warm, 0, .plain⟩
/-- Table 11-12: BRG 0x208 + 0x10 * t [31:0]. -/
def BRG.DMAC_LO (t : Nat) : Fld := ⟨0x3D, 0x208 + 0x10 * t, 0, 32, .rwl, .warm, 0, .plain⟩
/-- Table 11-12: BRG 0x20C + 0x10 * t [15:0]. -/
def BRG.DMAC_HI (t : Nat) : Fld := ⟨0x3D, 0x20C + 0x10 * t, 0, 16, .rwl, .warm, 0, .plain⟩
/-- Table 11-12: BRG 0x20C + 0x10 * t [27:16]. -/
def BRG.VLAN (t : Nat) : Fld := ⟨0x3D, 0x20C + 0x10 * t, 16, 12, .rwl, .warm, 0, .plain⟩
/-- Table 11-12: BRG 0x20C + 0x10 * t [30:28]. -/
def BRG.PCP (t : Nat) : Fld := ⟨0x3D, 0x20C + 0x10 * t, 28, 3, .rwl, .warm, 0, .plain⟩
/-- Table 11-12: BRG 0x20C + 0x10 * t [31]. -/
def BRG.FMT (t : Nat) : Fld := ⟨0x3D, 0x20C + 0x10 * t, 31, 1, .rwl, .warm, 0, .plain⟩
/-- Table 11-12: BRG 0x300 + 0x10 * i [31:0]. -/
def BRG.LS_SID_LO (i : Nat) : Fld := ⟨0x3D, 0x300 + 0x10 * i, 0, 32, .rwl, .warm, 0, .plain⟩
/-- Table 11-12: BRG 0x304 + 0x10 * i [31:0]. -/
def BRG.LS_SID_HI (i : Nat) : Fld := ⟨0x3D, 0x304 + 0x10 * i, 0, 32, .rwl, .warm, 0, .plain⟩
/-- Table 11-12: BRG 0x308 + 0x10 * i [0]. -/
def BRG.LS_EN (i : Nat) : Fld := ⟨0x3D, 0x308 + 0x10 * i, 0, 1, .rwl, .warm, 0, .plain⟩
/-- Table 11-12: BRG 0x308 + 0x10 * i [3:1]. -/
def BRG.LS_CLASS (i : Nat) : Fld := ⟨0x3D, 0x308 + 0x10 * i, 1, 3, .rwl, .warm, 3, .outside 3 5 3⟩
/-- Table 11-12: BRG 0x308 + 0x10 * i [7:4]. -/
def BRG.LS_TARGET (i : Nat) : Fld := ⟨0x3D, 0x308 + 0x10 * i, 4, 4, .rwl, .warm, 0, .plain⟩
/-- Table 11-12: BRG 0x308 + 0x10 * i [8]. -/
def BRG.LS_ANS (i : Nat) : Fld := ⟨0x3D, 0x308 + 0x10 * i, 8, 1, .rwl, .warm, 0, .plain⟩
/-- Table 11-12: BRG 0x308 + 0x10 * i [12:9]. -/
def BRG.LS_ANS_INIT (i : Nat) : Fld := ⟨0x3D, 0x308 + 0x10 * i, 9, 4, .rwl, .warm, 0, .plain⟩
/-- Table 11-12: BRG 0x308 + 0x10 * i [31:16]. -/
def BRG.LS_REL (i : Nat) : Fld := ⟨0x3D, 0x308 + 0x10 * i, 16, 16, .rwl, .warm, 0, .plain⟩
/-- Table 11-12: BRG 0x30C + 0x10 * i [5:0]. -/
def BRG.LS_LVL (i : Nat) : Fld := ⟨0x3D, 0x30C + 0x10 * i, 0, 6, .ro, .warm, 0, .plain⟩
/-- Table 11-12: BRG 0x30C + 0x10 * i [31:16]. -/
def BRG.LS_REFUSE_CNT (i : Nat) : Fld := ⟨0x3D, 0x30C + 0x10 * i, 16, 16, .rc, .keep, 0, .plain⟩
/-- Table 11-12: BRG 0x400 + 0x10 * s [0]. -/
def BRG.TP_EN (s : Nat) : Fld := ⟨0x3D, 0x400 + 0x10 * s, 0, 1, .rwl, .warm, 0, .plain⟩
/-- Table 11-12: BRG 0x400 + 0x10 * s [4:1]. -/
def BRG.TP_CTRL (s : Nat) : Fld := ⟨0x3D, 0x400 + 0x10 * s, 1, 4, .rwl, .warm, 0, .plain⟩
/-- Table 11-12: BRG 0x400 + 0x10 * s [6:5]. -/
def BRG.TP_MODE (s : Nat) : Fld := ⟨0x3D, 0x400 + 0x10 * s, 5, 2, .rwl, .warm, 0, .outside 0 2 0⟩
/-- Table 11-12: BRG 0x400 + 0x10 * s [7]. -/
def BRG.TP_FD (s : Nat) : Fld := ⟨0x3D, 0x400 + 0x10 * s, 7, 1, .rwl, .warm, 0, .plain⟩
/-- Table 11-12: BRG 0x400 + 0x10 * s [15:8]. -/
def BRG.TX_DL (s : Nat) : Fld := ⟨0x3D, 0x400 + 0x10 * s, 8, 8, .rwl, .warm, 8, .oneOf [8,12,16,20,24,32,48,64] 8⟩
/-- Table 11-12: BRG 0x400 + 0x10 * s [23:16]. -/
def BRG.BS (s : Nat) : Fld := ⟨0x3D, 0x400 + 0x10 * s, 16, 8, .rwl, .warm, 0, .plain⟩
/-- Table 11-12: BRG 0x400 + 0x10 * s [31:24]. -/
def BRG.STMIN (s : Nat) : Fld := ⟨0x3D, 0x400 + 0x10 * s, 24, 8, .rwl, .warm, 0, .plain⟩
/-- Table 11-12: BRG 0x404 + 0x10 * s [11:0]. -/
def BRG.TX_OBJ (s : Nat) : Fld := ⟨0x3D, 0x404 + 0x10 * s, 0, 12, .rwl, .warm, 0, .plain⟩
/-- Table 11-12: BRG 0x404 + 0x10 * s [27:16]. -/
def BRG.RX_OBJ (s : Nat) : Fld := ⟨0x3D, 0x404 + 0x10 * s, 16, 12, .rwl, .warm, 0, .plain⟩
/-- Table 11-12: BRG 0x408 + 0x10 * s [7:0]. -/
def BRG.TA (s : Nat) : Fld := ⟨0x3D, 0x408 + 0x10 * s, 0, 8, .rwl, .warm, 0, .plain⟩
/-- Table 11-12: BRG 0x408 + 0x10 * s [15:8]. -/
def BRG.SA (s : Nat) : Fld := ⟨0x3D, 0x408 + 0x10 * s, 8, 8, .rwl, .warm, 0, .plain⟩
/-- Table 11-12: BRG 0x408 + 0x10 * s [23:16]. -/
def BRG.N_BS (s : Nat) : Fld := ⟨0x3D, 0x408 + 0x10 * s, 16, 8, .rwl, .warm, 100, .clamp 1 255⟩
/-- Table 11-12: BRG 0x408 + 0x10 * s [31:24]. -/
def BRG.N_CR (s : Nat) : Fld := ⟨0x3D, 0x408 + 0x10 * s, 24, 8, .rwl, .warm, 100, .clamp 1 255⟩
/-- Table 11-12: BRG 0x40C + 0x10 * s [2:0]. -/
def BRG.TP_STATE (s : Nat) : Fld := ⟨0x3D, 0x40C + 0x10 * s, 0, 3, .ro, .warm, 0, .plain⟩
/-- Table 11-12: BRG 0x40C + 0x10 * s [7:4]. -/
def BRG.TP_RESULT (s : Nat) : Fld := ⟨0x3D, 0x40C + 0x10 * s, 4, 4, .ro, .warm, 0, .plain⟩
/-- Table 11-12: BRG 0x40C + 0x10 * s [27:16]. -/
def BRG.RX_LEN (s : Nat) : Fld := ⟨0x3D, 0x40C + 0x10 * s, 16, 12, .ro, .warm, 0, .plain⟩
/-- Table 11-13: VNK 0x100 [0]. -/
def VNK.EN : Fld := ⟨0x3E, 0x100, 0, 1, .rwl, .warm, 1, .plain⟩
/-- Table 11-13: VNK 0x100 [1]. -/
def VNK.LEARN : Fld := ⟨0x3E, 0x100, 1, 1, .rwl, .warm, 0, .plain⟩
/-- Table 11-13: VNK 0x100 [3:2]. -/
def VNK.PF_LEN : Fld := ⟨0x3E, 0x100, 2, 2, .rwl, .warm, 0, .plain⟩
/-- Table 11-13: VNK 0x100 [7:4]. -/
def VNK.PF_AGE : Fld := ⟨0x3E, 0x100, 4, 4, .rwl, .warm, 1, .clamp 1 15⟩
/-- Table 11-13: VNK 0x100 [10:8]. -/
def VNK.NPCP : Fld := ⟨0x3E, 0x100, 8, 3, .rwl, .warm, 6, .plain⟩
/-- Table 11-13: VNK 0x104 [15:0]. -/
def VNK.UNKNOWN_CNT : Fld := ⟨0x3E, 0x104, 0, 16, .rc, .keep, 0, .plain⟩
/-- Table 11-13: VNK 0x104 [31:16]. -/
def VNK.BUSY_CNT : Fld := ⟨0x3E, 0x104, 16, 16, .rc, .keep, 0, .plain⟩
/-- Table 11-13: VNK 0x108 [15:0]. -/
def VNK.TIMEOUT_CNT : Fld := ⟨0x3E, 0x108, 0, 16, .rc, .keep, 0, .plain⟩
/-- Table 11-13: VNK 0x108 [31:16]. -/
def VNK.DENIED_CNT : Fld := ⟨0x3E, 0x108, 16, 16, .rc, .keep, 0, .plain⟩
/-- Table 11-13: VNK 0x10C [15:0]. -/
def VNK.FAR_FAIL_CNT : Fld := ⟨0x3E, 0x10C, 0, 16, .rc, .keep, 0, .plain⟩
/-- Table 11-13: VNK 0x10C [31:16]. -/
def VNK.NOTICE_LOST_CNT : Fld := ⟨0x3E, 0x10C, 16, 16, .rc, .keep, 0, .plain⟩
/-- Table 11-13: VNK 0x110 [15:0]. -/
def VNK.POSTED_DROP_CNT : Fld := ⟨0x3E, 0x110, 0, 16, .rc, .keep, 0, .plain⟩
/-- Table 11-13: VNK 0x110 [31:16]. -/
def VNK.PF_SE_CNT : Fld := ⟨0x3E, 0x110, 16, 16, .rc, .keep, 0, .plain⟩
/-- Table 11-13: VNK 0x400 + 0x10 * w [0]. -/
def VNK.WIN_EN (w : Nat) : Fld := ⟨0x3E, 0x400 + 0x10 * w, 0, 1, .rwl, .warm, 0, .plain⟩
/-- Table 11-13: VNK 0x400 + 0x10 * w [3:1]. -/
def VNK.WIN_TYPE (w : Nat) : Fld := ⟨0x3E, 0x400 + 0x10 * w, 1, 3, .rwl, .warm, 0, .plain⟩
/-- Table 11-13: VNK 0x400 + 0x10 * w [4]. -/
def VNK.WIN_RD (w : Nat) : Fld := ⟨0x3E, 0x400 + 0x10 * w, 4, 1, .rwl, .warm, 0, .plain⟩
/-- Table 11-13: VNK 0x400 + 0x10 * w [5]. -/
def VNK.WIN_WR (w : Nat) : Fld := ⟨0x3E, 0x400 + 0x10 * w, 5, 1, .rwl, .warm, 0, .plain⟩
/-- Table 11-13: VNK 0x400 + 0x10 * w [6]. -/
def VNK.RD_PREF (w : Nat) : Fld := ⟨0x3E, 0x400 + 0x10 * w, 6, 1, .rwl, .warm, 0, .plain⟩
/-- Table 11-13: VNK 0x400 + 0x10 * w [15:8]. -/
def VNK.WIN_TO (w : Nat) : Fld := ⟨0x3E, 0x400 + 0x10 * w, 8, 8, .rwl, .warm, 50, .clamp 1 255⟩
/-- Table 11-13: VNK 0x400 + 0x10 * w [20:16]. -/
def VNK.WIN_SEL (w : Nat) : Fld := ⟨0x3E, 0x400 + 0x10 * w, 16, 5, .rwl, .warm, 0, .plain⟩
/-- Table 11-13: VNK 0x404 + 0x10 * w [31:0]. -/
def VNK.WIN_BASE (w : Nat) : Fld := ⟨0x3E, 0x404 + 0x10 * w, 0, 32, .rwl, .warm, 0, .plain⟩
/-- Table 11-13: VNK 0x408 + 0x10 * w [31:0]. -/
def VNK.WIN_SIZE (w : Nat) : Fld := ⟨0x3E, 0x408 + 0x10 * w, 0, 32, .rwl, .warm, 0, .plain⟩
/-- Table 11-13: VNK 0x40C + 0x10 * w [15:0]. -/
def VNK.INIT_MASK (w : Nat) : Fld := ⟨0x3E, 0x40C + 0x10 * w, 0, 16, .rwl, .warm, 0, .plain⟩
/-- Table 11-13: VNK 0x40C + 0x10 * w [23:16]. -/
def VNK.CLASS_MASK (w : Nat) : Fld := ⟨0x3E, 0x40C + 0x10 * w, 16, 8, .rwl, .warm, 0, .plain⟩
/-- Table 11-13: VNK 0x40C + 0x10 * w [31:24]. -/
def VNK.BEAD_MASK (w : Nat) : Fld := ⟨0x3E, 0x40C + 0x10 * w, 24, 8, .rwl, .warm, 0, .plain⟩
/-- Table 11-13: VNK 0x200 + 0x8 * k [31:0]. -/
def VNK.INIT_MAC_LO (k : Nat) : Fld := ⟨0x3E, 0x200 + 0x8 * k, 0, 32, .rwl, .warm, 0, .plain⟩
/-- Table 11-13: VNK 0x204 + 0x8 * k [15:0]. -/
def VNK.INIT_MAC_HI (k : Nat) : Fld := ⟨0x3E, 0x204 + 0x8 * k, 0, 16, .rwl, .warm, 0, .plain⟩
/-- Table 11-13: VNK 0x204 + 0x8 * k [16]. -/
def VNK.INIT_EN (k : Nat) : Fld := ⟨0x3E, 0x204 + 0x8 * k, 16, 1, .rwl, .warm, 0, .plain⟩
/-- Table 11-13: VNK 0x204 + 0x8 * k [17]. -/
def VNK.INIT_LEARNED (k : Nat) : Fld := ⟨0x3E, 0x204 + 0x8 * k, 17, 1, .ro, .warm, 0, .plain⟩
/-- Table 11-13: VNK 0x204 + 0x8 * k [21:18]. -/
def VNK.INIT_OPEN (k : Nat) : Fld := ⟨0x3E, 0x204 + 0x8 * k, 18, 4, .ro, .warm, 0, .plain⟩
/-- Table 11-13: VNK 0x300 + 0x8 * m [31:0]. -/
def VNK.NODE_MAC_LO (m : Nat) : Fld := ⟨0x3E, 0x300 + 0x8 * m, 0, 32, .rwl, .warm, 0, .plain⟩
/-- Table 11-13: VNK 0x304 + 0x8 * m [15:0]. -/
def VNK.NODE_MAC_HI (m : Nat) : Fld := ⟨0x3E, 0x304 + 0x8 * m, 0, 16, .rwl, .warm, 0, .plain⟩
/-- Table 12-4: NM 0x100 + 0x20 * n [0]. -/
def NM.NM_EN (n : Nat) : Fld := ⟨0x3F, 0x100 + 0x20 * n, 0, 1, .rwl, .warm, 0, .plain⟩
/-- Table 12-4: NM 0x100 + 0x20 * n [1]. -/
def NM.PASSIVE (n : Nat) : Fld := ⟨0x3F, 0x100 + 0x20 * n, 1, 1, .rwl, .warm, 0, .plain⟩
/-- Table 12-4: NM 0x100 + 0x20 * n [2]. -/
def NM.SLEEP_TRX (n : Nat) : Fld := ⟨0x3F, 0x100 + 0x20 * n, 2, 1, .rwl, .warm, 0, .plain⟩
/-- Table 12-4: NM 0x100 + 0x20 * n [15:8]. -/
def NM.NODE_ID (n : Nat) : Fld := ⟨0x3F, 0x100 + 0x20 * n, 8, 8, .rwl, .warm, 0, .plain⟩
/-- Table 12-4: NM 0x104 + 0x20 * n [15:0]. -/
def NM.NM_TO (n : Nat) : Fld := ⟨0x3F, 0x104 + 0x20 * n, 0, 16, .rwl, .warm, 2000, .clamp 1 65535⟩
/-- Table 12-4: NM 0x104 + 0x20 * n [31:16]. -/
def NM.RPT_T (n : Nat) : Fld := ⟨0x3F, 0x104 + 0x20 * n, 16, 16, .rwl, .warm, 1500, .clamp 1 65535⟩
/-- Table 12-4: NM 0x108 + 0x20 * n [15:0]. -/
def NM.PBS_T (n : Nat) : Fld := ⟨0x3F, 0x108 + 0x20 * n, 0, 16, .rwl, .warm, 1000, .clamp 1 65535⟩
/-- Table 12-4: NM 0x108 + 0x20 * n [31:16]. -/
def NM.FW_T (n : Nat) : Fld := ⟨0x3F, 0x108 + 0x20 * n, 16, 16, .rwl, .warm, 300, .clamp 1 65535⟩
/-- Table 12-4: NM 0x10C + 0x20 * n [15:0]. -/
def NM.CYCLE (n : Nat) : Fld := ⟨0x3F, 0x10C + 0x20 * n, 0, 16, .rwl, .warm, 100, .clamp 1 65535⟩
/-- Table 12-4: NM 0x10C + 0x20 * n [23:16]. -/
def NM.RS_REPORT (n : Nat) : Fld := ⟨0x3F, 0x10C + 0x20 * n, 16, 8, .rwl, .warm, 0, .plain⟩
/-- Table 12-4: NM 0x10C + 0x20 * n [31:24]. -/
def NM.FW_WARN (n : Nat) : Fld := ⟨0x3F, 0x10C + 0x20 * n, 24, 8, .rwl, .warm, 8, .plain⟩
/-- Table 12-4: NM 0x110 + 0x20 * n [10:0]. -/
def NM.RX_ID (n : Nat) : Fld := ⟨0x3F, 0x110 + 0x20 * n, 0, 11, .rwl, .warm, 1280, .plain⟩
/-- Table 12-4: NM 0x110 + 0x20 * n [26:16]. -/
def NM.RX_MASK (n : Nat) : Fld := ⟨0x3F, 0x110 + 0x20 * n, 16, 11, .rwl, .warm, 1792, .plain⟩
/-- Table 12-4: NM 0x114 + 0x20 * n [0]. -/
def NM.HOLD (n : Nat) : Fld := ⟨0x3F, 0x114 + 0x20 * n, 0, 1, .rw, .warm, 0, .plain⟩
/-- Table 12-4: NM 0x114 + 0x20 * n [1]. -/
def NM.RPT_REQ (n : Nat) : Fld := ⟨0x3F, 0x114 + 0x20 * n, 1, 1, .wo, .warm, 0, .plain⟩
/-- Table 12-4: NM 0x114 + 0x20 * n [27:16]. -/
def NM.TX_OBJ (n : Nat) : Fld := ⟨0x3F, 0x114 + 0x20 * n, 16, 12, .rwl, .warm, 0, .plain⟩
/-- Table 12-4: NM 0x118 + 0x20 * n [2:0]. -/
def NM.STATE (n : Nat) : Fld := ⟨0x3F, 0x118 + 0x20 * n, 0, 3, .ro, .warm, 0, .plain⟩
/-- Table 12-4: NM 0x118 + 0x20 * n [3]. -/
def NM.WAKE_LATCH (n : Nat) : Fld := ⟨0x3F, 0x118 + 0x20 * n, 3, 1, .ro, .warm, 0, .plain⟩
/-- Table 12-4: NM 0x118 + 0x20 * n [15:8]. -/
def NM.AWAKE_BY (n : Nat) : Fld := ⟨0x3F, 0x118 + 0x20 * n, 8, 8, .ro, .warm, 0, .plain⟩
/-- Table 12-4: NM 0x118 + 0x20 * n [31:16]. -/
def NM.RS_TIME (n : Nat) : Fld := ⟨0x3F, 0x118 + 0x20 * n, 16, 16, .ro, .warm, 0, .plain⟩
/-- Table 12-4: NM 0x11C + 0x20 * n [15:0]. -/
def NM.FALSE_WAKE_CNT (n : Nat) : Fld := ⟨0x3F, 0x11C + 0x20 * n, 0, 16, .rc, .keep, 0, .plain⟩
/-- Table 12-4: NM 0x11C + 0x20 * n [23:16]. -/
def NM.FW_RUN (n : Nat) : Fld := ⟨0x3F, 0x11C + 0x20 * n, 16, 8, .ro, .keep, 0, .plain⟩
/-- Table 12-5: NM 0x400 [21:0]. -/
def NM.AWAKE : Fld := ⟨0x3F, 0x400, 0, 22, .ro, .warm, 0, .plain⟩
/-- Table 12-5: NM 0x404 [15:0]. -/
def NM.PBS_ABORT_CNT : Fld := ⟨0x3F, 0x404, 0, 16, .rc, .keep, 0, .plain⟩
/-- Table 12-5: NM 0x404 [31:16]. -/
def NM.REPLAY_CNT : Fld := ⟨0x3F, 0x404, 16, 16, .rc, .keep, 0, .plain⟩
/-- Table 12-5: NM 0x408 [15:0]. -/
def NM.REQ_REJ_CNT : Fld := ⟨0x3F, 0x408, 0, 16, .rc, .warm, 0, .plain⟩
/-- Table 13-11: PWR 0x100 [1:0]. -/
def PWR.CTL_TARGET : Fld := ⟨0x03, 0x100, 0, 2, .wo, .warm, 0, .plain⟩
/-- Table 13-11: PWR 0x100 [31]. -/
def PWR.CTL_GO : Fld := ⟨0x03, 0x100, 31, 1, .wo, .warm, 0, .plain⟩
/-- Table 13-11: PWR 0x104 [1:0]. -/
def PWR.STATE : Fld := ⟨0x03, 0x104, 0, 2, .ro, .keep, 0, .plain⟩
/-- Table 13-11: PWR 0x104 [3:2]. -/
def PWR.CUR_TGT : Fld := ⟨0x03, 0x104, 2, 2, .ro, .warm, 0, .plain⟩
/-- Table 13-11: PWR 0x104 [4]. -/
def PWR.CHANGING : Fld := ⟨0x03, 0x104, 4, 1, .ro, .warm, 0, .plain⟩
/-- Table 13-11: PWR 0x104 [5]. -/
def PWR.PEND : Fld := ⟨0x03, 0x104, 5, 1, .ro, .warm, 0, .plain⟩
/-- Table 13-11: PWR 0x104 [7:6]. -/
def PWR.PEND_TGT : Fld := ⟨0x03, 0x104, 6, 2, .ro, .warm, 0, .plain⟩
/-- Table 13-11: PWR 0x108 [1:0]. -/
def PWR.SRC : Fld := ⟨0x03, 0x108, 0, 2, .ro, .cold, 0, .plain⟩
/-- Table 13-11: PWR 0x108 [2]. -/
def PWR.VBL_LOW : Fld := ⟨0x03, 0x108, 2, 1, .ro, .cold, 0, .plain⟩
/-- Table 13-11: PWR 0x108 [3]. -/
def PWR.AUX_LOW : Fld := ⟨0x03, 0x108, 3, 1, .ro, .warm, 0, .plain⟩
/-- Table 13-11: PWR 0x108 [31:16]. -/
def PWR.CHG_CNT : Fld := ⟨0x03, 0x108, 16, 16, .rc, .keep, 0, .plain⟩
/-- Table 13-11: PWR 0x10C [11:0]. -/
def PWR.VPOD_V : Fld := ⟨0x03, 0x10C, 0, 12, .ro, .cold, 0, .plain⟩
/-- Table 13-11: PWR 0x10C [27:16]. -/
def PWR.VBL_V : Fld := ⟨0x03, 0x10C, 16, 12, .ro, .cold, 0, .plain⟩
/-- Table 13-11: PWR 0x110 [0]. -/
def PWR.CLASS24 : Fld := ⟨0x03, 0x110, 0, 1, .rwl, .cold, 0, .plain⟩
/-- Table 13-11: PWR 0x114 [31:0]. -/
def PWR.DOM_SLEEP : Fld := ⟨0x03, 0x114, 0, 32, .wo, .warm, 0, .plain⟩
/-- Table 13-11: PWR 0x118 [31:0]. -/
def PWR.DOM_STAT : Fld := ⟨0x03, 0x118, 0, 32, .ro, .warm, 4294967295, .plain⟩
/-- Table 13-11: PWR 0x11C [31:0]. -/
def PWR.DOM_WAKING : Fld := ⟨0x03, 0x11C, 0, 32, .ro, .warm, 0, .plain⟩
/-- Table 13-11: PWR 0x120 [1:0]. -/
def PWR.REF_TARGET : Fld := ⟨0x03, 0x120, 0, 2, .ro, .keep, 0, .plain⟩
/-- Table 13-11: PWR 0x120 [2]. -/
def PWR.REF_ABORT : Fld := ⟨0x03, 0x120, 2, 1, .ro, .keep, 0, .plain⟩
/-- Table 13-11: PWR 0x120 [7:3]. -/
def PWR.REF_DOM : Fld := ⟨0x03, 0x120, 3, 5, .ro, .keep, 0, .plain⟩
/-- Table 13-11: PWR 0x120 [15:8]. -/
def PWR.REF_PAGE : Fld := ⟨0x03, 0x120, 8, 8, .ro, .keep, 0, .plain⟩
/-- Table 13-11: PWR 0x120 [19:16]. -/
def PWR.REF_REASON : Fld := ⟨0x03, 0x120, 16, 4, .ro, .keep, 0, .plain⟩
/-- Table 13-11: PWR 0x124 [15:0]. -/
def PWR.DISPLACE_CNT : Fld := ⟨0x03, 0x124, 0, 16, .rc, .keep, 0, .plain⟩
/-- Table 13-11: PWR 0x124 [31:16]. -/
def PWR.DROP_CNT : Fld := ⟨0x03, 0x124, 16, 16, .rc, .keep, 0, .plain⟩
/-- Table 13-11: PWR 0x200 + 0x4 * d [15:0]. -/
def PWR.DOM_REFUSE_CNT (d : Nat) : Fld := ⟨0x03, 0x200 + 0x4 * d, 0, 16, .rc, .keep, 0, .plain⟩
/-- Table 13-11: PWR 0x200 + 0x4 * d [31:16]. -/
def PWR.DOM_ABORT_CNT (d : Nat) : Fld := ⟨0x03, 0x200 + 0x4 * d, 16, 16, .rc, .keep, 0, .plain⟩
/-- Table 13-11: PWR 0x280 + 0x4 * d [7:0]. -/
def PWR.DOM_LAST_PAGE (d : Nat) : Fld := ⟨0x03, 0x280 + 0x4 * d, 0, 8, .ro, .keep, 0, .plain⟩
/-- Table 13-11: PWR 0x280 + 0x4 * d [11:8]. -/
def PWR.DOM_LAST_REASON (d : Nat) : Fld := ⟨0x03, 0x280 + 0x4 * d, 8, 4, .ro, .keep, 0, .plain⟩
/-- Table 13-11: PWR 0x280 + 0x4 * d [31:16]. -/
def PWR.DOM_LAST_TICK16 (d : Nat) : Fld := ⟨0x03, 0x280 + 0x4 * d, 16, 16, .ro, .keep, 0, .plain⟩
/-- Table 13-12: AON 0x100 [7:0]. -/
def AON.WAKE_SRC : Fld := ⟨0x04, 0x100, 0, 8, .ro, .keep, 0, .plain⟩
/-- Table 13-12: AON 0x100 [11:8]. -/
def AON.WAKE_KIND : Fld := ⟨0x04, 0x100, 8, 4, .ro, .keep, 0, .plain⟩
/-- Table 13-12: AON 0x100 [12]. -/
def AON.REPLAYED : Fld := ⟨0x04, 0x100, 12, 1, .ro, .keep, 0, .plain⟩
/-- Table 13-12: AON 0x100 [23:16]. -/
def AON.WAKE_DETAIL : Fld := ⟨0x04, 0x100, 16, 8, .ro, .keep, 0, .plain⟩
/-- Table 13-12: AON 0x104 [31:0]. -/
def AON.WAKE_TICK_LO : Fld := ⟨0x04, 0x104, 0, 32, .ro, .keep, 0, .plain⟩
/-- Table 13-12: AON 0x108 [15:0]. -/
def AON.WAKE_TICK_HI : Fld := ⟨0x04, 0x108, 0, 16, .ro, .keep, 0, .plain⟩
/-- Table 13-12: AON 0x10C [31:0]. -/
def AON.TICK_ENTRY_LO : Fld := ⟨0x04, 0x10C, 0, 32, .ro, .keep, 0, .plain⟩
/-- Table 13-12: AON 0x110 [15:0]. -/
def AON.TICK_ENTRY_HI : Fld := ⟨0x04, 0x110, 0, 16, .ro, .keep, 0, .plain⟩
/-- Table 13-12: AON 0x114 [31:0]. -/
def AON.SPAN_LO : Fld := ⟨0x04, 0x114, 0, 32, .ro, .keep, 0, .plain⟩
/-- Table 13-12: AON 0x118 [15:0]. -/
def AON.SPAN_HI : Fld := ⟨0x04, 0x118, 0, 16, .ro, .keep, 0, .plain⟩
/-- Table 13-12: AON 0x118 [16]. -/
def AON.EST : Fld := ⟨0x04, 0x118, 16, 1, .ro, .keep, 0, .plain⟩
/-- Table 13-12: AON 0x118 [17]. -/
def AON.UNC_WIDE : Fld := ⟨0x04, 0x118, 17, 1, .ro, .keep, 0, .plain⟩
/-- Table 13-12: AON 0x11C [31:0]. -/
def AON.UNC : Fld := ⟨0x04, 0x11C, 0, 32, .ro, .keep, 0, .plain⟩
/-- Table 13-12: AON 0x120 [23:0]. -/
def AON.CAL_PERIOD : Fld := ⟨0x04, 0x120, 0, 24, .ro, .keep, 7812500, .plain⟩
/-- Table 13-12: AON 0x120 [31:24]. -/
def AON.CAL_TEMP : Fld := ⟨0x04, 0x120, 24, 8, .ro, .keep, 0, .plain⟩
/-- Table 13-12: AON 0x124 [7:0]. -/
def AON.TEMP_EXIT : Fld := ⟨0x04, 0x124, 0, 8, .ro, .keep, 0, .plain⟩
/-- Table 13-12: AON 0x128 [23:0]. -/
def AON.TIMER : Fld := ⟨0x04, 0x128, 0, 24, .rwl, .keep, 0, .plain⟩
/-- Table 13-12: AON 0x12C [15:0]. -/
def AON.WAKE_CNT : Fld := ⟨0x04, 0x12C, 0, 16, .rc, .keep, 0, .plain⟩
/-- Table 13-12: AON 0x12C [31:16]. -/
def AON.REPLAY_CNT : Fld := ⟨0x04, 0x12C, 16, 16, .rc, .keep, 0, .plain⟩
/-- Table 13-12: AON 0x130 [0]. -/
def AON.LATCHED : Fld := ⟨0x04, 0x130, 0, 1, .ro, .warm, 0, .plain⟩
/-- Table 14-8: PAIR 0x100 [7:0]. -/
def PAIR.RB_LIM : Fld := ⟨0x09, 0x100, 0, 8, .rwl, .warm, 10, .plain⟩
/-- Table 14-8: PAIR 0x104 [0]. -/
def PAIR.MODE : Fld := ⟨0x09, 0x104, 0, 1, .ro, .cold, 0, .plain⟩
/-- Table 14-8: PAIR 0x104 [1]. -/
def PAIR.WINDOW : Fld := ⟨0x09, 0x104, 1, 1, .ro, .warm, 0, .plain⟩
/-- Table 14-8: PAIR 0x104 [2]. -/
def PAIR.CHK_BUSY : Fld := ⟨0x09, 0x104, 2, 1, .ro, .warm, 0, .plain⟩
/-- Table 14-8: PAIR 0x104 [3]. -/
def PAIR.SPLIT_DIS : Fld := ⟨0x09, 0x104, 3, 1, .ro, .cold, 0, .plain⟩
/-- Table 14-8: PAIR 0x108 [15:0]. -/
def PAIR.ROLLBACK_CNT : Fld := ⟨0x09, 0x108, 0, 16, .rc, .keep, 0, .plain⟩
/-- Table 14-8: PAIR 0x108 [31:16]. -/
def PAIR.STATE_ONLY_CNT : Fld := ⟨0x09, 0x108, 16, 16, .rc, .keep, 0, .plain⟩
/-- Table 14-8: PAIR 0x10C [15:0]. -/
def PAIR.ALARM_CNT : Fld := ⟨0x09, 0x10C, 0, 16, .rc, .keep, 0, .plain⟩
/-- Table 14-8: PAIR 0x10C [23:16]. -/
def PAIR.SF_RB : Fld := ⟨0x09, 0x10C, 16, 8, .ro, .warm, 0, .plain⟩
/-- Table 14-8: PAIR 0x110 [3:0]. -/
def PAIR.FAULT_CAUSE : Fld := ⟨0x09, 0x110, 0, 4, .ro, .keep, 0, .plain⟩
/-- Table 14-8: PAIR 0x110 [5:4]. -/
def PAIR.FAULT_FIELD : Fld := ⟨0x09, 0x110, 4, 2, .ro, .keep, 0, .plain⟩
/-- Table 14-8: PAIR 0x110 [31:16]. -/
def PAIR.FAULT_TICK16 : Fld := ⟨0x09, 0x110, 16, 16, .ro, .keep, 0, .plain⟩
/-- Table 14-8: PAIR 0x114 [31:0]. -/
def PAIR.LAST_ADDR : Fld := ⟨0x09, 0x114, 0, 32, .ro, .keep, 0, .plain⟩
/-- Table 14-8: PAIR 0x118 [31:0]. -/
def PAIR.UNAGREED_ADDR : Fld := ⟨0x09, 0x118, 0, 32, .ro, .keep, 0, .plain⟩
/-- Table 14-8: PAIR 0x11C [15:0]. -/
def PAIR.BUDGET_CNT : Fld := ⟨0x09, 0x11C, 0, 16, .rc, .keep, 0, .plain⟩
/-- Table 14-8: PAIR 0x11C [31:16]. -/
def PAIR.CAP_CNT : Fld := ⟨0x09, 0x11C, 16, 16, .rc, .keep, 0, .plain⟩
/-- Table 14-8: PAIR 0x120 [9:0]. -/
def PAIR.UNDO_MAX : Fld := ⟨0x09, 0x120, 0, 10, .rc, .warm, 0, .plain⟩
/-- Table 14-8: PAIR 0x120 [24:16]. -/
def PAIR.CQ_MAX : Fld := ⟨0x09, 0x120, 16, 9, .rc, .warm, 0, .plain⟩
/-- Table 14-8: PAIR 0x124 [7:0]. -/
def PAIR.REPLAY_MAX : Fld := ⟨0x09, 0x124, 0, 8, .rc, .warm, 0, .plain⟩
/-- Table 14-8: PAIR 0x128 [1:0]. -/
def PAIR.INJ_RESULT : Fld := ⟨0x09, 0x128, 0, 2, .ro, .cold, 0, .plain⟩
/-- Table 14-8: PAIR 0x128 [3:2]. -/
def PAIR.INJ_FIELD : Fld := ⟨0x09, 0x128, 2, 2, .ro, .cold, 0, .plain⟩
/-- Table 14-8: PAIR 0x128 [10:4]. -/
def PAIR.INJ_PATTERN : Fld := ⟨0x09, 0x128, 4, 7, .ro, .cold, 0, .plain⟩
/-- Table 14-8: PAIR 0x128 [31:16]. -/
def PAIR.INJ_RUNS : Fld := ⟨0x09, 0x128, 16, 16, .ro, .keep, 0, .plain⟩
/-- Table 14-8: PAIR 0x12C [9:0]. -/
def PAIR.SLICE_TASK : Fld := ⟨0x09, 0x12C, 0, 10, .rc, .warm, 0, .plain⟩
/-- Table 14-8: PAIR 0x12C [26:16]. -/
def PAIR.SLICE_BUDGET : Fld := ⟨0x09, 0x12C, 16, 11, .rc, .warm, 0, .plain⟩
/-- Table 14-8: PAIR 0x12C [31]. -/
def PAIR.SLICE_VALID : Fld := ⟨0x09, 0x12C, 31, 1, .rc, .warm, 0, .plain⟩
/-- Table 14-8: PAIR 0x130 [15:0]. -/
def PAIR.WDT_PERIOD : Fld := ⟨0x09, 0x130, 0, 16, .rwl, .warm, 0, .plain⟩
/-- Table 14-8: PAIR 0x134 [7:0]. -/
def PAIR.WDT_KEY : Fld := ⟨0x09, 0x134, 0, 8, .wo, .warm, 0, .plain⟩
/-- Table 15-7: EVT 0x100 [1:0]. -/
def EVT.MIN_CLASS : Fld := ⟨0x08, 0x100, 0, 2, .rwl, .warm, 0, .plain⟩
/-- Table 15-7: EVT 0x100 [16]. -/
def EVT.SCRUB_EN : Fld := ⟨0x08, 0x100, 16, 1, .rwl, .warm, 1, .plain⟩
/-- Table 15-7: EVT 0x104 [10:0]. -/
def EVT.COUNT : Fld := ⟨0x08, 0x104, 0, 11, .ro, .keep, 0, .plain⟩
/-- Table 15-7: EVT 0x104 [27:16]. -/
def EVT.NEXT_SEQ : Fld := ⟨0x08, 0x104, 16, 12, .ro, .keep, 0, .plain⟩
/-- Table 15-7: EVT 0x108 [9:0]. -/
def EVT.REC_SEL : Fld := ⟨0x08, 0x108, 0, 10, .rw, .warm, 0, .plain⟩
/-- Table 15-7: EVT 0x10C + 0x4 * i [31:0]. -/
def EVT.REC_DATA (i : Nat) : Fld := ⟨0x08, 0x10C + 0x4 * i, 0, 32, .ro, .warm, 0, .plain⟩
/-- Table 15-7: EVT 0x11C [9:0]. -/
def EVT.LATEST : Fld := ⟨0x08, 0x11C, 0, 10, .ro, .keep, 0, .plain⟩
/-- Table 15-7: EVT 0x120 + 0x4 * i [15:0]. -/
def EVT.DROPPED (i : Nat) : Fld := ⟨0x08, 0x120 + 0x4 * i, 0, 16, .rc, .keep, 0, .plain⟩
/-- Table 15-7: EVT 0x120 + 0x4 * i [31:16]. -/
def EVT.FILTERED (i : Nat) : Fld := ⟨0x08, 0x120 + 0x4 * i, 16, 16, .rc, .keep, 0, .plain⟩
/-- Table 15-7: EVT 0x130 [15:0]. -/
def EVT.INTAKE_FULL_CNT : Fld := ⟨0x08, 0x130, 0, 16, .rc, .keep, 0, .plain⟩
/-- Table 15-7: EVT 0x130 [31:16]. -/
def EVT.BAD_SLOT_CNT : Fld := ⟨0x08, 0x130, 16, 16, .rc, .keep, 0, .plain⟩
/-- Table 15-7: EVT 0x134 [15:0]. -/
def EVT.CE_CNT : Fld := ⟨0x08, 0x134, 0, 16, .rc, .keep, 0, .plain⟩
/-- Table 15-7: EVT 0x134 [31:16]. -/
def EVT.UE_CNT : Fld := ⟨0x08, 0x134, 16, 16, .rc, .keep, 0, .plain⟩
/-- Table 15-7: EVT 0x138 [31:0]. -/
def EVT.ECC_ADDR : Fld := ⟨0x08, 0x138, 0, 32, .ro, .keep, 0, .plain⟩
/-- Table 15-7: EVT 0x13C [1:0]. -/
def EVT.ECC_MEM : Fld := ⟨0x08, 0x13C, 0, 2, .ro, .keep, 0, .plain⟩
/-- Table 15-7: EVT 0x13C [2]. -/
def EVT.ECC_UE : Fld := ⟨0x08, 0x13C, 2, 1, .ro, .keep, 0, .plain⟩
/-- Table 15-7: EVT 0x13C [31:16]. -/
def EVT.ECC_TICK16 : Fld := ⟨0x08, 0x13C, 16, 16, .ro, .keep, 0, .plain⟩
/-- Table 15-7: EVT 0x140 [10:0]. -/
def EVT.BAD_BLOCK : Fld := ⟨0x08, 0x140, 0, 11, .ro, .keep, 0, .plain⟩
/-- Table 15-7: EVT 0x140 [11]. -/
def EVT.BAD_REGION : Fld := ⟨0x08, 0x140, 11, 1, .ro, .keep, 0, .plain⟩
/-- Table 15-7: EVT 0x140 [31:16]. -/
def EVT.FLASH_FAIL_CNT : Fld := ⟨0x08, 0x140, 16, 16, .rc, .keep, 0, .plain⟩
/-- Table 15-7: EVT 0x144 [4:0]. -/
def EVT.ARCH_AREA : Fld := ⟨0x08, 0x144, 0, 5, .ro, .keep, 0, .plain⟩
/-- Table 15-7: EVT 0x144 [31:16]. -/
def EVT.ARCH_CNT : Fld := ⟨0x08, 0x144, 16, 16, .rc, .keep, 0, .plain⟩
/-- Table 15-7: EVT 0x148 [12:0]. -/
def EVT.CRIT_POS : Fld := ⟨0x08, 0x148, 0, 13, .ro, .keep, 0, .plain⟩
/-- Table 15-7: EVT 0x148 [31:16]. -/
def EVT.ARCH_FAIL_CNT : Fld := ⟨0x08, 0x148, 16, 16, .rc, .keep, 0, .plain⟩
/-- Table 15-7: EVT 0x150 [15:0]. -/
def EVT.RAISE_CODE : Fld := ⟨0x08, 0x150, 0, 16, .wo, .warm, 0, .plain⟩
/-- Table 15-7: EVT 0x150 [17:16]. -/
def EVT.RAISE_CLASS : Fld := ⟨0x08, 0x150, 16, 2, .wo, .warm, 0, .plain⟩
/-- Table 15-7: EVT 0x150 [27:20]. -/
def EVT.RAISE_PAGE : Fld := ⟨0x08, 0x150, 20, 8, .wo, .warm, 0, .plain⟩
/-- Table 15-7: EVT 0x150 [31]. -/
def EVT.RAISE_GO : Fld := ⟨0x08, 0x150, 31, 1, .wo, .warm, 0, .plain⟩
/-- Table 15-7: EVT 0x154 [31:0]. -/
def EVT.RAISE_DETAIL : Fld := ⟨0x08, 0x154, 0, 32, .wo, .warm, 0, .plain⟩
/-- Table 16-16: IDN 0x100 + 0x4 * i [31:0]. -/
def IDN.ID (i : Nat) : Fld := ⟨0x01, 0x100 + 0x4 * i, 0, 32, .ro, .cold, 0, .plain⟩
/-- Table 16-16: BOOT 0x100 [3:0]. -/
def BOOT.REACHED : Fld := ⟨0x05, 0x100, 0, 4, .ro, .keep, 15, .plain⟩
/-- Table 16-16: BOOT 0x100 [7:4]. -/
def BOOT.LAST_FAIL : Fld := ⟨0x05, 0x100, 4, 4, .ro, .keep, 15, .plain⟩
/-- Table 16-16: BOOT 0x100 [11:8]. -/
def BOOT.ALT_TRY : Fld := ⟨0x05, 0x100, 8, 4, .ro, .keep, 15, .plain⟩
/-- Table 16-16: BOOT 0x100 [12]. -/
def BOOT.RESCUE : Fld := ⟨0x05, 0x100, 12, 1, .ro, .keep, 0, .plain⟩
/-- Table 16-16: BOOT 0x100 [13]. -/
def BOOT.WARM : Fld := ⟨0x05, 0x100, 13, 1, .ro, .warm, 0, .plain⟩
/-- Table 16-16: BOOT 0x100 [14]. -/
def BOOT.INT_OSC : Fld := ⟨0x05, 0x100, 14, 1, .ro, .warm, 0, .plain⟩
/-- Table 16-16: BOOT 0x100 [26:16]. -/
def BOOT.ALT : Fld := ⟨0x05, 0x100, 16, 11, .ro, .warm, 0, .plain⟩
/-- Table 16-16: BOOT 0x104 [0]. -/
def BOOT.ACT_BANK : Fld := ⟨0x05, 0x104, 0, 1, .ro, .keep, 0, .plain⟩
/-- Table 16-16: BOOT 0x104 [1]. -/
def BOOT.ACT_CFG : Fld := ⟨0x05, 0x104, 1, 1, .ro, .keep, 0, .plain⟩
/-- Table 16-16: BOOT 0x104 [2]. -/
def BOOT.CFG_SLOT : Fld := ⟨0x05, 0x104, 2, 1, .ro, .warm, 0, .plain⟩
/-- Table 16-16: BOOT 0x104 [7:3]. -/
def BOOT.CFG_CHECK : Fld := ⟨0x05, 0x104, 3, 5, .ro, .warm, 0, .plain⟩
/-- Table 16-16: BOOT 0x104 [10:8]. -/
def BOOT.S5_CHECK : Fld := ⟨0x05, 0x104, 8, 3, .ro, .warm, 0, .plain⟩
/-- Table 16-16: BOOT 0x104 [15:12]. -/
def BOOT.UCODE_FAIL : Fld := ⟨0x05, 0x104, 12, 4, .ro, .warm, 0, .plain⟩
/-- Table 16-16: BOOT 0x104 [20:16]. -/
def BOOT.S9_PORT : Fld := ⟨0x05, 0x104, 16, 5, .ro, .keep, 31, .plain⟩
/-- Table 16-16: BOOT 0x104 [21]. -/
def BOOT.ADOPT : Fld := ⟨0x05, 0x104, 21, 1, .ro, .warm, 0, .plain⟩
/-- Table 16-16: BOOT 0x108 [23:0]. -/
def BOOT.PORT_OOS : Fld := ⟨0x05, 0x108, 0, 24, .ro, .warm, 0, .plain⟩
/-- Table 16-16: BOOT 0x10C [15:0]. -/
def BOOT.START_MS : Fld := ⟨0x05, 0x10C, 0, 16, .ro, .warm, 0, .plain⟩
/-- Table 16-16: BOOT 0x10C [31:16]. -/
def BOOT.START_CNT : Fld := ⟨0x05, 0x10C, 16, 16, .rc, .keep, 0, .plain⟩
/-- Table 16-16: BOOT 0x110 [15:0]. -/
def BOOT.FAIL_CNT : Fld := ⟨0x05, 0x110, 0, 16, .rc, .keep, 0, .plain⟩
/-- Table 16-16: BOOT 0x110 [31:16]. -/
def BOOT.REGW_REJ : Fld := ⟨0x05, 0x110, 16, 16, .rc, .warm, 0, .plain⟩
/-- Table 16-16: UPD 0x100 [3:0]. -/
def UPD.SVC_CTRL : Fld := ⟨0x06, 0x100, 0, 4, .rwl, .warm, 15, .plain⟩
/-- Table 16-16: UPD 0x100 [15:8]. -/
def UPD.IDLE_TO : Fld := ⟨0x06, 0x100, 8, 8, .rwl, .warm, 5, .clamp 1 255⟩
/-- Table 16-16: UPD 0x104 [3:0]. -/
def UPD.STATE : Fld := ⟨0x06, 0x104, 0, 4, .ro, .warm, 0, .plain⟩
/-- Table 16-16: UPD 0x104 [7:4]. -/
def UPD.TARGET : Fld := ⟨0x06, 0x104, 4, 4, .ro, .warm, 0, .plain⟩
/-- Table 16-16: UPD 0x104 [15:8]. -/
def UPD.RESULT : Fld := ⟨0x06, 0x104, 8, 8, .ro, .warm, 0, .plain⟩
/-- Table 16-16: UPD 0x104 [23:16]. -/
def UPD.HOLDER_PORT : Fld := ⟨0x06, 0x104, 16, 8, .ro, .warm, 255, .plain⟩
/-- Table 16-16: UPD 0x104 [31:24]. -/
def UPD.HOLDER_SLOT : Fld := ⟨0x06, 0x104, 24, 8, .ro, .warm, 255, .plain⟩
/-- Table 16-16: UPD 0x108 [10:0]. -/
def UPD.BLOCKS : Fld := ⟨0x06, 0x108, 0, 11, .ro, .warm, 0, .plain⟩
/-- Table 16-16: UPD 0x108 [31:16]. -/
def UPD.BAD_BLOCK : Fld := ⟨0x06, 0x108, 16, 16, .ro, .warm, 0, .plain⟩
/-- Table 16-16: UPD 0x10C [0]. -/
def UPD.PROBATION : Fld := ⟨0x06, 0x10C, 0, 1, .ro, .keep, 0, .plain⟩
/-- Table 16-16: UPD 0x10C [1]. -/
def UPD.HANDOVER : Fld := ⟨0x06, 0x10C, 1, 1, .ro, .warm, 0, .plain⟩
/-- Table 16-16: UPD 0x10C [2]. -/
def UPD.REGION_OK : Fld := ⟨0x06, 0x10C, 2, 1, .ro, .keep, 0, .plain⟩
/-- Table 16-16: UPD 0x10C [31:16]. -/
def UPD.PROB_LEFT : Fld := ⟨0x06, 0x10C, 16, 16, .ro, .warm, 0, .plain⟩
/-- Table 16-16: UPD 0x110 [0]. -/
def UPD.EXPORT_DONE : Fld := ⟨0x06, 0x110, 0, 1, .wo, .warm, 0, .plain⟩
/-- Table 16-16: UPD 0x110 [1]. -/
def UPD.IMPORT_OK : Fld := ⟨0x06, 0x110, 1, 1, .wo, .warm, 0, .plain⟩
/-- Table 16-16: UPD 0x110 [2]. -/
def UPD.IMPORT_FAIL : Fld := ⟨0x06, 0x110, 2, 1, .wo, .warm, 0, .plain⟩
/-- Table 16-16: UPD 0x110 [3]. -/
def UPD.REJECT : Fld := ⟨0x06, 0x110, 3, 1, .wo, .warm, 0, .plain⟩
/-- Table 16-16: UPD 0x114 [15:0]. -/
def UPD.DISCARD_CNT : Fld := ⟨0x06, 0x114, 0, 16, .rc, .keep, 0, .plain⟩
/-- Table 16-16: UPD 0x114 [31:16]. -/
def UPD.FALLBACK_CNT : Fld := ⟨0x06, 0x114, 16, 16, .rc, .keep, 0, .plain⟩
/-- Table 16-16: UPD 0x118 [15:0]. -/
def UPD.BUSY_CNT : Fld := ⟨0x06, 0x118, 0, 16, .rc, .keep, 0, .plain⟩
/-- Table 16-16: UPD 0x11C [31:0]. -/
def UPD.NEW_VER : Fld := ⟨0x06, 0x11C, 0, 32, .ro, .warm, 0, .plain⟩
/-- Table 16-16: SEC 0x100 [12:0]. -/
def SEC.OTP_ADDR : Fld := ⟨0x07, 0x100, 0, 13, .rw, .warm, 0, .plain⟩
/-- Table 16-16: SEC 0x104 [31:0]. -/
def SEC.OTP_DATA : Fld := ⟨0x07, 0x104, 0, 32, .rw, .warm, 0, .plain⟩
/-- Table 16-16: SEC 0x108 [0]. -/
def SEC.OTP_GO : Fld := ⟨0x07, 0x108, 0, 1, .wo, .warm, 0, .plain⟩
/-- Table 16-16: SEC 0x108 [1]. -/
def SEC.OTP_BUSY : Fld := ⟨0x07, 0x108, 1, 1, .ro, .warm, 0, .plain⟩
/-- Table 16-16: SEC 0x108 [2]. -/
def SEC.OTP_FAIL : Fld := ⟨0x07, 0x108, 2, 1, .ro, .warm, 0, .plain⟩
/-- Table 16-16: SEC 0x10C [6:0]. -/
def SEC.ARB : Fld := ⟨0x07, 0x10C, 0, 7, .ro, .cold, 0, .plain⟩
/-- Table 16-16: SEC 0x10C [11:8]. -/
def SEC.KEY_VALID : Fld := ⟨0x07, 0x10C, 8, 4, .ro, .cold, 0, .plain⟩
/-- Table 16-16: SEC 0x10C [15:12]. -/
def SEC.KEY_REVOKED : Fld := ⟨0x07, 0x10C, 12, 4, .ro, .cold, 0, .plain⟩
/-- Table 16-16: SEC 0x10C [16]. -/
def SEC.SPLIT_DIS : Fld := ⟨0x07, 0x10C, 16, 1, .ro, .cold, 0, .plain⟩
/-- Table 16-16: SEC 0x10C [17]. -/
def SEC.DEBUG_LOCK : Fld := ⟨0x07, 0x10C, 17, 1, .ro, .cold, 0, .plain⟩
/-- Table 16-16: SEC 0x10C [18]. -/
def SEC.DEBUG_OPEN : Fld := ⟨0x07, 0x10C, 18, 1, .ro, .cold, 0, .plain⟩
/-- Table 16-16: SEC 0x140 + 0x4 * i [31:0]. -/
def SEC.CAK (i : Nat) : Fld := ⟨0x07, 0x140 + 0x4 * i, 0, 32, .wo, .cold, 0, .plain⟩
/-- Table 17-2: COM 0x0 [7:0]. -/
def COM.INDEX (pg : Nat) : Fld := ⟨pg, 0x0, 0, 8, .ro, .cold, pg, .plain⟩
/-- Table 17-2: COM 0x0 [15:8]. -/
def COM.INST (pg : Nat) : Fld := ⟨pg, 0x0, 8, 8, .ro, .cold, pageInst pg, .plain⟩
/-- Table 17-2: COM 0x0 [27:16]. -/
def COM.TYPE (pg : Nat) : Fld := ⟨pg, 0x0, 16, 12, .ro, .cold, pageType pg, .plain⟩
/-- Table 17-2: COM 0x0 [31:28]. -/
def COM.VER (pg : Nat) : Fld := ⟨pg, 0x0, 28, 4, .ro, .cold, 1, .plain⟩
/-- Table 17-2: COM 0x4 [7:0]. -/
def COM.DOMAIN (pg : Nat) : Fld := ⟨pg, 0x4, 0, 8, .ro, .cold, pageDomain pg, .plain⟩
/-- Table 17-2: COM 0x4 [8]. -/
def COM.KEYED (pg : Nat) : Fld := ⟨pg, 0x4, 8, 1, .ro, .cold, pageKeyed pg, .plain⟩
/-- Table 17-2: COM 0x4 [27:16]. -/
def COM.LAST_OFF (pg : Nat) : Fld := ⟨pg, 0x4, 16, 12, .ro, .cold, pageLast pg, .plain⟩
/-- Table 17-2: COM 0x8 [1:0]. -/
def COM.MIN_CLASS (pg : Nat) : Fld := ⟨pg, 0x8, 0, 2, .rwl, .warm, 0, .plain⟩
/-- Table 17-2: COM 0xC [0]. -/
def COM.AWAKE (pg : Nat) : Fld := ⟨pg, 0xC, 0, 1, .ro, .warm, 0, .plain⟩
/-- Table 17-2: COM 0xC [1]. -/
def COM.WAKING (pg : Nat) : Fld := ⟨pg, 0xC, 1, 1, .ro, .warm, 0, .plain⟩
/-- Table 17-2: COM 0xC [2]. -/
def COM.OOS (pg : Nat) : Fld := ⟨pg, 0xC, 2, 1, .ro, .warm, 0, .plain⟩
/-- Table 17-2: COM 0xC [3]. -/
def COM.KEY_OPEN (pg : Nat) : Fld := ⟨pg, 0xC, 3, 1, .ro, .warm, 1, .plain⟩
/-- Table 17-2: COM 0xC [4]. -/
def COM.WBUF (pg : Nat) : Fld := ⟨pg, 0xC, 4, 1, .ro, .warm, 0, .plain⟩
/-- Table 17-2: COM 0x10 [31:0]. -/
def COM.PAGE_IRQ (pg : Nat) : Fld := ⟨pg, 0x10, 0, 32, .w1c, .warm, 0, .plain⟩
/-- Table 17-2: COM 0x14 [31:0]. -/
def COM.PAGE_IEN (pg : Nat) : Fld := ⟨pg, 0x14, 0, 32, .rw, .warm, 0, .plain⟩
/-- Table 17-2: COM 0x18 [15:0]. -/
def COM.RAISED (pg : Nat) : Fld := ⟨pg, 0x18, 0, 16, .rc, .keep, 0, .plain⟩
/-- Table 17-2: COM 0x18 [31:16]. -/
def COM.LAST_CODE (pg : Nat) : Fld := ⟨pg, 0x18, 16, 16, .ro, .keep, 0, .plain⟩
/-- Table 17-2: COM 0x1C [7:0]. -/
def COM.KEY_CMD (pg : Nat) : Fld := ⟨pg, 0x1C, 0, 8, .wo, .warm, 0, .plain⟩
/-- Table 17-2: COM 0x1C [8]. -/
def COM.KEY (pg : Nat) : Fld := ⟨pg, 0x1C, 8, 1, .ro, .warm, 1, .plain⟩
/-- Table 17-2: COM 0x1C [9]. -/
def COM.LOCKDOWN (pg : Nat) : Fld := ⟨pg, 0x1C, 9, 1, .w1s, .warm, 0, .plain⟩
/-- Table 17-3: SYS 0x100 [7:0]. -/
def SYS.RST : Fld := ⟨0x00, 0x100, 0, 8, .wo, .warm, 0, .plain⟩
/-- Table 17-3: SYS 0x104 [0]. -/
def SYS.CFG_DEFAULT : Fld := ⟨0x00, 0x104, 0, 1, .ro, .warm, 0, .plain⟩
/-- Table 17-3: SYS 0x108 [31:0]. -/
def SYS.IRQ_SUM0 : Fld := ⟨0x00, 0x108, 0, 32, .ro, .warm, 0, .plain⟩
/-- Table 17-3: SYS 0x10C [31:0]. -/
def SYS.IRQ_SUM1 : Fld := ⟨0x00, 0x10C, 0, 32, .ro, .warm, 0, .plain⟩
/-- Table 17-3: SYS 0x110 [31:0]. -/
def SYS.LOCKDOWN0 : Fld := ⟨0x00, 0x110, 0, 32, .rwl, .warm, 0, .plain⟩
/-- Table 17-3: SYS 0x114 [31:0]. -/
def SYS.LOCKDOWN1 : Fld := ⟨0x00, 0x114, 0, 32, .rwl, .warm, 0, .plain⟩
/-- Table 17-3: SYS 0x118 [15:0]. -/
def SYS.KEY_REJ_CNT : Fld := ⟨0x00, 0x118, 0, 16, .rc, .keep, 0, .plain⟩
/-- Table 17-3: SYS 0x118 [31:16]. -/
def SYS.UNMAP_CNT : Fld := ⟨0x00, 0x118, 16, 16, .rc, .keep, 0, .plain⟩
/-- Table 17-3: SYS 0x11C [7:0]. -/
def SYS.KEY_REJ_PAGE : Fld := ⟨0x00, 0x11C, 0, 8, .ro, .keep, 0, .plain⟩
/-- Table 17-3: SYS 0x11C [19:8]. -/
def SYS.KEY_REJ_OFF : Fld := ⟨0x00, 0x11C, 8, 12, .ro, .keep, 0, .plain⟩
/-- Table 17-3: SYS 0x11C [20]. -/
def SYS.KEY_REJ_SRC : Fld := ⟨0x00, 0x11C, 20, 1, .ro, .keep, 0, .plain⟩
/-- Table 17-3: SYS 0x120 [31:0]. -/
def SYS.UNMAP_ADDR : Fld := ⟨0x00, 0x120, 0, 32, .ro, .keep, 0, .plain⟩
/-- Table 17-3: SYS 0x124 [15:0]. -/
def SYS.WBUF_DROP_CNT : Fld := ⟨0x00, 0x124, 0, 16, .rc, .keep, 0, .plain⟩
/-- Table 17-3: CLK 0x100 [0]. -/
def CLK.XTAL_OK : Fld := ⟨0x02, 0x100, 0, 1, .ro, .warm, 0, .plain⟩
/-- Table 17-3: CLK 0x100 [1]. -/
def CLK.PLL_PAIR : Fld := ⟨0x02, 0x100, 1, 1, .ro, .warm, 0, .plain⟩
/-- Table 17-3: CLK 0x100 [2]. -/
def CLK.PLL_SEQ : Fld := ⟨0x02, 0x100, 2, 1, .ro, .warm, 0, .plain⟩
/-- Table 17-3: CLK 0x100 [3]. -/
def CLK.INT_OSC : Fld := ⟨0x02, 0x100, 3, 1, .ro, .warm, 0, .plain⟩

/-- The fields of the FRM word at offset `off` (the tables of its chapter). -/
def FRM.fieldsAt (off : Nat) : List Fld :=
  at0 0x100 off [FRM.RUN, FRM.TAB_NEXT] ++
  at0 0x104 off [FRM.RUNNING, FRM.TAB_ACT, FRM.SWAP_PEND, FRM.SYNC, FRM.ROLLBACK, FRM.SAFE_ORDER, FRM.CFG_ERR] ++
  at0 0x108 off [FRM.TICK_LO] ++
  at0 0x10C off [FRM.TICK_HI] ++
  at0 0x110 off [FRM.GEN0, FRM.GEN1] ++
  at0 0x114 off [FRM.SLACK_BASE, FRM.SLACK_LEN] ++
  at0 0x118 off [FRM.PHASE_ERR, FRM.SLEW_LEFT] ++
  at0 0x11C off [FRM.HOLDOVER_LIM] ++
  at0 0x120 off [FRM.BEAD_ERR_CNT] ++
  at0 0x124 off [FRM.ERR_ROD, FRM.ERR_BEAD, FRM.ERR_CAUSE] ++
  at0 0x128 off [FRM.CONFLICT_CNT] ++
  at0 0x12C off [FRM.DOM_SKIP_CNT] ++
  at0 0x130 off [FRM.DISPATCH_SUM] ++
  at0 0x134 off [FRM.ROLLBACK_CNT] ++
  (at1 0x800 0x4 256 off fun i => [FRM.SAMPLE i]) ++
  (at1 0xC00 0x4 256 off fun i => [FRM.SNAP i]) ++
  (at2 0x400 0x200 2 0x4 100 off fun t p => [FRM.TAB_SA t p, FRM.TAB_SB t p])
/-- The fields of the TIL word at offset `off` (the tables of its chapter). -/
def TIL.fieldsAt (off : Nat) : List Fld :=
  at0 0x100 off [TIL.SCRUB_EN] ++
  at0 0x104 off [TIL.DEGRADED, TIL.RELOAD_BUSY, TIL.OOS_ANY, TIL.SCRUB_POS] ++
  at0 0x108 off [TIL.FAIL_A_CNT] ++
  at0 0x10C off [TIL.FAIL_B_CNT] ++
  at0 0x110 off [TIL.DOUBLE_CNT] ++
  at0 0x114 off [TIL.FAIL_ROD, TIL.FAIL_COPY, TIL.FAIL_HDR, TIL.FAIL_SCRUB, TIL.FAIL_TICK16] ++
  at0 0x118 off [TIL.RELOAD_ROD] ++
  (at1 0x180 0x4 32 off fun i => [TIL.OOS i])
/-- The fields of the PRM word at offset `off` (the tables of its chapter). -/
def PRM.fieldsAt (off : Nat) : List Fld :=
  at0 0x100 off [PRM.EN] ++
  at0 0x104 off [PRM.OPEN, PRM.INTAKE, PRM.DRAINING] ++
  at0 0x108 off [PRM.ACCEPT_CNT] ++
  at0 0x10C off [PRM.REFUSE_CNT] ++
  at0 0x110 off [PRM.KEPT_CNT] ++
  at0 0x114 off [PRM.BREACH_CNT] ++
  at0 0x118 off [PRM.REF_REASON, PRM.REF_SOURCE, PRM.REF_CLASS] ++
  at0 0x11C off [PRM.BR_NUM, PRM.BR_CAUSE, PRM.BR_CLASS, PRM.BR_SOURCE] ++
  at0 0x120 off [PRM.NEXT_NUM] ++
  at0 0x124 off [PRM.RESET_OPEN] ++
  at0 0x128 off [PRM.REC_SEL] ++
  (at1 0x12C 0x4 4 off fun i => [PRM.REC_DATA i]) ++
  at0 0x13C off [PRM.DRAIN_LIM] ++
  (at1 0x140 0x4 4 off fun i => [PRM.REQ i]) ++
  at0 0x150 off [PRM.REQ_GO] ++
  at0 0x154 off [PRM.ANS_VALID, PRM.ANS_ACCEPTED, PRM.ANS_CODE, PRM.ANS_NUM] ++
  at0 0x158 off [PRM.ANS_DL_LO] ++
  at0 0x15C off [PRM.ANS_DL_HI] ++
  (at1 0x200 0x4 16 off fun i => [PRM.REFUSE_BY i]) ++
  (at1 0x240 0x4 16 off fun i => [PRM.BREACH_BY i]) ++
  (at1 0x300 0x4 64 off fun i => [PRM.BEADS i, PRM.CYCLES i]) ++
  (at1 0x400 0x10 24 off fun P => if P < 2 then [] else [PRM.ENV_OCC P, PRM.ENV_FRAMES P]) ++
  (at1 0x404 0x10 24 off fun P => if P < 2 then [] else [PRM.ENV_MEAS_OCC P, PRM.ENV_MEAS_FRAMES P]) ++
  (at1 0x408 0x10 24 off fun P => if P < 2 then [] else [PRM.ENV_OVER_CNT P])
/-- The fields of the HQ word at offset `off` (the tables of its chapter). -/
def HQ.fieldsAt (q : Nat) (off : Nat) : List Fld :=
  (at1 0x100 0x40 20 off fun c => [HQ.RETRY_N q c, HQ.THERM_M q c, HQ.UV_POL q c, HQ.CLASS q c, HQ.NCELL q c]) ++
  (at1 0x104 0x40 20 off fun c => [HQ.SLEW q c, HQ.OFF_FAST q c, HQ.PWM_FREQ q c, HQ.PHASE q c] ++ (if c % 10 < 8 then [] else [HQ.DEAD q c])) ++
  (at1 0x108 0x40 20 off fun c => [HQ.ACT q c, HQ.ARG q c]) ++
  (at1 0x10C 0x40 20 off fun c => [HQ.OWN_SET q c, HQ.OWN_EFF q c, HQ.OUT q c, HQ.SLEWING q c, HQ.CELLS_ON q c, HQ.PERMIT q c, HQ.PAIRED q c, HQ.SLAVE q c]) ++
  (at1 0x110 0x40 20 off fun c => [HQ.IS q c, HQ.I_ON q c]) ++
  (at1 0x114 0x40 20 off fun c => [HQ.OUT_V q c, HQ.TJ q c]) ++
  at0 0x600 off [HQ.PAIR_EN q, HQ.NET q] ++
  at0 0x604 off [HQ.FEED_V q] ++
  at0 0x608 off [HQ.FEED_VMIN q, HQ.VMIN_RST q] ++
  at0 0x60C off [HQ.FEED_I q] ++
  (at1 0x610 0x4 2 off fun i => [HQ.CP_RDY q i, HQ.TJ_MAX q i, HQ.BANK_I q i]) ++
  at0 0x618 off [HQ.QDISS q] ++
  at0 0x61C off [HQ.QTEMP q] ++
  at0 0x620 off [HQ.IMBAL q, HQ.SHARE q] ++
  at0 0x624 off [HQ.CMD_REJ_CNT q] ++
  at0 0x628 off [HQ.CMD_REJ_CH q, HQ.CMD_REJ_CAUSE q] ++
  at0 0x62C off [HQ.FEED_MEAN q] ++
  at0 0x630 off [HQ.OVER_CNT q] ++
  at0 0x700 off (if q ≠ 0 then [] else [HQ.MOD_I_LIVE, HQ.MOD_I_MEAN]) ++
  at0 0x704 off (if q ≠ 0 then [] else [HQ.MOD_ESTIMATE, HQ.MOD_BUDGET]) ++
  at0 0x708 off (if q ≠ 0 then [] else [HQ.BASEPLATE]) ++
  at0 0x70C off (if q ≠ 0 then [] else [HQ.ALLOW]) ++
  at0 0x710 off (if q ≠ 0 then [] else [HQ.AGG_OVER_CNT]) ++
  at0 0x714 off (if q ≠ 0 then [] else [HQ.DISS_OVER_CNT]) ++
  (at1 0x118 0x40 20 off fun c => [HQ.ILIM q c, HQ.ISC q c, HQ.OC_FILT q c]) ++
  (at1 0x11C 0x40 20 off fun c => [HQ.INR_ILIM q c, HQ.INR_WIN q c]) ++
  (at1 0x120 0x40 20 off fun c => [HQ.XSEC q c, HQ.BF q c, HQ.WIRE_FAST q c, HQ.TAU2 q c, HQ.WIRE_REARM q c, HQ.WIRE_LATCH q c, HQ.WIRE_EN q c]) ++
  (at1 0x124 0x40 20 off fun c => [HQ.THETA q c, HQ.TRIPS q c]) ++
  (at1 0x128 0x40 20 off fun c => if c % 10 < 8 then [HQ.CLAMP_BUDGET q c, HQ.CLAMP_TAU q c, HQ.CLAMP_REARM q c] else []) ++
  (at1 0x12C 0x40 20 off fun c => if c % 10 < 8 then [HQ.CLAMP_B q c, HQ.E_LAST q c] else []) ++
  (at1 0x130 0x40 20 off fun c => [HQ.SAFE_CFG q c, HQ.LATCH_CLR q c]) ++
  (at1 0x134 0x40 20 off fun c => [HQ.RETRY_CNT q c, HQ.THERM_CNT q c, HQ.RETRY_L q c, HQ.THERM_L q c, HQ.WIRE_L q c, HQ.UV q c, HQ.STB q c, HQ.TIED q c, HQ.REV q c, HQ.PAUSE_LEFT q c]) ++
  at0 0x640 off [HQ.HB_TO q] ++
  at0 0x644 off [HQ.HOLD_LIM q] ++
  at0 0x648 off [HQ.WATCH q, HQ.SAFE q, HQ.HOLD q, HQ.UCODE q, HQ.SAG q, HQ.OV q, HQ.REV_FEED q, HQ.GND_LOSS q, HQ.UCODE_VER q] ++
  at0 0x64C off [HQ.SAFE_REL q] ++
  (at1 0x650 0x4 2 off fun i => [HQ.PAT_ON q i, HQ.PAT_OFF q i, HQ.PAT_START q i]) ++
  (at1 0x658 0x4 2 off fun i => [HQ.INR_BUD q i, HQ.BILIM q i]) ++
  at0 0x660 off [HQ.QLEN0 q, HQ.PAUSED0 q, HQ.QLEN1 q, HQ.PAUSED1 q] ++
  at0 0x664 off [HQ.OVERPLAN_CNT q, HQ.PAUSE_CNT q] ++
  at0 0x668 off [HQ.SAG_VMIN q, HQ.SAG_LEN q] ++
  at0 0x66C off [HQ.SAG_CNT q, HQ.UV_CNT q] ++
  at0 0x670 off [HQ.SILENCE_CNT q, HQ.HOLD_EXP_CNT q] ++
  at0 0x674 off [HQ.PROT_DIS_CNT q, HQ.QEVT_LOST q] ++
  at0 0x678 off [HQ.TIE_CH q, HQ.TIE_PART q, HQ.TIE_TICK16 q] ++
  (at1 0x138 0x40 20 off fun c => [HQ.OL_ION q c, HQ.OL_CNT q c, HQ.IPU q c, HQ.SETTLE q c, HQ.ON_AUTO q c, HQ.LOWDUTY q c]) ++
  (at1 0x13C 0x40 20 off fun c => [HQ.DIAG_CODE q c, HQ.DIAG_BUSY q c, HQ.DIAG_KIND q c, HQ.V_MEAS q c, HQ.DIAG_REQ q c, HQ.DIAG_REQ_GO q c])
/-- The fields of the DIA word at offset `off` (the tables of its chapter). -/
def DIA.fieldsAt (off : Nat) : List Fld :=
  at0 0x100 off [DIA.POP_OWNER] ++
  at0 0x104 off [DIA.FIFO_LVL, DIA.BUSY_N] ++
  at0 0x108 off [DIA.CHG_OUT, DIA.CHG_VALID, DIA.CHG_OLD, DIA.CHG_NEW, DIA.CHG_TICK16] ++
  at0 0x10C off [DIA.FIFO_LOST] ++
  at0 0x110 off [DIA.REQ_REJ_CNT] ++
  at0 0x114 off [DIA.FAULT_CNT] ++
  (at1 0x120 0x4 10 off fun i => [DIA.SUMMARY i])
/-- The fields of the MOT word at offset `off` (the tables of its chapter). -/
def MOT.fieldsAt (off : Nat) : List Fld :=
  (at1 0x100 0x20 8 off fun k => [MOT.BR_EN k, MOT.STALL_ACT k, MOT.REV_BRAKE k, MOT.QPAIR k, MOT.MASK k]) ++
  (at1 0x104 0x20 8 off fun k => [MOT.RAMP_UP k, MOT.RAMP_DN k, MOT.ICHOP k]) ++
  (at1 0x108 0x20 8 off fun k => [MOT.STALL_I k, MOT.STALL_T k, MOT.HALL_T k]) ++
  (at1 0x10C 0x20 8 off fun k => [MOT.MODE k, MOT.DUTY k]) ++
  (at1 0x110 0x20 8 off fun k => [MOT.APPLIED k, MOT.STOPPED k, MOT.CUR_STALL k, MOT.HALL_STALL k, MOT.REVERSING k, MOT.MASKED k, MOT.CHOP k, MOT.DUTY_APPL k]) ++
  (at1 0x114 0x20 8 off fun k => [MOT.STALL_CNT k, MOT.CHOP_CNT k]) ++
  (at1 0x118 0x20 8 off fun k => [MOT.IBR k, MOT.IBR_PEAK k]) ++
  (at1 0x200 0x20 4 off fun j => [MOT.QD_EN j, MOT.INV j, MOT.FILT j]) ++
  (at1 0x204 0x20 4 off fun j => [MOT.QD_POS j]) ++
  (at1 0x208 0x20 4 off fun j => [MOT.QD_PERIOD j]) ++
  (at1 0x20C 0x20 4 off fun j => [MOT.LAST_TS j]) ++
  (at1 0x210 0x20 4 off fun j => [MOT.QD_DIR j, MOT.QD_POS_OK j, MOT.ERR_CNT j]) ++
  (at1 0x214 0x20 4 off fun j => [MOT.SNAP_POS j]) ++
  (at1 0x218 0x20 4 off fun j => [MOT.SNAP_PERIOD j]) ++
  (at1 0x21C 0x20 4 off fun j => [MOT.SNAP_DIR j, MOT.SNAP_POS_OK j, MOT.SNAP_EDGES j]) ++
  at0 0x300 off [MOT.REJ_CNT] ++
  at0 0x304 off [MOT.REJ_BR, MOT.REJ_CAUSE]
/-- The fields of the LED word at offset `off` (the tables of its chapter). -/
def LED.fieldsAt (off : Nat) : List Fld :=
  (at1 0x100 0x10 48 off fun n => [LED.I_SET n, LED.SRC n, LED.SLOT n, LED.SINK_SAFE n]) ++
  (at1 0x104 0x10 48 off fun n => [LED.SINK_DUTY n]) ++
  (at1 0x108 0x10 48 off fun n => [LED.APPLIED n, LED.OWN_EFF n, LED.OPEN n, LED.DROP n]) ++
  at0 0x400 off [LED.PERIOD, LED.AGG_LIM] ++
  at0 0x404 off [LED.SCALED, LED.SAFE, LED.HOLD, LED.WATCH] ++
  at0 0x408 off [LED.HB_TO] ++
  at0 0x40C off [LED.SAFE_REL, LED.HOLD_LIM] ++
  at0 0x410 off [LED.HR_LO, LED.HR_HI] ++
  at0 0x414 off [LED.HR_DUTY, LED.MIN_DROP, LED.HR_SAFE] ++
  at0 0x418 off [LED.GROUP_OT, LED.LATCHED, LED.TH_M, LED.LATCH_CLR] ++
  at0 0x41C off [LED.NB_GO, LED.NB_BUSY] ++
  (at1 0x420 0x4 2 off fun i => [LED.NB_SHORT i]) ++
  (at1 0x428 0x4 2 off fun i => [LED.NB_SKIP i]) ++
  (at1 0x430 0x4 2 off fun i => [LED.NB_LOW i]) ++
  at0 0x438 off [LED.SCALE_CNT, LED.SILENCE_CNT] ++
  at0 0x43C off [LED.OPEN_CNT, LED.VNK_REJ_CNT] ++
  at0 0x440 off [LED.QEVT_LOST, LED.HOLD_EXP_CNT]
/-- The fields of the TOP word at offset `off` (the tables of its chapter). -/
def TOP.fieldsAt (off : Nat) : List Fld :=
  (at1 0x100 0x40 4 off fun e => [TOP.LEN e, TOP.RSTEP e]) ++
  (at1 0x104 0x40 4 off fun e => [TOP.CMD_OP e, TOP.CMD_ADDR e, TOP.CMD_GO e]) ++
  (at1 0x108 0x40 4 off fun e => [TOP.STATE e, TOP.PC e, TOP.FCAUSE e]) ++
  (at1 0x10C 0x40 4 off fun e => [TOP.P e]) ++
  (at1 0x110 0x40 4 off fun e => [TOP.IA e, TOP.IB e]) ++
  (at1 0x114 0x40 4 off fun e => [TOP.C e]) ++
  (at2 0x120 0x40 4 0x4 8 off fun e i => [TOP.LV e i]) ++
  at0 0x200 off [TOP.FLAGS] ++
  at0 0x204 off [TOP.FAULT_CNT, TOP.PROG_REJ_CNT] ++
  (at2 0x800 0x200 4 0x4 128 off fun e i => [TOP.PROG e i])
/-- The fields of the CLR word at offset `off` (the tables of its chapter). -/
def CLR.fieldsAt (off : Nat) : List Fld :=
  (at1 0x100 0x4 2 off fun i => [CLR.BUS_EN i, CLR.FAST i]) ++
  at0 0x108 off [CLR.PERIOD] ++
  at0 0x10C off [CLR.OVERRUN_CNT, CLR.RECOV_CNT] ++
  (at1 0x200 0x40 16 off fun t => [CLR.TRI_EN t, CLR.TRI_BUS t, CLR.TRI_ADDR t, CLR.TRI_REG t, CLR.BE t, CLR.GAIN t]) ++
  (at2 0x204 0x40 16 0x4 5 off fun t i => [CLR.M t i]) ++
  (at1 0x218 0x40 16 off fun t => [CLR.X t, CLR.Y t]) ++
  (at1 0x21C 0x40 16 off fun t => [CLR.LUM t, CLR.APPLY t]) ++
  (at2 0x220 0x40 16 0x4 2 off fun t i => [CLR.ST t i]) ++
  (at2 0x228 0x40 16 0x4 2 off fun t i => [CLR.MEAS t i]) ++
  (at1 0x230 0x40 16 off fun t => [CLR.MXY t]) ++
  (at1 0x234 0x40 16 off fun t => [CLR.MLUM t, CLR.TRI_STATE t, CLR.FAILS t]) ++
  (at2 0x238 0x40 16 0x4 2 off fun t i => [CLR.LOOP_D t i]) ++
  at0 0x600 off [CLR.XF_BUS, CLR.XF_ADDR, CLR.WLEN, CLR.RLEN, CLR.XF_GO] ++
  at0 0x604 off [CLR.XF_BUSY, CLR.XF_NACK] ++
  (at1 0x610 0x4 4 off fun i => [CLR.XF_DATA i])
/-- The fields of the FIO word at offset `off` (the tables of its chapter). -/
def FIO.fieldsAt (off : Nat) : List Fld :=
  (at1 0x100 0x4 32 off fun i => [FIO.DI_SET i, FIO.WET i, FIO.DEB i, FIO.CLEAN i, FIO.INV i, FIO.PARK_EN i]) ++
  at0 0x180 off [FIO.DI_RAW] ++
  at0 0x184 off [FIO.DI_FILT] ++
  at0 0x188 off [FIO.DI_EDGE] ++
  (at1 0x200 0x10 8 off fun j => [FIO.THR j, FIO.EDGE j, FIO.CI_EN j, FIO.GATE j]) ++
  (at1 0x204 0x10 8 off fun j => [FIO.CI_COUNT j]) ++
  (at1 0x208 0x10 8 off fun j => [FIO.CI_PERIOD j]) ++
  (at1 0x20C 0x10 8 off fun j => [FIO.NWIN j, FIO.STALE j, FIO.SAT j]) ++
  at0 0x320 off [FIO.LS_VAL, FIO.LS_MASK] ++
  at0 0x324 off [FIO.LS_OUT, FIO.LS_LOCK, FIO.LS_OWN] ++
  at0 0x340 off [FIO.FAULT, FIO.SAFE, FIO.HOLD, FIO.WATCH, FIO.DIAG_BUSY] ++
  at0 0x344 off [FIO.HB_TO] ++
  at0 0x348 off [FIO.SAFE_REL, FIO.HOLD_LIM] ++
  at0 0x34C off [FIO.PARK_PERIOD, FIO.CONF] ++
  at0 0x350 off [FIO.DIAG_CH, FIO.DIAG_KIND, FIO.DIAG_GO] ++
  at0 0x354 off [FIO.RES_CH, FIO.RES_KIND, FIO.RES_CAUSE, FIO.RES_VALUE, FIO.RES_VALID] ++
  at0 0x358 off [FIO.DIAG_REJ_CNT, FIO.FAULT_CNT] ++
  at0 0x35C off [FIO.SILENCE_CNT, FIO.VNK_REJ_CNT] ++
  at0 0x360 off [FIO.CLEAN_DEFER_CNT, FIO.QEVT_LOST] ++
  at0 0x364 off [FIO.HOLD_EXP_CNT] ++
  (at1 0x300 0x4 8 off fun k => [FIO.LS_SAFE k, FIO.OL_EN k])
/-- The fields of the CAN word at offset `off` (the tables of its chapter). -/
def CAN.fieldsAt (n : Nat) (off : Nat) : List Fld :=
  at0 0x100 off ((if n < 4 then [CAN.XL_EN n, CAN.TMS n, CAN.XL_ES n] else []) ++ [CAN.MODE n, CAN.FD_EN n, CAN.PEX n, CAN.BO_AUTO n, CAN.LOCK_MODE n, CAN.BUILD n, CAN.RETRY_LIM n, CAN.LONELY_N n]) ++
  at0 0x104 off [CAN.ERRST n, CAN.LONELY n, CAN.RECOV n, CAN.BUILT n, CAN.DUP n, CAN.CFG_ERR n, CAN.TXQ_LVL n] ++
  at0 0x108 off [CAN.NBT_BRP n, CAN.NBT_TSEG1 n, CAN.NBT_TSEG2 n, CAN.NBT_SJW n] ++
  at0 0x10C off [CAN.DBT_BRP n, CAN.DBT_TSEG1 n, CAN.DBT_TSEG2 n, CAN.DBT_SJW n] ++
  at0 0x110 off (if n < 4 then [CAN.XBT_BRP n, CAN.XBT_TSEG1 n, CAN.XBT_TSEG2 n, CAN.XBT_SJW n] else []) ++
  at0 0x114 off [CAN.EN n, CAN.TDCO_FD n, CAN.TDCO_XL n, CAN.TDCV n] ++
  at0 0x118 off (if n < 4 then [CAN.PWMO n, CAN.PWMS n, CAN.PWML n] else []) ++
  at0 0x11C off [CAN.DELAY n, CAN.RESTART n] ++
  at0 0x120 off [CAN.TEC n, CAN.REC n, CAN.RP n, CAN.LEC n, CAN.LEC_DATA n] ++
  at0 0x124 off [CAN.TX_OK_CNT n] ++
  at0 0x128 off [CAN.RX_OK_CNT n] ++
  at0 0x12C off [CAN.ERRF_CNT n, CAN.BO_CNT n] ++
  at0 0x130 off [CAN.LOST_CNT n, CAN.UNMATCH_CNT n] ++
  at0 0x134 off [CAN.LONELY_CNT n, CAN.ABORT_CNT n] ++
  at0 0x138 off [CAN.TXQ_FULL_CNT n, CAN.E2C_BUSY_CNT n] ++
  at0 0x13C off [CAN.DEF_OBJ n, CAN.ACK_RUN n] ++
  at0 0x140 off [CAN.TXQ_OBJ n, CAN.TXQ_GO n] ++
  at0 0x144 off [CAN.LOCK_OBJ n, CAN.LOCK_BROKEN_CNT n] ++
  (at1 0x180 0x8 8 off fun e => [CAN.COLL_ID n e, CAN.COLL_IDE n e, CAN.COLL_VALID n e]) ++
  (at1 0x184 0x8 8 off fun e => [CAN.COLL_COUNT n e, CAN.COLL_TICK16 n e])
/-- The fields of the TRX word at offset `off` (the tables of its chapter). -/
def TRX.fieldsAt (pg : Nat) (off : Nat) : List Fld :=
  at0 0x200 off [TRX.REQ pg, TRX.WAKE_EN pg, TRX.WFLT pg] ++
  at0 0x204 off [TRX.STATE pg, TRX.VCC_ON pg, TRX.BUSY pg, TRX.WAKE pg, TRX.TXD_TO pg, TRX.BUS_DOM pg, TRX.OT pg] ++
  (if pg = 0x3A ∨ pg = 0x3B then at0 0x204 off [TRX.PODL_WAKE pg] else []) ++
  at0 0x208 off [TRX.KIND pg] ++
  at0 0x20C off [TRX.WAKE_TICK pg] ++
  at0 0x210 off [TRX.WAKE_CNT pg, TRX.TRX_FAULT_CNT pg]
/-- The fields of the OBJ word at offset `off` (the tables of its chapter). -/
def OBJ.fieldsAt (off : Nat) : List Fld :=
  at0 0x100 off [OBJ.POOL_FREE] ++
  at0 0x104 off [OBJ.POOL_EMPTY_CNT, OBJ.BAD_WRITE_CNT] ++
  at0 0x108 off [OBJ.LOCK_TO] ++
  at0 0x10C off [OBJ.BAD_OBJ, OBJ.CAUSE]
/-- The fields of the LIN word at offset `off` (the tables of its chapter). -/
def LIN.fieldsAt (n : Nat) (off : Nat) : List Fld :=
  at0 0x100 off [LIN.EN n, LIN.NET n, LIN.WAKE_TX n, LIN.BAUD n] ++
  at0 0x104 off [LIN.WAKE_LEN n] ++
  at0 0x108 off [LIN.BUSY n, LIN.LAST_ID n, LIN.LAST_RES n] ++
  at0 0x10C off [LIN.OK_CNT n, LIN.ERR_CNT n] ++
  at0 0x110 off [LIN.HDR_SKIP_CNT n, LIN.LOST_CNT n] ++
  at0 0x114 off [LIN.VNK_REJ_CNT n] ++
  (at1 0x400 0x4 64 off fun id => [LIN.SLOT_T n id, LIN.DIR n id, LIN.CHK n id, LIN.FT_LEN n id]) ++
  (at2 0x600 0x8 64 0x4 2 off fun id i => [LIN.PUB n id i]) ++
  (at2 0x800 0x8 64 0x4 2 off fun id i => [LIN.SUB n id i]) ++
  (at1 0xA00 0x4 64 off fun id => [LIN.NEW n id, LIN.LOST n id, LIN.RES n id, LIN.SEQ n id, LIN.TICK16 n id])
/-- The fields of the TS word at offset `off` (the tables of its chapter). -/
def TS.fieldsAt (n : Nat) (off : Nat) : List Fld :=
  at0 0x100 off [TS.EN n, TS.NODE_CNT n, TS.TO n, TS.MAX_BC n] ++
  at0 0x104 off [TS.BURST_TMR n, TS.ALLOW n, TS.T1S_TICKS n] ++
  at0 0x108 off [TS.PLCA_ACT n, TS.DUP_COORD n, TS.PQ_LVL n] ++
  at0 0x10C off [TS.CYC_MAX n] ++
  at0 0x110 off [TS.TX_OK_CNT n] ++
  at0 0x114 off [TS.RX_OK_CNT n] ++
  at0 0x118 off [TS.COL_CNT n, TS.BEACON_FOREIGN_CNT n]
/-- The fields of the PTP word at offset `off` (the tables of its chapter). -/
def PTP.fieldsAt (off : Nat) : List Fld :=
  at0 0x100 off [PTP.EN, PTP.SLAVE, PTP.STANDBY, PTP.TS_MASTER, PTP.LOG_SYNC, PTP.DOMAIN] ++
  at0 0x104 off [PTP.OFFSET] ++
  (at1 0x108 0x4 2 off fun i => [PTP.MLD i]) ++
  at0 0x118 off [PTP.PORT_SW_CNT, PTP.EPOCH_CHG_CNT] ++
  at0 0x110 off [PTP.EPOCH_LO] ++
  at0 0x114 off [PTP.EPOCH_HI]
/-- The fields of the BB word at offset `off` (the tables of its chapter). -/
def BB.fieldsAt (n : Nat) (off : Nat) : List Fld :=
  at0 0x100 off [BB.EN n, BB.SPEED n, BB.ROLE n, BB.SEC_EN n, BB.PODL_EN n] ++
  at0 0x104 off [BB.LINK n, BB.SQI n, BB.SAK_OK n] ++
  at0 0x108 off [BB.REPLAY_WIN n] ++
  at0 0x10C off [BB.ICV_FAIL_CNT n, BB.REPLAY_CNT n] ++
  at0 0x110 off [BB.UNTAGGED_CNT n, BB.LINK_DOWN_CNT n] ++
  at0 0x114 off [BB.RX_OK_CNT n] ++
  at0 0x118 off [BB.TX_OK_CNT n]
/-- The fields of the ETS word at offset `off` (the tables of its chapter). -/
def ETS.fieldsAt (off : Nat) : List Fld :=
  at0 0x100 off [ETS.DEF_PCP] ++
  at0 0x104 off [ETS.HIST_LEN, ETS.RESET_TO] ++
  (at1 0x108 0x4 6 off fun i => [ETS.RECOV i]) ++
  at0 0x120 off [ETS.TAGLESS_CNT] ++
  (at2 0x400 0x20 5 0x4 8 off fun p q => [ETS.IDLE_SLOPE p q, ETS.CBS_EN p q]) ++
  (at2 0x600 0x20 5 0x4 8 off fun p q => [ETS.DROP_CNT p q])
/-- The fields of the BRG word at offset `off` (the tables of its chapter). -/
def BRG.fieldsAt (off : Nat) : List Fld :=
  at0 0x100 off [BRG.ACF_BAD_CNT, BRG.ACF_RX_CNT] ++
  (at1 0x200 0x10 8 off fun t => [BRG.TS_SID_LO t]) ++
  (at1 0x204 0x10 8 off fun t => [BRG.TS_SID_HI t]) ++
  (at1 0x208 0x10 8 off fun t => [BRG.DMAC_LO t]) ++
  (at1 0x20C 0x10 8 off fun t => [BRG.DMAC_HI t, BRG.VLAN t, BRG.PCP t, BRG.FMT t]) ++
  (at1 0x300 0x10 8 off fun i => [BRG.LS_SID_LO i]) ++
  (at1 0x304 0x10 8 off fun i => [BRG.LS_SID_HI i]) ++
  (at1 0x308 0x10 8 off fun i => [BRG.LS_EN i, BRG.LS_CLASS i, BRG.LS_TARGET i, BRG.LS_ANS i, BRG.LS_ANS_INIT i, BRG.LS_REL i]) ++
  (at1 0x30C 0x10 8 off fun i => [BRG.LS_LVL i, BRG.LS_REFUSE_CNT i]) ++
  (at1 0x400 0x10 16 off fun s => [BRG.TP_EN s, BRG.TP_CTRL s, BRG.TP_MODE s, BRG.TP_FD s, BRG.TX_DL s, BRG.BS s, BRG.STMIN s]) ++
  (at1 0x404 0x10 16 off fun s => [BRG.TX_OBJ s, BRG.RX_OBJ s]) ++
  (at1 0x408 0x10 16 off fun s => [BRG.TA s, BRG.SA s, BRG.N_BS s, BRG.N_CR s]) ++
  (at1 0x40C 0x10 16 off fun s => [BRG.TP_STATE s, BRG.TP_RESULT s, BRG.RX_LEN s])
/-- The fields of the VNK word at offset `off` (the tables of its chapter). -/
def VNK.fieldsAt (off : Nat) : List Fld :=
  at0 0x100 off [VNK.EN, VNK.LEARN, VNK.PF_LEN, VNK.PF_AGE, VNK.NPCP] ++
  at0 0x104 off [VNK.UNKNOWN_CNT, VNK.BUSY_CNT] ++
  at0 0x108 off [VNK.TIMEOUT_CNT, VNK.DENIED_CNT] ++
  at0 0x10C off [VNK.FAR_FAIL_CNT, VNK.NOTICE_LOST_CNT] ++
  at0 0x110 off [VNK.POSTED_DROP_CNT, VNK.PF_SE_CNT] ++
  (at1 0x400 0x10 64 off fun w => [VNK.WIN_EN w, VNK.WIN_TYPE w, VNK.WIN_RD w, VNK.WIN_WR w, VNK.RD_PREF w, VNK.WIN_TO w, VNK.WIN_SEL w]) ++
  (at1 0x404 0x10 64 off fun w => [VNK.WIN_BASE w]) ++
  (at1 0x408 0x10 64 off fun w => [VNK.WIN_SIZE w]) ++
  (at1 0x40C 0x10 64 off fun w => [VNK.INIT_MASK w, VNK.CLASS_MASK w, VNK.BEAD_MASK w]) ++
  (at1 0x200 0x8 16 off fun k => [VNK.INIT_MAC_LO k]) ++
  (at1 0x204 0x8 16 off fun k => [VNK.INIT_MAC_HI k, VNK.INIT_EN k, VNK.INIT_LEARNED k, VNK.INIT_OPEN k]) ++
  (at1 0x300 0x8 16 off fun m => [VNK.NODE_MAC_LO m]) ++
  (at1 0x304 0x8 16 off fun m => [VNK.NODE_MAC_HI m])
/-- The fields of the NM word at offset `off` (the tables of its chapter). -/
def NM.fieldsAt (off : Nat) : List Fld :=
  (at1 0x100 0x20 22 off fun n => [NM.NM_EN n, NM.PASSIVE n, NM.SLEEP_TRX n, NM.NODE_ID n]) ++
  (at1 0x104 0x20 22 off fun n => [NM.NM_TO n, NM.RPT_T n]) ++
  (at1 0x108 0x20 22 off fun n => [NM.PBS_T n, NM.FW_T n]) ++
  (at1 0x10C 0x20 22 off fun n => [NM.CYCLE n, NM.RS_REPORT n, NM.FW_WARN n]) ++
  (at1 0x110 0x20 12 off fun n => [NM.RX_ID n, NM.RX_MASK n]) ++
  (at1 0x114 0x20 22 off fun n => [NM.HOLD n, NM.RPT_REQ n] ++ if n < 12 then [NM.TX_OBJ n] else []) ++
  (at1 0x118 0x20 22 off fun n => [NM.STATE n, NM.WAKE_LATCH n, NM.AWAKE_BY n, NM.RS_TIME n]) ++
  (at1 0x11C 0x20 22 off fun n => [NM.FALSE_WAKE_CNT n, NM.FW_RUN n]) ++
  at0 0x400 off [NM.AWAKE] ++
  at0 0x404 off [NM.PBS_ABORT_CNT, NM.REPLAY_CNT] ++
  at0 0x408 off [NM.REQ_REJ_CNT]
/-- The fields of the PWR word at offset `off` (the tables of its chapter). -/
def PWR.fieldsAt (off : Nat) : List Fld :=
  at0 0x100 off [PWR.CTL_TARGET, PWR.CTL_GO] ++
  at0 0x104 off [PWR.STATE, PWR.CUR_TGT, PWR.CHANGING, PWR.PEND, PWR.PEND_TGT] ++
  at0 0x108 off [PWR.SRC, PWR.VBL_LOW, PWR.AUX_LOW, PWR.CHG_CNT] ++
  at0 0x10C off [PWR.VPOD_V, PWR.VBL_V] ++
  at0 0x110 off [PWR.CLASS24] ++
  at0 0x114 off [PWR.DOM_SLEEP] ++
  at0 0x118 off [PWR.DOM_STAT] ++
  at0 0x11C off [PWR.DOM_WAKING] ++
  at0 0x120 off [PWR.REF_TARGET, PWR.REF_ABORT, PWR.REF_DOM, PWR.REF_PAGE, PWR.REF_REASON] ++
  at0 0x124 off [PWR.DISPLACE_CNT, PWR.DROP_CNT] ++
  (at1 0x200 0x4 32 off fun d => [PWR.DOM_REFUSE_CNT d, PWR.DOM_ABORT_CNT d]) ++
  (at1 0x280 0x4 32 off fun d => [PWR.DOM_LAST_PAGE d, PWR.DOM_LAST_REASON d, PWR.DOM_LAST_TICK16 d])
/-- The fields of the AON word at offset `off` (the tables of its chapter). -/
def AON.fieldsAt (off : Nat) : List Fld :=
  at0 0x100 off [AON.WAKE_SRC, AON.WAKE_KIND, AON.REPLAYED, AON.WAKE_DETAIL] ++
  at0 0x104 off [AON.WAKE_TICK_LO] ++
  at0 0x108 off [AON.WAKE_TICK_HI] ++
  at0 0x10C off [AON.TICK_ENTRY_LO] ++
  at0 0x110 off [AON.TICK_ENTRY_HI] ++
  at0 0x114 off [AON.SPAN_LO] ++
  at0 0x118 off [AON.SPAN_HI, AON.EST, AON.UNC_WIDE] ++
  at0 0x11C off [AON.UNC] ++
  at0 0x120 off [AON.CAL_PERIOD, AON.CAL_TEMP] ++
  at0 0x124 off [AON.TEMP_EXIT] ++
  at0 0x128 off [AON.TIMER] ++
  at0 0x12C off [AON.WAKE_CNT, AON.REPLAY_CNT] ++
  at0 0x130 off [AON.LATCHED]
/-- The fields of the PAIR word at offset `off` (the tables of its chapter). -/
def PAIR.fieldsAt (off : Nat) : List Fld :=
  at0 0x100 off [PAIR.RB_LIM] ++
  at0 0x104 off [PAIR.MODE, PAIR.WINDOW, PAIR.CHK_BUSY, PAIR.SPLIT_DIS] ++
  at0 0x108 off [PAIR.ROLLBACK_CNT, PAIR.STATE_ONLY_CNT] ++
  at0 0x10C off [PAIR.ALARM_CNT, PAIR.SF_RB] ++
  at0 0x110 off [PAIR.FAULT_CAUSE, PAIR.FAULT_FIELD, PAIR.FAULT_TICK16] ++
  at0 0x114 off [PAIR.LAST_ADDR] ++
  at0 0x118 off [PAIR.UNAGREED_ADDR] ++
  at0 0x11C off [PAIR.BUDGET_CNT, PAIR.CAP_CNT] ++
  at0 0x120 off [PAIR.UNDO_MAX, PAIR.CQ_MAX] ++
  at0 0x124 off [PAIR.REPLAY_MAX] ++
  at0 0x128 off [PAIR.INJ_RESULT, PAIR.INJ_FIELD, PAIR.INJ_PATTERN, PAIR.INJ_RUNS] ++
  at0 0x12C off [PAIR.SLICE_TASK, PAIR.SLICE_BUDGET, PAIR.SLICE_VALID] ++
  at0 0x130 off [PAIR.WDT_PERIOD] ++
  at0 0x134 off [PAIR.WDT_KEY]
/-- The fields of the EVT word at offset `off` (the tables of its chapter). -/
def EVT.fieldsAt (off : Nat) : List Fld :=
  at0 0x100 off [EVT.MIN_CLASS, EVT.SCRUB_EN] ++
  at0 0x104 off [EVT.COUNT, EVT.NEXT_SEQ] ++
  at0 0x108 off [EVT.REC_SEL] ++
  (at1 0x10C 0x4 4 off fun i => [EVT.REC_DATA i]) ++
  at0 0x11C off [EVT.LATEST] ++
  (at1 0x120 0x4 4 off fun i => [EVT.DROPPED i, EVT.FILTERED i]) ++
  at0 0x130 off [EVT.INTAKE_FULL_CNT, EVT.BAD_SLOT_CNT] ++
  at0 0x134 off [EVT.CE_CNT, EVT.UE_CNT] ++
  at0 0x138 off [EVT.ECC_ADDR] ++
  at0 0x13C off [EVT.ECC_MEM, EVT.ECC_UE, EVT.ECC_TICK16] ++
  at0 0x140 off [EVT.BAD_BLOCK, EVT.BAD_REGION, EVT.FLASH_FAIL_CNT] ++
  at0 0x144 off [EVT.ARCH_AREA, EVT.ARCH_CNT] ++
  at0 0x148 off [EVT.CRIT_POS, EVT.ARCH_FAIL_CNT] ++
  at0 0x150 off [EVT.RAISE_CODE, EVT.RAISE_CLASS, EVT.RAISE_PAGE, EVT.RAISE_GO] ++
  at0 0x154 off [EVT.RAISE_DETAIL]
/-- The fields of the IDN word at offset `off` (the tables of its chapter). -/
def IDN.fieldsAt (off : Nat) : List Fld :=
  (at1 0x100 0x4 32 off fun i => [IDN.ID i])
/-- The fields of the BOOT word at offset `off` (the tables of its chapter). -/
def BOOT.fieldsAt (off : Nat) : List Fld :=
  at0 0x100 off [BOOT.REACHED, BOOT.LAST_FAIL, BOOT.ALT_TRY, BOOT.RESCUE, BOOT.WARM, BOOT.INT_OSC, BOOT.ALT] ++
  at0 0x104 off [BOOT.ACT_BANK, BOOT.ACT_CFG, BOOT.CFG_SLOT, BOOT.CFG_CHECK, BOOT.S5_CHECK, BOOT.UCODE_FAIL, BOOT.S9_PORT, BOOT.ADOPT] ++
  at0 0x108 off [BOOT.PORT_OOS] ++
  at0 0x10C off [BOOT.START_MS, BOOT.START_CNT] ++
  at0 0x110 off [BOOT.FAIL_CNT, BOOT.REGW_REJ]
/-- The fields of the UPD word at offset `off` (the tables of its chapter). -/
def UPD.fieldsAt (off : Nat) : List Fld :=
  at0 0x100 off [UPD.SVC_CTRL, UPD.IDLE_TO] ++
  at0 0x104 off [UPD.STATE, UPD.TARGET, UPD.RESULT, UPD.HOLDER_PORT, UPD.HOLDER_SLOT] ++
  at0 0x108 off [UPD.BLOCKS, UPD.BAD_BLOCK] ++
  at0 0x10C off [UPD.PROBATION, UPD.HANDOVER, UPD.REGION_OK, UPD.PROB_LEFT] ++
  at0 0x110 off [UPD.EXPORT_DONE, UPD.IMPORT_OK, UPD.IMPORT_FAIL, UPD.REJECT] ++
  at0 0x114 off [UPD.DISCARD_CNT, UPD.FALLBACK_CNT] ++
  at0 0x118 off [UPD.BUSY_CNT] ++
  at0 0x11C off [UPD.NEW_VER]
/-- The fields of the SEC word at offset `off` (the tables of its chapter). -/
def SEC.fieldsAt (off : Nat) : List Fld :=
  at0 0x100 off [SEC.OTP_ADDR] ++
  at0 0x104 off [SEC.OTP_DATA] ++
  at0 0x108 off [SEC.OTP_GO, SEC.OTP_BUSY, SEC.OTP_FAIL] ++
  at0 0x10C off [SEC.ARB, SEC.KEY_VALID, SEC.KEY_REVOKED, SEC.SPLIT_DIS, SEC.DEBUG_LOCK, SEC.DEBUG_OPEN] ++
  (at1 0x140 0x4 4 off fun i => [SEC.CAK i])
/-- The fields of the COM word at offset `off` (the tables of its chapter). -/
def COM.fieldsAt (pg : Nat) (off : Nat) : List Fld :=
  at0 0x0 off [COM.INDEX pg, COM.INST pg, COM.TYPE pg, COM.VER pg] ++
  at0 0x4 off [COM.DOMAIN pg, COM.KEYED pg, COM.LAST_OFF pg] ++
  at0 0x8 off [COM.MIN_CLASS pg] ++
  at0 0xC off [COM.AWAKE pg, COM.WAKING pg, COM.OOS pg, COM.KEY_OPEN pg, COM.WBUF pg] ++
  at0 0x10 off [COM.PAGE_IRQ pg] ++
  at0 0x14 off [COM.PAGE_IEN pg] ++
  at0 0x18 off [COM.RAISED pg, COM.LAST_CODE pg] ++
  at0 0x1C off [COM.KEY_CMD pg, COM.KEY pg, COM.LOCKDOWN pg]
/-- The fields of the SYS word at offset `off` (the tables of its chapter). -/
def SYS.fieldsAt (off : Nat) : List Fld :=
  at0 0x100 off [SYS.RST] ++
  at0 0x104 off [SYS.CFG_DEFAULT] ++
  at0 0x108 off [SYS.IRQ_SUM0] ++
  at0 0x10C off [SYS.IRQ_SUM1] ++
  at0 0x110 off [SYS.LOCKDOWN0] ++
  at0 0x114 off [SYS.LOCKDOWN1] ++
  at0 0x118 off [SYS.KEY_REJ_CNT, SYS.UNMAP_CNT] ++
  at0 0x11C off [SYS.KEY_REJ_PAGE, SYS.KEY_REJ_OFF, SYS.KEY_REJ_SRC] ++
  at0 0x120 off [SYS.UNMAP_ADDR] ++
  at0 0x124 off [SYS.WBUF_DROP_CNT]
/-- The fields of the CLK word at offset `off` (the tables of its chapter). -/
def CLK.fieldsAt (off : Nat) : List Fld :=
  at0 0x100 off [CLK.XTAL_OK, CLK.PLL_PAIR, CLK.PLL_SEQ, CLK.INT_OSC]

/-- The fields of the word at offset `off` of page `pg` (Table 17-1); none on an unmapped page or a reserved offset. -/
def fieldsAt (pg off : Nat) : List Fld :=
  if off < 0x20 then COM.fieldsAt pg off
  else if 0x10 ≤ pg ∧ pg ≤ 0x13 then HQ.fieldsAt (pg - 0x10) off
  else if 0x20 ≤ pg ∧ pg ≤ 0x2B then CAN.fieldsAt (pg - 0x20) off ++ TRX.fieldsAt pg off
  else if 0x30 ≤ pg ∧ pg ≤ 0x37 then LIN.fieldsAt (pg - 0x30) off ++ TRX.fieldsAt pg off
  else if 0x38 ≤ pg ∧ pg ≤ 0x39 then TS.fieldsAt (pg - 0x38) off ++ TRX.fieldsAt pg off
  else if 0x3A ≤ pg ∧ pg ≤ 0x3B then BB.fieldsAt (pg - 0x3A) off ++ TRX.fieldsAt pg off
  else match pg with
  | 0x00 => SYS.fieldsAt off
  | 0x01 => IDN.fieldsAt off
  | 0x02 => CLK.fieldsAt off
  | 0x03 => PWR.fieldsAt off
  | 0x04 => AON.fieldsAt off
  | 0x05 => BOOT.fieldsAt off
  | 0x06 => UPD.fieldsAt off
  | 0x07 => SEC.fieldsAt off
  | 0x08 => EVT.fieldsAt off
  | 0x09 => PAIR.fieldsAt off
  | 0x0A => FRM.fieldsAt off
  | 0x0B => PRM.fieldsAt off
  | 0x0C => TIL.fieldsAt off
  | 0x0D => PTP.fieldsAt off
  | 0x14 => DIA.fieldsAt off
  | 0x15 => MOT.fieldsAt off
  | 0x16 => FIO.fieldsAt off
  | 0x18 => LED.fieldsAt off
  | 0x19 => TOP.fieldsAt off
  | 0x1A => CLR.fieldsAt off
  | 0x2C => OBJ.fieldsAt off
  | 0x3C => ETS.fieldsAt off
  | 0x3D => BRG.fieldsAt off
  | 0x3E => VNK.fieldsAt off
  | 0x3F => NM.fieldsAt off
  | _ => []

/-- A mapped page index (Table 17-1, R477). -/
def mapped (pg : Nat) : Bool :=
  pg < 0x40 && !([0x0E, 0x0F, 0x17, 0x1B, 0x1C, 0x1D, 0x1E, 0x1F, 0x2D, 0x2E, 0x2F].contains pg)

end Sys2Proof.Machine.Reg
end

