-- ==== Sys2Proof/Machine/State.lean ====
section
/-! DEFINITION. The state of the OZ9648 as plain data: the register file, the byte memories, what the blocks hold
beyond their registers, and the queue of waiting commands. -/
namespace Sys2Proof.Machine

/-- A fault: the machine stops. The model never needs one: every command of the table has an effect that the spec
gives, so no command raises it. Safe: a run that reached it would only stop. -/
inductive Fault where
  /-- Raised by no command. Safe. -/
  | unreachable
deriving DecidableEq, Repr

/-- A refusal: no meaning for the command. -/
inductive Refusal where
  /-- Raised by an arm of `exec` whose command has no meaning yet. Safe: the model stops where the part goes on. -/
  | notModelled (mnemonic : String)
deriving DecidableEq, Repr

/-! ### Events (chapter 15) -/

/-- An event record (R426, Table 15-4). (Log: DEDUCED 71) -/
structure EvtRec where
  tick : Nat
  page : Nat
  cls : Nat
  code : Nat
  detail : Nat
  est : Bool
  trunc : Bool
  rep : Nat
  seq : Nat
deriving DecidableEq, Repr

/-- A record waiting for the writer, with the mask of its key bits (R427). (Log: DEDUCED 71) -/
structure EvtIn where
  body : EvtRec
  keyMask : Nat
deriving DecidableEq, Repr

/-- The event writer: intake queue (R429), slots (R431), the slot of the latest record of each page (R430), the
rises of DROPPED in the superframe (R434), the Critical records waiting for the archive (R432), the archive counters. -/
structure EvtX where
  intake : List EvtIn := []
  log : SMap EvtRec := []
  latest : SMap Nat := []
  rises : SMap Nat := []
  crit : List EvtRec := []
  /-- Snapshots begun (R436, R438). -/
  snapNo : Nat := 0
  /-- The flash scrubber (R424): next block of the firmware bank and of the configuration slot, the CRC so far, whose turn. -/
  scrubFw : Nat := 0
  scrubCfg : Nat := 0
  scrubAcc : Nat := 0xFFFFFFFF
  scrubTurn : Bool := false
deriving DecidableEq, Repr

/-! ### The Counting Frame (chapter 1) -/

/-- The source of a staged effect: slot (0 SA, 1 SB, 2 SL, 3 the pair), the rod, the bead position, the rod's TAG. -/
structure Src where
  slot : Nat
  rod : Nat
  bead : Nat
deriving DecidableEq, Repr

/-- The content of a CAN frame: everything of Table 09-3 but CTRL, DIR and the flags. -/
structure CanFrame where
  id : Nat
  ide : Bool
  rtr : Bool := false
  dlc : Nat := 0
  fdf : Bool := false
  brs : Bool := false
  esi : Bool := false
  xlf : Bool := false
  sdt : Nat := 0
  vcid : Nat := 0
  sec : Bool := false
  len : Nat := 0
  af : Nat := 0
  data : List Nat := []
deriving DecidableEq, Repr

/-- A staged bead effect (R48); the frames that MOV_C2E and MOV_E2C move are taken in their slot. -/
inductive Effect where
  | ch (q c act arg : Nat)
  | mot (k mode duty : Nat)
  | ls (k : Nat) (on : Bool)
  | sink (n duty : Nat)
  | eng (e op addr : Nat)
  | c2e (g obj : Nat) (body : List Nat)
  | e2c (g obj : Nat) (f : CanFrame) (prm : Nat)
  | txq (n obj : Nat)
  | acf (g : Nat) (body : List Nat)
  | trx (p t : Nat)
  | nmMsg (n : Nat) (bytes : List Nat)
  | wake (d : Nat)
  | pub (p id : Nat) (bytes : List Nat)
  | wakeTx (p : Nat)
  | lin (p id : Nat)
  | diag (q c kind : Nat)
  | event (slot : Nat) (body : List Nat) (prm : Nat)
deriving DecidableEq, Repr

/-- A staged effect and its source. -/
structure Staged where
  src : Src
  eff : Effect
deriving DecidableEq, Repr

/-- A commit entry of the pair (R403): a store of `width` bytes at `addr`. -/
structure Commit where
  addr : Nat
  data : Nat
  width : Nat
deriving DecidableEq, Repr

/-- What is known of the rod that a slot runs (R40): its words, how far it has run, what SKIP_IF and END did. -/
structure SlotRun where
  loaded : Bool := false
  rod : Nat := 0x3FF
  tag : Nat := 0
  kind : Nat := 0
  count : Nat := 0
  beads : List Nat := []
  next : Nat := 0
  ended : Bool := false
deriving DecidableEq, Repr

/-- A task slice (R43, R418): its task, its budget, and the promise that its DISPATCH serves, 0 none. -/
structure Slice where
  task : Nat
  budget : Nat
  prm : Nat
deriving DecidableEq, Repr

/-- The staged image of a tick, frozen, or held for a rollback's release (R48, R59): the merged effects, the PRM_DONE marks, the
promises whose action a later effect overwrote, and, once held, the promises whose delivery lies in it (R91). -/
structure HeldTick where
  tick : Nat
  staged : List Staged
  done : List Nat
  lost : List Nat
  dues : List Nat := []
deriving DecidableEq, Repr

/-- The sequencer beyond its registers. (Log: DESIGN CHOICE 5) -/
structure FrmX where
  tick : Nat := 0
  slots : SMap SlotRun := []
  staged : List Staged := []
  done : List Nat := []
  lost : List Nat := []
  image : Option HeldTick := none
  held : Option HeldTick := none
  /-- The rods of this tick are selected; this tick's commit assembly has run. -/
  fetched : Bool := false
  assembled : Bool := false
  withhold : Bool := false
  startPend : Bool := false
  stopPend : Bool := false
  repairs : List (Nat × Bool) := []
  /-- The rods both of whose copies failed in this tick: their reload is requested in the commit assembly (step 7). -/
  doubles : List Nat := []
  /-- The rods whose reload is pending, the first of them running. -/
  reload : List Nat := []
  emptied : List (Nat × Nat) := []
  /-- The snapshot before the present one, by word: those of the sample buffer, and from 256 on those of the position unit, by pair and
  word (R47, R203). -/
  snapPrev : SMap Nat := []
  /-- The slices queued for the next tick, and those of this tick that SLICE has not returned. -/
  dispNext : List Slice := []
  dispNow : List Slice := []
  good : Nat := 0
  bad : Nat := 0
  /-- The TICK of the latest offset update, and the superframe boundaries passed in Holdover since (R28). -/
  lastUpd : Nat := 0
  holdSf : Nat := 0
  /-- The frequency correction in force in 10⁻⁹, and its part of a cycle not yet made up, in 10⁻⁶ cycle (R27, R28). -/
  freq : Int := 0
  freqAcc : Int := 0
  tickLen : Nat := 2000
deriving DecidableEq, Repr

/-! ### Promises (chapter 2) -/

/-- By which path a request came, and so how it is answered (R65, R326): the pair, the route table, a Vinko PROMISE of an
initiator slot, an ACF message of a listener stream. -/
inductive Via where
  | pair
  | route (entry : Nat)
  | vinko (slot seq window : Nat)
  | acf (stream ref : Nat)
deriving DecidableEq, Repr

/-- A request in the admission unit (R61): its fields, whether a reserved bit is set, the path, the admitting tick (R64), the
masks of its window (R335), the frame of a T1S_TX. -/
structure Req where
  cls : Nat
  notify : Bool
  source : Nat
  ref : Nat
  rel : Nat
  target : Nat
  act0 : Nat
  act1 : Nat
  bad : Bool := false
  via : Via
  admTick : Nat
  beadMask : Nat := 0xFF
  classMask : Nat := 0xFF
  frame : List Nat := []
  /-- The routed object of a CAN reception. -/
  obj : Option Nat := none
deriving DecidableEq, Repr

/-- An open or closed promise record (R79, Table 02-4) with what the unit keeps beside it. -/
structure Promise where
  num : Nat
  cls : Nat
  state : Nat := 0
  source : Nat
  ref : Nat
  deadline : Nat
  depRod : Nat := 0x3FF
  depOff : Nat := 0
  cause : Nat := 0
  notify : Bool
  target : Nat
  act0 : Nat := 0
  act1 : Nat := 0
  /-- The initiator slot that takes its notices, if any. -/
  init : Option Nat := none
  /-- The number that its PRM_DONE bead carries (R92), and the positions of its beads in DEP_ROD. -/
  bead : Nat
  pos : Nat := 0
  cnt : Nat := 0
  /-- The routed object, and whether the MOV_C2E has executed (R92). -/
  obj : Option Nat := none
  moved : Bool := false
  /-- The cause found so far (R87), 0 none. -/
  tent : Nat := 0
  /-- The port's envelope was exceeded while the promise was open (R85). -/
  exceeded : Bool := false
  /-- The frame was lost, the controller bus-off, or the response missing or corrupt (Table 02-7, bus fault). -/
  lost : Bool := false
  /-- Its frame waited behind a MOV_E2C whose object was still pending (R278). -/
  delayed : Bool := false
deriving DecidableEq, Repr

/-- The slack ledger's entry of one tick (R69): the bead words booked, and the admitting tick in which a request last
touched the rod, at the end of which its beads are assembled (`none` for none). -/
structure Ledger where
  beads : List Nat
  dirty : Option Nat
deriving DecidableEq, Repr

/-- An ACF frame in an ingress queue: its content and the promise it carries (R325). -/
structure Ingress where
  frame : CanFrame
  prm : Nat
deriving DecidableEq, Repr

/-- A booked LIN slot (R75): header tick, port, identifier, the response bytes, the promise. -/
structure LinSlot where
  tick : Nat
  port : Nat
  id : Nat
  bytes : List Nat
  prm : Nat
deriving DecidableEq, Repr

/-- The admission unit beyond its registers. (Log: DESIGN CHOICE 5) -/
structure PrmX where
  queue : List Req := []
  open_ : List Promise := []
  closed : List Promise := []
  /-- The slack ledger by tick (R69). -/
  ledger : List (Nat × Ledger) := []
  /-- Pair cycles admitted by tick (R71), event egress entries by tick (R74). -/
  cycles : SMap Nat := []
  egress : SMap Nat := []
  linSlots : List LinSlot := []
  /-- T1S allowance booked, by 2 × tick + port. -/
  t1sBooked : SMap Nat := []
  /-- A REQ_GO of the pair was released: the request is taken in at the next cycle 0 (R62). -/
  reqGo : Bool := false
  /-- ENV writes waiting for the superframe boundary: field key and value. -/
  envPend : List (Nat × Nat) := []
  /-- Promises already breached whose work is still under way (R89). -/
  late : List Promise := []
  /-- The ingress queues (R325). -/
  ingress : SMap (List Ingress) := []
  /-- The promise whose frame a transmit object holds. -/
  objPrm : SMap Nat := []
  /-- Bus time in 5 ns cycles and frames of the present interval by port (R83). -/
  envOcc : SMap Nat := []
  envFrm : SMap Nat := []
  /-- The report of R94 is due at the Frame's restart. -/
  resetReport : Bool := false
  /-- The frames that start at the boundary which ends an interval not yet closed, by port (R83). -/
  envNext : SMap Nat := []
deriving DecidableEq, Repr

/-! ### Power channels, hedge protection, load diagnostics (chapters 3 to 5) -/

/-- A state of an output: `out` as CH_STAT.OUT codes it (0 off, 1 on, 2 PWM, 3 high side on, 4 low side on,
5 synchronous PWM) and the duty ARG of a PWM. -/
structure Cmd where
  out : Nat := 0
  duty : Nat := 0
deriving DecidableEq, Repr

/-- A transition of a switch (R107, R110, R114). -/
inductive Tran where
  | idle
  | on
  | off
  | dead
deriving DecidableEq, Repr

/-- What a channel's load diagnostics are doing (R169, R171, R179). -/
inductive DiagRun where
  | none
  | pullDown
  | pullUp
  | onState
deriving DecidableEq, Repr

/-- The diagnostics of one channel beyond its registers. -/
structure DiagX where
  run : DiagRun := .none
  kind : Nat := 0
  /-- The test is an off-phase test of R179. -/
  offPhase : Bool := false
  vpd : Nat := 0
  /-- Direction of the run of I_ON values: 0 none, 1 below OL_ION, 2 at or above. -/
  dir : Nat := 0
  count : Nat := 0
  got : Nat := 0
  /-- Consecutive PWM periods without a new I_ON value (R179). -/
  noUpd : Nat := 0
  /-- The off-phase series: latest result and its count. -/
  offCode : Nat := 0
  offCount : Nat := 0
deriving DecidableEq, Repr

/-- One channel beyond its registers (R96 to R122, R129 to R165). (Log: DESIGN CHOICE 5) -/
structure ChanX where
  /-- The permit bits of this switch's own mechanisms (R21); the register shows the pair's or bridge's AND. -/
  own : Nat := 0
  tran : Tran := .idle
  /-- Half-bridge: the low-side switch is the one that conducts or conducted last. -/
  low : Bool := false
  /-- Half-bridge: the state that follows the turn-off and the dead time. -/
  next : Option Cmd := none
  /-- A change into, or within, PWM that waits for the period start (R113). -/
  pend : Option Cmd := none
  duty : Nat := 0
  onPhase : Bool := false
  running : Bool := false
  /-- The inrush claim of a PWM's first on-edge is booked (R113). -/
  booked : Bool := false
  hold : Cmd := {}
  safe : Cmd := {}
  safeSel : Nat := 0
  retryPause : Bool := false
  window : Bool := false
  claim : Nat := 0
  /-- The tick at which the output went off, 0 while it has never been on. -/
  offAt : Nat := 0
  wasOn : Bool := false
  /-- The latest conversion was taken while the high-side switch conducted (R101). -/
  convHigh : Bool := false
  prevIs : Nat := 0
  revI : Nat := 0
  revNew : Bool := false
  tied : Option Nat := none
  th1 : Rat := 0
  th2 : Rat := 0
  sq : Nat := 0
  nq : Nat := 0
  wireRep : Bool := false
  clampB : Rat := 0
  shareSum : Nat := 0
  /-- Reports that wait for the end of the tick (R140): 1 a short trip, 2 a thermal shutdown, 4 RETRY latched, 8 THERM
  latched. -/
  pendRep : Nat := 0
  /-- The tick at which the retry pause ends. -/
  pauseEnd : Nat := 0
  /-- Consecutive conversions above the applicable limit (R137). -/
  ocRun : Nat := 0
  /-- The peak timer of a half-bridge in conversions of 10 µs; it has reached 500 ms and not yet tripped (R137). -/
  peak : Nat := 0
  peakDue : Bool := false
  /-- The reverse current of a tied output has ended; its enhancement waits for the partner (R153). -/
  revEnd : Bool := false
  diag : DiagX := {}
deriving DecidableEq, Repr

/-- One bank: the inrush queue (R150), the reservoir off (R146). -/
structure BankX where
  queue : List Nat := []
  resOff : Bool := false
  /-- A re-plan of the queue is due when SUPPLY sets; the channels whose window ran when the sag began (R148). -/
  replan : Option (List Nat) := none
deriving DecidableEq, Repr

/-- One quadrant beyond its registers. (Log: DESIGN CHOICE 5) -/
structure QuadX where
  /-- The feed has fallen below 6.0 V and not returned to 6.2 V (R145). -/
  low : Bool := false
  uvTimer : Bool := false
  uvOff : Bool := false
  sagStart : Nat := 0
  sagMin : Nat := 0xFFF
  sampMin : Nat := 0xFFF
  patOn : SMap Bool := []
  /-- Consecutive tick boundaries with a heartbeat (R162). -/
  hbRun : Nat := 0
  silent : Bool := false
  buf : List EvtIn := []
  illegal : Nat := 0
  dissSum : Nat := 0
  dissN : Nat := 0
  feedSum : Nat := 0
  feedN : Nat := 0
  /-- The settings in force since Hold or Safe was asserted, by field key (R161). -/
  frozen : List (Nat × Nat) := []
  /-- The Hold limit has been reached in the Hold in force (R160). -/
  holdExp : Bool := false
  /-- The Park order has disarmed the watch until the next power-up (R163). -/
  noArm : Bool := false
  /-- The protection state is saved in the AON domain (R165). -/
  saved : Bool := false
deriving DecidableEq, Repr

/-- A DIA change waiting for the tick boundary, or in the change FIFO (R183, R184). -/
structure DiagChg where
  o : Nat
  old : Nat
  new : Nat
  vMeas : Nat
  tick16 : Nat
deriving DecidableEq, Repr

/-- The DIA page: changes of the tick, the FIFO of 32. -/
structure DiaX where
  changes : List DiagChg := []
  fifo : List DiagChg := []
deriving DecidableEq, Repr

/-! ### Motors (chapter 6) -/

/-- One H-bridge beyond its registers (R188 to R200). -/
structure BrX where
  holdMode : Nat := 0
  holdDuty : Nat := 0
  safeMode : Nat := 0
  safeDuty : Nat := 0
  safeSel : Nat := 0
  /-- The direction a reversal brake ends in, 0 none (R194). -/
  revTo : Nat := 0
  /-- The mode in which the stall in force was detected (R200). -/
  stallMode : Nat := 0
  /-- The stalls of this tick, for one event and one count (R199). -/
  stallTick : Nat := 0
  /-- QD_POS[15:0] of the named pair, and the applied duty, at that stall. -/
  stallPos : Nat := 0
  stallDuty : Nat := 0
  /-- The TICK of the latest start into FWD or REV, plus 1 (R193). -/
  startTick : Nat := 0
  chopped : Bool := false
  /-- An undervoltage off keeps the bridge off until it is commanded again (R147). -/
  uvStay : Bool := false
deriving DecidableEq, Repr

/-- One quadrature pair beyond its registers (R201 to R204). (Log: DESIGN CHOICE 29) -/
structure QdX where
  edges : Nat := 0
  /-- The signed count of the tick in progress (R204). -/
  net : Int := 0
  /-- The counts of the held tick and of those since, until its commit is released (R59, R204). -/
  carry : Int := 0
  illegal : Nat := 0
  lastTs : Nat := 0
  hasTs : Bool := false
deriving DecidableEq, Repr

/-! ### The Boxwood pair (chapter 14) -/

/-- The architectural state of one core (R394 to R396): the registers by number, the machine CSRs, the PMP regions, the
counters; `user` is the privilege mode. (Log: DESIGN CHOICE 3) -/
structure CoreX where
  x : SMap Nat := []
  pc : Nat := 0
  user : Bool := false
  mstatus : Nat := 0
  mie : Nat := 0
  mtvec : Nat := 0
  mscratch : Nat := 0
  mepc : Nat := 0
  mcause : Nat := 0
  mtval : Nat := 0
  pmpcfg : SMap Nat := []
  pmpaddr : SMap Nat := []
  mcycle : Nat := 0
  minstret : Nat := 0
  mslice : Nat := 0
  mtickcyc : Nat := 0
deriving DecidableEq, Repr

/-- Where a core stands in the tick's work (R397, R401, R405, R411): waiting for the tick interrupt; executing; the end of tick
reached, its signature formed; agreed; halted for a restore; halted for the injection test. -/
inductive Phase where
  | idle
  | work
  | ended
  | agreed
  | restore
  | alarm
deriving DecidableEq, Repr

/-- A load that waits for a domain (R385, R486): address, bytes, sign extension, destination register, whether its instruction is a
compressed one. -/
structure Stall where
  addr : Nat
  size : Nat
  signed : Bool
  rd : Nat
  short : Bool
deriving DecidableEq, Repr

/-- One worker: the lockstep pair, or in split mode one of Yew (0) and Holly (1): its core, the tick it works on, the tick interrupt
pending, the slices left, the slice running with the commit queue's length at its start, the commit queue, the promises of the
slices completed, and the entries of an ended tick that await their release. -/
structure Worker where
  core : CoreX := {}
  phase : Phase := .idle
  tick : Nat := 0
  irq : Bool := false
  slices : List Slice := []
  /-- The slices that SLICE has returned in the tick, and how many of them the execution in progress has taken (R406). -/
  taken : List Slice := []
  redo : Nat := 0
  cur : Option Slice := none
  mark : Nat := 0
  cq : List Commit := []
  kept : List Nat := []
  ready : List Commit := []
  readyKept : List Nat := []
  stall : Option Stall := none
deriving DecidableEq, Repr

/-- An entry of the replay log (R403): address, data. -/
structure Replay where
  addr : Nat
  data : Nat
deriving DecidableEq, Repr

/-- The pair beyond its registers. -/
structure PairX where
  w0 : Worker := {}
  w1 : Worker := {}
  /-- The checkpoint taken with the tick interrupt (R405). -/
  check : CoreX := {}
  /-- The undo log, newest first: word address and old value (R404). -/
  undo : List (Nat × Nat) := []
  replay : List Replay := []
  rpos : Nat := 0
  reexec : Bool := false
  /-- The re-execution has been agreed and awaits its release (R405 step 5). -/
  reagreed : Bool := false
  /-- The tick for which a mismatch has been reported and whose boundary has not passed. -/
  mism : Option Nat := none
  /-- The tick whose own agreement ends the rollback window (R409). -/
  winTick : Nat := 0
  untrusted : Bool := false
  /-- The source of the checker alarm under test, and whether it fell in the work of a tick (Table 14-6). -/
  alarmSrc : Nat := 0
  alarmWork : Bool := false
  /-- Frames since the watchdog was kicked (R414). -/
  wdt : Nat := 0
  /-- The latest tick signature (R402). -/
  sig : Nat := 0
  /-- The pair is halted by the debugger (R463). -/
  debug : Bool := false
deriving DecidableEq, Repr
/-! ### The blocks that watch the heartbeat as a quadrant does (chapters 7 and 8) -/

/-- The heartbeat watch of the lighting block (0) or the field I/O block (1) beyond its registers (R215, R253). -/
structure WatchX where
  hbRun : Nat := 0
  silent : Bool := false
  buf : List EvtIn := []
  noArm : Bool := false
  holdExp : Bool := false
  /-- The Hold limit in force since Hold was asserted (R161). -/
  lim : Option Nat := none
deriving DecidableEq, Repr

/-! ### Lighting (chapter 7) -/

/-- One sink beyond its registers (R208 to R218): bit `o` of `own` is set while owner `o` is asserted. -/
structure SinkX where
  own : Nat := 1
  hold : Nat := 0
  safe : Nat := 0
  safeSel : Nat := 0
  on : Bool := false
  openRun : Nat := 0
  clearRun : Nat := 0
deriving DecidableEq, Repr

/-- The lighting block beyond its registers. -/
structure LedX where
  /-- The aggregate demand in 0.1 mA (R212). -/
  demand : Nat := 0
  /-- The drop of each sink measured in the period that runs, and in the latest one completed (R218). -/
  drops : SMap (Option Nat) := []
  lastDrops : SMap (Option Nat) := []
  /-- The sensor of the group in bit `g` reads above 135 °C (R217). -/
  warm : Nat := 0
  trips : SMap Nat := []
  nbPend : Bool := false
  nbNext : Nat := 0
  nbSkip : Bool := false
deriving DecidableEq, Repr

/-- A ramp of an engine (R225): on IA or IB, from `i0` to `target` in `n` steps, `j` of them done, `left` frames of the
step in progress left. -/
structure Ramp where
  isB : Bool
  i0 : Nat
  target : Nat
  n : Nat
  j : Nat
  left : Nat
deriving DecidableEq, Repr

/-- One topiary engine beyond its registers; PC runs to 256. -/
structure EngX where
  pc : Nat := 0
  wait : Nat := 0
  ramp : Option Ramp := none
deriving DecidableEq, Repr

/-- What the engines share: flag writes waiting for the end of the frame's steps (R226), the latest local step (R228). -/
structure TopX where
  flagPend : List (Nat × Bool) := []
  /-- The TICK of the latest step, and whether it was one of the block's own timer (R228). -/
  last : Option (Nat × Bool) := none
deriving DecidableEq, Repr

/-- The colour loop beyond its registers: the triples left in each bus's read cycle (R230). -/
structure ClrX where
  cyc0 : List Nat := []
  cyc1 : List Nat := []
deriving DecidableEq, Repr

/-! ### Field inputs and outputs (chapter 8) -/

/-- One low-side output beyond its registers: bit `o` of `own` is set while owner `o` is asserted. -/
structure LsX where
  own : Nat := 1
  hold : Bool := false
  safe : Bool := false
  safeSel : Nat := 0
  hot : Bool := false
deriving DecidableEq, Repr

/-- One counting input beyond its registers (R246): the edges of the window, the last edge, the last edge before it. -/
structure CiX where
  k : Nat := 0
  last : Nat := 0
  ref : Option Nat := none
deriving DecidableEq, Repr

/-- The field I/O block beyond its registers: the edges since the latest capture (R242), the cleaning pulses and their
queue (R244), the fault latches by channel number (R254), the diagnostic command (R255), the sensing in Park (R257). -/
structure FioX where
  edges : Nat := 0
  cleaning : List Nat := []
  waiting : List Nat := []
  ov : Nat := 0
  oc : Nat := 0
  th : Nat := 0
  ol : Nat := 0
  /-- The comparator of the input in bit `i` stands in its on region (R239). -/
  level : Nat := 0
  /-- Causes that persist (R254): channels still above 36 V, outputs whose drain is still low while off. -/
  ovNow : Nat := 0
  olNow : Nat := 0
  diagPend : List (Nat × Nat) := []
  diagRun : Option (Nat × Nat) := none
  /-- The TICK of the answer (R255). -/
  diagDue : Nat := 0
  parkRef : Nat := 0
  parkRun : SMap Nat := []
deriving DecidableEq, Repr


/-! ### The loaded configuration image (chapter 16) -/

/-- A lane entry (Table 16-8). -/
structure Lane where
  tab : Nat
  pos : Nat
  slot : Nat
  bead : Nat
  queue : Nat
  ctrl : Nat
  rod : Nat
deriving DecidableEq, Repr

/-- A route entry (Table 16-8). -/
structure Route where
  num : Nat
  kind : Nat
  src : Nat
  dst : Nat
  rel : Nat
  act0 : Nat
deriving DecidableEq, Repr

/-- What start step S8 loads beside registers, rods, tables and objects: compiled budgets by position, lanes, routes,
WIRE_TICKS by identifier with IDE in bit 29 and controller. -/
structure ImgX where
  budget : SMap Nat := []
  lanes : List Lane := []
  routes : List Route := []
  wire : List (Nat × Nat × Nat) := []
deriving DecidableEq, Repr

/-! ### CAN (chapter 9) -/

/-- A lock on a receive object (R274): who took it (`none` the pair, else an initiator slot), the object, its TICK, whether a
frame was lost meanwhile. -/
structure CanLock where
  reader : Option Nat
  obj : Nat
  tick : Nat
  lost : Bool
deriving DecidableEq, Repr

/-- One controller beyond its registers. -/
structure CanX where
  /-- The lookup index of the latest build (R270): DIR in bit 30, IDE in bit 29, ID; the object. -/
  index : List (Nat × Nat) := []
  /-- The arbitration queue: objects and the attempts made (R276, R282). -/
  queue : List (Nat × Nat) := []
  /-- The object being sent (R277) and the writes of it that wait for the attempt's end: words, frames of MOV_E2C with their promises. -/
  sending : Option Nat := none
  deferred : List ((Nat × Nat) ⊕ (CanFrame × Nat)) := []
  lock : Option CanLock := none
  /-- The shadow buffer: a frame and its timestamp (R274). -/
  shadow : Option (CanFrame × Nat) := none
  /-- A MODE that waits for the end of the frame in progress (R266). -/
  modePend : Option Nat := none
  /-- COLL entries from the oldest latest collision (R283). -/
  coll : List Nat := []
  /-- Recovery from bus-off: the wait is over and the monitoring runs (R280). -/
  monitor : Bool := false
deriving DecidableEq, Repr

/-! ### Transceivers (chapters 9 to 11) -/

/-- One transceiver or PHY beyond its registers: the change running, the request that waits for its end or for the domain,
the wake latched during entry, the transmitter disabled over temperature or by a stuck TXD. -/
structure TrxX where
  target : Option Nat := none
  queued : Option Nat := none
  latched : Bool := false
  podl : Bool := false
  hot : Bool := false
  /-- TXD is held dominant: the transceiver has released the bus (R288, R299). -/
  stuck : Bool := false
deriving DecidableEq, Repr

/-- A Vinko transaction (Table 11-3): initiator slot, SEQ, opcode, window, POSTED, ADDR, AUX, payload bytes as sent, intake TICK and
backbone port; whether the signature that it carries verifies, whether a far side has taken it, the errors that its reads find:
word address, uncorrectable. -/
structure Txn where
  slot : Nat
  seq : Nat
  op : Nat
  win : Nat
  posted : Bool
  addr : Nat
  aux : Nat
  payload : List Nat
  tick : Nat
  port : Nat := 0
  sig : Bool := false
  fwd : Bool := false
  ecc : List (Nat × Bool) := []
deriving DecidableEq, Repr

/-! ### LIN and T1S (chapter 10) -/

/-- One LIN port beyond its registers: the frame in progress with its published bytes, since when it occupies the bus, the
promise whose bytes a publish buffer holds, by identifier. -/
structure LinX where
  cur : Option Nat := none
  pub : List Nat := []
  since : Nat := 0
  /-- A wake pulse: the 5 ns stamps up to which its occupancy is counted and at which it ends (R301, R302). -/
  pulse : Option (Nat × Nat) := none
  pubPrm : SMap Nat := []
  /-- The frame carries the request PDU of a LIN_DIAG window (R344). -/
  diag : Option Txn := none
deriving DecidableEq, Repr

/-- One T1S port beyond its registers: the promise queue (promise and frame), an NM message to send, the collisions outside
the module's opportunity in this superframe. -/
structure T1sX where
  pq : List (Nat × List Nat) := []
  nm : Option (List Nat) := none
  colSf : Nat := 0
  burst : Nat := 0
deriving DecidableEq, Repr

/-! ### Network management (chapter 12) -/

/-- One engine beyond its registers: the running timer, the message period, the message bits, what was latched since the
latest step (R351), the entry window (R363), what waits to be sent. (Log: DEDUCED 56, DEDUCED 58) -/
structure NmX where
  timer : Nat := 0
  cyc : Nat := 0
  rpt : Bool := false
  actWake : Bool := false
  /-- NM message received: repeat request seen, NODE_ID of the latest. -/
  lNm : Bool := false
  lNmRpt : Bool := false
  lNode : Nat := 0
  lValid : Bool := false
  lWake : Bool := false
  lHold : Bool := false
  lRpt : Bool := false
  lPulse : Bool := false
  /-- The entry window of R363 is open. -/
  entry : Bool := false
  rHold : Bool := false
  /-- This Wake Check began with a replayed wake. -/
  replayed : Bool := false
  /-- The NM message held for the transceiver (R356). -/
  held : Option (List Nat) := none
  rsMs : Nat := 0
  rsDone : Bool := false
  fwDone : Bool := false
  /-- LIN: the go-to-sleep frame waits for its 0x3C header (R359); WAKE_TX is due, then headers are let (R360). -/
  goSleep : Bool := false
  wakeTx : Bool := false
  letNext : Bool := false
deriving DecidableEq, Repr

/-! ### Backbone (chapter 11) -/

/-- What a frame of the host port carries. -/
inductive OutKind where
  | rsp
  | notice
  | event
  | acf
  | node
deriving DecidableEq, Repr

/-- A frame that the host port sent: an initiator slot, a talker stream or a T1S node by SEL, its sequence number, the R-TAG number (0 for
a node, whose frames are not replicated), its bytes, and its destination address, priority and VLAN (0 untagged). -/
structure OutFrame where
  kind : OutKind
  dest : Nat
  seq : Nat
  rtag : Nat
  body : List Nat
  mac : Nat
  pcp : Nat
  vlan : Nat
deriving DecidableEq, Repr

/-- A queued NOTICE: its destination slot, kind and bytes 1 to 15 (Table 11-6). -/
structure Notice where
  slot : Nat
  kind : Nat
  body : List Nat
deriving DecidableEq, Repr

/-- A prefetch buffer (R341): window, the byte address of each word still held and its value, the TICK of the fetch. -/
structure Prefetch where
  win : Nat
  words : List (Nat × Nat)
  tick : Nat
deriving DecidableEq, Repr

/-- The Vinko engine beyond its registers. -/
structure VnkX where
  /-- Frames the host port has sent since the latest tick boundary, this boundary's included. -/
  out : List OutFrame := []
  notices : List Notice := []
  seqOut : SMap Nat := []
  rtag : SMap Nat := []
  /-- The latest 32 completed transactions of each initiator: SEQ, opcode, code (R331). -/
  hist : SMap (List (Nat × Nat × Nat)) := []
  /-- Transactions not completed: stalled on a far side, a domain wake or a decision. -/
  open_ : List Txn := []
  /-- Timed out far-side transactions (R340). -/
  late : List Txn := []
  lostSf : Nat := 0
  unknownSf : Bool := false
  pref : SMap Prefetch := []
  /-- The NAD of the latest request of each LIN_DIAG port. -/
  nad : SMap Nat := []
  /-- The slot whose transaction a far-side window served last (R338). -/
  turn : SMap Nat := []
  /-- The module's own SEQ for each T1S node. -/
  nodeSeq : SMap Nat := []
  /-- The message to send and the latest received message of each CAN_TP session, byte `b` of session `s` at 4096 s + b (R345). -/
  tpTx : SMap Nat := []
  tpRx : SMap Nat := []
deriving DecidableEq, Repr

/-- A secure association of a backbone port (R315): its key number and packet numbers. -/
structure SecA where
  sak : Nat := 0
  txPn : Nat := 0
  rxPn : Nat := 0
deriving DecidableEq, Repr

/-- One backbone port beyond its registers. -/
structure BbX where
  sa : SecA := {}
  dropSf : Nat := 0
  /-- The number of an agreed SAK that waits for the frame boundary (R315). -/
  saNext : Option Nat := none
deriving DecidableEq, Repr

/-- One vector recovery function (R319): source MAC, VLAN, the highest sequence number, the history bits. -/
structure FrerX where
  mac : Nat
  vlan : Nat
  top : Nat
  hist : List Bool
deriving DecidableEq, Repr

/-- The switch, the recovery functions and gPTP beyond their registers. (Log: DEDUCED 54) -/
structure EtsX where
  frer : List FrerX := []
  /-- The frame lengths that wait by 8 × egress port + queue (R316, R317). -/
  queues : SMap (List Nat) := []
  macs : List (Nat × Nat) := []
  /-- A Synchronised state has set EPOCH since the start (R321). -/
  epochSet : Bool := false
  /-- The latest Sync of TS0 and TS1 as master: its time in ns and whether the clock class is raised to 248 (R322). -/
  sync : SMap (Nat × Bool) := []
  /-- The tick of the latest Follow_Up on each backbone port (R320). -/
  heard : SMap Nat := []
  /-- The credit of each shaped queue by 8 × egress port + queue, in hundredths of a bit (R316). -/
  credit : SMap Int := []
  /-- The bytes of the frame that still leaves each backbone port (R316). -/
  debt : SMap Nat := []
deriving DecidableEq, Repr

/-! ### Power (chapter 13) -/

/-- A wake: source, kind and detail (Table 13-5). -/
structure Wake where
  src : Nat
  kind : Nat
  detail : Nat
deriving DecidableEq, Repr

/-- The power block beyond its registers. (Log: DESIGN CHOICE 5) -/
structure PwrX where
  /-- How far a change out of Run has come (Table 13-4): 0 none, 1 draining, 2 past its commit point, 3 the Park order is
  released, 4 the Frame is stopped. -/
  phase : Nat := 0
  drain : Nat := 0
  /-- A change was voted for: 1 it is accepted at the next tick boundary, 2 at the one after (steps 1 and 2 of Table 13-4). -/
  vote : Nat := 0
  /-- The TICK at which the present Doze was entered. -/
  since : Nat := 0
  /-- A change was aborted: DRAINING clears at the next tick (R93). -/
  resume : Bool := false
  /-- The wake that ends the present state, waiting for its exit; the wake latched during an entry (R379). -/
  wake : Option Wake := none
  latch : Option Wake := none
  /-- The wake just recorded, whose event waits for the Frame (R386). -/
  wakeEv : Option (Wake × Bool) := none
  /-- The wake marks of the ports (R365) and the ports whose wake has no TICK yet (R287). -/
  marks : Nat := 0
  noTick : Nat := 0
  /-- Domains asked to sleep (R384). -/
  sleepReq : Nat := 0
  /-- Commit entries held for a domain (R486). -/
  wbuf : SMap (List Commit) := []
  /-- The latest eight calibration measurements in 1/256 ns (R387). -/
  cal : List Nat := []
  vpodBlocked : Bool := false
  /-- Who wrote the pending request: 0 the pair, 1 Vinko (R377). -/
  pendBy : Nat := 0
  /-- The waiting wake was latched during an entry (R379). -/
  replay : Bool := false
  /-- AON retained memory has been lost in Shelf (R382). -/
  memLost : Bool := false
deriving DecidableEq, Repr

/-! ### Start, identity and update (chapter 16) -/

/-- A start beyond its registers. (Log: DESIGN CHOICE 5) -/
structure BootX where
  /-- The step that runs, 15 none; the step that runs its alternate form in this start, 15 none; what the start follows: 0 a Cold
  reset, 1 Shelf, 2 a Warm reset. -/
  step : Nat := 0
  altStep : Nat := 15
  kind : Nat := 0
  /-- The start goes on as a factory-default start (R425). -/
  defaults : Bool := false
  /-- Consecutive heartbeats since S10 (R442, R452). -/
  hb : Nat := 0
  /-- The start is past S10 and not yet complete. -/
  counting : Bool := false
  /-- A Hold that preceded the Warm reset awaits its release (R452). -/
  holdRel : Bool := false
  /-- A Warm reset has been asked for: 0 no, 1 by software or the watchdog, with Hold, 2 after an untrusted pair, 3 by a failed start
  step. -/
  resetDue : Nat := 0
  /-- The bank whose image runs, the bank to fall back to, the slot whose image is loaded. -/
  bank : Nat := 0
  prevBank : Nat := 0
  cfgSlot : Option Nat := none
  /-- The running bank was marked by an ACTIVATE for the next start: its probation follows the start (R468). -/
  onTrial : Bool := false
  /-- The snapshot is to be imported after S10 (R473). -/
  importDue : Bool := false
deriving DecidableEq, Repr

/-- Keys, OTP and the test access port (R459 to R463). (Log: DESIGN CHOICE 6) -/
structure SecX where
  otp : SMap Byte := []
  cak : SMap Nat := []
  prog : Option (Nat × Nat) := none
  challenge : Option (List Nat) := none
  /-- The instruction of the test access port: 0 BYPASS, 1 IDCODE, 2 SAMPLE/PRELOAD, 3 EXTEST. -/
  tap : Nat := 1
deriving DecidableEq, Repr

/-- The UDS server of the service port (R467): programming session, its seed, the download's next offset and block counter. -/
structure UdsX where
  prog : Bool := false
  seed : Option (List Nat) := none
  download : Option (Nat × Nat) := none
  /-- The latest answer: bytes of the response. -/
  rsp : List Nat := []
deriving DecidableEq, Repr

/-- An OPEN waiting for the end of its tick (R465): port, initiator slot (255 the service port). -/
structure OpenReq where
  port : Nat
  slot : Nat
  txn : Option Txn := none
deriving DecidableEq, Repr

/-- Updates beyond the registers. -/
structure UpdX where
  opens : List OpenReq := []
  /-- The target of an erase in progress. -/
  erasing : Option Nat := none
  /-- The erase has completed; the bytes of the target are verified. -/
  erased : Bool := false
  verified : Bool := false
  /-- A live handover: 0 none, 1 waiting for boundary B, 2 draining, 3 Hold ordered and exporting, 4 the new image running, 5 import
  accepted, 6 abandoned, waiting for the next tick boundary, 7 the old image importing after a fallback. -/
  phase : Nat := 0
  /-- The TICK of boundary B. -/
  bTick : Nat := 0
  /-- The settings snapshot (R469): word address and value, whether its check word holds. -/
  snap : List (Nat × Nat) := []
  /-- The probation has failed (R472). -/
  failed : Bool := false
  /-- Bits of UPD.CTL that the pair has written and the handover has not taken up: 0 EXPORT_DONE, 1 IMPORT_OK, 2 IMPORT_FAIL,
  3 REJECT. -/
  ctl : Nat := 0
  /-- A fallback waits for the next tick boundary, with its result. -/
  fallback : Nat := 0
  /-- The TICK of the holder's latest transaction or TesterPresent (R466), and of the Hold release that began a probation (R472). -/
  lastTick : Nat := 0
  probTick : Nat := 0
deriving DecidableEq, Repr

/-- The block: its register file, its byte memories and the parts of its state that no register shows. -/
structure Mod where
  /-- Register fields, by `Fld.key`; an unlisted field holds its reset value. -/
  regs : SMap Nat := []
  /-- The byte memories of Table 17-4, by address; an unlisted byte reads as `blankByte` says. -/
  mem : SMap Byte := []
  evt : EvtX := {}
  frm : FrmX := {}
  prm : PrmX := {}
  chans : SMap ChanX := []
  banks : SMap BankX := []
  quads : SMap QuadX := []
  dia : DiaX := {}
  brs : SMap BrX := []
  qds : SMap QdX := []
  pair : PairX := {}
  watches : SMap WatchX := []
  sinks : SMap SinkX := []
  led : LedX := {}
  engs : SMap EngX := []
  top : TopX := {}
  clr : ClrX := {}
  lss : SMap LsX := []
  cis : SMap CiX := []
  fio : FioX := {}
  img : ImgX := {}
  cans : SMap CanX := []
  trxs : SMap TrxX := []
  lins : SMap LinX := []
  t1s : SMap T1sX := []
  nms : SMap NmX := []
  vnk : VnkX := {}
  bbs : SMap BbX := []
  ets : EtsX := {}
  pwr : PwrX := {}
  boot : BootX := {}
  sec : SecX := {}
  uds : UdsX := {}
  upd : UpdX := {}
  /-- The chain slots in use (R269). -/
  poolUsed : List Nat := []
deriving DecidableEq, Repr

/-- The whole state: the block and the queue of waiting commands, first in, first out. -/
structure State where
  mod : Mod
  pending : List Instr
deriving DecidableEq, Repr

/-- The block right after a Cold reset: every register at its reset value, no memory byte written, the queue empty.
(Log: DESIGN CHOICE 2, DESIGN CHOICE 4) -/
def State.reset : State := { mod := {}, pending := [] }

end Sys2Proof.Machine
end

