-- ==== Sys2Proof/Machine/Ops.lean ====
section
/-! DEFINITION. The operations that every chapter shares: register fields, counters, memory, time, power domains,
the check word, and the raising of events. -/
namespace Sys2Proof.Machine

/-- The outcome of a command whose effect on the block is `f`; the queue is left alone. -/
def State.onMod (s : State) (f : Mod → Mod) : State := { s with mod := f s.mod }

/-- What an unlisted address reads as: 0xFF in flash (0x1000_0000 to 0x109F_FFFF), 0 elsewhere. (Log: DESIGN CHOICE 4) -/
def blankByte (a : Nat) : Byte := if 0x10000000 ≤ a ∧ a < 0x10A00000 then 0xFF#8 else 0#8

/-- The canonical form of the memory: addresses strictly rising, no entry equal to what an unlisted address reads as. -/
def memWf (l : SMap Byte) : Bool := (l.map (·.1)).Pairwise (· < ·) && l.all fun e => e.2 != blankByte e.1

namespace Mod

/-! ### Register fields -/

/-- The stored value of a field. -/
def rd (m : Mod) (f : Fld) : Nat := SMap.get f.rst m.regs f.key

/-- Store a value in a field, cut to its width. -/
def wr (m : Mod) (f : Fld) (v : Nat) : Mod := { m with regs := SMap.set f.rst m.regs f.key (v % 2 ^ f.w) }

/-- The field is not 0. -/
def on (m : Mod) (f : Fld) : Bool := m.rd f != 0

/-- Store a flag. -/
def wrB (m : Mod) (f : Fld) (b : Bool) : Mod := m.wr f (if b then 1 else 0)

/-- Add to a counter that saturates. -/
def add (m : Mod) (f : Fld) (n : Nat) : Mod := m.wr f (Nat.min (m.rd f + n) f.max)

/-- Step a counter that saturates. -/
def inc (m : Mod) (f : Fld) : Mod := m.add f 1

/-- Store a value that saturates at the field's largest. -/
def sat (m : Mod) (f : Fld) (v : Nat) : Mod := m.wr f (Nat.min v f.max)

/-- Bit `i` of a field. -/
def bit (m : Mod) (f : Fld) (i : Nat) : Bool := (m.rd f).testBit i

/-- Write bit `i` of a field. -/
def wrBit (m : Mod) (f : Fld) (i : Nat) (b : Bool) : Mod :=
  let v := m.rd f
  if v.testBit i = b then m else m.wr f (if b then v + 2 ^ i else v - 2 ^ i)

/-! ### Power domains and the block status bits (R383, R478) -/

/-- Domain `d` is awake; the FRM domain and the AON domain always are. -/
def awake (m : Mod) (d : Nat) : Bool := decide (31 ≤ d) || m.bit Reg.PWR.DOM_STAT d

/-- The block sets bit `i` of its page's PAGE_IRQ, unless its domain sleeps (R478, Table 17-2). -/
def irq (m : Mod) (pg i : Nat) : Mod := if m.awake (Reg.pageDomain pg) then m.wrBit (Reg.COM.PAGE_IRQ pg) i true else m

/-! ### Time (R17, R30) -/

/-- The present tick. -/
def tick (m : Mod) : Nat := m.frm.tick

/-- The 5 ns timestamp of cycle `cyc` of the present tick (R30). -/
def stamp (m : Mod) (cyc : Nat) : Nat := m.frm.tick * 2000 + cyc

/-! ### Byte memories (R8, Table 17-4) -/

/-- The byte at an address. -/
def byte (m : Mod) (a : Nat) : Nat := (SMap.get (blankByte a) m.mem a).toNat

/-- Store a byte. -/
def setByte (m : Mod) (a v : Nat) : Mod := { m with mem := SMap.set (blankByte a) m.mem a (BitVec.ofNat 8 v) }

/-- `n` bytes from an address upward. -/
def bytes (m : Mod) (a : Nat) : Nat → List Nat
  | 0 => []
  | n + 1 => m.byte a :: m.bytes (a + 1) n

/-- Store a list of bytes from an address upward. -/
def setBytes (m : Mod) (a : Nat) : List Nat → Mod
  | [] => m
  | b :: bs => (m.setByte a b).setBytes (a + 1) bs

/-- The little-endian number that `n` bytes hold (R8). -/
def load (m : Mod) (a n : Nat) : Nat := (m.bytes a n).foldr (fun b acc => b + 256 * acc) 0

/-- Store a number in `n` bytes, little-endian (R8). -/
def store (m : Mod) (a : Nat) : Nat → Nat → Mod
  | 0, _ => m
  | n + 1, v => (m.setByte a (v % 256)).store (a + 1) n (v / 256)

/-- Remove every listed byte from `a` to `a + n - 1`: each reads as an unlisted byte. -/
def eraseMem (m : Mod) (a n : Nat) : Mod :=
  { m with mem := m.mem.filter fun e => e.1 < a || a + n ≤ e.1 }

end Mod

/-! ### The check word (R9) -/

/-- One bit of the reflected CRC-32C. -/
def crcBit (c : BitVec 32) : BitVec 32 := if c.getLsbD 0 then (c >>> 1) ^^^ 0x82F63B78#32 else c >>> 1

/-- One byte of the CRC-32C. -/
def crcByte (c : BitVec 32) (b : Nat) : BitVec 32 :=
  crcBit (crcBit (crcBit (crcBit (crcBit (crcBit (crcBit (crcBit (c ^^^ BitVec.ofNat 32 b))))))))

/-- The CRC-32C of a byte list (R9). -/
def crc32c (l : List Nat) : Nat := ((l.foldl crcByte 0xFFFFFFFF#32) ^^^ 0xFFFFFFFF#32).toNat

/-- The bits `hi` to `lo` of a number. -/
def fld (v hi lo : Nat) : Nat := (v >>> lo) % 2 ^ (hi + 1 - lo)

/-! ### Event details (R427) -/

/-- A detail item: its value, its width, whether it is a subject. -/
structure Item where
  v : Nat
  w : Nat
  subj : Bool

/-- A subject of 8 bits, the width of "any other number". -/
def sj (v : Nat) : Item := ⟨v, 8, true⟩
/-- A subject of 16 bits: a promise number, an object number. -/
def sj16 (v : Nat) : Item := ⟨v, 16, true⟩
/-- A subject of 32 bits: an address, a MAC part, a CAN identifier with IDE in bit 29. -/
def sj32 (v : Nat) : Item := ⟨v, 32, true⟩
/-- A value of 8 bits. -/
def vl (v : Nat) : Item := ⟨v, 8, false⟩
/-- A value of 16 bits: a TICK, the code of a result, a register field of up to 16 bits. -/
def vl16 (v : Nat) : Item := ⟨v, 16, false⟩
/-- A value of 24 bits. -/
def vl24 (v : Nat) : Item := ⟨v, 24, false⟩
/-- A value of 32 bits. -/
def vl32 (v : Nat) : Item := ⟨v, 32, false⟩

/-- The packed detail: DETAIL, the mask of the key bits, TRUNC (R427). -/
structure Packed where
  detail : Nat := 0
  mask : Nat := 0
  trunc : Bool := false
  pos : Nat := 0
  value : Bool := false

/-- Pack one item. -/
def Packed.push (p : Packed) (i : Item) : Packed :=
  if 32 ≤ p.pos then { p with trunc := true }
  else
    let w := Nat.min i.w (32 - p.pos)
    let value := p.value || !i.subj
    { detail := p.detail + (i.v % 2 ^ w) * 2 ^ p.pos
      mask := if value then p.mask else p.mask + (2 ^ w - 1) * 2 ^ p.pos
      trunc := p.trunc || decide (32 < p.pos + i.w)
      pos := p.pos + i.w
      value := value }

/-- Pack the items of an event in the order listed (R427). -/
def packItems (l : List Item) : Packed := l.foldl Packed.push {}

/-- Event class Info. -/
def info : Nat := 0
/-- Event class Warning. -/
def warn : Nat := 1
/-- Event class Error. -/
def err : Nat := 2
/-- Event class Critical. -/
def crit : Nat := 3

namespace Mod

/-- Count a record of class `c` as dropped (R431 to R434). -/
def dropped (m : Mod) (c : Nat) : Mod :=
  let m := m.inc (Reg.EVT.DROPPED c)
  { m with evt := { m.evt with rises := SMap.set 0 m.evt.rises c (SMap.get 0 m.evt.rises c + 1) } }

/-- The lowest class below Critical among waiting records, if any. -/
def lowestBelowCrit (q : List EvtIn) : Option Nat :=
  if q.any (·.body.cls = info) then some info
  else if q.any (·.body.cls = warn) then some warn
  else if q.any (·.body.cls = err) then some err else none

/-- Remove the newest waiting record of class `c` (the queue is oldest first). -/
def removeNewest (c : Nat) (q : List EvtIn) : List EvtIn :=
  (q.reverse.eraseP fun e => e.body.cls = c).reverse

/-- A record enters the writer's intake queue of 64 (R429, R433). (Log: DEDUCED 72) -/
def intake (m : Mod) (e : EvtIn) : Mod :=
  let q := m.evt.intake
  if q.length < 64 then { m with evt := { m.evt with intake := q ++ [e] } }
  else
    let m := m.inc Reg.EVT.INTAKE_FULL_CNT
    match (if e.body.cls = crit then lowestBelowCrit q else none) with
    | some c =>
      let m := m.dropped c
      { m with evt := { m.evt with intake := removeNewest c q ++ [e] } }
    | none => m.dropped e.body.cls

/-- The record of an event raised now (R426, R427). -/
def mkEvt (m : Mod) (pg cls code : Nat) (items : List Item) : EvtIn :=
  let p := packItems items
  { body := { tick := m.tick, page := pg, cls := cls, code := code, detail := p.detail, est := false,
              trunc := p.trunc, rep := 0, seq := 0 },
    keyMask := p.mask }

/-- PAGE_EVT counts the event and keeps its code (Table 17-2). -/
def countEvt (m : Mod) (pg code : Nat) : Mod :=
  if ¬ Reg.mapped pg then m else (m.inc (Reg.COM.RAISED pg)).wr (Reg.COM.LAST_CODE pg) code

/-- A Critical event of the PAIR, FRM or TIL page fails a running probation (R472). -/
def probationEvt (m : Mod) (pg cls : Nat) : Mod :=
  if cls = crit ∧ (pg = 0x09 ∨ pg = 0x0A ∨ pg = 0x0C) ∧ m.on Reg.UPD.PROBATION then { m with upd := { m.upd with failed := true } } else m

/-- Raise an event. (Log: DEDUCED 74) -/
def ev (m : Mod) (pg cls code : Nat) (items : List Item) : Mod :=
  ((m.countEvt pg code).intake (m.mkEvt pg cls code items)).probationEvt pg cls

/-! ### Power domains (R383 to R385) -/

/-- Start the wake of domain `d` (R385): it stays asleep until DOMAIN_READY. -/
def wakeDom (m : Mod) (d : Nat) : Mod :=
  if m.awake d then m else m.wrBit Reg.PWR.DOM_WAKING d true

/-- The largest wake time of a domain in units of 10 µs (Table 13-7). -/
def wakeTicks (d : Nat) : Nat :=
  if d < 28 then 4 else if d = 28 then 3 else if d = 29 then 2 else 1

/-- The power state: 0 Run, 1 Doze, 2 Park, 3 Shelf (Table 13-2). -/
def pstate (m : Mod) : Nat := m.rd Reg.PWR.STATE

end Mod

namespace Mod

/-! ### The memory map (Table 17-4), and the errors of its SECDED memories (R420 to R422) -/

/-- A region of the module address space. -/
inductive Region where
  | rom | flash | sram | obj | tile | aon | page | none
deriving DecidableEq

/-- The region of an address (R485, R487). -/
def region (a : Nat) : Region :=
  if a ≤ 0xFFFF then .rom
  else if 0x10000000 ≤ a ∧ a ≤ 0x109FFFFF then .flash
  else if 0x20000000 ≤ a ∧ a ≤ 0x201FFFFF then .sram
  else if 0x21000000 ≤ a ∧ a ≤ 0x2107FFFF then .obj
  else if 0x22000000 ≤ a ∧ a ≤ 0x2207FFFF then .tile
  else if 0x23000000 ≤ a ∧ a ≤ 0x23003FFF then .aon
  else if 0x40000000 ≤ a ∧ a ≤ 0x4003FFFF ∧ Reg.mapped ((a - 0x40000000) / 0x1000) then .page
  else .none

/-- An access to an address that is not there, or a write to one that is not writable (R485, R487): `src` 0 the pair, 1 Vinko. -/
def unmapped (m : Mod) (a src : Nat) : Mod :=
  ((m.inc Reg.SYS.UNMAP_CNT).wr Reg.SYS.UNMAP_ADDR a).ev 0 err 0x1102 [sj32 a, sj src]

/-- A read finds an error. (Log: DESIGN CHOICE 63) -/
def eccHit (m : Mod) (h : EccHit) : Mod :=
  let m := ((m.wr Reg.EVT.ECC_ADDR h.addr.toNat).wr Reg.EVT.ECC_MEM h.mem).wrB Reg.EVT.ECC_UE h.ue
  let m := m.wr Reg.EVT.ECC_TICK16 m.tick
  if h.ue then (m.inc Reg.EVT.UE_CNT).ev 0x08 err 0x0F02 [sj h.mem, sj32 h.addr.toNat]
  else (m.inc Reg.EVT.CE_CNT).ev 0x08 info 0x0F01 [sj h.mem, sj32 h.addr.toNat]

/-- The memory of a SECDED store by its address, as Table 15-6 codes it. -/
def eccMem (a : Nat) : Option (Fin 4) :=
  match region a with
  | .sram => some 0
  | .obj => some 1
  | .aon => some 3
  | _ => none

end Mod

namespace Mod

/-! ### The pair's slices and commit queue (R397 to R399, R404) -/

def onPair (m : Mod) (f : PairX → PairX) : Mod := { m with pair := f m.pair }

/-- Worker 0 is the lockstep pair or Yew, worker 1 Holly. -/
def worker (m : Mod) (holly : Bool) : Worker := if holly then m.pair.w1 else m.pair.w0

def onWorker (m : Mod) (holly : Bool) (f : Worker → Worker) : Mod :=
  m.onPair fun x => if holly then { x with w1 := f x.w1 } else { x with w0 := f x.w0 }

/-- A promise whose slice did not complete within its budget: its cause, if no higher one is known (R87, R399). -/
def blameBudget (m : Mod) (num : Nat) : Mod :=
  { m with prm := { m.prm with open_ := m.prm.open_.map fun p =>
      if p.num = num ∧ (p.tent = 0 ∨ p.tent = 3 ∨ p.tent = 4 ∨ p.tent = 0xD) then { p with tent := 0xA } else p } }

end Mod

/-- A trap into Machine mode (R394): the cause, the trap value; the saved pc is the core's pc. (Log: PRESUMED 60) -/
def CoreX.trap (c : CoreX) (cause tval : Nat) : CoreX :=
  let ie := fld c.mstatus 3 3
  { c with mepc := c.pc - c.pc % 2, mcause := cause, mtval := tval, pc := c.mtvec, user := false,
           mstatus := c.mstatus - fld c.mstatus 3 3 * 8 - fld c.mstatus 7 7 * 128 - fld c.mstatus 12 11 * 2048 + ie * 128 +
             (if c.user then 0 else 3) * 2048 }

namespace Mod

/-- A core takes a trap. -/
def trapCore (m : Mod) (holly : Bool) (cause tval : Nat) : Mod :=
  m.onWorker holly fun w => { w with core := w.core.trap cause tval }

/-- The runtime ends the running slice (R399): its commit entries are discarded, its SRAM stores stand; the event, the promise's
cause and, where `count`, BUDGET_CNT. (Log: DEDUCED 70) -/
def sliceDrop (m : Mod) (holly count : Bool) : Mod :=
  match (m.worker holly).cur with
  | none => m
  | some c =>
    let m := m.onWorker holly fun w => { w with cur := none, cq := w.cq.take w.mark, core := { w.core with mslice := 0 } }
    ((if count then m.inc Reg.PAIR.BUDGET_CNT else m).ev 0x09 warn 0x0E05 [sj16 c.task]).blameBudget c.prm

/-- The running slice ends as by the slice-budget exception (R399). (Log: DEDUCED 66) -/
def sliceCut (m : Mod) (holly : Bool) : Mod := (m.trapCore holly 24 0).sliceDrop holly true

/-- An access would need a log entry beyond its capacity (R404): 1 undo, 2 commit, 3 replay. (Log: DEDUCED 66) -/
def capCut (m : Mod) (holly : Bool) (log : Nat) : Mod :=
  let task := ((m.worker holly).cur.map (·.task)).getD 0
  ((m.sliceCut holly).inc Reg.PAIR.CAP_CNT).ev 0x09 warn 0x0E06 [sj log, sj16 task]

/-- A store that joins the commit queue of 256 entries (R403, R404). -/
def queueStore (m : Mod) (holly : Bool) (e : Commit) : Mod :=
  if (m.worker holly).cq.length < 256 then m.onWorker holly fun w => { w with cq := w.cq ++ [e] } else m.capCut holly 2

/-- A store of the pair to a register joins its commit queue and takes effect at the tick boundary (R403, R484).
(Log: DESIGN CHOICE 10) -/
def pairCommit (m : Mod) (addr data : Nat) : Mod := m.queueStore false ⟨addr, data, 4⟩

/-- The word that the stored fields at an offset make up; a WO field reads 0 (R12, R13). -/
def wordOf (m : Mod) (pg off : Nat) : Nat :=
  (Reg.fieldsAt pg off).foldl (fun a f => if f.acc = .wo then a else a + m.rd f * 2 ^ f.lo) 0

/-- The address of a register (R10). -/
def regAddr (pg off : Nat) : Nat := 0x40000000 + pg * 0x1000 + off

/-! ### The write lock (R481, R482) -/

/-- The key of a page is open. -/
def keyOpen (m : Mod) (pg : Nat) : Bool := m.on (Reg.COM.KEY pg)

/-- A write that would change an RWL field of a page whose key is closed is refused (R482): counted, recorded, reported.
`vinko`: 0 the pair, 1 a Vinko window. -/
def keyReject (m : Mod) (pg off vinko : Nat) : Mod :=
  let m := (((m.inc Reg.SYS.KEY_REJ_CNT).wr Reg.SYS.KEY_REJ_PAGE pg).wr Reg.SYS.KEY_REJ_OFF off).wr Reg.SYS.KEY_REJ_SRC vinko
  m.ev 0 warn 0x1101 [sj pg, sj16 off, sj vinko]

end Mod

/-- A published quotient, whose rounding the spec does not state. (Log: DESIGN CHOICE 32) -/
def quotient (num den : Nat) : Nat := num / den + (if num % den ≠ 0 ∧ Config.roundUp num den = true then 1 else 0)

/-- Fold over the indices 0 to `n - 1`. -/
def forN {α : Type} (n : Nat) (f : α → Nat → α) (a : α) : α := (List.range n).foldl f a

end Sys2Proof.Machine
end

