-- ==== Sys2Proof/Machine/Egress.lean ====
section
/-! DEFINITION. What the host port sends to the central computer (chapter 11): replicated frames, Vinko responses, and the
NOTICE queue. -/
namespace Sys2Proof.Machine
open Reg

/-- A number as `n` bytes, most significant first. -/
def beBytes : Nat → Nat → List Nat
  | 0, _ => []
  | n + 1, v => (v / 256 ^ n % 256) :: beBytes n v

/-- A number as `n` bytes, least significant first. -/
def leBytes : Nat → Nat → List Nat
  | 0, _ => []
  | n + 1, v => (v % 256) :: leBytes n (v / 256)

/-- The number that bytes hold, least significant first (R8). -/
def leNum (l : List Nat) : Nat := l.foldr (fun b a => b + 256 * a) 0

/-- The number that bytes hold, most significant first. -/
def beNum (l : List Nat) : Nat := l.foldl (fun a b => 256 * a + b) 0

/-- The 16 bytes of a Vinko header (Table 11-3). -/
def vnkHeader (rsp posted : Bool) (op seq win status len addr aux : Nat) : List Nat :=
  [16 + (if rsp then 8 else 0) + (if posted then 4 else 0), op] ++ beBytes 2 seq ++ [win, status] ++ beBytes 2 len ++
    beBytes 4 addr ++ beBytes 4 aux

namespace Mod

def onVnk (m : Mod) (f : VnkX → VnkX) : Mod := { m with vnk := f m.vnk }
def bb (m : Mod) (n : Nat) : BbX := SMap.get {} m.bbs n
def onBb (m : Mod) (n : Nat) (f : BbX → BbX) : Mod := { m with bbs := SMap.set {} m.bbs n (f (m.bb n)) }

/-- Backbone port `n` can send a protected frame: its link is up and, with SEC_EN, a SAK is installed (R314, R315). -/
def bbSends (m : Mod) (n : Nat) : Bool := m.on (BB.EN n) && m.on (BB.LINK n) && (!m.on (BB.SEC_EN n) || m.on (BB.SAK_OK n))

/-- A frame leaves backbone port `n`, protected under the next packet number of its association (R314, R315). (Log: PRESUMED 51) -/
def bbSent (m : Mod) (n : Nat) : Mod :=
  (m.inc (BB.TX_OK_CNT n)).onBb n fun x => if m.on (BB.SEC_EN n) then { x with sa := { x.sa with txPn := (x.sa.txPn + 1) % 2 ^ 32 } } else x

/-- Backbone port `n` hears frames: enabled, its link up, its domain awake. -/
def bbHears (m : Mod) (n : Nat) : Bool := m.on (BB.EN n) && m.on (BB.LINK n) && m.awake n

/-- Protected frames that backbone port `n` hears pass on (R314, R315). -/
def bbTakes (m : Mod) (n : Nat) : Bool := m.bbHears n && m.bbSends n

/-- The destination address, the priority and the VLAN of a frame of the host port (R324, R336). (Log: DESIGN CHOICE 149) -/
def outAddr (m : Mod) (kind : OutKind) (dest : Nat) : Nat × Nat × Nat :=
  let init := m.rd (VNK.INIT_MAC_LO dest) + m.rd (VNK.INIT_MAC_HI dest) * 2 ^ 32
  match kind with
  | .acf => (m.rd (BRG.DMAC_LO dest) + m.rd (BRG.DMAC_HI dest) * 2 ^ 32, m.rd (BRG.PCP dest), m.rd (BRG.VLAN dest))
  | .node => (m.rd (VNK.NODE_MAC_LO (dest % 16)) + m.rd (VNK.NODE_MAC_HI (dest % 16)) * 2 ^ 32, m.rd ETS.DEF_PCP, 0)
  | .rsp => (init, m.rd ETS.DEF_PCP, 0)
  | .notice | .event => (init, m.rd VNK.NPCP, 0)

/-- A frame of the host port is recorded among those of the tick. -/
def outPut (m : Mod) (kind : OutKind) (dest seq rtag : Nat) (body : List Nat) : Mod :=
  let a := m.outAddr kind dest
  m.onVnk fun x => { x with out := x.out ++ [⟨kind, dest, seq, rtag, body, a.1, a.2.1, a.2.2⟩] }

/-- The host port sends a frame: one R-TAG number for both copies, one copy on each backbone port (R318). (Log: PRESUMED 51) -/
def hostSend (m : Mod) (kind : OutKind) (dest seq : Nat) (body : List Nat) : Mod :=
  let key := if kind = .acf then dest else 16 + dest
  let tag := SMap.get 0 m.vnk.rtag key
  let m := (m.outPut kind dest seq tag body).onVnk fun x => { x with rtag := SMap.set 0 x.rtag key ((tag + 1) % 65536) }
  forN 2 (fun m n => if m.bbSends n then m.bbSent n else m) m

/-- Put a NOTICE in its queue of 64 (R336). -/
def notice (m : Mod) (slot kind : Nat) (body : List Nat) : Mod :=
  let n : Notice := ⟨slot, kind, body⟩
  let soft := fun k : Nat => k = 1 ∨ k = 5
  let lost := fun m : Mod => (m.inc VNK.NOTICE_LOST_CNT).onVnk fun x => { x with lostSf := x.lostSf + 1 }
  if m.vnk.notices.length < 64 then m.onVnk fun x => { x with notices := x.notices ++ [n] }
  else if ¬ soft kind ∧ m.vnk.notices.any (fun x => x.kind = 1 ∨ x.kind = 5) then
    lost (m.onVnk fun x => { x with notices := x.notices.eraseP (fun y => y.kind = 1 ∨ y.kind = 5) ++ [n] })
  else lost m

/-- The NOTICE of a promise: KEPT, BREACH or ANSWER (Table 11-6). (Log: DEDUCED 96) -/
def promiseNotice (m : Mod) (slot kind cls num ref code detail deadline : Nat) : Mod :=
  m.notice slot kind ([cls] ++ beBytes 2 num ++ beBytes 2 ref ++ [code, detail] ++ beBytes 6 deadline ++ [0, 0])

/-- The NOTICE of a transaction: WRITE_FAIL, LATE or DROPPED (Table 11-6). (Log: DEDUCED 89) -/
def txnNotice (m : Mod) (t : Txn) (kind code : Nat) : Mod :=
  m.notice t.slot kind ([t.win] ++ beBytes 2 t.seq ++ beBytes 4 t.addr ++ beBytes 2 code ++ beBytes 6 m.tick)

/-- The queued NOTICEs leave (R336). (Log: DEDUCED 96) -/
def sendNotices (m : Mod) : Mod :=
  m.vnk.notices.foldl (fun m n =>
    let s := SMap.get 0 m.vnk.seqOut n.slot
    let m := m.onVnk fun x => { x with seqOut := SMap.set 0 x.seqOut n.slot ((s + 1) % 65536) }
    m.hostSend .notice n.slot s (vnkHeader false true 0x20 s 0 0 16 0 0 ++ n.kind :: n.body)) (m.onVnk fun x => { x with notices := [] })

/-- Remember a completed transaction of an initiator (R331). -/
def remember (m : Mod) (t : Txn) (code : Nat) : Mod :=
  m.onVnk fun x => { x with hist := SMap.set [] x.hist t.slot (((t.seq, t.op, code) :: SMap.get [] x.hist t.slot).take 32) }

/-- INIT.OPEN of a slot counts its open non-posted transactions (R332). -/
def openCount (m : Mod) (slot : Nat) : Mod :=
  m.wr (VNK.INIT_OPEN slot) (m.vnk.open_.filter fun t => t.slot = slot ∧ ¬ t.posted).length

/-- Remove a transaction from the open ones. -/
def txnClose (m : Mod) (t : Txn) : Mod := (m.onVnk fun x => { x with open_ := x.open_.erase t }).openCount t.slot

/-- Count a response code (Table 11-13). -/
def codeCount (m : Mod) (code : Nat) : Mod :=
  if code = 6 then m.inc VNK.BUSY_CNT else if code = 7 then m.inc VNK.TIMEOUT_CNT else if code = 1 then m.inc VNK.DENIED_CNT else m

/-- A response (R330): its header and payload bytes, on both backbone ports. -/
def response (m : Mod) (t : Txn) (code aux : Nat) (payload : List Nat) : Mod :=
  (m.codeCount code).hostSend .rsp t.slot t.seq (vnkHeader true false t.op t.seq t.win code payload.length t.addr aux ++ payload)

/-- Complete a transaction: a response, or for a posted write nothing, or a WRITE_FAIL notice where it failed (R333). BUSY and
DUPLICATE leave no history. (Log: DEDUCED 88) -/
def complete (m : Mod) (t : Txn) (code aux : Nat) (payload : List Nat) : Mod :=
  let m := m.txnClose t
  let m := if code = 6 ∨ code = 0xA then m else m.remember t code
  if t.posted then if code = 0 then m else if code = 0xA then m else m.txnNotice t 3 code
  else m.response t code aux payload

end Mod
end Sys2Proof.Machine
end

