-- ==== Sys2Proof/Machine/Outputs.lean ====
section
/-! DEFINITION. The power outputs: channels, H pairs and bridges, their permits and owner states, turn-on and turn-off,
the inrush queue, and the results of the load diagnostics. Every chapter that switches an output goes through here. -/
namespace Sys2Proof.Machine
open Reg

/-- A half-bridge by its channel index (Table 03-2). -/
def isHB (c : Nat) : Bool := 8 ≤ c % 10

/-- The bank of a channel, which is also the number of the bank's H-bridge (R97, R188). -/
def bankOf (q c : Nat) : Nat := 2 * q + c / 10

/-- Cells per switch (Table 03-1). -/
def nCells (c : Nat) : Nat := byClass c 8 4 1 4

/-- The sense LSB in mA (Table 03-1). -/
def lsbMA (c : Nat) : Nat := byClass c 20 8 2 10

/-- The module output number of a high-side channel (R97, R166). -/
def outputNo (q c : Nat) : Nat :=
  let k := bankOf q c
  let i := c % 10
  if i = 0 then k else if i < 4 then 8 + 3 * k + i - 1 else if i < 8 then 32 + 4 * k + i - 4 else 0x7F

/-- The highest asserted owner of a set (R19): 0 Frame, 1 Hold, 2 Safe, 3 Lock. -/
def effOf (set : Nat) : Nat :=
  if set.testBit 3 then 3 else if set.testBit 2 then 2 else if set.testBit 1 then 1 else 0

/-- A booking that is given up gives its claim back, unless a window holds it (R150). -/
def ChanX.unbook (x : ChanX) : ChanX := { x with booked := false, claim := if x.window then x.claim else 0 }

namespace Mod

def chan (m : Mod) (q c : Nat) : ChanX := SMap.get {} m.chans (q * 20 + c)
def setChan (m : Mod) (q c : Nat) (x : ChanX) : Mod := { m with chans := SMap.set {} m.chans (q * 20 + c) x }
def onChan (m : Mod) (q c : Nat) (f : ChanX → ChanX) : Mod := m.setChan q c (f (m.chan q c))
def bank (m : Mod) (b : Nat) : BankX := SMap.get {} m.banks b
def onBank (m : Mod) (b : Nat) (f : BankX → BankX) : Mod := { m with banks := SMap.set {} m.banks b (f (m.bank b)) }
def quad (m : Mod) (q : Nat) : QuadX := SMap.get {} m.quads q
def onQuad (m : Mod) (q : Nat) (f : QuadX → QuadX) : Mod := { m with quads := SMap.set {} m.quads q (f (m.quad q)) }
def br (m : Mod) (k : Nat) : BrX := SMap.get {} m.brs k
def onBr (m : Mod) (k : Nat) (f : BrX → BrX) : Mod := { m with brs := SMap.set {} m.brs k (f (m.br k)) }

/-- An event that quadrant `q` raises for page `pg`: while its link is silent it is held, 32 at most (R164). -/
def qevPage (m : Mod) (q pg cls code : Nat) (items : List Item) : Mod :=
  if (m.quad q).silent then
    let m' := m.countEvt pg code
    if (m.quad q).buf.length < 32 then
      let e := m.mkEvt pg cls code items
      m'.onQuad q fun x => { x with buf := x.buf ++ [{ e with body := { e.body with est := true } }] }
    else m'.inc (HQ.QEVT_LOST q)
  else m.ev pg cls code items

/-- An event of quadrant `q` on its own page. -/
def qev (m : Mod) (q cls code : Nat) (items : List Item) : Mod := m.qevPage q (0x10 + q) cls code items

/-- The value of a setting that is in force: while Hold or Safe is asserted, the one frozen at its assertion (R161). -/
def force (m : Mod) (q : Nat) (f : Fld) : Nat :=
  match (m.quad q).frozen.lookup f.key with
  | some v => v
  | none => m.rd f

/-! ### Groups: H pairs and bridges -/

/-- The H pair of quadrant `q` is enabled (R117). -/
def paired (m : Mod) (q : Nat) : Bool := m.force q (HQ.PAIR_EN q) ≠ 0

/-- The half-bridge belongs to a configured bridge (R188). -/
def bridged (m : Mod) (q c : Nat) : Bool := isHB c && m.force q (MOT.BR_EN (bankOf q c)) ≠ 0

/-- The channels that act together with channel `c`: the H pair, the bridge, or `c` alone. -/
def group (m : Mod) (q c : Nat) : List Nat :=
  if m.paired q && (c = 0 || c = 10) then [0, 10]
  else if m.bridged q c then [10 * (c / 10) + 8, 10 * (c / 10) + 9]
  else [c]

/-- The channel whose settings rule: the master of an H pair (R118), the even member of a bridge (R189). -/
def lead (m : Mod) (q c : Nat) : Nat := (m.group q c).headD c

/-- The channel whose commands and settings an H pair's member follows: the master (R118); any other channel its own. -/
def master (m : Mod) (q c : Nat) : Nat := if m.paired q && c = 10 then 0 else c

/-- The permit word of a channel as its group sees it (R118, R196). -/
def perms (m : Mod) (q c : Nat) : Nat := (m.group q c).foldl (fun a i => a &&& (m.chan q i).own) 31

/-- All five permits are set (R21). -/
def permitted (m : Mod) (q c : Nat) : Bool := m.perms q c = 31

/-- Show the permit word in CH_STAT of every member. -/
def syncPermit (m : Mod) (q c : Nat) : Mod :=
  let p := m.perms q c
  (m.group q c).foldl (fun m i => m.wr (HQ.PERMIT q i) p) m

/-! ### The inrush coordinator (R149 to R151) -/

/-- A turn-on now would be an inrush start: the output has been off for more than 100 ms (R149). -/
def inrushDue (m : Mod) (q c : Nat) : Bool :=
  let x := m.chan q c
  m.rd (HQ.INR_WIN q (m.lead q c)) ≠ 0 && (!x.wasOn || decide (x.offAt + 10000 < m.tick))

/-- The claim of an inrush start in mA (R149). -/
def claimOf (m : Mod) (q c : Nat) : Nat := m.rd (HQ.INR_ILIM q (m.lead q c)) * lsbMA c

/-- The claims that the running windows of a bank hold, in mA. -/
def claims (m : Mod) (q b : Nat) : Nat :=
  forN 10 (fun a i => a + (m.chan q (10 * b + i)).claim) 0

/-- The inrush budget of the bank in mA. -/
def inrushBudget (m : Mod) (q b : Nat) : Nat := m.rd (HQ.INR_BUD q b) * 100

/-- Show the queue length of a bank (Table 04-12). -/
def showQueue (m : Mod) (q b : Nat) : Mod :=
  let n := (m.bank (2 * q + b)).queue.length
  if b = 0 then m.wr (HQ.QLEN0 q) n else m.wr (HQ.QLEN1 q) n

/-- An autonomous start enters the bank's queue at the tail (R150). -/
def enqueue (m : Mod) (q c : Nat) : Mod :=
  let b := bankOf q c
  if (m.bank b).queue.contains c then m
  else (m.onBank b fun x => { x with queue := x.queue ++ [c] }).showQueue q (c / 10)

/-- An entry leaves the bank's queue (R150). -/
def dequeue (m : Mod) (q c : Nat) : Mod :=
  let b := bankOf q c
  if (m.bank b).queue.contains c then
    (m.onBank b fun x => { x with queue := x.queue.filter (· ≠ c) }).showQueue q (c / 10)
  else m

/-! ### Load-diagnostic results (R183) -/

/-- BUSY of a channel, and the count of busy channels that DIA.STAT shows. -/
def diagBusy (m : Mod) (q c : Nat) (b : Bool) : Mod :=
  if m.on (HQ.DIAG_BUSY q c) = b then m
  else (m.wrB (HQ.DIAG_BUSY q c) b).wr DIA.BUSY_N (if b then m.rd DIA.BUSY_N + 1 else m.rd DIA.BUSY_N - 1)

/-- CODE and V_MEAS are written (R177, R183): a change of CODE waits for the next tick boundary. -/
def diagCode (m : Mod) (q c code v : Nat) : Mod :=
  let old := m.rd (HQ.DIAG_CODE q c)
  let m := (m.wr (HQ.V_MEAS q c) v).wr (HQ.DIAG_CODE q c) code
  if old = code then m
  else { m with dia := { m.dia with changes := m.dia.changes ++ [⟨20 * q + c, old, code, v, 0⟩] } }

/-- A test ends with its result (R176, R177, R182). -/
def diagResult (m : Mod) (q c code v : Nat) : Mod :=
  let x := (m.chan q c).diag
  let m := if m.on (HQ.DIAG_BUSY q c) then (m.wr (HQ.DIAG_KIND q c) x.kind).diagBusy q c false else m
  (m.onChan q c fun y => { y with diag := { y.diag with run := .none, offPhase := false } }).diagCode q c code v

/-- An off-phase test ends (R179): a requested test goes on in the next period. -/
def offPhaseDrop (m : Mod) (q c : Nat) : Mod :=
  m.onChan q c fun y => { y with diag := { y.diag with run := if m.on (HQ.DIAG_BUSY q c) then .onState else .none, offPhase := false } }

/-- The applied state leaves off, or reverse enhancement begins: a running off-state test is ABORTED (R182); an
off-phase test ends and its period counts as one without an update (R179). -/
def diagLeaveOff (m : Mod) (q c : Nat) : Mod :=
  let x := (m.chan q c).diag
  if x.run = .pullDown ∨ x.run = .pullUp then
    if x.offPhase then m.offPhaseDrop q c else m.diagResult q c 9 0
  else m

/-- The channel leaves the on state (R173): a requested evaluation ends TRIPPED at a protective off and
NOT_APPLICABLE at a commanded one; an automatic run starts afresh. -/
def diagLeaveOn (m : Mod) (q c : Nat) (prot : Bool) : Mod :=
  let x := (m.chan q c).diag
  let m := m.onChan q c fun y => { y with diag := { y.diag with dir := 0, count := 0, got := 0, noUpd := 0, offCount := 0 } }
  if m.on (HQ.DIAG_BUSY q c) ∧ (x.run = .onState ∨ x.offPhase) then m.diagResult q c (if prot then 7 else 0xA) 0
  else if x.offPhase then m.offPhaseDrop q c else m

/-- A sag, reverse feed or ground loss begins (R181): a test it suspends ends with SUSPENDED; automatic runs and off-phase
series discard their counts. `sag`: only a sag, which leaves a pull-down-only test running. -/
def diagSuspend (m : Mod) (q : Nat) (sag : Bool) : Mod :=
  forN 20 (fun m c =>
    let x := (m.chan q c).diag
    let off := x.run = .pullDown ∨ x.run = .pullUp
    if sag ∧ off ∧ x.offPhase = false ∧ x.kind = 1 then m
    else
      let m := if m.on (HQ.DIAG_BUSY q c) ∧ x.run ≠ .none then m.diagResult q c 8 0 else m
      m.onChan q c fun y =>
        { y with diag := { y.diag with run := .none, offPhase := false, dir := 0, count := 0, got := 0, noUpd := 0, offCount := 0 } }) m

/-! ### Switching one output -/

/-- The high-side switch of a channel is driven. -/
def highDriven (m : Mod) (q c : Nat) : Bool :=
  let x := m.chan q c
  let out := m.rd (HQ.OUT q c)
  out ≠ 0 && (x.tran = .on || x.tran = .idle) && (!isHB c || !x.low) && ((out ≠ 2 && out ≠ 5) || x.onPhase)

/-- The low-side switch of a half-bridge is driven. -/
def lowDriven (m : Mod) (q c : Nat) : Bool :=
  let x := m.chan q c
  isHB c && m.rd (HQ.OUT q c) ≠ 0 && (x.tran = .on || x.tran = .idle) && x.low



/-- The window of a channel ends and its claim is released (R149). -/
def endWindow (m : Mod) (q c : Nat) : Mod := m.onChan q c fun x => { x with window := false, claim := 0 }

/-- Turn one output off: by the protective path (R131) or with its slew (R109); a dead time, or the off-phase of a PWM, with both
switches off, ends at once. The time off counts from the turn-off of a driven switch (R149). -/
def offCore (m : Mod) (q c : Nat) (prot : Bool) : Mod :=
  let x := m.chan q c
  let out := m.rd (HQ.OUT q c)
  if out = 6 ∨ (out = 0 ∧ (x.tran = .idle ∨ (x.tran = .off ∧ x.next = none ∧ prot = false))) then m
  else
    let driven := m.highDriven q c || m.lowDriven q c
    let still := prot || decide (x.tran = .dead) || (decide (x.tran = .idle) && !driven)
    let m := (m.wr (HQ.OUT q c) 0).onChan q c fun x =>
      { x with tran := if still then .idle else .off, next := none, pend := none, booked := false, onPhase := false,
               running := false, window := false, claim := 0, offAt := if driven then m.tick else x.offAt }
    if still then (m.wr (HQ.SLEWING q c) 0).wr (HQ.CELLS_ON q c) 0 else m.wr (HQ.SLEWING q c) 1

/-- Turn one output off, ending an on-state evaluation on it (R173). -/
def offOne (m : Mod) (q c : Nat) (prot : Bool) : Mod :=
  let out := m.rd (HQ.OUT q c)
  if out = 0 ∨ out = 6 then m.offCore q c prot else (m.diagLeaveOn q c prot).offCore q c prot

/-- Start one output (Table 03-5): the first cell receives gate drive, or the cells still being discharged are driven
again (R110); an inrush window opens where one is due. -/
def onOne (m : Mod) (q c out duty first : Nat) : Mod :=
  let x := m.chan q c
  let cells := if x.tran = .off then Nat.max (m.rd (HQ.CELLS_ON q c)) first else first
  let due := m.inrushDue q c && (m.lead q c = c)
  let claim := if due then m.claimOf q c else x.claim
  let m := m.diagLeaveOff q c
  let m := (m.wr (HQ.OUT q c) out).onChan q c fun x =>
    { x with tran := .on, next := none, pend := none, booked := false, low := out = 4, onPhase := out = 2 || out = 5,
             running := out = 2 || out = 5, duty := duty, window := x.window || due, claim := claim, wasOn := true }
  (m.wr (HQ.SLEWING q c) 1).wr (HQ.CELLS_ON q c) cells

/-- The channels that one PWM or one command drives: both members of an H pair by its master (R118), or the channel alone. -/
def unit (m : Mod) (q c : Nat) : List Nat := if m.paired q && c = 0 then [0, 10] else [c]

/-- Change every channel of a unit. -/
def onUnit (m : Mod) (q c : Nat) (f : ChanX → ChanX) : Mod := (m.unit q c).foldl (fun m i => m.onChan q i f) m

/-- Show the applied state of a unit. -/
def outUnit (m : Mod) (q c v : Nat) : Mod := (m.unit q c).foldl (fun m i => m.wr (HQ.OUT q i) v) m

/-- Start a channel, or both members of its H pair, the even one first (R96, R118). -/
def onGroup (m : Mod) (q c out duty : Nat) : Mod :=
  if m.paired q && c = 0 then (m.onOne q 0 out duty 1).onOne q 10 out duty 0 else m.onOne q c out duty 1

/-- Turn a channel off, or both members of its H pair. -/
def offGroup (m : Mod) (q c : Nat) (prot : Bool) : Mod :=
  if m.paired q && c = 0 then (m.offOne q 0 prot).offOne q 10 prot else m.offOne q c prot

/-- A commanded turn-on takes the bank's claims above its budget (R150). -/
def overplan (m : Mod) (q c : Nat) : Mod :=
  let b := c / 10
  if m.inrushBudget q b < m.claims q b then
    (m.inc (HQ.OVERPLAN_CNT q)).qev q info 0x0421 [sj (bankOf q c), vl (quotient (m.claims q b) 100)]
  else m

/-- The half-bridge's other switch conducts, or its turn-off has not ended (R114). -/
def otherSwitch (m : Mod) (q c out : Nat) : Bool :=
  let x := m.chan q c
  isHB c && (m.rd (HQ.OUT q c) ≠ 0 || decide (x.tran ≠ .idle)) && (x.low != decide (out = 4))

/-- Move an output to a state (R19 to R21, R107, R113, R114, R150). `auto`: the hedge controller's own start, or a change of owner,
which leaves the old owner's state even where a permit bars the new one; a command that a permit bars starts no transition. The
first on-edge of a commanded PWM takes its claim without the queue, as any commanded turn-on. (Log: DEDUCED 34) -/
def moveTo (m : Mod) (q c : Nat) (want : Cmd) (auto : Bool) : Mod :=
  let out := m.rd (HQ.OUT q c)
  if out = 6 then m
  else if want.out = 0 then
    ((m.dequeue q c).onChan q c fun x => { x.unbook with pend := none, next := none }).offGroup q c false
  else if want.out = 2 ∨ want.out = 5 then
    let x := m.chan q c
    if out = want.out ∧ x.duty = want.duty ∧ x.running then m.onChan q c fun x => { x with pend := none }
    else
      let m := m.onChan q c fun x => { x with pend := some want }
      if x.running = false ∧ out = 0 ∧ m.permitted q c ∧ m.inrushDue q c ∧ x.booked = false then
        if auto then m.enqueue q c else (m.dequeue q c).onChan q c fun x => { x with booked := true }
      else m
  else
    let m := m.onChan q c fun x => { x.unbook with pend := none }
    let x := m.chan q c
    if (out = want.out ∧ x.tran ≠ .off) ∨ (x.next = some want ∧ m.permitted q c) then m
    else if out ≠ 0 ∧ (x.onPhase ∨ m.lowDriven q c) ∧ m.otherSwitch q c want.out = false then
      (m.outUnit q c want.out).onUnit q c fun x => { x with onPhase := false, running := false }
    else if m.permitted q c = false then (if auto then m.offGroup q c false else m)
    else if m.otherSwitch q c want.out then
      if x.tran = .dead then (m.wr (HQ.OUT q c) 0).onChan q c fun x => { x with next := some want, running := false }
      else (m.offOne q c false).onChan q c fun x => { x with next := some want }
    else if auto ∧ (m.inrushDue q c ∨ (m.bank (bankOf q c)).queue.contains c) then m.enqueue q c
    else
      let due := m.inrushDue q c && (m.lead q c = c)
      let m := (m.dequeue q c).onGroup q c want.out want.duty
      if auto ∨ due = false then m else m.overplan q c

/-! ### The owners' states -/

/-- A frame command as a state of the output (Table 03-4). (Log: DEDUCED 34) -/
def normCmd (c act arg : Nat) : Cmd :=
  if isHB c then
    match act with
    | 1 => { out := 3 }
    | 2 => { out := 5, duty := arg }
    | 3 => { out := 3 }
    | 4 => { out := 4 }
    | _ => {}
  else
    match act with
    | 1 => { out := 1 }
    | 2 => { out := 2, duty := arg }
    | _ => {}

/-- The state now applied, as Hold or Safe keeps it (R120, R158): the target of a transition, a waveform with its duty. -/
def appliedCmd (m : Mod) (q c : Nat) : Cmd :=
  let x := m.chan q c
  match x.next with
  | some n => n
  | none =>
    let out := m.rd (HQ.OUT q c)
    if out = 6 then (if m.rd (HQ.OWN_EFF q c) = 0 then normCmd c (m.rd (HQ.ACT q c)) (m.rd (HQ.ARG q c)) else x.hold)
    else { out := out, duty := x.duty }

/-- The state that owner `o` gives a channel (R20, R120, R158, R159). -/
def ownerCmdOf (m : Mod) (q c o : Nat) : Cmd :=
  let x := m.chan q c
  let pat := fun p => if SMap.get false (m.quad q).patOn p then ({ out := 1 } : Cmd) else {}
  match o with
  | 0 => normCmd c (m.rd (HQ.ACT q c)) (m.rd (HQ.ARG q c))
  | 1 => x.hold
  | 2 =>
    match x.safeSel with
    | 1 => { out := if isHB c then 4 else 1 }
    | 2 => x.safe
    | 3 => pat 0
    | 4 => pat 1
    | _ => {}
  | _ => {}

/-- The state that the effective owner gives a channel. -/
def ownerCmd (m : Mod) (q c : Nat) : Cmd := m.ownerCmdOf q c (m.rd (HQ.OWN_EFF q c))

/-- The even and odd members' states of a bridge mode (Table 06-1, R192). -/
def brMember (mode duty : Nat) (odd : Bool) : Cmd :=
  match mode with
  | 1 => if odd then { out := 4 } else { out := 5, duty := duty }
  | 2 => if odd then { out := 5, duty := duty } else { out := 4 }
  | 3 => { out := 4 }
  | 4 => { out := 3 }
  | _ => {}

/-- The bridge current that the latest conversions give (chapter 6, "Stall detection"). -/
def bridgeAmps (m : Mod) (k : Nat) : Nat :=
  let q := k / 2
  let e := 10 * (k % 2) + 8
  match m.rd (MOT.APPLIED k) with
  | 1 => m.rd (HQ.IS q (e + 1))
  | 2 => m.rd (HQ.IS q e)
  | 3 => Nat.max (m.rd (HQ.IS q e)) (m.rd (HQ.IS q (e + 1)))
  | 4 => Nat.max (m.rd (HQ.IS q e)) (m.rd (HQ.IS q (e + 1)))
  | _ => 0

/-- IBR shows the bridge current, IBR_PEAK the highest since its read (Table 06-4). -/
def bridgeCurrent (m : Mod) (k : Nat) : Mod :=
  let i := m.bridgeAmps k
  (m.wr (MOT.IBR k) i).wr (MOT.IBR_PEAK k) (Nat.max (m.rd (MOT.IBR_PEAK k)) i)

/-- Bridge `k` applies a mode, and IBR follows it. -/
def setApplied (m : Mod) (k mode : Nat) : Mod := (m.wr (MOT.APPLIED k) mode).bridgeCurrent k

/-- Drive both members of bridge `k` to the applied mode and duty; an autonomous start enters the queue once, with the
even member's claim (R196). -/
def brDrive (m : Mod) (k : Nat) (auto : Bool) : Mod :=
  let q := k / 2
  let e := 10 * (k % 2) + 8
  let a := m.rd (MOT.APPLIED k)
  let d := m.rd (MOT.DUTY_APPL k)
  if auto ∧ a ≠ 0 ∧ m.permitted q e ∧ m.inrushDue q e ∧ m.rd (HQ.OUT q e) = 0 ∧ m.rd (HQ.OUT q (e + 1)) = 0 then m.enqueue q e
  else (m.moveTo q (e + 1) (brMember a d true) false).moveTo q e (brMember a d false) false

/-- The mode that owner `o` gives bridge `k` (R147, R191, R197, R199). -/
def brWantOf (m : Mod) (k o : Nat) : Nat × Nat :=
  let x := m.br k
  let stop := if m.on (MOT.STOPPED k) then some (if m.force (k / 2) (MOT.STALL_ACT k) = 2 then (3, 0) else (0, 0)) else none
  if x.uvStay then (0, 0)
  else match o with
  | 0 => stop.getD (if m.on (MOT.REVERSING k) ∧ m.rd (MOT.MODE k) = x.revTo then (3, 0) else (m.rd (MOT.MODE k), m.rd (MOT.DUTY k)))
  | 1 => stop.getD (x.holdMode, x.holdDuty)
  | 2 =>
    match x.safeSel with
    | 1 => (3, 0)
    | 2 => stop.getD (x.safeMode, x.safeDuty)
    | _ => (0, 0)
  | _ => (0, 0)

/-- The mode the effective owner gives bridge `k`. -/
def brWant (m : Mod) (k : Nat) : Nat × Nat := m.brWantOf k (m.rd (HQ.OWN_EFF (k / 2) (10 * (k % 2) + 8)))

/-- DUTY_APPL is set afresh at a start into FWD or REV, and the stall mask runs (R193, R196, R198). -/
def brAfresh (m : Mod) (k duty : Nat) : Mod :=
  let up := m.force (k / 2) (MOT.RAMP_UP k)
  ((m.wr (MOT.DUTY_APPL k) (if up = 0 then duty else Nat.min duty up)).wr (MOT.MASKED k) 1).onBr k fun x =>
    { x with startTick := m.tick + 1 }

/-- Start a bridge mode (R193): the ramp begins for FWD and REV, and the stall mask runs (R198). -/
def brStart (m : Mod) (k mode duty : Nat) (auto : Bool) : Mod :=
  let old := m.rd (MOT.APPLIED k)
  let m := m.setApplied k mode
  if mode = 1 ∨ mode = 2 then (if old = mode ∧ auto = false then m else m.brAfresh k duty).brDrive k auto
  else ((m.wr (MOT.DUTY_APPL k) 0).wr (MOT.MASKED k) 0).brDrive k auto

/-- Frame's mode and duty act on bridge `k` (R193, R194): the opposite direction passes through the reversal brake. -/
def brFrame (m : Mod) (k mode duty : Nat) (auto : Bool) : Mod :=
  let a := m.rd (MOT.APPLIED k)
  if ((a = 1 ∧ mode = 2) ∨ (a = 2 ∧ mode = 1)) ∧ m.force (k / 2) (MOT.REV_BRAKE k) ≠ 0 then
    ((m.wr (MOT.REVERSING k) 1).onBr k fun x => { x with revTo := mode }).brStart k 3 0 auto
  else m.brStart k mode duty auto

/-- Apply the effective owner's state to a channel, its H pair or its bridge. -/
def drive (m : Mod) (q c : Nat) (auto : Bool) : Mod :=
  if m.bridged q c then
    let k := bankOf q c
    if auto then m.brStart k (m.brWant k).1 (m.brWant k).2 true else m.brDrive k false
  else m.moveTo q (m.lead q c) (m.ownerCmd q (m.lead q c)) auto

/-- The effective owner's state is on, in PWM, or a Safe pattern in its on phase (R133). -/
def wantsOn (m : Mod) (q c : Nat) : Bool :=
  if m.bridged q c then m.rd (MOT.APPLIED (bankOf q c)) ≠ 0 else (m.ownerCmd q (m.lead q c)).out ≠ 0

/-- Below any Lock, the owner's state would turn the channel on (R140: a disagreement is also one with a latched permit).
(Log: DEDUCED 35) -/
def wouldOn (m : Mod) (q c : Nat) : Bool :=
  let l := m.lead q c
  let o := effOf (m.rd (HQ.OWN_SET q l) % 8)
  if m.bridged q c then (m.brWantOf (bankOf q c) o).1 ≠ 0 else (m.ownerCmdOf q l o).out ≠ 0

/-- Protective off of a channel and of all that acts with it (R118, R131, R196). -/
def protOff (m : Mod) (q c : Nat) : Mod := (m.group q c).foldl (fun m i => m.offOne q i true) m

/-! ### Permits (R132 to R134, R140) -/

/-- The lowest clear permit of a word but for permit `i`. -/
def otherClear (p i : Nat) : Option Nat := (List.range 5).find? fun j => j ≠ i && !p.testBit j

/-- A mechanism clears its permit bit (R132): the entry leaves the queue (R150). -/
def clearPermit (m : Mod) (q c i : Nat) : Mod :=
  if (m.chan q c).own.testBit i = false then m
  else
    let m := m.onChan q c fun x => { x with own := x.own &&& (31 - 2 ^ i) }
    ((m.group q c).foldl (fun m j => (m.dequeue q j).onChan q j ChanX.unbook) m).syncPermit q c

/-- A permit bit comes up (R130: not under the boot-ROM microcode). -/
def raisePermit (m : Mod) (q c i : Nat) : Mod :=
  if m.rd (HQ.UCODE q) = 0 then m else (m.onChan q c fun x => { x with own := x.own ||| 2 ^ i }).syncPermit q c

/-- A permit bit has come up: the channel restarts when all five are set (R133), and stays off with one report when the bit of
another mechanism is clear (R140). (Log: DEDUCED 35) -/
def permitRose (m : Mod) (q c i : Nat) : Mod :=
  if m.permitted q c then (if m.wantsOn q c then m.drive q c true else m)
  else
    match otherClear (m.perms q c) i with
    | some j => if m.wouldOn q c then (m.inc (HQ.PROT_DIS_CNT q)).qev q warn 0x0420 [sj c, sj i, sj j] else m
    | none => m

/-- A mechanism sets its permit bit (R132, R133, R140). (Log: DEDUCED 35) -/
def setPermit (m : Mod) (q c i : Nat) : Mod :=
  if m.rd (HQ.UCODE q) = 0 ∨ (m.chan q c).own.testBit i then m else (m.raisePermit q c i).permitRose q c i

/-- Show the effective owner of every member of the group. -/
def syncOwner (m : Mod) (q c : Nat) : Mod :=
  (m.group q c).foldl (fun m i => m.wr (HQ.OWN_EFF q i) (effOf (m.rd (HQ.OWN_SET q i)))) m

/-- Apply the effective owner's state to bridge `k` after a change of owner (R121, R197): a Frame command that came meanwhile ends
a reversal, or begins one, as R194 says. -/
def brOwner (m : Mod) (k : Nat) : Mod :=
  let q := k / 2
  let e := 10 * (k % 2) + 8
  let w := m.brWant k
  let m := if m.rd (HQ.OWN_EFF q e) = 0 ∧ m.rd (MOT.MODE k) ≠ (m.br k).revTo then m.wr (MOT.REVERSING k) 0 else m
  if m.rd (MOT.APPLIED k) = w.1 ∧ m.rd (HQ.OUT q e) ≠ 0 then m
  else if m.rd (HQ.OWN_EFF q e) = 0 then m.brFrame k w.1 w.2 true
  else m.brStart k w.1 w.2 true

/-- The output follows a change of its effective owner (R121). -/
def ownerChanged (m : Mod) (q c : Nat) : Mod :=
  if m.rd (HQ.OWN_EFF q c) = 3 then
    let m := m.protOff q c
    if m.bridged q c then m.setApplied (bankOf q c) 0 else m
  else if m.bridged q c then m.brOwner (bankOf q c)
  else m.drive q c true

/-- Keep the applied state for Hold (R120, R197). -/
def keepHold (m : Mod) (q c : Nat) : Mod :=
  let m := m.onChan q c fun x => { x with hold := m.appliedCmd q c }
  let k := bankOf q c
  if m.bridged q c then
    m.onBr k fun x => { x with holdMode := m.rd (MOT.APPLIED k), holdDuty := m.rd (MOT.DUTY_APPL k), uvStay := false }
  else m

/-- Keep the applied state and the Safe selection for Safe (R158, R161, R197). -/
def keepSafe (m : Mod) (q c : Nat) : Mod :=
  let l := m.lead q c
  let m := m.onChan q c fun x => { x with safe := m.appliedCmd q c, safeSel := m.force q (HQ.SAFE_CFG q l) }
  let k := bankOf q c
  if m.bridged q c then
    m.onBr k fun x =>
      { x with safeMode := m.rd (MOT.APPLIED k), safeDuty := m.rd (MOT.DUTY_APPL k), safeSel := m.force q (HQ.SAFE_CFG q l),
               uvStay := false }
  else m

/-- Assert an owner state on a channel and on all that acts with it (R134, R197): 1 Hold, 2 Safe, 3 Lock. -/
def assertOwner (m : Mod) (q c o : Nat) : Mod :=
  let g := m.group q c
  let old := m.rd (HQ.OWN_EFF q c)
  let m := g.foldl (fun m i =>
    if (m.rd (HQ.OWN_SET q i)).testBit o then m
    else
      let m := if o = 1 then m.keepHold q i else if o = 2 then m.keepSafe q i else m
      m.wrBit (HQ.OWN_SET q i) o true) m
  let m := m.syncOwner q c
  if m.rd (HQ.OWN_EFF q c) = old then m else m.ownerChanged q c

/-- Release an owner state (R20, R121). -/
def releaseOwner (m : Mod) (q c o : Nat) : Mod :=
  let g := m.group q c
  let old := m.rd (HQ.OWN_EFF q c)
  let m := g.foldl (fun m i => m.wrBit (HQ.OWN_SET q i) o false) m
  let m := m.syncOwner q c
  if m.rd (HQ.OWN_EFF q c) = old then m else m.ownerChanged q c

/-- Some permit of the group is latched (R134). -/
def latched (m : Mod) (q c : Nat) : Bool :=
  (m.group q c).any fun i => m.on (HQ.RETRY_L q i) || m.on (HQ.THERM_L q i) || m.on (HQ.WIRE_L q i)

/-- Lock the channel for a latched permit (R134). -/
def lock (m : Mod) (q c : Nat) : Mod := m.assertOwner q c 3

/-! ### The SUPPLY permit (R145) -/

/-- Every supply condition of a bank holds (R145). -/
def supplyOk (m : Mod) (q b : Nat) : Bool :=
  let x := m.quad q
  !x.low && !m.on (HQ.OV q) && m.on (HQ.CP_RDY q b) && !m.on (HQ.REV_FEED q) && !m.on (HQ.GND_LOSS q) &&
    !x.uvOff && !(m.bank (2 * q + b)).resOff

/-- One channel's entry in the re-plan that follows a sag (R148): a window that was running starts again from zero, a start that the
sag blocked is entered. (Log: DEDUCED 37) -/
def replanOne (m : Mod) (q c : Nat) (windows : List Nat) : Mod :=
  if windows.contains c ∧ m.rd (HQ.OUT q c) ≠ 0 then (m.endWindow q c).enqueue q c
  else if m.permitted q c then
    (if m.wantsOn q c ∧ (m.group q c).all (fun i => m.rd (HQ.OUT q i) = 0) then m.enqueue q (m.lead q c) else m)
  else m.permitRose q c 4

/-- Every supply condition of bank `b` of quadrant `q` holds: SUPPLY sets on its channels together; those that act together answer
once, in ascending channel index, and after a sag enter the queue (R133, R140, R148). (Log: DEDUCED 37) -/
def supplyRise (m : Mod) (q b : Nat) : Mod :=
  let rose := ((List.range 10).map fun i => 10 * b + i).filter fun c => !(m.chan q c).own.testBit 4
  if rose = [] then m
  else
    let m := rose.foldl (fun m c => m.raisePermit q c 4) m
    let first := rose.filter fun c => (m.group q c).find? (fun i => rose.contains i) = some c
    match (m.bank (2 * q + b)).replan with
    | some w => first.foldl (fun m c => m.replanOne q c w) (m.onBank (2 * q + b) fun x => { x with replan := none })
    | none => first.foldl (fun m c => m.permitRose q c 4) m

/-- Set or clear SUPPLY of every channel of the quadrant by its conditions (R145). (Log: DEDUCED 101) -/
def updateSupply (m : Mod) (q : Nat) : Mod :=
  if m.rd (HQ.UCODE q) = 0 then m
  else forN 2 (fun m b => if m.supplyOk q b then m.supplyRise q b else forN 10 (fun m i => m.clearPermit q (10 * b + i) 4) m) m

/-- Overwrite the Frame owner's command with off (R123, R146, R147). -/
def clearCmd (m : Mod) (q c : Nat) : Mod := (m.wr (HQ.ACT q c) 0).wr (HQ.ARG q c) 0

end Mod
end Sys2Proof.Machine
end

