-- ==== Sys2Proof/Machine/Settle.lean ====
section
/-! DEFINITION. The read-only registers that show a function of the rest of the state, and the last act of every command:
each of them is brought up to date. -/
namespace Sys2Proof.Machine
open Reg

namespace Mod

/-- Bit `i` of the interrupt summary: page `i` has a PAGE_IRQ bit set whose PAGE_IEN bit is set (R480). (Log: DESIGN CHOICE 105) -/
def irqSum (m : Mod) (i : Nat) : Bool := (m.rd (COM.PAGE_IRQ i) &&& m.rd (COM.PAGE_IEN i)) ≠ 0

/-- `n` flags as a number, flag `i` in bit `i`. -/
def flags (n : Nat) (f : Nat → Bool) : Nat := forN n (fun a i => if f i then a + 2 ^ i else a) 0

/-- A T1S port sends BEACONs: EN, its PHY in Normal, its transmitter supplied (R303, R307, R372). -/
def plcaSends (m : Mod) (n : Nat) : Bool := m.on (TS.EN n) && m.rd (TRX.STATE (0x38 + n)) = 3 && !m.on PWR.AUX_LOW

/-- The derived registers and their values. -/
def derived (m : Mod) : List (Fld × Nat) :=
  [ (SYS.IRQ_SUM0, flags 32 fun i => m.irqSum i),
    (SYS.IRQ_SUM1, flags 32 fun i => m.irqSum (32 + i)),
    (FRM.SWAP_PEND, if m.rd FRM.TAB_NEXT = m.rd FRM.TAB_ACT then 0 else 1),
    (PRM.OPEN, m.prm.open_.length),
    (PRM.INTAKE, m.prm.queue.length),
    (EVT.COUNT, m.evt.log.length),
    (DIA.FIFO_LVL, m.dia.fifo.length),
    (NM.AWAKE, flags 22 fun n => m.rd (NM.STATE n) ≠ 0),
    (TS.PLCA_ACT 0, if m.plcaSends 0 then 1 else 0),
    (TS.PLCA_ACT 1, if m.plcaSends 1 then 1 else 0) ] ++
  (List.range 8).map fun i => (BRG.LS_LVL i, (SMap.get [] m.prm.ingress i).length)

/-- Bring the derived registers up to date. (Log: DESIGN CHOICE 105) -/
def settle (m : Mod) : Mod := m.derived.foldl (fun a p => a.wr p.1 p.2) m

end Mod

/-- The outcome of a command: the block changed by `f`, the derived registers up to date, the queue left alone. -/
def State.next (s : State) (f : Mod → Mod) : Host.Outcome State Fault Refusal := .next (s.onMod fun m => (f m).settle)

/-- The outcome of every command. -/
abbrev Out := Host.Outcome State Fault Refusal

end Sys2Proof.Machine
end

