-- ==== Sys2Proof/Machine/Channels.lean ====
section
/-! DEFINITION. Power channels (chapter 3): the release of commands, transitions, PWM, conversions, H pairs and the module
limits. -/
namespace Sys2Proof.Machine
open Reg

namespace Mod

/-- A rejected channel command (R106): counted, recorded and reported. -/
def cmdReject (m : Mod) (q c cause : Nat) : Mod :=
  (((m.inc (HQ.CMD_REJ_CNT q)).wr (HQ.CMD_REJ_CH q) c).wr (HQ.CMD_REJ_CAUSE q) cause).qev q warn 0x0304 [sj q, sj c, sj cause]

/-- A refused motor command (R190, R200). -/
def motReject (m : Mod) (k cause : Nat) : Mod :=
  (((m.inc MOT.REJ_CNT).wr MOT.REJ_BR k).wr MOT.REJ_CAUSE cause).ev 0x15 warn 0x0604 [sj k, sj cause]

/-- Why a channel command is rejected (Table 03-4, R106): 0 when it is not. -/
def chCause (m : Mod) (q c act : Nat) : Nat :=
  if m.paired q ∧ c = 10 then 1
  else if 6 ≤ act then 4
  else if isHB c = false ∧ 3 ≤ act then 2
  else 0

/-- A channel command is released to its quadrant (R49, R104, R107): rejected, retained, or applied. -/
def chRelease (m : Mod) (q c act arg : Nat) : Mod :=
  if m.bridged q c then m.motReject (bankOf q c) 2
  else
    let r := m.chCause q c act
    if r ≠ 0 then m.cmdReject q c r
    else
      let m := (m.wr (HQ.ACT q c) act).wr (HQ.ARG q c) arg
      if m.rd (HQ.OWN_EFF q c) = 0 then m.moveTo q c (normCmd c act arg) false else m

/-! ### PWM (R111 to R113, R115) -/

/-- The PWM period in ticks (R111). -/
def pwmTicks (m : Mod) (q c : Nat) : Nat :=
  let f := m.force q (HQ.PWM_FREQ q (m.lead q c))
  if isHB c then [100, 20, 10, 5].getD f 100 else [1000, 500, 250, 100].getD f 1000

/-- The full scale of a duty: 65 535 for ACT 2 (R112), 4095 for a bridge (R192). -/
def pwmScale (m : Mod) (q c : Nat) : Nat := if m.bridged q c then 4095 else 65535

/-- The on-time in steps of 40 ns, rounded to the nearest (R112, R192). -/
def onSteps (m : Mod) (q c duty : Nat) : Nat :=
  let s := m.pwmScale q c
  (2 * duty * (m.pwmTicks q c * 250) + s) / (2 * s)

/-- The slew time in µs (R108). -/
def slewUs (m : Mod) (q c : Nat) : Nat := [1, 2, 5, 10, 20, 50, 100, 200].getD (m.rd (HQ.SLEW q (m.lead q c))) 200

/-- The length of a diagnostic phase in µs (Table 05-5). -/
def settleUs (m : Mod) (q c : Nat) : Nat := [50, 100, 200, 500, 1000, 2000].getD (m.rd (HQ.SETTLE q c)) 2000

/-- The on-time is shorter than T_ONMIN = SLEW + 10.6 µs (R178). -/
def lowDuty (m : Mod) (q c : Nat) : Bool := m.onSteps q c (m.chan q c).duty < m.slewUs q c * 25 + 265

/-- The off-phase is long enough for an off-phase test (R179). -/
def offPhaseFits (m : Mod) (q c : Nat) : Bool :=
  (m.slewUs q c + 2 * m.settleUs q c + 2) * 25 ≤ m.pwmTicks q c * 250 - m.onSteps q c (m.chan q c).duty

/-- The tests of a channel are suspended (R181). -/
def suspended (m : Mod) (q : Nat) : Bool :=
  m.on (HQ.SAG q) || m.on (HQ.REV_FEED q) || m.on (HQ.GND_LOSS q)

/-- On-state evaluation runs on the channel: requested, or automatic (R172). -/
def evalRuns (m : Mod) (q c : Nat) : Bool :=
  (m.chan q c).diag.run = .onState || (m.on (HQ.ON_AUTO q c) && !(m.on (HQ.DIAG_BUSY q c)))

/-- The periods of the channel are judged by off-phase tests (R179, R180). (Log: DEDUCED 110) -/
def offPhaseMode (m : Mod) (q c : Nat) : Bool :=
  !isHB c && m.rd (HQ.OUT q c) = 2 && m.on (HQ.LOWDUTY q c) && m.lowDuty q c && m.offPhaseFits q c

/-- An off-phase test starts when the turn-off slew of a low-duty PWM ends (R179, R180). -/
def offPhaseStart (m : Mod) (q c : Nat) : Mod :=
  let x := m.chan q c
  if m.offPhaseMode q c ∧ x.onPhase = false ∧ m.lead q c = c ∧ m.evalRuns q c ∧ m.suspended q = false ∧ (x.diag.run = .none ∨ x.diag.run = .onState) then
    m.onChan q c fun y => { y with diag := { y.diag with run := .pullDown, offPhase := true } }
  else m

/-- The on-phase of a PWM begins on channel `c` with duty `d`; the low-side switch of a half-bridge first turns off. -/
def pwmOn (m : Mod) (q c : Nat) (w : Cmd) : Mod :=
  let x := m.chan q c
  if isHB c ∧ x.low ∧ (m.rd (HQ.OUT q c) ≠ 0 ∨ x.tran ≠ .idle) then
    ((m.wr (HQ.OUT q c) w.out).wr (HQ.SLEWING q c) 1).onChan q c fun x =>
      { x with tran := .off, next := some w, onPhase := true, running := true, duty := w.duty, pend := none, booked := false, claim := if x.window then x.claim else 0 }
  else if m.rd (HQ.OUT q c) = 1 ∨ m.rd (HQ.OUT q c) = 3 then
    (m.outUnit q c w.out).onUnit q c fun x =>
      { x.unbook with onPhase := true, running := true, duty := w.duty, pend := none }
  else
    let due := m.inrushDue q c && (m.lead q c = c) && x.claim = 0
    let m := m.onGroup q c w.out w.duty
    if due then m.overplan q c else m

/-- One channel begins a period without an on-phase (R112, R115): a driven high-side switch turns off, and the low-side switch of
a half-bridge conducts throughout. -/
def pwmNoneOne (m : Mod) (q c : Nat) (w : Cmd) : Mod :=
  let m := if m.rd (HQ.OUT q c) = 0 then m.diagLeaveOff q c else m
  let x := m.chan q c
  let high := m.highDriven q c
  let low := m.lowDriven q c
  let m := (m.wr (HQ.OUT q c) w.out).onChan q c fun x =>
    { x.unbook with pend := none, running := true, duty := w.duty, onPhase := false }
  if high then
    (m.wr (HQ.SLEWING q c) 1).onChan q c fun x => { x with tran := .off, offAt := m.tick, next := if w.out = 5 then some w else none }
  else if isHB c = false ∨ low then m
  else if x.tran = .idle then
    ((m.wr (HQ.SLEWING q c) 1).wr (HQ.CELLS_ON q c) 1).onChan q c fun x => { x with tran := .on, next := none, low := true, wasOn := true }
  else m.onChan q c fun x => { x with next := some w }

/-- A PWM period starts (R113): the pending change takes effect, and the on-phase begins when every permit is set and an
inrush claim, where one is due, has been booked. -/
def pwmStart (m : Mod) (q c : Nat) : Mod :=
  let x := m.chan q c
  let out := m.rd (HQ.OUT q c)
  let cur : Option Cmd := if out = 2 ∨ out = 5 then some { out := out, duty := if m.bridged q c then m.rd (MOT.DUTY_APPL (bankOf q c)) else x.duty } else none
  match (match x.pend with | some w => some w | none => cur) with
  | none => m
  | some w =>
    let w : Cmd := if m.bridged q c then { w with duty := m.rd (MOT.DUTY_APPL (bankOf q c)) } else w
    if out = 6 then m
    else if m.permitted q c = false then
      ((m.group q c).foldl (fun m i => m.offCore q i false) m).onChan q c fun x => { x with pend := some w, running := false }
    else if m.onSteps q c w.duty = 0 then (m.unit q c).foldl (fun m i => m.pwmNoneOne q i w) m
    else if x.running = false ∧ m.inrushDue q c ∧ x.booked = false ∧ out ≠ 1 ∧ out ≠ 3 then
      (m.onChan q c fun x => { x with pend := some w }).enqueue q (m.lead q c)
    else if x.onPhase ∧ x.running ∧ x.tran ≠ .off then
      m.onUnit q c fun x => { x with pend := none, duty := w.duty }
    else m.pwmOn q c w

/-- The low-side time of a period is at least twice DEAD (R115). -/
def lowTimeFits (m : Mod) (q c : Nat) : Bool :=
  5 * m.rd (HQ.DEAD q (m.lead q c)) ≤ m.pwmTicks q c * 250 - m.onSteps q c (m.chan q c).duty

/-- The on-time of a period ends (R112, R115): the output turns off; a half-bridge then turns its low-side switch on where the
rest of the period fits its dead times. -/
def pwmCut (m : Mod) (q c : Nat) (fits : Bool) : Mod :=
  let x := m.chan q c
  let out := m.rd (HQ.OUT q c)
  if x.onPhase ∧ (out = 2 ∨ out = 5) then
    (m.wr (HQ.SLEWING q c) 1).onChan q c fun x =>
      { x with tran := .off, onPhase := false, offAt := m.tick,
               next := if out = 5 ∧ fits then some { out := 5, duty := x.duty } else none }
  else m

/-- The on-time of a period ends, but for one that lasts the whole period (R112, R192). -/
def pwmEndOne (m : Mod) (q c : Nat) : Mod :=
  if m.pwmTicks q c * 250 ≤ m.onSteps q c (m.chan q c).duty then m else m.pwmCut q c (m.lowTimeFits q c)

/-! ### Conversions (R100 to R102) -/

/-- The load current of a bank in 20 mA: the latest high-side conversions (R101). (Log: DEDUCED 40) -/
def bankCurrent (m : Mod) (q b : Nat) : Nat :=
  forN 10 (fun a i =>
    let c := 10 * b + i
    if isHB c = false ∨ (m.chan q c).convHigh then a + m.rd (HQ.IS q c) * lsbMA c else a) 0 / 20

/-- The queue of a bank pauses while BANK_I exceeds BILIM (R151). -/
def queuePause (m : Mod) (q b : Nat) : Mod :=
  let f := if b = 0 then HQ.PAUSED0 q else HQ.PAUSED1 q
  let i := m.rd (HQ.BANK_I q b)
  if m.rd (HQ.BILIM q b) * 5 < i then
    if m.on f then m else ((m.wr f 1).inc (HQ.PAUSE_CNT q)).qev q info 0x0422 [sj (2 * q + b), vl16 i]
  else m.wr f 0

/-- One value of the on-state evaluation (R171): the run of values below, or at or above, OL_ION. -/
def evalValue (m : Mod) (q c v : Nat) : Mod :=
  let d := if v < m.rd (HQ.OL_ION q c) then 1 else 2
  let m := m.onChan q c fun x =>
    let n := if x.diag.dir = d then x.diag.count else 0
    { x with diag := { x.diag with dir := d, count := n + 1, got := x.diag.got + 1, noUpd := 0 } }
  if m.rd (HQ.OL_CNT q c) ≤ (m.chan q c).diag.count then
    let code := if d = 1 then 3 else 1
    if m.on (HQ.DIAG_BUSY q c) then (if (m.chan q c).diag.run = .onState then m.diagResult q c code 0 else m)
    else if m.rd (HQ.DIAG_CODE q c) = code then m else m.diagResult q c code 0
  else m

/-- A new I_ON value of channel `c` (R102, R171): an H pair compares the sum of both members. A channel whose periods are judged by
off-phase tests takes no verdict from it. (Log: DEDUCED 110) -/
def newIOn (m : Mod) (q c : Nat) : Mod :=
  if m.paired q ∧ c = 10 then
    if m.evalRuns q 0 ∧ m.suspended q = false then m.evalValue q 0 (m.rd (HQ.I_ON q 0) + m.rd (HQ.I_ON q 10)) else m
  else if m.paired q ∧ c = 0 then m
  else if m.evalRuns q c ∧ m.suspended q = false ∧ m.offPhaseMode q c = false then m.evalValue q c (m.rd (HQ.I_ON q c))
  else m

/-- The wire model's sum of squares in mA² for the frame's mean (R141): an H pair sums both members' currents. -/
def wireSample (m : Mod) (q c : Nat) : Mod :=
  let i := m.rd (HQ.IS q c) * lsbMA c
  if m.paired q ∧ c = 0 then m
  else if m.paired q ∧ c = 10 then
    let s := i + m.rd (HQ.IS q 0) * lsbMA 0
    m.onChan q 0 fun x => { x with sq := x.sq + s * s, nq := x.nq + 1 }
  else m.onChan q c fun x => { x with sq := x.sq + i * i, nq := x.nq + 1 }

/-- The limit that applies to the conversions of a channel (R137, R149): INR_ILIM while its inrush window runs. -/
def limitOf (m : Mod) (q c : Nat) : Nat :=
  let l := m.lead q c
  if (m.chan q l).window then m.rd (HQ.INR_ILIM q l) else m.rd (HQ.ILIM q c)

/-- The filter time of a code in conversions, one in each 10 µs (R101, R137). (Log: DEDUCED 128) -/
def filterRun (code : Nat) : Nat := [1, 2, 5, 10, 20, 50, 100, 200, 500, 1000].getD code 1000

/-- A conversion of value `v` runs the overcurrent filter, and a half-bridge's peak timer, which counts up above 15 A and down
otherwise (R137). (Log: DEDUCED 128) -/
def overSample (m : Mod) (q c v : Nat) : Mod :=
  let lim := m.limitOf q c
  m.onChan q c fun x =>
    let p := if isHB c = false then 0 else if 1500 < v then Nat.min (x.peak + 1) 50000 else x.peak - 1
    { x with ocRun := if lim < v then Nat.min (x.ocRun + 1) 1000 else 0, peak := p,
             peakDue := x.peakDue || (decide (p = 50000) && decide (x.peak < 50000)) }

/-- The voltages that the quadrant's monitors show (R103, Tables 03-12 and 03-13). -/
def feedSeen (m : Mod) (q v : Nat) : Mod :=
  let m := (m.wr (HQ.FEED_V q) v).wr (HQ.FEED_VMIN q) (Nat.min v (m.rd (HQ.FEED_VMIN q)))
  m.onQuad q fun x => { x with sampMin := Nat.min v x.sampMin, sagMin := if x.low then Nat.min v x.sagMin else x.sagMin }

/-- A conversion of channel `c` completes (R101, R102, R137). FEED_I is the sum of the two BANK_I values, each truncated to 20 mA, in
the 14 bits of its field: the spec states neither where the truncation falls nor what a larger sum shows.
(Log: DEDUCED 40, DESIGN CHOICE 129) -/
def convert (m : Mod) (q c v outV feedV : Nat) : Mod :=
  let x := m.chan q c
  let out := m.rd (HQ.OUT q c)
  let conducting := out ≠ 0 && x.tran ≠ .dead && ((out ≠ 2 && out ≠ 5) || x.onPhase || x.tran = .off || (out = 5 && x.low))
  let v := if isHB c && !conducting && x.tran ≠ .off then 0 else v
  let m := ((m.feedSeen q feedV).wr (HQ.OUT_V q c) outV).wr (HQ.IS q c) v
  let m := m.onChan q c fun x => { x with convHigh := !x.low && (conducting || decide (x.tran = .off)), shareSum := x.shareSum + v }
  let full := conducting && out ≠ 6 && x.tran = .idle && m.rd (HQ.CELLS_ON q c) = nCells c && (out ≠ 2 && out ≠ 5 || x.onPhase)
  let b := c / 10
  let m := m.wr (HQ.BANK_I q b) (m.bankCurrent q b)
  let m := m.wr (HQ.FEED_I q) (m.rd (HQ.BANK_I q 0) + m.rd (HQ.BANK_I q 1))
  let m := m.wr HQ.MOD_I_LIVE (forN 4 (fun a i => a + m.rd (HQ.FEED_I i)) 0)
  let m := ((m.overSample q c v).wireSample q c).queuePause q b
  let m := if m.bridged q c then m.bridgeCurrent (bankOf q c) else m
  if full then (m.wr (HQ.I_ON q c) v).newIOn q c else m

/-- A junction conversion completes (R100): TJ of the channel, TJ_MAX of its bank. -/
def tempSeen (m : Mod) (q c tj : Nat) : Mod :=
  let m := m.wr (HQ.TJ q c) tj
  let b := c / 10
  m.wr (HQ.TJ_MAX q b) (forN 10 (fun a i => Nat.max a (m.rd (HQ.TJ q (10 * b + i)))) 0)

/-- A write of PAIR_EN takes effect, or is ignored while a member is on (R117); the slave's waiting start is given up, since the
master's commands drive both members (R118). -/
def pairEn (m : Mod) (q v : Nat) : Mod :=
  if m.rd (HQ.PAIR_EN q) = v then m
  else if (m.quad q).frozen ≠ [] then m.wr (HQ.PAIR_EN q) v
  else if m.rd (HQ.OUT q 0) ≠ 0 ∨ m.rd (HQ.OUT q 10) ≠ 0 then m.qev q warn 0x0307 [sj q]
  else
    let m := m.wr (HQ.PAIR_EN q) v
    let m := [0, 10].foldl (fun m c => (m.wrB (HQ.PAIRED q c) (v = 1)).wrB (HQ.SLAVE q c) (v = 1 ∧ c = 10)) m
    let m := (m.syncPermit q 0).syncPermit q 10
    let m := if m.latched q 0 then m.assertOwner q 0 3 else m
    let m := if v = 1 then (m.dequeue q 10).onChan q 10 fun x => { x.unbook with pend := none } else m
    if v = 1 then m else [0, 10].foldl (fun m c => if m.latched q c then m else m.releaseOwner q c 3) m

/-- A write of a bridge's EN takes effect, or is ignored while a member is on (R188). -/
def brEn (m : Mod) (k v : Nat) : Mod :=
  let q := k / 2
  let e := 10 * (k % 2) + 8
  if m.rd (MOT.BR_EN k) = v then m
  else if (m.quad q).frozen ≠ [] then m.wr (MOT.BR_EN k) v
  else if m.rd (HQ.OUT q e) ≠ 0 ∨ m.rd (HQ.OUT q (e + 1)) ≠ 0 then m.ev 0x15 warn 0x0605 [sj k]
  else
    let own := m.rd (HQ.OWN_SET q e) ||| m.rd (HQ.OWN_SET q (e + 1))
    let m := (m.wr (MOT.BR_EN k) v).setApplied k 0
    let m := if v = 1 then ((m.wr (HQ.OWN_SET q e) own).wr (HQ.OWN_SET q (e + 1)) own).syncOwner q e else m
    let m := (m.syncPermit q e).syncPermit q (e + 1)
    if v = 1 then m else [e, e + 1].foldl (fun m c => if m.latched q c then m else m.releaseOwner q c 3) m

/-- In the period that follows a chop, the bridge shows and counts it (R195). -/
def chopPeriod (m : Mod) (q c : Nat) : Mod :=
  let k := bankOf q c
  if m.bridged q c = false ∨ m.rd (MOT.APPLIED k) ≠ (if c % 10 = 8 then 1 else 2) then m
  else if (m.br k).chopped then ((m.wr (MOT.CHOP k) 1).inc (MOT.CHOP_CNT k)).onBr k fun x => { x with chopped := false }
  else m.wr (MOT.CHOP k) 0

/-- The number of a conducting switch's Rds(on) maximum at Tj 150 °C in units of 0.1 mΩ (Table 03-1). -/
def rdsOn (c : Nat) : Nat := byClass c 42 130 650 115

/-- The dissipation of a channel in mW, truncated (R125): IS² × Rds(on) with IS in mA. -/
def chanDiss (m : Mod) (q c : Nat) : Nat :=
  if m.rd (HQ.OUT q c) = 0 then 0
  else
    let i := m.rd (HQ.IS q c) * lsbMA c
    i * i * rdsOn c / 10000000

/-- Once per tick: the dissipation and feed-current sums of the superframe (R125, Table 03-13). -/
def dissTick (m : Mod) (q : Nat) : Mod :=
  let d := forN 20 (fun a c => a + m.chanDiss q c) 0
  m.onQuad q fun x => { x with dissSum := x.dissSum + d, dissN := x.dissN + 1, feedSum := x.feedSum + m.rd (HQ.FEED_I q), feedN := x.feedN + 1 }

/-- Once per frame: the substrate codes, the baseplate and the dissipation budget (R124). -/
def baseplate (m : Mod) (t0 t1 t2 t3 : Nat) : Mod :=
  let m := (((m.wr (HQ.QTEMP 0) t0).wr (HQ.QTEMP 1) t1).wr (HQ.QTEMP 2) t2).wr (HQ.QTEMP 3) t3
  let t := Nat.max (Nat.max t0 t1) (Nat.max t2 t3)
  let m := m.wr HQ.BASEPLATE t
  -- code 149 is 85 °C, code 189 is 125 °C
  m.wr HQ.MOD_BUDGET (if t ≤ 149 then 40000 else if t ≤ 189 then 40000 - 700 * (t - 149) else 0)

/-- At a superframe boundary: the master's share of the pair current (R119). The spec states no share of a pair that carried no
current. (Log: DESIGN CHOICE 32, DESIGN CHOICE 108) -/
def pairShare (m : Mod) (q : Nat) : Mod :=
  if m.paired q = false then m
  else
    let a := (m.chan q 0).shareSum
    let b := (m.chan q 10).shareSum
    let m := m.wr (HQ.SHARE q) (if a + b = 0 then Config.idleShare else quotient (100 * a) (a + b))
    let s := m.rd (HQ.SHARE q)
    let large := decide (10000 * Nat.max 1 (m.quad q).feedN < (a + b) * 20)
    let outside := if a + b = 0 then decide (s < 35 ∨ 65 < s) else decide (100 * a < 35 * (a + b) ∨ 65 * (a + b) < 100 * a)
    if large && outside then (m.wr (HQ.IMBAL q) 1).qev q warn 0x0305 [sj q, vl s]
    else if large || outside then m else m.wr (HQ.IMBAL q) 0

/-- At a superframe boundary: the means and their limits (R124 to R126), and the sums begin again. (Log: DESIGN CHOICE 32) -/
def moduleLimits (m : Mod) : Mod :=
  let m := forN 4 (fun m q => m.pairShare q) m
  let m := forN 4 (fun m q =>
    let x := m.quad q
    let m := (m.wr (HQ.QDISS q) (quotient x.dissSum (Nat.max 1 x.dissN))).wr (HQ.FEED_MEAN q) (quotient x.feedSum (Nat.max 1 x.feedN))
    if 3000 < m.rd (HQ.FEED_MEAN q) then
      (m.inc (HQ.OVER_CNT q)).qev q warn 0x0303 [sj q, vl (quotient (m.rd (HQ.FEED_MEAN q)) 5)]
    else m) m
  let m := m.wr HQ.MOD_I_MEAN (forN 4 (fun a q => a + m.rd (HQ.FEED_MEAN q)) 0)
  let m := m.wr HQ.MOD_ESTIMATE (forN 4 (fun a q => a + m.rd (HQ.QDISS q)) 0 + m.rd HQ.ALLOW)
  let m := if 8000 < m.rd HQ.MOD_I_MEAN then (m.inc HQ.AGG_OVER_CNT).qev 0 warn 0x0301 [vl (quotient (m.rd HQ.MOD_I_MEAN) 5)] else m
  let m := if m.rd HQ.MOD_BUDGET < m.rd HQ.MOD_ESTIMATE then
    (m.inc HQ.DISS_OVER_CNT).qev 0 warn 0x0302 [vl (quotient (m.rd HQ.MOD_ESTIMATE) 100), vl (quotient (m.rd HQ.MOD_BUDGET) 100)] else m
  let m := if 189 < m.rd HQ.BASEPLATE then m.qev 0 err 0x0306 [vl (m.rd HQ.BASEPLATE)] else m
  let m := forN 4 (fun m q => m.onQuad q fun x => { x with dissSum := 0, dissN := 0, feedSum := 0, feedN := 0 }) m
  forN 80 (fun m o => m.onChan (o / 20) (o % 20) fun x => { x with shareSum := 0 }) m

end Mod

/-! ### The commands -/

/-- CH_CMD_WRITE (R104): the pair's write leaves as a commit entry; a Vinko write is refused with cause 3. -/
def execChCmdWrite (q : Fin 4) (c : Fin 20) (v : Word) (w : Writer) (s : State) : Out :=
  s.next fun m =>
    match w with
    | .pair => m.pairCommit (Mod.regAddr (0x10 + q) (0x108 + 0x40 * c)) v.toNat
    | .vinko => (m.cmdReject q c 3).inc VNK.DENIED_CNT

/-- The channel whose next cell a graded turn-on adds (R96, R118): an H pair's members take turns, the even one first. -/
def Mod.cellTurn (m : Mod) (q c : Nat) : Nat :=
  if m.paired q ∧ (c = 0 ∨ c = 10) then (if m.rd (HQ.CELLS_ON q 0) ≤ m.rd (HQ.CELLS_ON q 10) then 0 else 10) else c

/-- CELL_STEP (R96): the next cell of a graded turn-on receives gate drive. -/
def execCellStep (q : Fin 4) (c : Fin 20) (s : State) : Out :=
  s.next fun m =>
    let t := m.cellTurn q c
    if (m.chan q t).tran = .on ∧ m.rd (HQ.CELLS_ON q t) < nCells t then
      m.wr (HQ.CELLS_ON q t) (m.rd (HQ.CELLS_ON q t) + 1)
    else m

/-- SLEW_END (R107, R110, R114): a turn-on ends with every cell on; a turn-off ends with none, and a half-bridge that
changes switches then waits for its dead time. (Log: DESIGN CHOICE 9) -/
def execSlewEnd (q : Fin 4) (c : Fin 20) (s : State) : Out :=
  s.next fun m =>
    let x := m.chan q c
    match x.tran with
    | .on => ((m.wr (HQ.SLEWING q c) 0).wr (HQ.CELLS_ON q c) (nCells c)).onChan q c fun x => { x with tran := .idle }
    | .off =>
      let m := m.wr (HQ.CELLS_ON q c) 0
      if x.next.isSome then m.onChan q c fun x => { x with tran := .dead }
      else ((m.wr (HQ.SLEWING q c) 0).onChan q c fun x => { x with tran := .idle }).offPhaseStart q c
    | _ => m

/-- A PWM period ends: one more without a new I_ON value, until the next one (R179). -/
def Mod.periodCount (m : Mod) (q c : Nat) : Mod :=
  if m.rd (HQ.OUT q c) = 2 ∨ m.rd (HQ.OUT q c) = 5 then
    m.onChan q c fun x => { x with diag := { x.diag with noUpd := Nat.min (x.diag.noUpd + 1) 31 } }
  else m

/-- PWM_PERIOD_START (R113). -/
def execPwmPeriodStart (q : Fin 4) (c : Fin 20) (s : State) : Out := s.next fun m =>
  if m.bridged q c then ((m.periodCount q c).chopPeriod q c).pwmStart q c
  else (m.periodCount q (m.lead q c)).pwmStart q (m.lead q c)

/-- PWM_ON_END (R112). -/
def execPwmOnEnd (q : Fin 4) (c : Fin 20) (s : State) : Out :=
  s.next fun m => if m.bridged q c then m.pwmEndOne q c else (m.group q c).foldl (fun m i => m.pwmEndOne q i) m

/-- DEAD_TIME_END (R114): the other switch of the half-bridge starts its turn-on. (Log: DESIGN CHOICE 7) -/
def execDeadTimeEnd (q : Fin 4) (c : Fin 20) (s : State) : Out :=
  s.next fun m =>
    let x := m.chan q c
    match x.tran, x.next with
    | .dead, some n =>
      if n.out = 5 then
        if x.onPhase then m.onOne q c 5 n.duty 1
        else ((m.wr (HQ.SLEWING q c) 1).wr (HQ.CELLS_ON q c) 1).onChan q c fun x => { x with tran := .on, next := none, low := true }
      else if m.permitted q c then m.onOne q c n.out n.duty 1
      else (m.wr (HQ.SLEWING q c) 0).onChan q c fun x => { x with tran := .idle, next := none }
    | _, _ => m

/-- SENSE_CONVERSION (R101, R102, R151, R171). (Log: DESIGN CHOICE 8, DESIGN CHOICE 107) -/
def execSenseConversion (q : Fin 4) (c : Fin 20) (is : BitVec 12) (outV : BitVec 10) (feedV : BitVec 12) (s : State) : Out :=
  s.next fun m => m.convert q c is.toNat outV.toNat feedV.toNat

/-- TEMP_CONVERSION (R100). -/
def execTempConversion (q : Fin 4) (c : Fin 20) (tj : BitVec 8) (s : State) : Out := s.next fun m => m.tempSeen q c tj.toNat

/-- PAIR_EN_WRITE (R117): refused while the key is closed (R482). -/
def execPairEnWrite (q : Fin 4) (v : Bool) (w : Writer) (s : State) : Out :=
  s.next fun m => match w with
    | .pair => m.pairCommit (Mod.regAddr (0x10 + q) 0x600) (v.toNat + 2 * m.rd (HQ.NET q))
    | .vinko => if m.keyOpen (0x10 + q) then m.pairEn q v.toNat else m.keyReject (0x10 + q) 0x600 1

end Sys2Proof.Machine
end

