-- ==== Sys2Proof/Machine/Hedge.lean ====
section
/-! DEFINITION. Hedge protection (chapter 4): trips and retries, thermal shutdown, the wire and clamp models, supply
supervision, the inrush queue, reverse current, ground loss, the heartbeat watch, Hold and Safe. -/
namespace Sys2Proof.Machine
open Reg

namespace Mod

/-! ### Trips (R136 to R140) -/

/-- The short-trip threshold of a code in A (Table 04-2). -/
def shortTripA (c isc : Nat) : Nat :=
  byClass c ([40, 50, 60, 70, 80, 90, 100, 120].getD isc 0) ([16, 20, 24, 28, 32, 36, 40, 48].getD isc 0)
    ([5, 6, 7, 8, 9, 10, 12, 14].getD isc 0) ([45, 50, 55, 60, 65, 70, 80, 90].getD isc 0)

/-- The short-trip comparator of a switch trips at `i` mA (R136); an H pair compares with the master's setting. -/
def shortTrips (m : Mod) (q c i : Nat) : Bool := decide (1000 * shortTripA c (m.rd (HQ.ISC q (m.master q c))) ≤ i)

/-- The conversions have exceeded the applicable limit throughout the filter time (R137). -/
def overcurrentDue (m : Mod) (q c : Nat) : Bool := decide (filterRun (m.rd (HQ.OC_FILT q c)) ≤ (m.chan q c).ocRun)

/-- The pause after trip number `k` in ms (Table 04-3). -/
def retryPause (k : Nat) : Nat := Nat.min (2 ^ (k - 1)) 1000

/-- A report waits for the end of the tick (R140). -/
def pendReport (m : Mod) (q c bits : Nat) : Mod := m.onChan q c fun x => { x with pendRep := x.pendRep ||| bits }

/-- A trip acts (R131, R138): protective off, RETRY cleared, the trip counted; at trip number RETRY_N the permit is
latched, otherwise the pause begins. `short`: a short trip, whose reports wait for the end of the tick. -/
def trip (m : Mod) (q c : Nat) (short : Bool) (peak : Nat) : Mod :=
  let m := ((m.protOff q c).clearPermit q c 0).onChan q c fun x => { x with ocRun := 0, peakDue := false }
  let m := m.inc (HQ.RETRY_CNT q c)
  let k := m.rd (HQ.RETRY_CNT q c)
  let m := if short then m.pendReport q c 1 else m.qev q warn 0x0402 [sj c, vl k, vl peak]
  if m.rd (HQ.RETRY_N q c) ≤ k then
    let m := (m.wr (HQ.RETRY_L q c) 1).wr (HQ.PAUSE_LEFT q c) 0
    let m := m.onChan q c fun x => { x with retryPause := false }
    let m := if short then m.pendReport q c 4 else m.qev q err 0x0403 [sj c]
    m.lock q c
  else
    (m.wr (HQ.PAUSE_LEFT q c) (retryPause k)).onChan q c fun x =>
      { x with retryPause := true, pauseEnd := m.tick + 100 * retryPause k }

/-- A retry pause ends (R138). -/
def pauseOver (m : Mod) (q c : Nat) : Mod :=
  if (m.chan q c).retryPause then
    ((m.wr (HQ.PAUSE_LEFT q c) 0).onChan q c fun x => { x with retryPause := false }).setPermit q c 0
  else m

/-- A junction reaches 175 °C, code 239 (R139). -/
def thermal (m : Mod) (q c : Nat) : Mod :=
  let m := m.tempSeen q c (Nat.max 239 (m.rd (HQ.TJ q c)))
  let m := (m.protOff q c).clearPermit q c 1
  let m := (m.inc (HQ.THERM_CNT q c)).pendReport q c 2
  if m.rd (HQ.THERM_M q c) ≤ m.rd (HQ.THERM_CNT q c) then
    ((m.wr (HQ.THERM_L q c) 1).pendReport q c 8).lock q c
  else m

/-- At the end of the tick: a short trip and a thermal shutdown of the tick are one report (R140). -/
def flushReport (m : Mod) (q c : Nat) : Mod :=
  let p := (m.chan q c).pendRep
  if p = 0 then m
  else
    let m := if p.testBit 0 then m.qev q warn 0x0401 [sj c, vl (m.rd (HQ.RETRY_CNT q c)), sj (p % 4)]
      else if p.testBit 1 then m.qev q warn 0x0404 [sj c, vl (m.rd (HQ.THERM_CNT q c))] else m
    let m := if p.testBit 2 then m.qev q err 0x0403 [sj c] else m
    let m := if p.testBit 3 then m.qev q err 0x0405 [sj c] else m
    m.onChan q c fun x => { x with pendRep := 0 }

/-! ### Wire and clamp models (R141 to R144) -/

/-- I_base in mA (Table 04-4). -/
def wireBase (xsec : Nat) : Nat := [7000, 9000, 12000, 14000, 18000, 25000, 34000, 43000, 60000, 80000].getD xsec 80000

/-- τ1 in ms (Table 04-4). -/
def wireTau1 (xsec : Nat) : Nat := [9000, 12000, 17000, 22000, 30000, 45000, 65000, 90000, 140000, 200000].getD xsec 200000

/-- A sixteenths field in which 0 means 1.0 (R141). -/
def sixteenths (v : Nat) : Rat := if v = 0 then 1 else (v : Rat) / 16

/-- θ in units of 1/16 384, saturating (Table 04-9). -/
def thetaCode (th : Rat) : Nat := Nat.min 0xFFFF (th * 16384).floor.toNat

/-- The wire model is at or below REARM. -/
def wireCool (m : Mod) (q c : Nat) : Bool :=
  let x := m.chan q c
  decide (x.th1 + x.th2 ≤ (m.rd (HQ.WIRE_REARM q c) : Rat) / 16)

/-- The frame's step of the two terms (R141). -/
def wireModel (m : Mod) (q c : Nat) : Mod :=
  let x := m.chan q c
  let xs := m.rd (HQ.XSEC q c)
  let rated : Rat := (wireBase xs : Rat) * sixteenths (m.rd (HQ.BF q c))
  let a := sixteenths (m.rd (HQ.WIRE_FAST q c))
  let qn : Rat := if x.nq = 0 then 0 else (x.sq : Rat) / (x.nq : Rat) / (rated * rated)
  let t1 := x.th1 + (a * qn - x.th1) / (wireTau1 xs : Rat)
  let t2 := x.th2 + ((1 - a) * qn - x.th2) / ((m.rd (HQ.TAU2 q c) : Rat) * 10000)
  (m.wr (HQ.THETA q c) (thetaCode (t1 + t2))).onChan q c fun x => { x with th1 := t1, th2 := t2, sq := 0, nq := 0 }

/-- The wire model reaches 1.0, or falls to REARM (R142). -/
def wireJudge (m : Mod) (q c : Nat) : Mod :=
  let x := m.chan q c
  if 16384 ≤ m.rd (HQ.THETA q c) then
    if m.on (HQ.WIRE_EN q c) then
      if x.own.testBit 2 then
        let m := (((m.protOff q c).clearPermit q c 2).inc (HQ.TRIPS q c)).onChan q c fun x => { x with wireRep := true }
        if m.on (HQ.WIRE_LATCH q c) then
          ((m.wr (HQ.WIRE_L q c) 1).qev q err 0x0406 [sj c, vl (m.rd (HQ.TRIPS q c))]).lock q c
        else m.qev q warn 0x0406 [sj c, vl (m.rd (HQ.TRIPS q c))]
      else m
    else if x.wireRep then m
    else
      let m := (m.inc (HQ.TRIPS q c)).onChan q c fun x => { x with wireRep := true }
      m.qev q warn 0x0406 [sj c, vl (m.rd (HQ.TRIPS q c))]
  else if m.wireCool q c then
    let m := if x.wireRep then m.onChan q c fun x => { x with wireRep := false } else m
    if m.on (HQ.WIRE_L q c) then m else m.setPermit q c 2
  else m

/-- The wire model of a channel, once per frame; the slave of an H pair runs none (R141). (Log: DESIGN CHOICE 28) -/
def wireFrame (m : Mod) (q c : Nat) : Mod :=
  if m.lead q c ≠ c ∧ isHB c = false then m
  else
    let x := m.chan q c
    let m := if x.nq = 0 ∧ x.th1 = 0 ∧ x.th2 = 0 then m else (m.wireModel q c).wireJudge q c
    if m.rd (HQ.WIRE_EN q c) = 0 ∧ m.rd (HQ.WIRE_L q c) = 0 then m.setPermit q c 2 else m

/-- The clamp's single turn-off rating in 0.1 mJ (Table 04-5). -/
def clampRating (c : Nat) : Nat := byClass c 6000 2500 600 0

/-- The clamp budget accumulator is at or below REARM × BUDGET (R144). -/
def clampCool (m : Mod) (q c : Nat) : Bool :=
  decide ((m.chan q c).clampB ≤ (m.rd (HQ.CLAMP_REARM q c) : Rat) / 16 * (m.rd (HQ.CLAMP_BUDGET q c) : Rat))

/-- Store the accumulator and show it (Table 04-10). -/
def setClampB (m : Mod) (q c : Nat) (b : Rat) : Mod :=
  (m.wr (HQ.CLAMP_B q c) (Nat.min 0xFFFF b.floor.toNat)).onChan q c fun x => { x with clampB := b }

/-- The decay of the accumulator, once per frame (R143, R144). (Log: DESIGN CHOICE 28) -/
def clampFrame (m : Mod) (q c : Nat) : Mod :=
  let b := (m.chan q c).clampB
  if isHB c ∨ b = 0 then m
  else
    let m := m.setClampB q c (b * Config.expNeg 1 (m.rd (HQ.CLAMP_TAU q c) * 10))
    if m.clampCool q c then m.setPermit q c 3 else m

/-- The clamp conduction of a turn-off ends with energy `e` in 0.1 mJ (R143, R144); an H pair keeps one budget, the
master's. -/
def clampEnd (m : Mod) (q c e : Nat) : Mod :=
  if isHB c then m
  else
    let l := m.lead q c
    let m := (m.sat (HQ.E_LAST q l) e).setClampB q l ((m.chan q l).clampB + (e : Rat))
    let m := if (m.rd (HQ.CLAMP_BUDGET q l) : Rat) < (m.chan q l).clampB then
      (m.clearPermit q l 3).qev q warn 0x0407 [sj l, vl16 (m.rd (HQ.CLAMP_B q l))] else m
    if clampRating l < e then m.qev q err 0x0408 [sj l, vl16 (m.rd (HQ.E_LAST q l))] else m

/-- A quadrant's frame: PAUSE_LEFT, the wire models, the clamp budgets, where it runs its microcode. -/
def quadFrame (m : Mod) (q : Nat) : Mod :=
  if m.rd (HQ.UCODE q) = 0 then m
  else forN 20 (fun m c =>
    let x := m.chan q c
    let m := if x.retryPause then m.wr (HQ.PAUSE_LEFT q c) ((x.pauseEnd - m.tick + 99) / 100) else m
    (m.wireFrame q c).clampFrame q c) m

/-- Once per frame, every quadrant. -/
def hedgeFrame (m : Mod) : Mod := forN 4 (fun m q => m.quadFrame q) m

/-- The running pauses of a quadrant end `PAUSE_LEFT - less` milliseconds after the present TICK. -/
def pauseFrom (m : Mod) (q less : Nat) : Mod :=
  forN 20 (fun m c =>
    if (m.chan q c).retryPause then
      let left := m.rd (HQ.PAUSE_LEFT q c) - less
      (m.wr (HQ.PAUSE_LEFT q c) left).onChan q c fun x => { x with pauseEnd := m.tick + 100 * left }
    else m) m

/-- A frame's time passes in Park, where TICK stands still: a quadrant that a Lock keeps awake runs on by its own oscillator
(R122, R129, R165). (Log: DESIGN CHOICE 130) -/
def parkFrame (m : Mod) : Mod :=
  forN 4 (fun m q => if m.awake (24 + q) then (m.pauseFrom q 1).quadFrame q else m) m

/-! ### Latches (R134, R135) -/

/-- LATCH_CLR of a channel takes effect (R135). -/
def latchClr (m : Mod) (q c : Nat) : Mod :=
  let was := m.on (HQ.RETRY_L q c) || m.on (HQ.THERM_L q c) || m.on (HQ.WIRE_L q c)
  let cool := m.rd (HQ.TJ q c) ≤ 224
  let wire := m.wireCool q c
  let m := (m.wr (HQ.RETRY_L q c) 0).wr (HQ.RETRY_CNT q c) 0
  let m := if cool then (m.wr (HQ.THERM_L q c) 0).wr (HQ.THERM_CNT q c) 0 else m
  let m := if wire then m.wr (HQ.WIRE_L q c) 0 else m
  let m := if (m.chan q c).retryPause then m else m.setPermit q c 0
  let m := if cool then m.setPermit q c 1 else m
  let m := if wire then m.setPermit q c 2 else m
  if was && !m.latched q c then (m.qev q info 0x0433 [sj c]).releaseOwner q c 3 else m

/-! ### Supply (R145 to R148) -/

/-- A sag begins (R146): the charge pumps stop (R99), the running windows are noted for the re-plan (R148), and SUPPLY
clears. -/
def sagBegin (m : Mod) (q v : Nat) : Mod :=
  if (m.quad q).low then m
  else
    let m := m.onQuad q fun x => { x with low := true, sagStart := m.tick, sagMin := v }
    let m := ((m.wr (HQ.SAG q) 1).wr (HQ.CP_RDY q 0) 0).wr (HQ.CP_RDY q 1) 0
    let m := forN 2 (fun m b =>
      let run := ((List.range 10).map fun i => 10 * b + i).filter fun c => (m.chan q c).window
      m.onBank (2 * q + b) fun x => { x with replan := some (x.replan.getD [] ++ run) }) m
    (m.diagSuspend q true).updateSupply q

/-- A sag ends (R146): it is recorded, and the offs of the sag no longer bar SUPPLY; the queues are re-planned when SUPPLY sets
(R148, Table 04-6). -/
def sagEnd (m : Mod) (q v : Nat) : Mod :=
  if (m.quad q).low = false then m
  else
    let x := m.quad q
    let m := m.feedSeen q v
    let m := (m.wr (HQ.SAG q) 0).onQuad q fun x => { x with low := false, uvTimer := false, uvOff := false }
    let m := (m.wr (HQ.SAG_VMIN q) x.sagMin).sat (HQ.SAG_LEN q) ((m.tick - x.sagStart) / 100)
    let m := (m.inc (HQ.SAG_CNT q)).qev q info 0x0410 [vl16 (m.rd (HQ.SAG_VMIN q)), vl16 (m.rd (HQ.SAG_LEN q))]
    let m := forN 2 (fun m b => (m.onBank (2 * q + b) fun y => { y with resOff := false })) m
    m.updateSupply q

/-- The channel stays off, whatever the owner, until it is commanded again (R147): the states that Hold and Safe keep for it become
off with its command; a bridge coasts. (Log: DESIGN CHOICE 131) -/
def stayOff (m : Mod) (q c : Nat) : Mod :=
  let k := bankOf q c
  let m := (m.clearCmd q c).onChan q c fun x => { x with hold := {}, safe := {}, safeSel := 0 }
  if m.bridged q c then
    ([MOT.DUTY_APPL k, MOT.MASKED k, MOT.REVERSING k].foldl (fun m f => m.wr f 0) (m.setApplied k 0)).onBr k fun x => { x with uvStay := true }
  else m

/-- An undervoltage off of one channel and of what acts with it (R118, R146, R147): an H pair restores by the master's UV_POL. A bridge
with a member that does not restore coasts until it is commanded again. (Log: DEDUCED 109, DESIGN CHOICE 131) -/
def uvOne (m : Mod) (q c : Nat) : Mod :=
  let m := (m.protOff q c).wr (HQ.UV q c) 1
  if m.on (HQ.UV_POL q (m.master q c)) then m else m.stayOff q (m.master q c)

/-- A bank's reservoir gives way (R146). -/
def reservoirOff (m : Mod) (b : Nat) : Mod :=
  let q := b / 2
  if (m.quad q).low = false ∨ (m.bank b).resOff then m
  else
    let m := m.onBank b fun x => { x with resOff := true }
    let m := forN 10 (fun m i => m.uvOne q (10 * (b % 2) + i)) m
    (m.qev q warn 0x0413 [sj b]).updateSupply q

/-- The undervoltage off of a quadrant (R147). -/
def undervoltage (m : Mod) (q : Nat) : Mod :=
  if (m.quad q).uvTimer = false then m
  else
    let m := m.onQuad q fun x => { x with uvTimer := false, uvOff := true }
    let m := forN 20 (fun m c => m.uvOne q c) m
    ((m.inc (HQ.UV_CNT q)).qev q warn 0x0411 [vl16 (m.rd (HQ.FEED_V q))]).updateSupply q

/-! ### The inrush queue (R150) -/

/-- The head of a bank's queue starts when its claim fits the budget that the running windows leave. -/
def queueStart (m : Mod) (b : Nat) : Mod :=
  let q := b / 2
  let paused := if b % 2 = 0 then m.on (HQ.PAUSED0 q) else m.on (HQ.PAUSED1 q)
  match (m.bank b).queue with
  | [] => m
  | c :: _ =>
    let claim := if m.rd (HQ.INR_WIN q (m.lead q c)) ≠ 0 ∧ (m.inrushDue q c ∨ m.rd (HQ.OUT q c) ≠ 0) then m.claimOf q c else 0
    if paused ∨ (m.quad q).low ∨ m.permitted q c = false ∨ m.inrushBudget q (b % 2) < m.claims q (b % 2) + claim then m
    else
      let m := m.dequeue q c
      if m.rd (HQ.OUT q c) ≠ 0 then
        if m.rd (HQ.INR_WIN q (m.lead q c)) = 0 then m
        else m.onChan q c fun x => { x with window := true, claim := claim }
      else if m.bridged q c then
        let k := bankOf q c
        let w := m.brWant k
        let m := if w.1 = 1 ∨ w.1 = 2 then m.brAfresh k w.2 else m
        let m := if w.1 = 1 then m.onChan q c fun x => { x with booked := true, claim := claim } else m
        m.brDrive k false
      else
        let w := m.ownerCmd q c
        if w.out = 2 ∨ w.out = 5 then m.onChan q c fun x => { x with pend := some w, booked := true, claim := claim }
        else m.moveTo q c w false

/-! ### Reverse current and reverse feed (R152 to R155) -/

/-- All cells of a high-side channel are enhanced in reverse (R152, R155). -/
def enhance (m : Mod) (q c : Nat) : Mod :=
  let m := (m.diagLeaveOff q c).endWindow q c
  let m := ((m.wr (HQ.OUT q c) 6).wr (HQ.SLEWING q c) 0).wr (HQ.CELLS_ON q c) (nCells c)
  m.onChan q c fun x => { x with tran := .idle, onPhase := false, running := false, booked := false }

/-- The enhancement ends and the channel returns to the effective owner's state with its programmed slew: a switch that
stays on stays fully on, otherwise it turns off (R152), which ends an on-state evaluation (R173). -/
def endEnhance (m : Mod) (q c : Nat) : Mod :=
  let w := m.ownerCmd q (m.lead q c)
  let m := m.onChan q c fun x => { x with revI := 0, revNew := false, tied := none, revEnd := false }
  let m := if w.out = 0 then m.diagLeaveOn q c false else if m.permitted q c then m else m.diagLeaveOn q c true
  if w.out = 1 ∧ m.permitted q c then m.wr (HQ.OUT q c) 1
  else
    let m := (((m.wr (HQ.OUT q c) 0).wr (HQ.SLEWING q c) 1).onChan q c fun x => { x with tran := .off, offAt := m.tick })
    m.drive q c true

/-- The threshold of the reverse-current comparator in mA (R152). -/
def revThreshold (c : Nat) : Nat := byClass c 2000 800 200 0

/-- A reverse current `i`, in the class LSB, appears (R152): nothing below the class threshold. -/
def reverseCurrent (m : Mod) (q c i : Nat) : Mod :=
  if isHB c ∨ m.on (HQ.REV q c) ∨ i * lsbMA c ≤ revThreshold c then m
  else
    let m := (m.enhance q c).wr (HQ.REV q c) 1
    (m.onChan q c fun x => { x with revI := i, revNew := true }).qev q warn 0x0414 [sj c]

/-- The partner of a tied channel, a module channel number 20 q + c, still conducts. -/
def partnerOn (m : Mod) (q c : Nat) : Bool :=
  match (m.chan q c).tied with
  | some o => m.rd (HQ.OUT (o / 20) (o % 20)) ≠ 0
  | none => false

/-- The reverse current has ended (R152, R153). -/
def reverseEnd (m : Mod) (q c : Nat) : Mod :=
  if m.rd (HQ.REV q c) = 0 then m
  else if m.partnerOn q c then m.onChan q c fun x => { x with revEnd := true }
  else if m.on (HQ.REV_FEED q) then (m.wr (HQ.REV q c) 0).onChan q c fun x => { x with tied := none, revNew := false, revEnd := false }
  else (m.wr (HQ.REV q c) 0).endEnhance q c

/-- The high-side channels whose current rose, since the latest tick boundary, by 75 % to 125 % of the reverse current of
channel `c` of quadrant `q` (R153), as module channel numbers. (Log: DEDUCED 41) -/
def tieMatches (m : Mod) (q c : Nat) : List Nat :=
  let r := (m.chan q c).revI * lsbMA c
  (List.range 80).filter fun o =>
    let d := (m.rd (HQ.IS (o / 20) (o % 20)) - (m.chan (o / 20) (o % 20)).prevIs) * lsbMA (o % 20)
    isHB (o % 20) = false && o ≠ 20 * q + c && decide (3 * r ≤ 4 * d) && decide (4 * d ≤ 5 * r) && decide (0 < d)

/-- The tie matcher judges one new reverse current (R153, R154). -/
def tieOne (m : Mod) (q c : Nat) : Mod :=
  if (m.chan q c).revNew = false ∨ (m.quad q).silent then m
  else
    let m' := (m.onChan q c fun x => { x with revNew := false }).wr (HQ.TIED q c) 1
    let last := fun (m : Mod) (p : Nat) =>
      (((m.wr (HQ.TIE_CH q) c).wr (HQ.TIE_PART q) p).wr (HQ.TIE_TICK16 q) m.tick).qev q warn 0x0415 [sj (outputNo q c), sj p]
    match m.tieMatches q c with
    | [o] =>
      let m' := m'.wr (HQ.TIED (o / 20) (o % 20)) 1
      last (m'.onChan q c fun x => { x with tied := some o }) (outputNo (o / 20) (o % 20))
    | _ => last (m'.wr (HQ.STB q c) 1) 0x7F

/-- At every tick: the tie matcher, the end of enhancements whose partner has turned off, and the currents of this tick
for the next match (R153). (Log: DEDUCED 41) -/
def tieTick (m : Mod) : Mod :=
  let m := forN 80 (fun m o => m.tieOne (o / 20) (o % 20)) m
  forN 80 (fun m o =>
    let q := o / 20
    let c := o % 20
    let x := m.chan q c
    let m := if x.revEnd ∧ m.partnerOn q c = false then m.reverseEnd q c else m
    if x.prevIs = m.rd (HQ.IS q c) then m else m.onChan q c fun x => { x with prevIs := m.rd (HQ.IS q c) }) m

/-- Reverse feed (R155). -/
def reverseFeed (m : Mod) (q : Nat) : Mod :=
  if m.on (HQ.REV_FEED q) then m
  else
    let m := ((m.wr (HQ.REV_FEED q) 1).diagSuspend q false).updateSupply q
    let m := forN 20 (fun m c => if isHB c then m.offOne q c true else m.enhance q c) m
    m.qev q err 0x0416 [vl16 (m.rd (HQ.FEED_V q))]

/-- The feed has returned above 2.8 V (R155): the enhancement ends, and the channels wait for SUPPLY. -/
def reverseFeedEnd (m : Mod) (q : Nat) : Mod :=
  if m.rd (HQ.REV_FEED q) = 0 then m
  else
    let m := m.wr (HQ.REV_FEED q) 0
    let m := forN 20 (fun m c =>
      if isHB c ∨ m.on (HQ.REV q c) then m
      else ((m.wr (HQ.OUT q c) 0).wr (HQ.SLEWING q c) 1).onChan q c fun x => { x with tran := .off, offAt := m.tick }) m
    m.updateSupply q

/-- Ground loss (R156). -/
def groundLoss (m : Mod) (q : Nat) : Mod :=
  if m.on (HQ.GND_LOSS q) then m
  else
    let m := ((m.wr (HQ.GND_LOSS q) 1).diagSuspend q false).updateSupply q
    let m := forN 20 (fun m c => if isHB c then m.protOff q c else m) m
    m.qev q err 0x0417 []

/-! ### Heartbeats, Hold and Safe (R157 to R164) -/

/-- The settings that stay in force while Hold or Safe is asserted (R161). -/
def frozenFields (q : Nat) : List Fld :=
  [HQ.PAIR_EN q, HQ.HOLD_LIM q, HQ.PAT_ON q 0, HQ.PAT_OFF q 0, HQ.PAT_START q 0, HQ.PAT_ON q 1, HQ.PAT_OFF q 1, HQ.PAT_START q 1] ++
  (List.range 20).flatMap (fun c => [HQ.PWM_FREQ q c, HQ.PHASE q c, HQ.SAFE_CFG q c]) ++
  [2 * q, 2 * q + 1].flatMap fun k => [MOT.BR_EN k, MOT.STALL_ACT k, MOT.REV_BRAKE k, MOT.QPAIR k, MOT.MASK k, MOT.RAMP_UP k,
    MOT.RAMP_DN k, MOT.ICHOP k, MOT.STALL_I k, MOT.STALL_T k, MOT.HALL_T k]

/-- Freeze the settings in force at the first of Hold and Safe (R161). -/
def freeze (m : Mod) (q : Nat) : Mod :=
  if (m.quad q).frozen ≠ [] then m
  else m.onQuad q fun x => { x with frozen := (frozenFields q).map fun f => (f.key, m.rd f) }

/-- Both Hold and Safe are released: the newly written settings apply; a change of PAIR_EN or of a bridge's EN that R117
or R188 would ignore now is ignored (R161). -/
def unfreeze (m : Mod) (q : Nat) : Mod :=
  if m.on (HQ.SAFE q) ∨ m.on (HQ.HOLD q) then m
  else
    let want := m.rd (HQ.PAIR_EN q)
    let was := m.force q (HQ.PAIR_EN q)
    let brs := [2 * q, 2 * q + 1].map fun k => (k, m.rd (MOT.BR_EN k), m.force q (MOT.BR_EN k))
    let m := brs.foldl (fun m b => m.wr (MOT.BR_EN b.1) b.2.2) m
    let m := (m.wr (HQ.PAIR_EN q) was).onQuad q fun x => { x with frozen := [] }
    let m := if want = was then m else m.pairEn q want
    brs.foldl (fun m b => m.brEn b.1 b.2.1) m

/-- Assert an owner on every output of a quadrant, each group once. -/
def assertAll (m : Mod) (q o : Nat) : Mod := forN 20 (fun m c => if m.lead q c = c then m.assertOwner q c o else m) m

/-- Release an owner on every output of a quadrant. -/
def releaseAll (m : Mod) (q o : Nat) : Mod := forN 20 (fun m c => if m.lead q c = c then m.releaseOwner q c o else m) m

/-- Safe is asserted on every output of a quadrant; its patterns begin (R158, R159). -/
def quadSafe (m : Mod) (q : Nat) : Mod :=
  let m := (m.freeze q).wr (HQ.SAFE q) 1
  let m := m.onQuad q fun x => { x with patOn := SMap.set false (SMap.set false x.patOn 0 (m.force q (HQ.PAT_START q 0) = 1)) 1 (m.force q (HQ.PAT_START q 1) = 1) }
  m.assertAll q 2

/-- Safe is asserted where it does not stand already: a Safe in force keeps its patterns' phase (R159). -/
def quadSafeNow (m : Mod) (q : Nat) : Mod := if m.on (HQ.SAFE q) then m else m.quadSafe q

/-- The Frame's Safe order (R58, R158): the link counts as silent from it on (R164). -/
def quadSafeOrder (m : Mod) (q : Nat) : Mod :=
  if m.rd (HQ.UCODE q) = 0 then m
  else (m.onQuad q fun x => { x with silent := true, hbRun := 0 }).quadSafeNow q

/-- The heartbeat watch declares silence (R157). -/
def quadSilence (m : Mod) (q : Nat) : Mod :=
  if m.rd (HQ.WATCH q) ≠ 1 then m
  else
    let m := m.onQuad q fun x => { x with silent := true, hbRun := 0 }
    let m := ((m.wr (HQ.WATCH q) 2).inc (HQ.SILENCE_CNT q)).qev q crit 0x0430 [vl24 (m.rd (HQ.HB_TO q))]
    m.quadSafeNow q

/-- The Frame's Hold order (R120, R160). -/
def quadHold (m : Mod) (q : Nat) : Mod :=
  if m.rd (HQ.UCODE q) = 0 ∨ m.on (HQ.HOLD q) then m
  else
    let m := ((m.freeze q).wr (HQ.HOLD q) 1).onQuad q fun x => { x with holdExp := false }
    let m := if m.rd (HQ.WATCH q) = 2 then m else m.wr (HQ.WATCH q) 3
    m.assertAll q 1

/-- Hold is released (R452, R469): the watch waits for the next heartbeat (R157). -/
def quadHoldEnd (m : Mod) (q : Nat) : Mod :=
  if m.rd (HQ.HOLD q) = 0 then m
  else
    let m := m.wr (HQ.HOLD q) 0
    let m := if m.rd (HQ.WATCH q) = 3 then m.wr (HQ.WATCH q) 0 else m
    (m.unfreeze q).releaseAll q 1

/-- The Hold limit is reached (R160). -/
def quadHoldLimit (m : Mod) (q : Nat) : Mod :=
  if m.rd (HQ.HOLD q) = 0 ∨ (m.quad q).holdExp then m
  else
    let m := m.onQuad q fun x => { x with holdExp := true }
    let m := (m.inc (HQ.HOLD_EXP_CNT q)).qev q err 0x0431 [vl16 (m.force q (HQ.HOLD_LIM q))]
    m.quadSafeNow q

/-- A write of SAFE_REL takes effect (R162). -/
def quadSafeRel (m : Mod) (q : Nat) : Mod :=
  if m.rd (HQ.SAFE q) = 0 then m
  else if (m.quad q).hbRun < 10 then m.qev q warn 0x0432 [vl (m.quad q).hbRun]
  else
    let m := (m.wr (HQ.SAFE q) 0).wr (HQ.WATCH q) (if m.on (HQ.HOLD q) then 3 else 1)
    (m.unfreeze q).releaseAll q 2

/-- The records held while the link was silent join the writer's queue, with estimated TICKs (R164). (Log: DESIGN CHOICE 30) -/
def deliver (m : Mod) (buf : List EvtIn) : Mod :=
  buf.foldl (fun m e => m.intake { e with body := { e.body with tick := Config.estTick e.body.tick % 2 ^ 48, est := true } }) m

/-- A heartbeat reaches a quadrant (R157, R162, R164). -/
def quadHeartbeat (m : Mod) (q : Nat) : Mod :=
  let x := m.quad q
  let m := if x.silent then (m.onQuad q fun y => { y with silent := false, buf := [] }).deliver x.buf else m
  let m := if x.hbRun < 10 then m.onQuad q fun y => { y with hbRun := x.hbRun + 1 } else m
  if m.rd (HQ.WATCH q) = 0 ∧ m.rd (HQ.UCODE q) = 1 ∧ x.noArm = false ∧ m.rd (HQ.HOLD q) = 0 then m.wr (HQ.WATCH q) 1 else m

/-- A tick boundary passes without a heartbeat (R162). -/
def quadNoHeartbeat (m : Mod) (q : Nat) : Mod :=
  if (m.quad q).hbRun = 0 then m else m.onQuad q fun y => { y with hbRun := 0 }

/-- A Safe pattern's ON or OFF time ends: every channel that uses it switches (R159). -/
def patToggle (m : Mod) (q p : Nat) : Mod :=
  if m.rd (HQ.SAFE q) = 0 then m
  else
    let m := m.onQuad q fun x => { x with patOn := SMap.set false x.patOn p (!SMap.get false x.patOn p) }
    forN 20 (fun m c => if (m.chan q c).safeSel = 3 + p ∧ m.rd (HQ.OWN_EFF q c) = 2 ∧ m.lead q c = c then m.drive q c true else m) m

/-! ### Power-up of a quadrant (R130, R165) -/

/-- A permit set again at power-up: each mechanism sets its bit as Table 04-1 says. -/
def permitsUp (m : Mod) (q c : Nat) : Mod :=
  let x := m.chan q c
  let retry := !m.on (HQ.RETRY_L q c) && !x.retryPause
  let therm := !m.on (HQ.THERM_L q c) && decide (m.rd (HQ.TJ q c) ≤ 224)
  let wire := !m.on (HQ.WIRE_L q c) && (m.wireCool q c || !m.on (HQ.WIRE_EN q c))
  let clamp := isHB c || m.clampCool q c
  let supply := m.supplyOk q (c / 10)
  let b := fun (i : Nat) (p : Bool) => if p then 2 ^ i else 0
  m.onChan q c fun x => { x with own := b 0 retry + b 1 therm + b 2 wire + b 3 clamp + b 4 supply }

/-- The operating microcode starts (R130): the permits come up, and a latched permit asserts Lock (R134). -/
def ucodeStart (m : Mod) (q ver : Nat) : Mod :=
  let m := ((m.wr (HQ.UCODE q) 1).wr (HQ.UCODE_VER q) ver).onQuad q fun x => { x with noArm := false }
  let m := forN 20 (fun m c => m.permitsUp q c) m
  let m := forN 20 (fun m c => m.syncPermit q c) m
  forN 20 (fun m c => if m.latched q c then m.lock q c else m) m

/-- The charge pumps of a quadrant whose domain sleeps stand still (R99), and the minimum of SAMP_FV runs afresh from its next
power-up (R103). -/
def pumpsDown (m : Mod) (q : Nat) : Mod :=
  ((m.wr (HQ.CP_RDY q 0) 0).wr (HQ.CP_RDY q 1) 0).onQuad q fun x => { x with sampMin := 0xFFF }

/-- The QD domain powers up under the boot-ROM microcode (R130): every output off, PERMIT 0, the watch disarmed. -/
def quadBoot (m : Mod) (q : Nat) : Mod :=
  let m := (((m.wr (HQ.UCODE q) 0).wr (HQ.UCODE_VER q) 0).wr (HQ.WATCH q) 0).pumpsDown q
  forN 20 (fun m c => ((((m.wr (HQ.OUT q c) 0).wr (HQ.SLEWING q c) 0).wr (HQ.CELLS_ON q c) 0).wr (HQ.PERMIT q c) 0).onChan q c
    fun x => { x with own := 0, tran := .idle, next := none, pend := none, onPhase := false, running := false, window := false, claim := 0 }) m

/-- The saved protection state of a quadrant is lost, or a Cold reset clears it (R165). -/
def protClear (m : Mod) (q : Nat) : Mod :=
  forN 20 (fun m c =>
    let m := [HQ.RETRY_CNT q c, HQ.THERM_CNT q c, HQ.RETRY_L q c, HQ.THERM_L q c, HQ.WIRE_L q c, HQ.PAUSE_LEFT q c, HQ.THETA q c,
      HQ.CLAMP_B q c].foldl (fun m f => m.wr f 0) m
    m.onChan q c fun x => { x with th1 := 0, th2 := 0, clampB := 0, retryPause := false, wireRep := false }) m

/-- The saved protection state is restored after `ms` milliseconds (R165): the models decay, the pauses go on. (Log: DESIGN CHOICE 28) -/
def protRestore (m : Mod) (q ms : Nat) : Mod :=
  forN 20 (fun m c =>
    let x := m.chan q c
    let m := if x.th1 = 0 ∧ x.th2 = 0 then m
      else
        let t1 := x.th1 * Config.expNeg ms (wireTau1 (m.rd (HQ.XSEC q c)))
        let t2 := x.th2 * Config.expNeg ms (m.rd (HQ.TAU2 q c) * 10000)
        (m.wr (HQ.THETA q c) (thetaCode (t1 + t2))).onChan q c fun x => { x with th1 := t1, th2 := t2 }
    let m := if x.clampB = 0 then m else m.setClampB q c (x.clampB * Config.expNeg ms (m.rd (HQ.CLAMP_TAU q c) * 10))
    if x.retryPause then
      let left := m.rd (HQ.PAUSE_LEFT q c) - ms
      (m.wr (HQ.PAUSE_LEFT q c) left).onChan q c fun y => { y with retryPause := left ≠ 0, pauseEnd := m.tick + 100 * left }
    else m) m

/-- The Park order reaches a quadrant (R123, R163, R165): the watch is disarmed, every channel turns off with its slew,
every command and the queues are cleared, and the protection state is saved. -/
def quadPark (m : Mod) (q : Nat) : Mod :=
  let m := (m.wr (HQ.WATCH q) 0).onQuad q fun x => { x with noArm := true, saved := true }
  let m := forN 20 (fun m c => m.clearCmd q c) m
  let m := forN 20 (fun m c =>
    ((m.dequeue q c).onChan q c fun x => { x with pend := none, booked := false, next := none }).offOne q c false) m
  forN 20 (fun m c =>
    let x := m.chan q c
    if x.retryPause then m.wr (HQ.PAUSE_LEFT q c) ((x.pauseEnd - m.tick + 99) / 100) else m) m

end Mod

/-! ### The commands -/

/-- SHORT_TRIP (R136, R138): the current in mA. -/
def execShortTrip (q : Fin 4) (c : ChanAmps) (s : State) : Out :=
  s.next fun m => if m.shortTrips q c.c c.i.toNat then m.trip q c.c true 0 else m

/-- OVERCURRENT_TRIP (R137, R138): once the conversions have exceeded the limit throughout the filter time. (Log: DEDUCED 128) -/
def execOvercurrentTrip (q : Fin 4) (c : Fin 20) (s : State) : Out :=
  s.next fun m => if m.overcurrentDue q c then m.trip q c false 0 else m

/-- PEAK_TIMER_TRIP (R137): once the peak timer of a half-bridge has reached 500 ms. (Log: DEDUCED 128) -/
def execPeakTimerTrip (q : Fin 4) (c : Fin 20) (s : State) : Out :=
  s.next fun m => if isHB c ∧ (m.chan q c).peakDue then m.trip q c false 1 else m

/-- RETRY_PAUSE_END (R138). (Log: DESIGN CHOICE 7, DESIGN CHOICE 9) -/
def execRetryPauseEnd (q : Fin 4) (c : Fin 20) (s : State) : Out := s.next fun m => m.pauseOver q c

/-- RETRY_CNT_RESET (R138): one second of conduction since the latest trip. -/
def execRetryCntReset (q : Fin 4) (c : Fin 20) (s : State) : Out := s.next fun m => m.wr (HQ.RETRY_CNT q c) 0

/-- THERMAL_SHUTDOWN (R139). -/
def execThermalShutdown (q : Fin 4) (c : Fin 20) (s : State) : Out := s.next fun m => m.thermal q c

/-- THERMAL_RECOVERY (R139): 160 °C is code 224. -/
def execThermalRecovery (q : Fin 4) (c : Fin 20) (s : State) : Out :=
  s.next fun m =>
    let m := m.tempSeen q c (Nat.min 224 (m.rd (HQ.TJ q c)))
    if m.on (HQ.THERM_L q c) then m else m.setPermit q c 1

/-- THERM_CNT_RESET (R139). -/
def execThermCntReset (q : Fin 4) (c : Fin 20) (s : State) : Out := s.next fun m => m.wr (HQ.THERM_CNT q c) 0

/-- LATCH_CLR (R135). -/
def execLatchClr (q : Fin 4) (c : Fin 20) (s : State) : Out := s.next fun m => m.latchClr q c

/-- CLAMP_END (R143, R144). -/
def execClampEnd (q : Fin 4) (c : Fin 20) (e : BitVec 24) (s : State) : Out := s.next fun m => m.clampEnd q c e.toNat

/-- SAG_BEGIN (R146). -/
def execSagBegin (q : Fin 4) (v : BitVec 12) (s : State) : Out := s.next fun m => (m.feedSeen q v.toNat).sagBegin q v.toNat

/-- SAG_END (R146, R148). -/
def execSagEnd (q : Fin 4) (v : BitVec 12) (s : State) : Out := s.next fun m => m.sagEnd q v.toNat

/-- RESERVOIR_OFF (R146). -/
def execReservoirOff (b : Fin 8) (s : State) : Out := s.next fun m => m.reservoirOff b

/-- FEED_BELOW_2V8 (R147): the 5 ms timer starts or restarts. -/
def execFeedBelow2v8 (q : Fin 4) (v : BitVec 12) (s : State) : Out :=
  s.next fun m => ((m.feedSeen q v.toNat).sagBegin q v.toNat).onQuad q fun x => { x with uvTimer := true }

/-- FEED_ABOVE_2V8 (R147): the running timer is cleared. -/
def execFeedAbove2v8 (q : Fin 4) (v : BitVec 12) (s : State) : Out :=
  s.next fun m => (m.feedSeen q v.toNat).onQuad q fun x => { x with uvTimer := false }

/-- UNDERVOLTAGE_OFF (R147). -/
def execUndervoltageOff (q : Fin 4) (v : BitVec 12) (s : State) : Out := s.next fun m => (m.feedSeen q v.toNat).undervoltage q

/-- The feed code that holds the overvoltage threshold of the net that QCFG.NET states (R145): 35.0 V or 53.0 V; `rel`, the one at
and above which it is not yet released: 34.0 V or 52.0 V. -/
def Mod.ovCode (m : Mod) (q : Nat) (rel : Bool) : Nat :=
  if m.on (HQ.NET q) then (if rel then 3250 else 3312) else if rel then 2125 else 2187

/-- OVERVOLTAGE (R145): the feed has stayed at `v` for 10 µs. -/
def execOvervoltage (q : Fin 4) (v : BitVec 12) (s : State) : Out :=
  s.next fun m =>
    let m := m.feedSeen q v.toNat
    if m.on (HQ.OV q) ∨ v.toNat < m.ovCode q false then m
    else ((m.wr (HQ.OV q) 1).qev q warn 0x0412 [vl16 v.toNat]).updateSupply q

/-- OVERVOLTAGE_RELEASE (R145). -/
def execOvervoltageRelease (q : Fin 4) (v : BitVec 12) (s : State) : Out :=
  s.next fun m =>
    let m := m.feedSeen q v.toNat
    if v.toNat < m.ovCode q true then (m.wr (HQ.OV q) 0).updateSupply q else m

/-- CHARGE_PUMP_READY (R99, R145): the feed is at code `v`; a charge pump runs only while its quadrant's domain is awake and the feed
is above 6 V. -/
def execChargePumpReady (b : PumpFeed) (s : State) : Out :=
  s.next fun m =>
    let q := b.b.val / 2
    let m := m.feedSeen q b.v.toNat
    if m.awake (24 + q) ∧ 375 ≤ b.v.toNat then (m.wr (HQ.CP_RDY q (b.b.val % 2)) 1).updateSupply q else m

/-- INRUSH_QUEUE_START (R150). -/
def execInrushQueueStart (b : Fin 8) (s : State) : Out := s.next fun m => m.queueStart b

/-- INRUSH_WINDOW_END (R149). -/
def execInrushWindowEnd (q : Fin 4) (c : Fin 20) (s : State) : Out := s.next fun m => m.endWindow q c

/-- REVERSE_CURRENT (R152). -/
def execReverseCurrent (q : Fin 4) (c : Fin 20) (i : BitVec 12) (s : State) : Out := s.next fun m => m.reverseCurrent q c i.toNat

/-- REVERSE_CURRENT_END (R152, R153). -/
def execReverseCurrentEnd (q : Fin 4) (c : Fin 20) (s : State) : Out := s.next fun m => m.reverseEnd q c

/-- REVERSE_FEED (R155). -/
def execReverseFeed (q : Fin 4) (s : State) : Out := s.next fun m => m.reverseFeed q

/-- REVERSE_FEED_END (R155). -/
def execReverseFeedEnd (q : Fin 4) (s : State) : Out := s.next fun m => m.reverseFeedEnd q

/-- GROUND_LOSS (R156). -/
def execGroundLoss (q : Fin 4) (s : State) : Out := s.next fun m => m.groundLoss q

/-- GROUND_LOSS_CLEAR (R156). -/
def execGroundLossClear (q : Fin 4) (s : State) : Out :=
  s.next fun m => if m.on (HQ.GND_LOSS q) then (m.wr (HQ.GND_LOSS q) 0).updateSupply q else m

/-- SAFE_PATTERN_TOGGLE (R159). -/
def execSafePatternToggle (q : Fin 4) (p : Fin 2) (s : State) : Out := s.next fun m => m.patToggle q p

end Sys2Proof.Machine
end

