-- ==== Sys2Proof/Machine/Diag.lean ====
section
/-! DEFINITION. Load diagnostics (chapter 5): requests, the phases of an off-state test, the results and their way to the
DIA page. -/
namespace Sys2Proof.Machine
open Reg

namespace Mod

/-- The band of threshold `k` in 0.1 mV (Table 05-1). -/
def offBand (k net : Nat) : Nat × Nat :=
  match k, net with
  | 0, 0 => (3000, 5000)
  | 0, _ => (6500, 9500)
  | 1, 0 => (23000, 27000)
  | 1, _ => (37000, 43000)
  | _, 0 => (37000, 43000)
  | _, _ => (75000, 85000)

/-- The voltage code `v`, in 62.5 mV, is at or above threshold `k`; where in its band the module's threshold lies is open. -/
def atOrAbove (k net v : Nat) : Bool :=
  Nat.max (offBand k net).1 (Nat.min (offBand k net).2 (Config.offThreshold k net)) ≤ 625 * v

/-- The class of a completed off-state test (R170). (Log: DESIGN CHOICE 31) -/
def offClass (net vpd vpu : Nat) : Nat :=
  if atOrAbove 2 net vpd then 6 else if atOrAbove 1 net vpu then 4 else if atOrAbove 0 net vpu then 5 else 2

/-- A result that a request meets at once, with no test (R175). -/
def diagAtOnce (m : Mod) (q c kind code : Nat) : Mod := (m.wr (HQ.DIAG_KIND q c) kind).diagCode q c code 0

/-- A requested test starts (R175). -/
def diagStart (m : Mod) (q c kind : Nat) (run : DiagRun) : Mod :=
  (m.diagBusy q c true).onChan q c fun y => { y with diag := { run := run, kind := kind } }

/-- A released diagnostic request (R174, R175); KIND 6 and 7 are out of range. -/
def diagRequest (m : Mod) (q c kind : Nat) : Mod :=
  let out := m.rd (HQ.OUT q c)
  let off := out = 0
  let on := 1 ≤ out ∧ out ≤ 5
  if 6 ≤ kind then m
  else if kind = 4 then (if m.on (HQ.DIAG_BUSY q c) then m.diagResult q c 9 0 else m)
  else if m.on (HQ.DIAG_BUSY q c) then m.inc DIA.REQ_REJ_CNT
  else if kind = 5 then
    (m.wr (HQ.DIAG_KIND q c) 5).diagCode q c 0 (m.rd (HQ.V_MEAS q c))
  else if (m.paired q ∧ c = 10) ∨ m.bridged q c then m.diagAtOnce q c kind 0xA
  else
    let offTest := kind = 0 ∨ kind = 1 ∨ (kind = 3 ∧ off)
    if offTest then
      if isHB c ∨ ¬ off then m.diagAtOnce q c kind 0xA
      else if m.on (HQ.REV_FEED q) ∨ m.on (HQ.GND_LOSS q) ∨ (m.on (HQ.SAG q) ∧ kind ≠ 1) then m.diagAtOnce q c kind 8
      else m.diagStart q c kind .pullDown
    else if ¬ on then m.diagAtOnce q c kind 0xA
    else if m.suspended q then m.diagAtOnce q c kind 8
    else m.diagStart q c kind .onState

/-- An off-phase test classifies its period (R179). -/
def offPhaseResult (m : Mod) (q c code v : Nat) : Mod :=
  let x := (m.chan q c).diag
  let same := x.offCount ≠ 0 ∧ (x.offCode = code ∨ ((x.offCode = 2 ∨ x.offCode = 5) ∧ (code = 2 ∨ code = 5)))
  let n := if same then x.offCount + 1 else 1
  let m := (m.offPhaseDrop q c).onChan q c fun y => { y with diag := { y.diag with offCode := code, offCount := n } }
  if n < m.rd (HQ.OL_CNT q c) then m
  else if m.on (HQ.DIAG_BUSY q c) then m.diagResult q c code v
  else if m.rd (HQ.DIAG_CODE q c) = code then m else m.diagCode q c code v

/-- The pull-down phase ends with OUT_V at `v` (R169, R170). -/
def pullDownEnd (m : Mod) (q c v : Nat) : Mod :=
  let x := (m.chan q c).diag
  if x.run ≠ .pullDown then m
  else
    let m := m.wr (HQ.OUT_V q c) v
    if x.kind = 1 ∧ x.offPhase = false then
      if atOrAbove 2 (m.rd (HQ.NET q)) v then (m.wr (HQ.STB q c) 1).diagResult q c 6 v else m.diagResult q c 2 v
    else m.onChan q c fun y => { y with diag := { y.diag with run := .pullUp, vpd := v } }

/-- The pull-up phase ends with OUT_V at `v` (R169, R170, R179). -/
def pullUpEnd (m : Mod) (q c v : Nat) : Mod :=
  let x := (m.chan q c).diag
  if x.run ≠ .pullUp then m
  else
    let m := m.wr (HQ.OUT_V q c) v
    let code := offClass (m.rd (HQ.NET q)) x.vpd v
    let m := if code = 6 then m.wr (HQ.STB q c) 1 else m
    if x.offPhase then m.offPhaseResult q c code v else m.diagResult q c code v

/-- The channel runs in PWM with an on-time below T_ONMIN (R178). -/
def lowPwm (m : Mod) (q c : Nat) : Bool := (m.rd (HQ.OUT q c) = 2 || m.rd (HQ.OUT q c) = 5) && m.lowDuty q c

/-- Too few I_ON values have arrived: below T_ONMIN, OL_CNT + 2 periods without one, unless off-phase tests judge the periods (R179,
R180); otherwise fewer than OL_CNT since the test began (R176). -/
def tooFew (m : Mod) (q c : Nat) : Bool :=
  let x := (m.chan q c).diag
  if m.lowPwm q c then !m.offPhaseMode q c && decide (m.rd (HQ.OL_CNT q c) + 2 ≤ x.noUpd) else decide (x.got < m.rd (HQ.OL_CNT q c))

/-- The time for I_ON values has passed (R176, R179, R180). -/
def noMeas (m : Mod) (q c : Nat) : Mod :=
  let x := (m.chan q c).diag
  if m.tooFew q c = false then m
  else if m.on (HQ.DIAG_BUSY q c) then
    if x.run = .onState ∨ x.offPhase then m.diagResult q c 0xB 0 else m
  else if m.on (HQ.ON_AUTO q c) ∧ m.lowPwm q c ∧ m.suspended q = false ∧ m.rd (HQ.DIAG_CODE q c) ≠ 0xB then m.diagCode q c 0xB 0
  else m

/-- A result code that is a fault (Table 05-4). -/
def diagFault (code : Nat) : Bool := 3 ≤ code && code ≤ 6

/-- One change of CODE is carried to the DIA page (R183, R184, R187). -/
def diagCarry (m : Mod) (g : DiagChg) : Mod :=
  let f := DIA.SUMMARY (g.o / 8)
  let k := 2 ^ (4 * (g.o % 8))
  let m := m.wr f (m.rd f - (m.rd f / k % 16) * k + g.new * k)
  let m := if m.dia.fifo.length < 32 then
      { m with dia := { m.dia with fifo := m.dia.fifo ++ [{ g with tick16 := m.tick % 65536 }] } }.irq 0x14 0
    else (m.inc DIA.FIFO_LOST).irq 0x14 2
  let m := if diagFault g.new then (m.inc DIA.FAULT_CNT).irq 0x14 1 else m
  let d := [sj g.o, vl16 g.new, vl16 g.vMeas]
  if g.new = 3 ∨ g.new = 4 ∨ g.new = 5 then m.ev 0x14 warn 0x0501 d
  else if g.new = 6 then m.ev 0x14 warn 0x0502 d
  else if g.new = 0xB then m.ev 0x14 info 0x0503 d
  else if (g.new = 1 ∨ g.new = 2) ∧ diagFault g.old then m.ev 0x14 info 0x0504 d
  else m

/-- At a tick boundary the changes of CODE are carried to the DIA page (R183). -/
def diagPublish (m : Mod) : Mod :=
  let l := m.dia.changes
  if l = [] then m else l.foldl diagCarry { m with dia := { m.dia with changes := [] } }

/-- Park entry (R182): every CODE NONE, the change FIFO empty, no test running. -/
def diagPark (m : Mod) : Mod :=
  let m := forN 80 (fun m o =>
    let q := o / 20
    let c := o % 20
    ((m.wr (HQ.DIAG_CODE q c) 0).diagBusy q c false).onChan q c fun y => { y with diag := {} }) m
  let m := forN 10 (fun m w => m.wr (DIA.SUMMARY w) 0) m
  { m with dia := {} }

/-- A read of CHG_POP (R185): `vinko` 0 the pair, 1 a window. The CHG_POP fields hold what the read returned. -/
def chgPop (m : Mod) (vinko : Nat) : Mod :=
  let show_ := fun (m : Mod) (g : DiagChg) (valid : Nat) =>
    ((((m.wr DIA.CHG_OUT g.o).wr DIA.CHG_VALID valid).wr DIA.CHG_OLD g.old).wr DIA.CHG_NEW g.new).wr DIA.CHG_TICK16 g.tick16
  match m.dia.fifo with
  | g :: rest =>
    if m.rd DIA.POP_OWNER = vinko then show_ { m with dia := { m.dia with fifo := rest } } g 1 else show_ m ⟨0, 0, 0, 0, 0⟩ 0
  | [] => show_ m ⟨0, 0, 0, 0, 0⟩ 0

end Mod

/-! ### The commands -/

/-- OFF_OL (R169, R175). -/
def execOffOl (q : Fin 4) (c : Fin 20) (s : State) : Out := s.next fun m => m.diagRequest q c 0

/-- OFF_STB (R169, R175). -/
def execOffStb (q : Fin 4) (c : Fin 20) (s : State) : Out := s.next fun m => m.diagRequest q c 1

/-- ON_CHK (R171, R175). -/
def execOnChk (q : Fin 4) (c : Fin 20) (s : State) : Out := s.next fun m => m.diagRequest q c 2

/-- AUTO (R174, R175). -/
def execAuto (q : Fin 4) (c : Fin 20) (s : State) : Out := s.next fun m => m.diagRequest q c 3

/-- CANCEL (R174, R182). -/
def execCancel (q : Fin 4) (c : Fin 20) (s : State) : Out := s.next fun m => m.diagRequest q c 4

/-- CLEAR (R174). -/
def execClear (q : Fin 4) (c : Fin 20) (s : State) : Out := s.next fun m => m.diagRequest q c 5

/-- PULL_DOWN_PHASE_END (R169, R170). -/
def execPullDownPhaseEnd (q : Fin 4) (c : Fin 20) (v : BitVec 10) (s : State) : Out := s.next fun m => m.pullDownEnd q c v.toNat

/-- PULL_UP_PHASE_END (R169, R170, R179). -/
def execPullUpPhaseEnd (q : Fin 4) (c : Fin 20) (v : BitVec 10) (s : State) : Out := s.next fun m => m.pullUpEnd q c v.toNat

/-- NO_MEAS_TIMEOUT (R176, R179, R180). -/
def execNoMeasTimeout (q : Fin 4) (c : Fin 20) (s : State) : Out := s.next fun m => m.noMeas q c

/-- CHG_POP (R185). -/
def execChgPop (r : Writer) (s : State) : Out := s.next fun m => m.chgPop r.code

end Sys2Proof.Machine
end

