-- ==== Sys2Proof/Machine/Motors.lean ====
section
/-! DEFINITION. Motors and H-bridges (chapter 6): modes, the duty ramp, reversals, chopping, stalls, the position unit. -/
namespace Sys2Proof.Machine
open Reg

namespace Mod

/-- The even member of bridge `k` as a channel of its quadrant. -/
def brEven (k : Nat) : Nat := 10 * (k % 2) + 8

/-- The effective owner of bridge `k`. -/
def brOwnerOf (m : Mod) (k : Nat) : Nat := m.rd (HQ.OWN_EFF (k / 2) (brEven k))

/-- The Frame owner's mode and duty act on the bridge (R193, R194). -/
def brCommand (m : Mod) (k mode duty : Nat) : Mod :=
  if m.on (MOT.REVERSING k) then
    if mode = (m.br k).revTo then m
    else (m.wr (MOT.REVERSING k) 0).brStart k mode duty false
  else m.brFrame k mode duty false

/-- A motor command is released (R190, R191, R200). -/
def motRelease (m : Mod) (k mode duty : Nat) : Mod :=
  if m.force (k / 2) (MOT.BR_EN k) = 0 then m.motReject k 1
  else if m.on (MOT.STOPPED k) ∧ mode = (m.br k).stallMode then m.motReject k 2
  else
    let was := m.on (MOT.STOPPED k)
    let m := (((m.wr (MOT.MODE k) mode).wr (MOT.DUTY k) duty).wr (MOT.STOPPED k) 0).onBr k fun x => { x with uvStay := false }
    if m.brOwnerOf k = 0 then m.brCommand k mode duty
    else if was then m.brStart k (m.brWant k).1 (m.brWant k).2 false else m

/-- The reversal brake ends (R194); Hold and Safe freeze its timer (R197). -/
def reversalEnd (m : Mod) (k : Nat) : Mod :=
  if m.rd (MOT.REVERSING k) = 0 ∨ m.brOwnerOf k ≠ 0 then m
  else (m.wr (MOT.REVERSING k) 0).brStart k (m.br k).revTo (m.rd (MOT.DUTY k)) false

/-- The bridge has an output on. -/
def brOn (m : Mod) (k : Nat) : Bool :=
  m.rd (HQ.OUT (k / 2) (brEven k)) ≠ 0 || m.rd (HQ.OUT (k / 2) (brEven k + 1)) ≠ 0

/-- The duty ramp's step at a frame boundary (R193), not at the one that the start itself is released at, nor while the bridge is off or
waits for its start (R196); any owner but Frame freezes it (R197). -/
def rampStep (m : Mod) (k : Nat) : Mod :=
  let a := m.rd (MOT.APPLIED k)
  if m.force (k / 2) (MOT.BR_EN k) = 0 ∨ m.brOwnerOf k ≠ 0 ∨ ¬ (a = 1 ∨ a = 2) ∨ a ≠ m.rd (MOT.MODE k) ∨ m.brOn k = false ∨
      (m.br k).startTick = m.tick + 1 then m
  else
    let d := m.rd (MOT.DUTY k)
    let p := m.rd (MOT.DUTY_APPL k)
    let up := m.force (k / 2) (MOT.RAMP_UP k)
    let dn := m.force (k / 2) (MOT.RAMP_DN k)
    m.wr (MOT.DUTY_APPL k)
      (if p < d then (if up = 0 then d else Nat.min d (p + up)) else if dn = 0 then d else Nat.max d (p - dn))

/-- The driving member's current reaches ICHOP in its on-phase (R195). -/
def chop (m : Mod) (k : Nat) : Mod :=
  let a := m.rd (MOT.APPLIED k)
  let q := k / 2
  let c := if a = 1 then brEven k else brEven k + 1
  if m.force q (MOT.BR_EN k) = 0 ∨ m.force q (MOT.ICHOP k) = 0 ∨ ¬ (a = 1 ∨ a = 2) ∨ (m.chan q c).onPhase = false then m
  else (m.onBr k fun x => { x with chopped := true }).pwmCut q c true

/-- QD_POS[15:0] of the pair that QPAIR names, 0 where it names none (R199). -/
def stallPos (m : Mod) (k : Nat) : Nat :=
  let p := m.force (k / 2) (MOT.QPAIR k)
  if p = 0 then 0 else m.rd (MOT.QD_POS (p - 1)) % 65536

/-- A stall (R199): bit 0 current, bit 1 hall. Two in one tick are one stall; its event waits for the end of the tick. -/
def stall (m : Mod) (k bits : Nat) : Mod :=
  let a := m.rd (MOT.APPLIED k)
  let seen := (m.br k).stallTick
  if m.force (k / 2) (MOT.BR_EN k) = 0 then m
  else if seen ≠ 0 then
    let b := seen ||| bits
    ((m.wrB (MOT.CUR_STALL k) (b.testBit 0)).wrB (MOT.HALL_STALL k) (b.testBit 1)).onBr k fun x => { x with stallTick := b }
  else if ¬ (a = 1 ∨ a = 2) ∨ m.on (MOT.MASKED k) then m
  else
    let m := ((m.inc (MOT.STALL_CNT k)).wrB (MOT.CUR_STALL k) (bits.testBit 0)).wrB (MOT.HALL_STALL k) (bits.testBit 1)
    let m := m.onBr k fun x => { x with stallTick := bits, stallMode := a, stallPos := m.stallPos k, stallDuty := m.rd (MOT.DUTY_APPL k) }
    if m.force (k / 2) (MOT.STALL_ACT k) = 0 then m
    else
      let m := m.wr (MOT.STOPPED k) 1
      m.brStart k (m.brWant k).1 (m.brWant k).2 false

/-- At the end of the tick the stalls of the tick are reported (R199). -/
def stallFlush (m : Mod) (k : Nat) : Mod :=
  let x := m.br k
  if x.stallTick = 0 then m
  else (m.qevPage (k / 2) 0x15 warn 0x0601 [sj k, sj x.stallTick, vl16 x.stallPos]).onBr k fun x => { x with stallTick := 0 }

/-! ### The position unit (R201 to R204) -/

def qd (m : Mod) (j : Nat) : QdX := SMap.get {} m.qds j
def onQd (m : Mod) (j : Nat) (f : QdX → QdX) : Mod := { m with qds := SMap.set {} m.qds j (f (m.qd j)) }

/-- The position unit stands still in Park and Shelf, from the order that begins their entry (R204). -/
def qdStopped (m : Mod) : Bool := decide (2 ≤ m.pstate) || decide (3 ≤ m.pwr.phase)

/-- The position unit decodes the pair (R201, R204). -/
def qdRuns (m : Mod) (j : Nat) : Bool := m.on (MOT.QD_EN j) && !m.qdStopped

/-- A valid transition at cycle `cyc` of the tick; `lead`: A leads B (R201, R202). (Log: DESIGN CHOICE 29) -/
def qdEdge (m : Mod) (j : Nat) (lead : Bool) (cyc : Nat) : Mod :=
  if m.qdRuns j = false then m
  else
    let up := lead != m.on (MOT.INV j)
    let ts := m.stamp cyc
    let x := m.qd j
    let p := m.rd (MOT.QD_POS j)
    let m := m.wr (MOT.QD_POS j) (if up then p + 1 else p + 0xFFFFFFFF)
    let m := m.wr (MOT.QD_PERIOD j) (if x.hasTs then Nat.min 0xFFFFFFFF (ts - x.lastTs) else 0xFFFFFFFF)
    let m := (m.wr (MOT.LAST_TS j) ts).wr (MOT.QD_DIR j) (if up then 1 else 2)
    m.onQd j fun x => { x with edges := x.edges + 1, net := x.net + (if up then 1 else -1), lastTs := ts, hasTs := true }

/-- Both levels change in one sample (R201). -/
def qdIllegal (m : Mod) (j : Nat) : Mod :=
  if m.qdRuns j = false then m
  else (m.inc (MOT.ERR_CNT j)).onQd j fun x => { x with illegal := x.illegal + 1 }

/-- The pair's write of QD_POS takes effect at the boundary of its tick, or when a rollback releases it; the transitions of its tick, and
those since, count from it (R204). -/
def qdPosSet (m : Mod) (j v : Nat) (boundary : Bool) : Mod :=
  let n := if boundary then (m.qd j).net + (m.qd j).carry else 0
  let m := m.wr (MOT.QD_POS j) (((v : Int) + n) % 2 ^ 32).toNat
  if m.qdStopped then m else m.wr (MOT.QD_POS_OK j) 1

/-- The snapshot at a tick boundary (R203). -/
def qdSnap (m : Mod) (j : Nat) : Mod :=
  if m.qdRuns j = false then m
  else
    let m := (m.wr (MOT.SNAP_POS j) (m.rd (MOT.QD_POS j))).wr (MOT.SNAP_PERIOD j) (m.rd (MOT.QD_PERIOD j))
    let m := (m.wr (MOT.SNAP_DIR j) (m.rd (MOT.QD_DIR j))).wr (MOT.SNAP_POS_OK j) (m.rd (MOT.QD_POS_OK j))
    (m.sat (MOT.SNAP_EDGES j) (m.qd j).edges).onQd j fun x =>
      { x with edges := 0, net := 0, carry := if m.frm.held.isSome then x.carry + x.net else 0 }

/-- The illegal transitions of the superframe are reported at its end (R201). -/
def qdReport (m : Mod) (j : Nat) : Mod :=
  let n := (m.qd j).illegal
  if n = 0 then m else (m.ev 0x15 warn 0x0602 [sj j, vl n]).onQd j fun x => { x with illegal := 0 }

/-- Park or Shelf entry (R200, R204, R205). -/
def motPark (m : Mod) : Mod :=
  let m := forN 8 (fun m k =>
    let m := [MOT.MODE k, MOT.DUTY k, MOT.STOPPED k, MOT.REVERSING k, MOT.DUTY_APPL k, MOT.MASKED k].foldl (fun m f => m.wr f 0) m
    m.setApplied k 0) m
  forN 4 (fun m j => ((m.wr (MOT.QD_POS_OK j) 0).wr (MOT.QD_PERIOD j) 0xFFFFFFFF).onQd j fun x => { x with hasTs := false, edges := 0, net := 0 }) m

end Mod

/-! ### The commands -/

/-- BR_EN_WRITE (R188): refused while the key is closed (R482). -/
def execBrEnWrite (k : Fin 8) (v : Bool) (w : Writer) (s : State) : Out :=
  s.next fun m => match w with
    | .pair => m.pairCommit (Mod.regAddr 0x15 (0x100 + 0x20 * k))
        (m.wordOf 0x15 (0x100 + 0x20 * k) - m.rd (MOT.BR_EN k) + v.toNat)
    | .vinko => if m.keyOpen 0x15 then m.brEn k v.toNat else m.keyReject 0x15 (0x100 + 0x20 * k) 1

/-- COAST (R191, R193). -/
def execCoast (k : Fin 8) (s : State) : Out := s.next fun m => m.motRelease k 0 0

/-- FWD (R191 to R194). -/
def execFwd (k : Fin 8) (duty : BitVec 12) (s : State) : Out := s.next fun m => m.motRelease k 1 duty.toNat

/-- REV (R191 to R194). -/
def execRev (k : Fin 8) (duty : BitVec 12) (s : State) : Out := s.next fun m => m.motRelease k 2 duty.toNat

/-- BRAKE_LS (R191, R193). -/
def execBrakeLs (k : Fin 8) (s : State) : Out := s.next fun m => m.motRelease k 3 0

/-- BRAKE_HS (R191, R193). -/
def execBrakeHs (k : Fin 8) (s : State) : Out := s.next fun m => m.motRelease k 4 0

/-- REVERSAL_BRAKE_END (R194). -/
def execReversalBrakeEnd (k : Fin 8) (s : State) : Out := s.next fun m => m.reversalEnd k

/-- CHOP (R195). -/
def execChop (k : Fin 8) (s : State) : Out := s.next fun m => m.chop k

/-- STALL_MASK_END (R198). -/
def execStallMaskEnd (k : Fin 8) (s : State) : Out := s.next fun m => m.wr (MOT.MASKED k) 0

/-- CURRENT_STALL (R198, R199): a STALL_I of 0 disables the detection. -/
def execCurrentStall (k : Fin 8) (s : State) : Out :=
  s.next fun m => if m.force (k / 2) (MOT.STALL_I k) = 0 then m else m.stall k 1

/-- HALL_STALL (R198, R199); where a current stall of the same tick has stopped the bridge, the duty at that stall counts. -/
def execHallStall (k : Fin 8) (s : State) : Out :=
  s.next fun m =>
    let d := if (m.br k).stallTick = 0 then m.rd (MOT.DUTY_APPL k) else (m.br k).stallDuty
    if m.force (k / 2) (MOT.QPAIR k) = 0 ∨ m.force (k / 2) (MOT.HALL_T k) = 0 ∨ d < 1024 then m else m.stall k 2

/-- QUADRATURE_TRANSITION (R201, R202). -/
def execQuadratureTransition (j : Fin 4) (lead : Bool) (cyc : BitVec 11) (s : State) : Out :=
  s.next fun m => m.qdEdge j lead cyc.toNat

/-- ILLEGAL_TRANSITION (R201). -/
def execIllegalTransition (j : Fin 4) (s : State) : Out := s.next fun m => m.qdIllegal j

/-- QD_POS_WRITE (R204): the pair's write leaves as a commit entry; a window's takes effect when it completes. -/
def execQdPosWrite (j : Fin 4) (v : Word) (w : Writer) (s : State) : Out :=
  s.next fun m =>
    match w with
    | .pair => m.pairCommit (Mod.regAddr 0x15 (0x204 + 0x20 * j)) v.toNat
    | .vinko => m.qdPosSet j v.toNat false

end Sys2Proof.Machine
end

