-- ==== Sys2Proof/Machine/Watch.lean ====
section
/-! DEFINITION. The heartbeat watch, Hold and Safe of the lighting block (R215) and the field I/O block (R253), which act as
a quadrant's do. -/
namespace Sys2Proof.Machine
open Reg

/-- The registers and event codes of a watched block: `blk` 0 lighting, 1 field I/O. -/
structure Watched where
  blk : Nat
  pg : Nat
  watch : Fld
  safe : Fld
  hold : Fld
  silCnt : Fld
  expCnt : Fld
  lost : Fld
  timeout : Fld
  lim : Fld
  cSilence : Nat
  cEarly : Nat
  cLimit : Nat
  domain : Nat
  /-- Assert an owner state, 1 Hold or 2 Safe, on every output of the block. -/
  assert : Mod → Nat → Mod
  /-- Release an owner state on every output of the block. -/
  release : Mod → Nat → Mod

namespace Mod

/-- Set bit `i` of a mask. -/
def setBit (v i : Nat) (b : Bool) : Nat := if v.testBit i = b then v else if b then v + 2 ^ i else v - 2 ^ i

def watchX (m : Mod) (b : Nat) : WatchX := SMap.get {} m.watches b
def onWatch (m : Mod) (b : Nat) (f : WatchX → WatchX) : Mod := { m with watches := SMap.set {} m.watches b (f (m.watchX b)) }

/-- An event of a watched block for page `pg`: held while its link is silent, 32 at most. -/
def blockEv (m : Mod) (b pg : Nat) (lost : Fld) (cls code : Nat) (items : List Item) : Mod :=
  if (m.watchX b).silent then
    let m' := m.countEvt pg code
    if (m.watchX b).buf.length < 32 then
      let e := m.mkEvt pg cls code items
      m'.onWatch b fun x => { x with buf := x.buf ++ [{ e with body := { e.body with est := true } }] }
    else m'.inc lost
  else m.ev pg cls code items

/-- An event of a watched block on its own page. -/
def wev (m : Mod) (w : Watched) (cls code : Nat) (items : List Item) : Mod := m.blockEv w.blk w.pg w.lost cls code items

/-- Safe is asserted on every output of the block; where it stands already, the outputs keep what it selected. -/
def blockSafe (m : Mod) (w : Watched) : Mod := if m.on w.safe then m else w.assert (m.wr w.safe 1) 2

/-- The link falls silent: counted and reported first of the records held, and Safe is asserted (R215, R253). -/
def blockQuiet (m : Mod) (w : Watched) : Mod :=
  let m := (m.onWatch w.blk fun x => { x with silent := true, hbRun := 0 }).inc w.silCnt
  (m.wev w crit w.cSilence [vl24 (m.rd w.timeout)]).blockSafe w

/-- The Frame's Safe order (R58); the watch stays as it was. (Log: DESIGN CHOICE 133) -/
def blockSafeOrder (m : Mod) (w : Watched) : Mod := if m.awake w.domain = false then m else m.blockQuiet w

/-- The watch declares silence. -/
def blockSilence (m : Mod) (w : Watched) : Mod := if m.rd w.watch ≠ 1 then m else (m.wr w.watch 2).blockQuiet w

/-- The Frame's Hold order (R160). -/
def blockHold (m : Mod) (w : Watched) : Mod :=
  if m.on w.hold ∨ m.awake w.domain = false then m
  else
    let m := (m.wr w.hold 1).onWatch w.blk fun x => { x with holdExp := false, lim := some (m.rd w.lim) }
    w.assert (if m.rd w.watch = 2 then m else m.wr w.watch 3) 1

/-- Hold is released. -/
def blockHoldEnd (m : Mod) (w : Watched) : Mod :=
  if m.rd w.hold = 0 then m
  else
    let m := (m.wr w.hold 0).onWatch w.blk fun x => { x with lim := none }
    w.release (if m.rd w.watch = 3 then m.wr w.watch 0 else m) 1

/-- The Hold limit is reached. -/
def blockHoldLimit (m : Mod) (w : Watched) : Mod :=
  let x := m.watchX w.blk
  if m.rd w.hold = 0 ∨ x.holdExp then m
  else
    let m := m.onWatch w.blk fun x => { x with holdExp := true }
    let m := (m.inc w.expCnt).wev w err w.cLimit [vl16 (x.lim.getD (m.rd w.lim))]
    m.blockSafe w

/-- A write of SAFE_REL takes effect (R162). -/
def blockSafeRel (m : Mod) (w : Watched) : Mod :=
  let x := m.watchX w.blk
  if m.rd w.safe = 0 then m
  else if x.hbRun < 10 then m.wev w warn w.cEarly [vl x.hbRun]
  else w.release ((m.wr w.safe 0).wr w.watch (if m.on w.hold then 3 else 1)) 2

/-- A heartbeat reaches the block. -/
def blockHeartbeat (m : Mod) (w : Watched) : Mod :=
  let x := m.watchX w.blk
  if m.awake w.domain = false then m
  else
    let m := if x.silent then (m.onWatch w.blk fun y => { y with silent := false, buf := [] }).deliver x.buf else m
    let m := if x.hbRun < 10 then m.onWatch w.blk fun y => { y with hbRun := x.hbRun + 1 } else m
    if m.rd w.watch = 0 ∧ x.noArm = false ∧ m.rd w.hold = 0 then m.wr w.watch 1 else m

/-- A tick boundary passes without a heartbeat. -/
def blockNoHeartbeat (m : Mod) (w : Watched) : Mod :=
  if (m.watchX w.blk).hbRun = 0 then m else m.onWatch w.blk fun y => { y with hbRun := 0 }

/-- The Park order disarms the watch (R163); it is armed again after the next power-up. -/
def blockPark (m : Mod) (w : Watched) : Mod := (m.wr w.watch 0).onWatch w.blk fun x => { x with noArm := true }

end Mod
end Sys2Proof.Machine
end

