-- ==== Sys2Proof/Machine/Lighting.lean ====
section
/-! DEFINITION. Lighting (chapter 7): the sinks, the headroom request, the topiary engines, the colour loop, the
neighbour-pin short test. -/
namespace Sys2Proof.Machine
open Reg

/-- `n / d` rounded to the nearest integer, halves away from zero. -/
def roundAway (n d : Int) : Int :=
  let (n, d) := if d < 0 then (-n, -d) else (n, d)
  if 0 ≤ n then (2 * n + d) / (2 * d) else -((2 * (-n) + d) / (2 * d))

/-- A 16-bit two's-complement value. -/
def signed16 (v : Nat) : Int := if v % 65536 < 32768 then (v % 65536 : Nat) else (v % 65536 : Nat) - 65536

namespace Mod

def sink (m : Mod) (n : Nat) : SinkX := SMap.get {} m.sinks n
def onSink (m : Mod) (n : Nat) (f : SinkX → SinkX) : Mod := { m with sinks := SMap.set {} m.sinks n (f (m.sink n)) }
def eng (m : Mod) (e : Nat) : EngX := SMap.get {} m.engs e
def onEng (m : Mod) (e : Nat) (f : EngX → EngX) : Mod := { m with engs := SMap.set {} m.engs e (f (m.eng e)) }

/-- An event of the lighting block (R215, R237). -/
def ledEv (m : Mod) (pg cls code : Nat) (items : List Item) : Mod := m.blockEv 0 pg LED.QEVT_LOST cls code items

/-! ### Sinks (R208 to R217) -/

/-- Output `k` of engine `e` (chapter 7, "Topiary engines"). -/
def engOut (m : Mod) (e k : Nat) : Nat := if (m.rd (TOP.P e)).testBit k then m.rd (TOP.IA e) else m.rd (TOP.IB e)

/-- The loop duty of sink `n` (Table 07-6, LOOP_D). -/
def loopDuty (m : Mod) (n : Nat) : Nat :=
  let t := n / 3
  match n % 3 with
  | 0 => m.rd (CLR.LOOP_D t 0) % 65536
  | 1 => m.rd (CLR.LOOP_D t 0) / 65536
  | _ => m.rd (CLR.LOOP_D t 1) % 65536

/-- Store a loop duty. -/
def setLoopDuty (m : Mod) (n v : Nat) : Mod :=
  let t := n / 3
  match n % 3 with
  | 0 => m.wr (CLR.LOOP_D t 0) (m.rd (CLR.LOOP_D t 0) / 65536 * 65536 + v % 65536)
  | 1 => m.wr (CLR.LOOP_D t 0) (m.rd (CLR.LOOP_D t 0) % 65536 + v % 65536 * 65536)
  | _ => m.wr (CLR.LOOP_D t 1) (v % 65536)

/-- The thermal group of a sink (R217). -/
def sinkGroup (n : Nat) : Nat := n / 8

/-- The sink follows an engine. -/
def engSrc (m : Mod) (n : Nat) : Bool := 1 ≤ m.rd (LED.SRC n) && m.rd (LED.SRC n) ≤ 4

/-- The colour loop of triple `t` gives its sinks duties: a target is in force (R231, R233, R236). (Log: DEDUCED 134) -/
def loopOn (m : Mod) (t : Nat) : Bool := m.rd (CLR.TRI_STATE t) = 1 || m.rd (CLR.TRI_STATE t) = 2

/-- The duty that the effective owner gives a sink (R209, R214). (Log: DEDUCED 134) -/
def sinkOwned (m : Mod) (n : Nat) : Nat :=
  let x := m.sink n
  let src := m.rd (LED.SRC n)
  let e := m.engOut (src - 1) (m.rd (LED.SLOT n))
  match effOf x.own with
    | 0 => if m.engSrc n then e else if src = 5 then (if m.loopOn (n / 3) then m.loopDuty n else 0) else m.rd (LED.SINK_DUTY n)
    | 1 => if m.engSrc n then e else x.hold
    | 2 => if x.safeSel = 1 then x.safe else if x.safeSel = 2 ∧ m.engSrc n then e else 0
    | _ => 0

/-- A group over temperature is off (R217). -/
def sinkWant (m : Mod) (n : Nat) : Nat := if m.bit LED.GROUP_OT (sinkGroup n) then 0 else m.sinkOwned n

/-- A sink switches off at once (R214, R217). -/
def sinkOff (m : Mod) (n : Nat) : Mod := (m.wr (LED.APPLIED n) 0).onSink n fun x => { x with on := false }

/-- Assert an owner state on a sink (R214); the applied duty of a sink in a group over temperature is the one it will resume.
(Log: DEDUCED 141) -/
def sinkAssert (m : Mod) (n o : Nat) : Mod :=
  let x := m.sink n
  if x.own.testBit o then m
  else
    let a := if m.bit LED.GROUP_OT (sinkGroup n) then m.sinkOwned n else m.rd (LED.APPLIED n)
    let m := m.onSink n fun x =>
      { x with own := x.own + 2 ^ o, hold := if o = 1 then a else x.hold, safe := if o = 2 then a else x.safe,
               safeSel := if o = 2 then m.rd (LED.SINK_SAFE n) else x.safeSel }
    let m := m.wr (LED.OWN_EFF n) (effOf (m.sink n).own)
    if o = 3 then m.sinkOff n else m

/-- Release an owner state on a sink; its source's duty applies at the next on-phase start (R214). -/
def sinkRelease (m : Mod) (n o : Nat) : Mod :=
  let x := m.sink n
  if x.own.testBit o then
    let m := m.onSink n fun x => { x with own := x.own - 2 ^ o }
    m.wr (LED.OWN_EFF n) (effOf (m.sink n).own)
  else m

/-- The lighting block as a watched block (R215, R219). -/
def ledW : Watched :=
  { blk := 0, pg := 0x18, watch := LED.WATCH, safe := LED.SAFE, hold := LED.HOLD, silCnt := LED.SILENCE_CNT,
    expCnt := LED.HOLD_EXP_CNT, lost := LED.QEVT_LOST, timeout := LED.HB_TO, lim := LED.HOLD_LIM, cSilence := 0x070A,
    cEarly := 0x070B, cLimit := 0x070D, domain := 28,
    assert := fun m o => forN 48 (fun m n => m.sinkAssert n o) (if o = 2 then m.wr LED.HR_DUTY (m.rd LED.HR_SAFE) else m),
    release := fun m o => forN 48 (fun m n => m.sinkRelease n o) m }

/-- The PWM period in ticks (R210). -/
def ledTicks (m : Mod) : Nat := [10, 20, 40, 100].getD (m.rd LED.PERIOD) 40

/-- The on-time of duty `d` in steps of 5 ns (R211). -/
def ledOn (m : Mod) (d : Nat) : Nat := (2 * d * (m.ledTicks * 2000) + 65535) / 131070

/-- An on-phase of sink `n` starts: the new duty applies (R211); a running neighbour-pin step on this sink is abandoned
when the duty is not 0 (R235). -/
def sinkStart (m : Mod) (n : Nat) : Mod :=
  let d := m.sinkWant n
  let m := if m.on LED.NB_BUSY ∧ m.led.nbNext = n ∧ d ≠ 0 then { m with led := { m.led with nbSkip := true } } else m
  (m.wr (LED.APPLIED n) d).onSink n fun x => { x with on := m.ledOn d ≠ 0 }

/-- The current is below 10 % of the regulated current; currents in 0.1 mA (R212, R216). -/
def lowCurrent (m : Mod) (n cur : Nat) : Bool :=
  let i := m.rd (LED.I_SET n)
  if m.on LED.SCALED then 10 * cur * m.led.demand < i * (m.rd LED.AGG_LIM * 10) else 10 * cur < i

/-- Sink `n` is measured near the end of an on-phase of at least 2 µs (R216); its drop is kept for the headroom of R218. -/
def sinkMeasure (m : Mod) (n drop cur : Nat) : Mod :=
  if (m.sink n).on = false ∨ m.ledOn (m.rd (LED.APPLIED n)) < 400 then m
  else
    let m := m.wr (LED.DROP n) drop
    let m := { m with led := { m.led with drops := SMap.set none m.led.drops n (some drop) } }
    let x := m.sink n
    if drop < 4 ∧ m.lowCurrent n cur then
      let m := m.onSink n fun y => { y with openRun := Nat.min 4 (x.openRun + 1), clearRun := 0 }
      if 4 ≤ x.openRun + 1 ∧ m.rd (LED.OPEN n) = 0 then ((m.wr (LED.OPEN n) 1).inc LED.OPEN_CNT).ledEv 0x18 warn 0x0702 [sj n] else m
    else
      let m := m.onSink n fun y => { y with openRun := 0, clearRun := Nat.min 4 (x.clearRun + 1) }
      if 4 ≤ x.clearRun + 1 then m.wr (LED.OPEN n) 0 else m

/-- Lock is asserted on the sinks of group `g`. -/
def groupLock (m : Mod) (g : Nat) : Mod := forN 8 (fun m i => m.sinkAssert (8 * g + i) 3) m

/-- After Shelf the latches that were kept assert Lock again (R217, Table 13-8). -/
def relock (m : Mod) : Mod := forN 6 (fun m g => if m.bit LED.LATCHED g then m.groupLock g else m) m

/-- The sensor of group `g` reads above 135 °C, or has cooled to it. -/
def setWarm (m : Mod) (g : Nat) (b : Bool) : Mod := { m with led := { m.led with warm := setBit m.led.warm g b } }

/-- A group's sensor reaches 150 °C (R217). -/
def groupHot (m : Mod) (g : Nat) : Mod :=
  if m.bit LED.GROUP_OT g then m
  else
    let m := (m.wrBit LED.GROUP_OT g true).ledEv 0x18 warn 0x0703 [sj g]
    let m := forN 8 (fun m i => m.sinkOff (8 * g + i)) m
    let n := SMap.get 0 m.led.trips g + 1
    let m := { m with led := { m.led with trips := SMap.set 0 m.led.trips g n } }
    if m.rd LED.TH_M ≤ n ∧ m.bit LED.LATCHED g = false then
      ((m.wrBit LED.LATCHED g true).ledEv 0x18 err 0x0704 [sj g]).groupLock g
    else m

/-- A write of TH.LATCH_CLR takes effect (R217): a group whose sensor reads above 135 °C stays latched. -/
def thClear (m : Mod) : Mod :=
  let m := forN 6 (fun m g =>
    if m.bit LED.LATCHED g ∧ m.led.warm.testBit g = false then
      forN 8 (fun m i => m.sinkRelease (8 * g + i) 3) (m.wrBit LED.LATCHED g false)
    else m) m
  { m with led := { m.led with trips := [] } }

/-- Once per tick: the aggregate demand (R212). -/
def ledDemand (m : Mod) : Mod :=
  let d := forN 48 (fun a n => if m.rd (LED.APPLIED n) = 0 then a else a + m.rd (LED.I_SET n)) 0
  let beyond := m.rd LED.AGG_LIM * 10 < d
  let m := { m with led := { m.led with demand := d } }
  if beyond then
    if m.on LED.SCALED then m else ((m.wr LED.SCALED 1).inc LED.SCALE_CNT).ledEv 0x18 warn 0x0701 [vl (quotient d 10)]
  else m.wr LED.SCALED 0

/-- The lowest drop of the latest completed period, but for sinks that are open or under Lock as they stand now (R218). -/
def lowestDrop (m : Mod) : Option Nat :=
  (List.range 48).foldl (fun a n =>
    if m.on (LED.OPEN n) ∨ effOf (m.sink n).own = 3 then a
    else match a, SMap.get none m.led.lastDrops n with
      | some x, some d => some (Nat.min x d)
      | none, d => d
      | x, none => x) none

/-- Once per tick: the headroom duty follows the lowest drop of the latest completed period (R218, R219). -/
def headroom (m : Mod) : Mod :=
  let m := if m.tick % m.ledTicks = 0 then { m with led := { m.led with lastDrops := m.led.drops, drops := [] } } else m
  if m.on LED.SAFE then m
  else match m.lowestDrop with
    | none => m
    | some d =>
      let m := m.wr LED.MIN_DROP d
      let h := m.rd LED.HR_DUTY
      if d < m.rd LED.HR_LO then m.wr LED.HR_DUTY (Nat.min 255 (h + 1))
      else if m.rd LED.HR_HI < d then m.wr LED.HR_DUTY (h - 1) else m

/-! ### The neighbour-pin short test (R235) -/

/-- The neighbours of a sink in its row. -/
def neighbours (n : Nat) : List Nat :=
  (if n % 24 = 0 then [] else [n - 1]) ++ (if n % 24 = 23 then [] else [n + 1])

/-- The step of sink `n` begins: it is skipped where its duty or a neighbour's is not 0. -/
def nbBegin (m : Mod) (n : Nat) : Mod :=
  { m with led := { m.led with nbNext := n, nbSkip := (n :: neighbours n).any fun k => m.rd (LED.APPLIED k) ≠ 0 } }

/-- At a tick boundary a requested test starts, its results clear. -/
def nbStart (m : Mod) : Mod :=
  if m.led.nbPend = false then m
  else
    let m := [LED.NB_SHORT 0, LED.NB_SHORT 1, LED.NB_SKIP 0, LED.NB_SKIP 1, LED.NB_LOW 0, LED.NB_LOW 1].foldl (fun m f => m.wr f 0) m
    ({ m with led := { m.led with nbPend := false } }.wr LED.NB_BUSY 1).nbBegin 0

/-- A write of NB_CTL.GO (R235). -/
def nbGo (m : Mod) : Mod := if m.on LED.NB_BUSY then m else { m with led := { m.led with nbPend := true } }

/-- The step of one sink ends: its own pin is low, the lower and the upper neighbour followed it. -/
def nbStep (m : Mod) (low below above : Bool) : Mod :=
  if m.rd LED.NB_BUSY = 0 then m
  else
    let n := m.led.nbNext
    let r := n / 24
    let i := n % 24
    let m :=
      if m.led.nbSkip then m.wrBit (LED.NB_SKIP r) i true
      else
        let m := if low then m.wrBit (LED.NB_LOW r) i true else m
        let m := if below ∧ i ≠ 0 then (m.wrBit (LED.NB_SHORT r) (i - 1) true).ledEv 0x18 warn 0x0706 [sj (n - 1)] else m
        if above ∧ i ≠ 23 then (m.wrBit (LED.NB_SHORT r) i true).ledEv 0x18 warn 0x0706 [sj n] else m
    if 47 ≤ n then m.wr LED.NB_BUSY 0 else m.nbBegin (n + 1)

/-! ### Topiary engines (R220 to R228) -/

/-- An instruction of Table 07-1. -/
inductive Topi where
  | wait (n : Nat)
  | lda (k : Nat)
  | ldb (k : Nat)
  | rmp (isB : Bool) (n k : Nat)
  | pset (h : Bool) (v : Nat)
  | rot (d : Bool) (w : Nat)
  | shf (i d : Bool) (w : Nat)
  | loop (c a : Nat)
  | ldc (c v : Nat)
  | jmp (a : Nat)
  | flag (f : Nat) (v : Bool)
  | wflg (f : Nat) (v : Bool)
  | fin (z : Bool)

/-- The named operand bits of each opcode (Table 07-1). -/
def topiMask (op : Nat) : Nat :=
  [0xFFF, 0x00F, 0x00F, 0xFFF, 0xFFF, 0x1FF, 0x01F, 0x03F, 0xCFF, 0xCFF, 0x0FF, 0x031, 0x031, 0x001].getD op 0

/-- Decode an instruction word: the instruction, or the fault cause 1 or 2 (R224). -/
def topiDecode (w : Nat) : Except Nat Topi :=
  let op := w / 4096 % 16
  if 14 ≤ op then .error 1
  else if (w % 4096) &&& (0xFFF - topiMask op) ≠ 0 then .error 2
  else
    let b := fun i => w.testBit i
    let c := fld w 11 10
    .ok (match op with
      | 0 => .wait (fld w 11 0)
      | 1 => .lda (fld w 3 0)
      | 2 => .ldb (fld w 3 0)
      | 3 => .rmp false (fld w 11 4) (fld w 3 0)
      | 4 => .rmp true (fld w 11 4) (fld w 3 0)
      | 5 => .pset (b 8) (fld w 7 0)
      | 6 => .rot (b 4) (fld w 3 0)
      | 7 => .shf (b 5) (b 4) (fld w 3 0)
      | 8 => .loop c (fld w 7 0)
      | 9 => .ldc c (fld w 7 0)
      | 10 => .jmp (fld w 7 0)
      | 11 => .flag (fld w 5 4) (b 0)
      | 12 => .wflg (fld w 5 4) (b 0)
      | _ => .fin (b 0))

/-- Move `P[w:0]` by one place with `inBit` entering (R223): `d` false towards higher bits, true towards lower. -/
def movePattern (p w : Nat) (d inBit : Bool) : Nat :=
  let n := 2 ^ (w + 1)
  let low := p % n
  let i := if inBit then 1 else 0
  p / n * n + (if d then low / 2 + i * 2 ^ w else low * 2 % n + i)

/-- Level `k` of engine `e` (Table 07-5, LV). -/
def level (m : Mod) (e k : Nat) : Nat :=
  let v := m.rd (TOP.LV e (k / 2))
  if k % 2 = 0 then v % 65536 else v / 65536

/-- Set PC; its register shows the low eight bits. -/
def setPc (m : Mod) (e pc : Nat) : Mod := (m.wr (TOP.PC e) pc).onEng e fun x => { x with pc := pc }

/-- PC moves to the next instruction. -/
def pcNext (m : Mod) (e : Nat) : Mod := m.setPc e ((m.eng e).pc + 1)

/-- An engine faults (R224): its outputs stay. -/
def engFault (m : Mod) (e cause : Nat) : Mod :=
  (((m.wr (TOP.STATE e) 3).wr (TOP.FCAUSE e) cause).inc TOP.FAULT_CNT).ledEv 0x19 err 0x0705 [sj e, sj (m.rd (TOP.PC e)), sj cause]

/-- A ramp step ends (R225): IA or IB moves, truncated towards its start; after the last the engine may go on. -/
def engRampStep (m : Mod) (e : Nat) : Mod :=
  match (m.eng e).ramp with
  | none => m
  | some r =>
    let j := r.j + 1
    let v := if r.i0 ≤ r.target then r.i0 + (r.target - r.i0) * j / r.n else r.i0 - (r.i0 - r.target) * j / r.n
    let m := m.wr (if r.isB then TOP.IB e else TOP.IA e) v
    if r.n ≤ j then (m.onEng e fun x => { x with ramp := none }).pcNext e
    else m.onEng e fun x => { x with ramp := some { r with j := j, left := m.rd (TOP.RSTEP e) } }

/-- Byte `c` of the counters. -/
def counter (m : Mod) (e c : Nat) : Nat := m.rd (TOP.C e) / 2 ^ (8 * c) % 256

/-- Write byte `c` of the counters. -/
def setCounter (m : Mod) (e c v : Nat) : Mod :=
  let w := m.rd (TOP.C e)
  m.wr (TOP.C e) (w - m.counter e c * 2 ^ (8 * c) + v % 256 * 2 ^ (8 * c))

/-- Execute one instruction on engine `e` (R223, Table 07-1); true where it yields. -/
def topiRun (m : Mod) (e : Nat) (i : Topi) : Mod × Bool :=
  match i with
  | .wait n => (m.onEng e fun x => { x with wait := Nat.max n 1 }, true)
  | .lda k => ((m.wr (TOP.IA e) (m.level e k)).pcNext e, false)
  | .ldb k => ((m.wr (TOP.IB e) (m.level e k)).pcNext e, false)
  | .rmp isB n k =>
    let f := if isB then TOP.IB e else TOP.IA e
    if n = 0 then ((m.wr f (m.level e k)).pcNext e, false)
    else (m.onEng e fun x => { x with ramp := some ⟨isB, m.rd f, m.level e k, n, 0, m.rd (TOP.RSTEP e)⟩ }, true)
  | .pset h v =>
    let p := m.rd (TOP.P e)
    ((m.wr (TOP.P e) (if h then p % 256 + v * 256 else p / 256 * 256 + v)).pcNext e, false)
  | .rot d w =>
    let p := m.rd (TOP.P e)
    ((m.wr (TOP.P e) (movePattern p w d (p.testBit (if d then 0 else w)))).pcNext e, false)
  | .shf i d w => ((m.wr (TOP.P e) (movePattern (m.rd (TOP.P e)) w d i)).pcNext e, false)
  | .loop c a =>
    let v := (m.counter e c + 255) % 256
    let m := m.setCounter e c v
    (if v = 0 then m.pcNext e else m.setPc e a, false)
  | .ldc c v => ((m.setCounter e c v).pcNext e, false)
  | .jmp a => (m.setPc e a, false)
  | .flag f v => ({ m with top := { m.top with flagPend := m.top.flagPend ++ [(f, v)] } }.pcNext e, false)
  | .wflg f v => if m.bit TOP.FLAGS f = v then (m.pcNext e, false) else (m, true)
  | .fin z =>
    let m := m.wr (TOP.STATE e) 0
    (if z then (m.wr (TOP.IA e) 0).wr (TOP.IB e) 0 else m, true)

/-- The instruction word at PC (Table 07-5, PROG). -/
def topiWord (m : Mod) (e : Nat) : Nat :=
  let pc := (m.eng e).pc
  let w := m.rd (TOP.PROG e (pc / 2))
  if pc % 2 = 0 then w % 65536 else w / 65536

/-- Up to `n` instructions, to the first that yields (R222). -/
def engRun (m : Mod) (e : Nat) : Nat → Mod
  | 0 => m
  | n + 1 =>
    if m.rd (TOP.LEN e) ≤ (m.eng e).pc then m.engFault e 3
    else match topiDecode (m.topiWord e) with
      | .error c => m.engFault e c
      | .ok i =>
        let (m, y) := m.topiRun e i
        if y then m else m.engRun e n

/-- One step of a Running engine (R220, R222, R225). -/
def engStep (m : Mod) (e : Nat) : Mod :=
  if m.rd (TOP.STATE e) ≠ 1 then m
  else
    let x := m.eng e
    match x.ramp with
    | some r =>
      if 1 < r.left then m.onEng e fun x => { x with ramp := some { r with left := r.left - 1 } }
      else
        let m := m.engRampStep e
        if (m.eng e).ramp.isSome then m else m.engRun e 8
    | none =>
      if x.wait = 0 then m.engRun e 8
      else if 1 < x.wait then m.onEng e fun x => { x with wait := x.wait - 1 }
      else ((m.onEng e fun x => { x with wait := 0 }).pcNext e).engRun e 8

/-- The flag writes of the frame stand (R226). -/
def flagsLand (m : Mod) : Mod :=
  let l := m.top.flagPend
  if l = [] then m else l.foldl (fun m p => m.wrBit TOP.FLAGS p.1 p.2) { m with top := { m.top with flagPend := [] } }

/-- The steps of the four engines (R220). -/
def engines (m : Mod) : Mod := (forN 4 (fun m e => m.engStep e) m).flagsLand

/-- The engines step, on the block's own timer or not. -/
def enginesStep (m : Mod) (own : Bool) : Mod := { m with top := { m.top with last := some (m.tick, own) } }.engines

/-- The steps at a frame boundary (R228): where its heartbeat has reached the block, and not within 0.5 ms of a local step.
(Log: DEDUCED 135) -/
def enginesFrame (m : Mod) : Mod :=
  if (m.watchX 0).hbRun = 0 then m
  else match m.top.last with
    | some (t, true) => if m.tick < t + 50 then m else m.enginesStep false
    | _ => m.enginesStep false

/-- A step on the block's own timer (R228): 1.02 ms or more after the latest step at a frame boundary, or one period of the timer,
0.98 ms at the least, after the latest of its own. (Log: DEDUCED 135) -/
def enginesLocal (m : Mod) : Mod :=
  match m.top.last with
  | some (t, own) => if m.tick < t + (if own then 98 else 102) then m else m.enginesStep true
  | none => m.enginesStep true

/-- An engine stands still with both intensities 0. -/
def engStop (m : Mod) (e : Nat) : Mod :=
  (((m.wr (TOP.STATE e) 0).wr (TOP.IA e) 0).wr (TOP.IB e) 0).onEng e fun x => { x with ramp := none, wait := 0 }

/-- An engine command (R221): a faulted engine answers START alone (R224). (Log: DEDUCED 136) -/
def engCommand (m : Mod) (e op addr : Nat) : Mod :=
  match op with
  | 0 => if m.rd (TOP.STATE e) = 3 then m else m.engStop e
  | 1 =>
    let m := (m.onEng e fun x => { x with ramp := none, wait := 0 }).setPc e addr
    let m := [TOP.P e, TOP.IA e, TOP.IB e, TOP.C e].foldl (fun m f => m.wr f 0) m
    if m.rd (TOP.LEN e) ≤ addr then m.engFault e 4 else (m.wr (TOP.FCAUSE e) 0).wr (TOP.STATE e) 1
  | 2 => if m.rd (TOP.STATE e) = 1 then m.wr (TOP.STATE e) 2 else m
  | 3 => if m.rd (TOP.STATE e) = 2 then m.wr (TOP.STATE e) 1 else m
  | 4 => { m with top := { m.top with flagPend := m.top.flagPend ++ [(addr % 4, addr.testBit 2)] } }
  | _ => m

/-- One instruction on engine `e`, which runs it where it is Running and neither waits nor ramps. -/
def engOne (m : Mod) (e : Nat) (i : Topi) : Mod :=
  let x := m.eng e
  if m.rd (TOP.STATE e) = 1 ∧ x.wait = 0 ∧ x.ramp = none then (m.topiRun e i).1 else m

/-! ### The colour loop (R229 to R234) -/

/-- Entry `i` of the matrix of triple `t` (Table 07-6, M), row by row. -/
def mat (m : Mod) (t i : Nat) : Int :=
  let w := m.rd (CLR.M t (i / 2))
  signed16 (if i % 2 = 0 then w % 65536 else w / 65536)

/-- The determinant, with 36 fraction bits. -/
def matDet (m : Mod) (t : Nat) : Int :=
  let a := m.mat t
  a 0 * (a 4 * a 8 - a 5 * a 7) - a 1 * (a 3 * a 8 - a 5 * a 6) + a 2 * (a 3 * a 7 - a 4 * a 6)

/-- Entry (i, j) of the adjugate. -/
def matAdj (m : Mod) (t i j : Nat) : Int :=
  let a := m.mat t
  let e := fun r c => a (3 * (r % 3) + c % 3)
  e (j + 1) (i + 1) * e (j + 2) (i + 2) - e (j + 1) (i + 2) * e (j + 2) (i + 1)

/-- The target count of colour `i` for the target x, y, Y_t (R233); y and the determinant are not 0. -/
def targetCount (m : Mod) (t i : Nat) : Int :=
  let x : Int := m.rd (CLR.X t)
  let y : Int := m.rd (CLR.Y t)
  let l : Int := m.rd (CLR.LUM t)
  let num := m.matAdj t i 0 * (x * l) + m.matAdj t i 1 * (y * l) + m.matAdj t i 2 * ((65536 - x - y) * l)
  roundAway (4096 * num) (y * m.matDet t)

/-- A rejected target leaves the previous one in force (R233); a triple with none in force shows REJECTED. -/
def targetReject (m : Mod) (t cause : Nat) : Mod :=
  let st := m.rd (CLR.TRI_STATE t)
  let m := if st = 1 ∨ st = 2 then m else m.wr (CLR.TRI_STATE t) 3
  m.ledEv 0x1A err 0x0708 [sj t, sj cause]

/-- TGT_Y.APPLY acts (R233). (Log: DESIGN CHOICE 137) -/
def targetApply (m : Mod) (t : Nat) : Mod :=
  let det := m.matDet t
  if -16777216 < det ∧ det < 16777216 then m.targetReject t 1
  else if m.rd (CLR.Y t) = 0 then m.targetReject t 2
  else
    let s := fun i => m.targetCount t i
    if [0, 1, 2].any fun i => s i < 1 ∨ 65535 < s i then m.targetReject t 3
    else
      let was := m.rd (CLR.TRI_STATE t)
      -- NO_SENSOR counts as a loop that is not active. (Log: DESIGN CHOICE 137)
      let m' := (m.wr (CLR.ST t 0) ((s 0).toNat + (s 1).toNat * 65536)).wr (CLR.ST t 1) (s 2).toNat
      let m' := if was = 1 then m' else forN 3 (fun m i => m.setLoopDuty (3 * t + i) (m.rd (LED.SINK_DUTY (3 * t + i)))) m'
      m'.wr (CLR.TRI_STATE t) 1

/-- The target count of colour `i` in force. -/
def stOf (m : Mod) (t i : Nat) : Nat :=
  match i with
  | 0 => m.rd (CLR.ST t 0) % 65536
  | 1 => m.rd (CLR.ST t 0) / 65536
  | _ => m.rd (CLR.ST t 1) % 65536

/-- The loop law for one colour (R234); where no target is in force and the count is 0, e is 0 by 0 and its change within the limits of e
is open. (Log: DESIGN CHOICE 138) -/
def loopLaw (m : Mod) (t i s : Nat) : Mod :=
  let st : Int := m.stOf t i
  let n := 3 * t + i
  let d : Int := m.loopDuty n
  let g : Int := m.rd (CLR.GAIN t)
  let diff := st - (s : Int)
  let step := if st = 0 ∧ diff = 0 then max (-(roundAway (d * g) 64)) (min (roundAway (d * g) 64) (Config.loopFree d.toNat g.toNat))
    else if st < 4 * diff then roundAway (d * g) 64
    else if 4 * diff < -st then roundAway (-(d * g)) 64 else roundAway (d * g * diff) (16 * st)
  let v := d + step
  let m := m.setLoopDuty n (if v < 1 then 1 else if 65535 < v then 65535 else v.toNat)
  if v < 1 ∨ 65535 < v then m.ledEv 0x1A info 0x070C [sj t, sj i] else m

/-- A published value `num / den`: how it is rounded is open. (Log: DESIGN CHOICE 32, DESIGN CHOICE 33) -/
def published (num den : Int) : Nat :=
  if den ≤ 0 ∨ num < 0 ∨ 65536 * den ≤ num then Config.measOut num den
  else Nat.min 65535 ((num / den).toNat + (if Config.roundUp num.toNat den.toNat then 1 else 0))

/-- The block publishes the measured x, y and Y (R234). -/
def publishColour (m : Mod) (t r g b : Nat) : Mod :=
  let row := fun i => m.mat t (3 * i) * (r : Int) + m.mat t (3 * i + 1) * (g : Int) + m.mat t (3 * i + 2) * (b : Int)
  let sum := row 0 + row 1 + row 2
  let x := published (65536 * row 0) sum
  let y := published (65536 * row 1) sum
  (m.wr (CLR.MXY t) (x % 65536 + y % 65536 * 65536)).wr (CLR.MLUM t) (published (row 1) 4096)

/-- Byte `i` of a sensor answer. -/
def answerByte (data i : Nat) : Nat := data / 2 ^ (8 * i) % 256

/-- Count `k` of a sensor answer, in the triple's byte order (R230). -/
def answerCount (m : Mod) (t data k : Nat) : Nat :=
  let a := answerByte data (2 * k)
  let b := answerByte data (2 * k + 1)
  if m.on (CLR.BE t) then a * 256 + b else a + b * 256

/-- A failed read (R231). -/
def sensorFail (m : Mod) (t : Nat) : Mod :=
  let m := m.inc (CLR.FAILS t)
  if m.rd (CLR.FAILS t) = 8 then (m.wr (CLR.TRI_STATE t) 2).ledEv 0x1A warn 0x0707 [sj t] else m

/-- A good read (R231, R234). -/
def sensorGood (m : Mod) (t data : Nat) : Mod :=
  let s := fun k => m.answerCount t data k
  let m' := m.wr (CLR.FAILS t) 0
  let m' := if m.rd (CLR.TRI_STATE t) = 2 then m'.wr (CLR.TRI_STATE t) 1 else m'
  let m' := (m'.wr (CLR.MEAS t 0) (s 0 + s 1 * 65536)).wr (CLR.MEAS t 1) (s 2 + s 3 * 65536)
  if m'.rd (CLR.TRI_STATE t) ≠ 1 then m'
  else
    let m' := m'.publishColour t (s 0) (s 1) (s 2)
    if ([0, 1, 2, 3].any fun k => s k = 0xFFFF) ∨ m.on LED.SCALED ∨ ([0, 1, 2].any fun i => m.rd (LED.OWN_EFF (3 * t + i)) ≠ 0) then m'
    else ((m'.loopLaw t 0 (s 0)).loopLaw t 1 (s 1)).loopLaw t 2 (s 2)

/-- The triples left in a bus's read cycle. -/
def cyc (m : Mod) (b : Nat) : List Nat := if b = 0 then m.clr.cyc0 else m.clr.cyc1
def setCyc (m : Mod) (b : Nat) (l : List Nat) : Mod :=
  { m with clr := if b = 0 then { m.clr with cyc0 := l } else { m.clr with cyc1 := l } }

/-- The lighting block runs: no Park order has stopped it since its power-up. -/
def ledRuns (m : Mod) : Bool := m.awake 28 && !(m.watchX 0).noArm

/-- A bus starts a read cycle, or skips it while one runs (R230): at a frame boundary whose frame count is a multiple of PERIOD.
(Log: DESIGN CHOICE 139) -/
def readCycle (m : Mod) (b : Nat) : Mod :=
  if m.rd (CLR.BUS_EN b) = 0 ∨ m.tick % (100 * m.rd CLR.PERIOD) ≠ 0 ∨ m.ledRuns = false then m
  else if m.cyc b ≠ [] then m.inc CLR.OVERRUN_CNT
  else m.setCyc b ((List.range 16).filter fun t => m.on (CLR.TRI_EN t) && decide (m.rd (CLR.TRI_BUS t) = b))

/-- The read of the next triple of a bus's cycle ends. -/
def sensorRead (m : Mod) (b : Nat) (ok : Bool) (data : Nat) : Mod :=
  match m.cyc b with
  | [] => m
  | t :: rest =>
    let m := m.setCyc b rest
    if ok then m.sensorGood t data else m.sensorFail t

/-- The bus is stuck (R229), in a read of its cycle, which fails (R231), or in a raw transfer, which does not: it is recovered. -/
def busStuck (m : Mod) (b : Nat) (read : Bool) : Mod :=
  let free := fun (m : Mod) => (m.inc CLR.RECOV_CNT).ledEv 0x1A warn 0x0709 [sj b]
  if read then (if m.cyc b = [] then m else (free m).sensorRead b false 0)
  else if m.on CLR.XF_BUSY ∧ m.rd CLR.XF_BUS = b then free m else m

/-- A write of XF_CTL (R232); one that finds a transfer pending changes nothing. -/
def rawTransfer (m : Mod) (v : Nat) : Mod :=
  if m.on CLR.XF_BUSY then m
  else
    let m := (((m.wr CLR.XF_BUS v).wr CLR.XF_ADDR (v / 2)).wr CLR.WLEN (v / 256)).wr CLR.RLEN (v / 65536)
    if v.testBit 31 then m.wr CLR.XF_BUSY 1 else m

/-- A raw transfer ends (R232): the bytes read replace the first RLEN bytes of XF_DATA. -/
def rawDone (m : Mod) (nack : Bool) (data : Nat) : Mod :=
  if m.rd CLR.XF_BUSY = 0 then m
  else
    let m := (m.wr CLR.XF_BUSY 0).wrB CLR.XF_NACK nack
    if nack then m
    else forN (Nat.min 16 (m.rd CLR.RLEN)) (fun m i =>
      let f := CLR.XF_DATA (i / 4)
      let w := m.rd f
      let k := 2 ^ (8 * (i % 4))
      m.wr f (w - w / k % 256 * k + answerByte data i * k)) m

/-! ### Park entry (R236) -/

/-- Park or Shelf entry of the lighting block (R219, R236): what an owner held of a sink's duty goes with it, and no engine stays Running,
Paused or Faulted (Table 13-8). (Log: DEDUCED 136) -/
def ledPark (m : Mod) : Mod :=
  let m := forN 48 (fun m n =>
    ((m.sinkOff n).wr (LED.SINK_DUTY n) 0).onSink n fun x => { x with hold := 0, safe := 0 }) (m.blockPark ledW)
  let m := forN 4 (fun m e => m.engStop e) m
  let m := forN 16 (fun m t => m.wr (CLR.TRI_STATE t) 0) m
  let m := (((m.wr TOP.FLAGS 0).wr LED.HR_DUTY 0).wr LED.NB_BUSY 0).wr CLR.XF_BUSY 0
  { m with top := {}, clr := {}, led := { m.led with nbPend := false, drops := [], lastDrops := [] } }

end Mod

/-! ### The commands -/

/-- SINK_CMD_WRITE (R209, R213). -/
def execSinkCmdWrite (n : Fin 48) (v : BitVec 16) (w : Writer) (s : State) : Out :=
  s.next fun m =>
    match w with
    | .pair => m.pairCommit (Mod.regAddr 0x18 (0x104 + 0x10 * n)) v.toNat
    | .vinko => (m.inc LED.VNK_REJ_CNT).inc VNK.DENIED_CNT

/-- SINK_PERIOD_START (R210, R211). -/
def execSinkPeriodStart (n : Fin 48) (s : State) : Out := s.next fun m => m.sinkStart n

/-- SINK_ON_END (R211): an on-time of the whole period has no off-phase. -/
def execSinkOnEnd (n : Fin 48) (s : State) : Out :=
  s.next fun m => if m.ledTicks * 2000 ≤ m.ledOn (m.rd (LED.APPLIED n)) then m else m.onSink n fun x => { x with on := false }

/-- SINK_MEASURE (R216). -/
def execSinkMeasure (n : Fin 48) (drop : BitVec 8) (cur : BitVec 10) (s : State) : Out :=
  s.next fun m => m.sinkMeasure n drop.toNat cur.toNat

/-- GROUP_OVERTEMP (R217): the group's sensor, in °C, on its way up: it trips at 150. -/
def execGroupOvertemp (g : GroupTemp) (s : State) : Out :=
  s.next fun m =>
    let m := if 135 < g.t.toNat then m.setWarm g.g true else m
    if 150 ≤ g.t.toNat then m.groupHot g.g else m

/-- GROUP_RESUME (R217): the sinks take their duties at their next on-phase start, but for a latched group. -/
def execGroupResume (g : Fin 6) (s : State) : Out := s.next fun m => (m.setWarm g false).wrBit LED.GROUP_OT g false

/-- TH_LATCH_CLR (R217). -/
def execThLatchClr (s : State) : Out := s.next fun m => m.thClear

/-- STOP (R221). -/
def execStop (e : Fin 4) (s : State) : Out := s.next fun m => m.engCommand e 0 0

/-- START (R221). -/
def execStart (e : Fin 4) (addr : BitVec 8) (s : State) : Out := s.next fun m => m.engCommand e 1 addr.toNat

/-- PAUSE (R221). -/
def execPause (e : Fin 4) (s : State) : Out := s.next fun m => m.engCommand e 2 0

/-- RESUME (R221). -/
def execResume (e : Fin 4) (s : State) : Out := s.next fun m => m.engCommand e 3 0

/-- FLAG, the engine command (R221, R226). -/
def execFlag (e : Fin 4) (addr : BitVec 8) (s : State) : Out := s.next fun m => m.engCommand e 4 addr.toNat

/-- WAIT (R223). -/
def execWait (e : Fin 4) (n : BitVec 12) (s : State) : Out := s.next fun m => m.engOne e (.wait n.toNat)

/-- LDA (R223). -/
def execLda (e : Fin 4) (k : Fin 16) (s : State) : Out := s.next fun m => m.engOne e (.lda k)

/-- LDB (R223). -/
def execLdb (e : Fin 4) (k : Fin 16) (s : State) : Out := s.next fun m => m.engOne e (.ldb k)

/-- RMPA (R225). -/
def execRmpa (e : Fin 4) (n : BitVec 8) (k : Fin 16) (s : State) : Out := s.next fun m => m.engOne e (.rmp false n.toNat k)

/-- RMPB (R225). -/
def execRmpb (e : Fin 4) (n : BitVec 8) (k : Fin 16) (s : State) : Out := s.next fun m => m.engOne e (.rmp true n.toNat k)

/-- PSET (R223). -/
def execPset (e : Fin 4) (h : Bool) (v : BitVec 8) (s : State) : Out := s.next fun m => m.engOne e (.pset h v.toNat)

/-- ROT (R223). -/
def execRot (e : Fin 4) (d : Bool) (w : Fin 16) (s : State) : Out := s.next fun m => m.engOne e (.rot d w)

/-- SHF (R223). -/
def execShf (e : Fin 4) (i d : Bool) (w : Fin 16) (s : State) : Out := s.next fun m => m.engOne e (.shf i d w)

/-- LOOP (R223). -/
def execLoop (e : Fin 4) (c : Fin 4) (a : BitVec 8) (s : State) : Out := s.next fun m => m.engOne e (.loop c a.toNat)

/-- LDC (R223). -/
def execLdc (e : Fin 4) (c : Fin 4) (v : BitVec 8) (s : State) : Out := s.next fun m => m.engOne e (.ldc c v.toNat)

/-- JMP (R223). -/
def execJmp (e : Fin 4) (a : BitVec 8) (s : State) : Out := s.next fun m => m.engOne e (.jmp a.toNat)

/-- FLAG, the instruction (R223, R226). -/
def execFlagInstruction (e f : Fin 4) (v : Bool) (s : State) : Out := s.next fun m => m.engOne e (.flag f v)

/-- WFLG (R223, R226). -/
def execWflg (e f : Fin 4) (v : Bool) (s : State) : Out := s.next fun m => m.engOne e (.wflg f v)

/-- END, the instruction (R223). -/
def execEndInstruction (e : Fin 4) (z : Bool) (s : State) : Out := s.next fun m => m.engOne e (.fin z)

/-- RAMP_STEP (R225): on a Running engine. -/
def execRampStep (e : Fin 4) (s : State) : Out := s.next fun m => if m.rd (TOP.STATE e) = 1 then m.engRampStep e else m

/-- ENGINE_LOCAL_STEP (R228). -/
def execEngineLocalStep (s : State) : Out :=
  s.next fun m => m.enginesLocal

/-- A write of a program word (R227): ignored while the engine runs or is paused. -/
def Mod.progWrite (m : Mod) (e i v : Nat) : Mod :=
  if m.rd (TOP.STATE e) = 0 ∨ m.rd (TOP.STATE e) = 3 then m.wr (TOP.PROG e i) v else m.inc TOP.PROG_REJ_CNT

/-- PROG_WRITE (R227): the pair's write leaves at the tick boundary; refused while the key is closed (R482). -/
def execProgWrite (e : Fin 4) (i : Fin 128) (v : Word) (w : Writer) (s : State) : Out :=
  s.next fun m => match w with
    | .pair => m.pairCommit (Mod.regAddr 0x19 (0x800 + 0x200 * e + 4 * i)) v.toNat
    | .vinko => if m.keyOpen 0x19 then m.progWrite e i v.toNat else m.keyReject 0x19 (0x800 + 0x200 * e + 4 * i) 1

/-- READ_CYCLE (R230). -/
def execReadCycle (b : Fin 2) (s : State) : Out := s.next fun m => m.readCycle b

/-- SENSOR_READ (R231, R234). -/
def execSensorRead (b : Fin 2) (ok : Bool) (data : BitVec 64) (s : State) : Out := s.next fun m => m.sensorRead b ok data.toNat

/-- BUS_STUCK (R229). -/
def execBusStuck (b : StuckBus) (s : State) : Out := s.next fun m => m.busStuck b.b b.read

/-- RAW_TRANSFER (R232). -/
def execRawTransfer (v : Word) (s : State) : Out := s.next fun m => m.rawTransfer v.toNat

/-- RAW_TRANSFER_DONE (R232). -/
def execRawTransferDone (nack : Bool) (data : BitVec 128) (s : State) : Out := s.next fun m => m.rawDone nack data.toNat

/-- APPLY (R233). -/
def execApply (t : Fin 16) (s : State) : Out := s.next fun m => m.targetApply t

/-- NEIGHBOUR_PIN_SHORT_TEST (R235). -/
def execNeighbourPinShortTest (s : State) : Out := s.next fun m => m.nbGo

/-- NEIGHBOUR_STEP (R235). -/
def execNeighbourStep (low below above : Bool) (s : State) : Out := s.next fun m => m.nbStep low below above

end Sys2Proof.Machine
end

