-- ==== Sys2Proof/Machine/FieldIO.lean ====
section
/-! DEFINITION. Field inputs and outputs (chapter 8): switch inputs, counting inputs, low-side outputs, the fault bit and the
diagnostic command. -/
namespace Sys2Proof.Machine
open Reg

namespace Mod

def ls (m : Mod) (k : Nat) : LsX := SMap.get {} m.lss k
def onLs (m : Mod) (k : Nat) (f : LsX → LsX) : Mod := { m with lss := SMap.set {} m.lss k (f (m.ls k)) }
def ci (m : Mod) (j : Nat) : CiX := SMap.get {} m.cis j
def onCi (m : Mod) (j : Nat) (f : CiX → CiX) : Mod := { m with cis := SMap.set {} m.cis j (f (m.ci j)) }
def onFio (m : Mod) (f : FioX → FioX) : Mod := { m with fio := f m.fio }

/-- An event of the field I/O block (R253, R259). -/
def fioEv (m : Mod) (cls code : Nat) (items : List Item) : Mod := m.blockEv 1 0x16 FIO.QEVT_LOST cls code items

/-! ### The fault latches (R254) -/

/-- Some latch is set. -/
def anyLatch (m : Mod) : Bool := (m.fio.ov ||| m.fio.oc ||| m.fio.th ||| m.fio.ol) ≠ 0

/-- FAULT follows the latches; a rise is counted and reported. (Log: DEDUCED 39) -/
def fioFault (m : Mod) : Mod :=
  if m.anyLatch then
    if m.on FIO.FAULT then m else (((m.wr FIO.FAULT 1).irq 0x16 0).inc FIO.FAULT_CNT).fioEv warn 0x0801 []
  else m.wr FIO.FAULT 0

/-! ### Switch inputs (R239 to R244) -/

/-- A closure starts a cleaning pulse, or waits for one (R244); one during the input's own pulse starts it anew. (Log: DEDUCED 140) -/
def cleanStart (m : Mod) (i : Nat) : Mod :=
  if m.rd (FIO.CLEAN i) = 0 ∨ m.rd (FIO.DI_SET i) < 2 then m
  else if m.fio.cleaning.contains i then m.onFio fun x => { x with cleaning := x.cleaning.filter (· ≠ i) ++ [i] }
  else if m.fio.cleaning.length < 8 then m.onFio fun x => { x with cleaning := x.cleaning ++ [i] }
  else if m.fio.waiting.contains i then m
  else (m.inc FIO.CLEAN_DEFER_CNT).onFio fun x => { x with waiting := x.waiting ++ [i] }

/-- The filtered state of an input takes its raw level (R241, R242). -/
def filtTake (m : Mod) (i : Nat) : Mod :=
  let b := m.bit FIO.DI_RAW i
  if m.bit FIO.DI_FILT i = b then m
  else
    let m := (((m.wrBit FIO.DI_FILT i b).wrBit FIO.DI_EDGE i true).irq 0x16 2).onFio fun x => { x with edges := setBit x.edges i true }
    if b != m.on (FIO.INV i) then m.cleanStart i
    else if m.fio.waiting.contains i then m.onFio fun x => { x with waiting := x.waiting.filter (· ≠ i) } else m

/-- The raw level of an input (R239); with DEB 0 the filtered state is the raw level (R241). -/
def rawShow (m : Mod) (i : Nat) : Mod :=
  let m := m.wrBit FIO.DI_RAW i (m.fio.level.testBit i != m.on (FIO.INV i))
  if m.rd (FIO.DEB i) = 0 then m.filtTake i else m

/-- The comparator of an input crosses a threshold (R239). -/
def rawLevel (m : Mod) (i : Nat) (on : Bool) : Mod := (m.onFio fun x => { x with level := setBit x.level i on }).rawShow i

/-- A cleaning pulse ends; the lowest-numbered waiting input is served next (R244). -/
def cleanEnd (m : Mod) (i : Nat) : Mod :=
  if m.fio.cleaning.contains i then
    let m := m.onFio fun x => { x with cleaning := x.cleaning.filter (· ≠ i) }
    match m.fio.waiting.min? with
    | some n => m.onFio fun x => { x with waiting := x.waiting.filter (· ≠ n), cleaning := x.cleaning ++ [n] }
    | none => m
  else m

/-! ### Counting inputs (R245, R246) -/

/-- An edge of a counting input at cycle `cyc`. -/
def ciEdge (m : Mod) (j : Nat) (rising : Bool) (cyc : Nat) : Mod :=
  let e := m.rd (FIO.EDGE j)
  if m.rd (FIO.CI_EN j) = 0 ∨ (e = 0 ∧ rising = false) ∨ (e = 1 ∧ rising) then m
  else (m.wr (FIO.CI_COUNT j) (m.rd (FIO.CI_COUNT j) + 1)).onCi j fun x => { x with k := x.k + 1, last := m.stamp cyc }

/-- A counting window ends: at a frame boundary whose frame count is a multiple of GATE (R246). -/
def ciWindow (m : Mod) (j : Nat) : Mod :=
  let x := m.ci j
  let m' := (m.sat (FIO.NWIN j) x.k).wr (FIO.SAT j) 0
  let stale := (m'.wr (FIO.CI_PERIOD j) 0xFFFFFFFF).wr (FIO.STALE j) 1
  if m.rd (FIO.CI_EN j) = 0 ∨ m.tick % (100 * m.rd (FIO.GATE j)) ≠ 0 then m
  else if x.k = 0 then stale
  else
    match x.ref with
    | none => stale.onCi j fun y => { y with k := 0, ref := some x.last }
    | some r =>
      let v := (32 * (x.last - r) + x.k) / (2 * x.k)
      let m' := if 0xFFFFFFFE < v then (m'.wr (FIO.CI_PERIOD j) 0xFFFFFFFF).wr (FIO.SAT j) 1 else m'.wr (FIO.CI_PERIOD j) v
      (m'.wr (FIO.STALE j) 0).onCi j fun y => { y with k := 0, ref := some x.last }

/-! ### Low-side outputs (R247 to R252) -/

/-- The state the effective owner gives an output (R252): its applied state, which it resumes when it has cooled. -/
def lsOwned (m : Mod) (k : Nat) : Bool :=
  let x := m.ls k
  if m.bit FIO.LS_LOCK k then false
  else match effOf x.own with
    | 0 => m.bit FIO.LS_VAL k
    | 1 => x.hold
    | 2 => if x.safeSel = 1 then true else if x.safeSel = 2 then x.safe else false
    | _ => false

/-- A hot output is off (R250). -/
def lsWant (m : Mod) (k : Nat) : Bool := !(m.ls k).hot && m.lsOwned k

/-- The output takes its state; LS_STAT shows it and its effective owner. -/
def lsApply (m : Mod) (k : Nat) : Mod :=
  let o := if m.bit FIO.LS_LOCK k then 3 else effOf (m.ls k).own
  let w := m.rd FIO.LS_OWN
  let m := m.wr FIO.LS_OWN (w - w / 4 ^ k % 4 * 4 ^ k + o * 4 ^ k)
  let m := m.wrBit FIO.LS_OUT k (m.lsWant k)
  if m.bit FIO.LS_OUT k then m.onFio fun x => { x with olNow := setBit x.olNow k false } else m

/-- The Frame owner's command of an output (R247). -/
def lsCommand (m : Mod) (k : Nat) (on : Bool) : Mod := (m.wrBit FIO.LS_VAL k on).lsApply k

/-- A pair write of LS_CMD at the boundary: the outputs whose MASK bit is 1. -/
def lsCmdWord (m : Mod) (v : Nat) : Mod :=
  forN 8 (fun m k => if v.testBit (8 + k) then m.lsCommand k (v.testBit k) else m) m

/-- Assert Hold or Safe on an output (R252); the applied state of a hot one is the state it will resume. (Log: DEDUCED 141) -/
def lsAssert (m : Mod) (k o : Nat) : Mod :=
  let x := m.ls k
  if x.own.testBit o then m
  else
    let a := m.lsOwned k
    let m := m.onLs k fun x =>
      { x with own := x.own + 2 ^ o, hold := if o = 1 then a else x.hold, safe := if o = 2 then a else x.safe,
               safeSel := if o = 2 then m.rd (FIO.LS_SAFE k) else x.safeSel }
    m.lsApply k

/-- Release Hold or Safe on an output. -/
def lsRelease (m : Mod) (k o : Nat) : Mod :=
  if (m.ls k).own.testBit o then (m.onLs k fun x => { x with own := x.own - 2 ^ o }).lsApply k else m

/-- The field I/O block as a watched block (R253). -/
def fioW : Watched :=
  { blk := 1, pg := 0x16, watch := FIO.WATCH, safe := FIO.SAFE, hold := FIO.HOLD, silCnt := FIO.SILENCE_CNT,
    expCnt := FIO.HOLD_EXP_CNT, lost := FIO.QEVT_LOST, timeout := FIO.HB_TO, lim := FIO.HOLD_LIM, cSilence := 0x080A,
    cEarly := 0x080B, cLimit := 0x080C, domain := 29,
    assert := fun m o => forN 8 (fun m k => m.lsAssert k o) m, release := fun m o => forN 8 (fun m k => m.lsRelease k o) m }

/-- An output that is on has been in current limit for 50 µs (R249). -/
def lsLimit (m : Mod) (k : Nat) : Mod :=
  if m.bit FIO.LS_OUT k = false then m
  else ((m.onFio fun x => { x with oc := setBit x.oc (40 + k) true }).wrBit FIO.LS_LOCK k true |>.lsApply k).fioFault

/-- A junction reaches 175 °C (R250). -/
def lsHot (m : Mod) (k : Nat) : Mod :=
  ((m.onFio fun x => { x with th := setBit x.th (40 + k) true }).onLs k (fun x => { x with hot := true }) |>.lsApply k).fioFault

/-! ### The diagnostic command (R255, R256) -/

/-- A diagnostic command is released at a tick boundary. -/
def fioDiag (m : Mod) (ch kind : Nat) : Mod :=
  if m.on FIO.DIAG_BUSY then m.inc FIO.DIAG_REJ_CNT
  else
    ((((m.wr FIO.DIAG_BUSY 1).wr FIO.RES_VALID 0).wr FIO.DIAG_CH ch).wr FIO.DIAG_KIND kind).onFio fun x =>
      { x with diagRun := some (ch, kind), diagDue := m.tick + 100 }

/-- The cause bits of a channel (Table 08-7, CAUSE). -/
def causeBits (m : Mod) (ch : Nat) (test : Bool) : Nat :=
  let b := fun (p : Bool) (i : Nat) => if p then 2 ^ i else 0
  b (m.fio.ov.testBit ch) 0 + b (m.fio.oc.testBit ch) 1 + b (m.fio.th.testBit ch) 2 + b (m.fio.ol.testBit ch) 3 + b test 4 +
    b (40 ≤ ch && m.bit FIO.LS_LOCK (ch - 40)) 5

/-- READ_CLEAR at the answer: the latches and the Lock of the channel; a cause that persists latches again at once: a voltage still above
36 V, a junction still hot, a drain still low in the off state. (Log: DEDUCED 39) -/
def readClear (m : Mod) (ch : Nat) : Mod :=
  let k := ch - 40
  let low := decide (40 ≤ ch) && m.fio.olNow.testBit k && m.on (FIO.OL_EN k)
  let m := m.onFio fun x => { x with ov := setBit x.ov ch (x.ovNow.testBit ch), oc := setBit x.oc ch false, ol := setBit x.ol ch low,
                                     th := setBit x.th ch (decide (40 ≤ ch) && (m.ls k).hot) }
  let m := if 40 ≤ ch then (m.wrBit FIO.LS_LOCK (ch - 40) false).lsApply (ch - 40) else m
  m.fioFault

/-- The answer, 100 ticks after the release: `value` the voltage, `fail` the outcome of a comparator test. -/
def fioAnswer (m : Mod) (value : Nat) (fail : Bool) : Mod :=
  match m.fio.diagRun with
  | none => m
  | some (ch, kind) =>
    if m.tick < m.fio.diagDue then m else
    let bad := 48 ≤ ch || kind = 3
    let off := 40 ≤ ch && !m.bit FIO.LS_OUT (ch - 40)
    let m := if !bad && kind = 2 && off && value < 32 then (m.onFio fun x => { x with ol := setBit x.ol ch true }).fioFault else m
    let cause := if bad then 64 else m.causeBits ch (kind = 2 && ch < 40 && fail)
    let m := ((((m.wr FIO.RES_CH ch).wr FIO.RES_KIND kind).wr FIO.RES_CAUSE cause).wr FIO.RES_VALUE value).wr FIO.RES_VALID 1
    let m := ((m.wr FIO.DIAG_BUSY 0).irq 0x16 1).onFio fun x => { x with diagRun := none }
    let m := if cause = 0 then m else m.fioEv info 0x0802 [sj ch, sj cause]
    if !bad && kind = 1 then m.readClear ch else m

/-- At a tick boundary the commands written through a window since the one before are released. -/
def fioRelease (m : Mod) : Mod :=
  m.fio.diagPend.foldl (fun m p => m.fioDiag p.1 p.2) (m.onFio fun x => { x with diagPend := [] })

/-- A write of DIAG_CMD with GO 1 (R255): the pair's is released with its commit, a window's waits for the next boundary. -/
def diagWrite (m : Mod) (w : Writer) : Mod :=
  let ch := m.rd FIO.DIAG_CH
  let kind := m.rd FIO.DIAG_KIND
  match w with
  | .pair => m.fioDiag ch kind
  | .vinko => m.onFio fun x => { x with diagPend := x.diagPend ++ [(ch, kind)] }

/-- Park or Shelf entry (R258). -/
def fioPark (m : Mod) : Mod :=
  let m := forN 8 (fun m k => m.lsApply k) ((m.blockPark fioW).wr FIO.LS_VAL 0)
  let m := forN 8 (fun m j =>
    ((m.wr (FIO.CI_PERIOD j) 0xFFFFFFFF).wr (FIO.STALE j) 1).onCi j fun _ => {}) m
  (m.wr FIO.DIAG_BUSY 0).onFio fun x => { x with cleaning := [], waiting := [], diagRun := none, diagPend := [] }

end Mod

/-! ### The commands -/

/-- RAW_LEVEL_CHANGE (R239, R241); in Park the AON domain senses the inputs (R257). -/
def execRawLevelChange (i : Fin 32) (on : Bool) (s : State) : Out := s.next fun m => if 2 ≤ m.pstate then m else m.rawLevel i on

/-- DEBOUNCE_EXPIRE (R241, R242, R244). -/
def execDebounceExpire (i : Fin 32) (s : State) : Out := s.next fun m => if 2 ≤ m.pstate then m else m.filtTake i

/-- CLEANING_PULSE_END (R244). -/
def execCleaningPulseEnd (i : Fin 32) (s : State) : Out := s.next fun m => m.cleanEnd i

/-- INPUT_OV (R243): the input has stayed above 36 V for 1 ms, or is back below. -/
def execInputOv (ch : OverInput) (s : State) : Out :=
  s.next fun m =>
    let m := m.onFio fun x => { x with ovNow := Mod.setBit x.ovNow ch.ch ch.high }
    if ch.high then (m.onFio fun x => { x with ov := Mod.setBit x.ov ch.ch true }).fioFault else m

/-- CI_EDGE (R245); none is counted in Park (R257). -/
def execCiEdge (j : Fin 8) (rising : Bool) (cyc : BitVec 11) (s : State) : Out :=
  s.next fun m => if 2 ≤ m.pstate then m else m.ciEdge j rising cyc.toNat

/-- CI_WINDOW_END (R246). -/
def execCiWindowEnd (j : Fin 8) (s : State) : Out := s.next fun m => m.ciWindow j

/-- LS_CMD_WRITE (R247). -/
def execLsCmdWrite (v : BitVec 16) (w : Writer) (s : State) : Out :=
  s.next fun m =>
    match w with
    | .pair => m.pairCommit (Mod.regAddr 0x16 0x320) v.toNat
    | .vinko => (m.inc FIO.VNK_REJ_CNT).inc VNK.DENIED_CNT

/-- LS_CURRENT_LIMIT (R249). -/
def execLsCurrentLimit (k : Fin 8) (s : State) : Out := s.next fun m => m.lsLimit k

/-- LS_THERMAL (R250). -/
def execLsThermal (k : Fin 8) (s : State) : Out := s.next fun m => m.lsHot k

/-- LS_THERMAL_RESUME (R250). -/
def execLsThermalResume (k : Fin 8) (s : State) : Out :=
  s.next fun m => (m.onLs k fun x => { x with hot := false }).lsApply k

/-- LS_OPEN_LOAD (R251): `low`, the drain has stayed below 2.0 V for 10 ms while the output is off and no feed shows a sag; otherwise the
drain has risen again. -/
def execLsOpenLoad (d : LowDrain) (s : State) : Out :=
  s.next fun m =>
    let k := d.k
    if d.low = false then m.onFio fun x => { x with olNow := Mod.setBit x.olNow k false }
    else if m.rd (FIO.OL_EN k) = 0 ∨ m.bit FIO.LS_OUT k ∨ [0, 1, 2, 3].any (fun q => m.on (HQ.SAG q)) then m
    else (m.onFio fun x => { x with ol := Mod.setBit x.ol (40 + k) true, olNow := Mod.setBit x.olNow k true }).fioFault

/-- DIAG_CMD_READ (R255). -/
def execDiagCmdRead (ch : Fin 64) (s : State) : Out := s.next fun m => m.fioDiag ch 0

/-- DIAG_CMD_READ_CLEAR (R255). -/
def execDiagCmdReadClear (ch : Fin 64) (s : State) : Out := s.next fun m => m.fioDiag ch 1

/-- DIAG_CMD_TEST (R255, R256). -/
def execDiagCmdTest (ch : Fin 64) (s : State) : Out := s.next fun m => m.fioDiag ch 2

/-- DIAG_ANSWER (R255, R256). -/
def execDiagAnswer (value : BitVec 10) (fail : Bool) (s : State) : Out := s.next fun m => m.fioAnswer value.toNat fail

/-! ### The commands that a quadrant, the lighting block and the field I/O block share -/

/-- HEARTBEAT_SILENCE (R157, R215, R253). -/
def execHeartbeatSilence (b : Block) (s : State) : Out :=
  s.next fun m => match b with
    | .quadrant q => m.quadSilence q
    | .lighting => m.blockSilence Mod.ledW
    | .fieldIo => m.blockSilence Mod.fioW

/-- HOLD_LIMIT (R160, R215, R253). (Log: DESIGN CHOICE 7) -/
def execHoldLimit (b : Block) (s : State) : Out :=
  s.next fun m => match b with
    | .quadrant q => m.quadHoldLimit q
    | .lighting => m.blockHoldLimit Mod.ledW
    | .fieldIo => m.blockHoldLimit Mod.fioW

/-- SAFE_REL (R162, R215, R253). -/
def execSafeRel (b : Block) (s : State) : Out :=
  s.next fun m => match b with
    | .quadrant q => m.quadSafeRel q
    | .lighting => m.blockSafeRel Mod.ledW
    | .fieldIo => m.blockSafeRel Mod.fioW

end Sys2Proof.Machine
end

