-- ==== Sys2Proof/Machine/Promises.lean ====
section
/-! DEFINITION. Promise records (chapter 2): answers, delivery, breach, the intake of requests, and the envelope
measurement. -/
namespace Sys2Proof.Machine
open Reg

/-- The answer to a request (R65). -/
inductive Answer where
  | accepted (num deadline : Nat)
  | refused (reason detail : Nat)
deriving DecidableEq, Repr

/-- The causes of Table 02-7, highest first. -/
def causeOrder : List Nat := [0xB, 0xC, 0x1, 0x9, 0x2, 0x5, 0x6, 0x7, 0x8, 0xA, 0x3, 0x4, 0xD]

/-- The higher of two causes by Table 02-7; 0 is none. (Log: DEDUCED 25) -/
def higherCause (a b : Nat) : Nat := (causeOrder.find? fun c => c = a ∨ c = b).getD 0

/-- The port of a promise's medium, by class (Table 02-2). -/
def Promise.port (p : Promise) : Option Nat :=
  if p.cls = 3 ∨ p.cls = 4 then some (4 + p.target)
  else if p.cls = 5 then some (16 + fld p.target 10 8)
  else if p.cls = 6 then some (2 + p.target)
  else none

/-- The 16 bytes of a record as four words (Table 02-4). -/
def Promise.words (p : Promise) : List Nat :=
  [p.num + p.cls * 2 ^ 16 + p.state * 2 ^ 20 + p.source * 2 ^ 24, p.deadline % 2 ^ 32,
   p.deadline / 2 ^ 32 % 2 ^ 16 + p.ref * 2 ^ 16, p.depRod + p.depOff % 256 * 2 ^ 10 + p.cause * 2 ^ 18]

/-- The promise depends on rod `r` in tick `t` (R41, R79): DEP_ROD 0x3FF of a LIN_FRAME, T1S_TX or DI_EVENT names no rod. -/
def Promise.dependsOn (p : Promise) (r t : Nat) : Bool :=
  p.depRod = r && p.deadline = t + p.depOff && !([5, 6, 8].contains p.cls)

/-- The promise's medium was late: it promises completion on the medium (R82), or its frame was delayed as R278 says. -/
def Promise.mediumLate (p : Promise) : Bool := decide (4 ≤ p.cls ∧ p.cls ≤ 6) || p.delayed

namespace Mod

def onPrm (m : Mod) (f : PrmX → PrmX) : Mod := { m with prm := f m.prm }

/-- The open promise of a number. -/
def openPromise (m : Mod) (num : Nat) : Option Promise := m.prm.open_.find? (·.num = num)

/-- Change the open promises that `p` picks. -/
def onPromises (m : Mod) (p : Promise → Bool) (f : Promise → Promise) : Mod :=
  m.onPrm fun x => { x with open_ := x.open_.map fun q => if p q then f q else q }

/-- Record a cause found for the open promises that `p` picks (R87). (Log: DEDUCED 25) -/
def blame (m : Mod) (p : Promise → Bool) (cause : Nat) : Mod :=
  m.onPromises p fun q => { q with tent := higherCause q.tent cause }

/-- Close a record; the 256 most recently closed are held (R79). -/
def closePromise (m : Mod) (p : Promise) : Mod :=
  m.onPrm fun x => { x with open_ := x.open_.filter (·.num ≠ p.num), closed := (p :: x.closed).take 256 }

/-- A promise is kept (R86). -/
def keepPromise (m : Mod) (p : Promise) : Mod :=
  let m := (m.closePromise { p with state := 1 }).inc PRM.KEPT_CNT
  match p.notify, p.init with
  | true, some k => m.promiseNotice k 1 p.cls p.num p.ref 0 0 p.deadline
  | _, _ => m

/-- A promise is breached with `cause`; `d16` stands in the event's detail (R88, R91). -/
def breachWith (m : Mod) (p : Promise) (cause d16 : Nat) (withdrawn : Bool) : Mod :=
  let m := m.closePromise { p with state := 2, cause := cause }
  let m := (m.inc PRM.BREACH_CNT).inc (PRM.BREACH_BY cause)
  let m := (((m.wr PRM.BR_NUM p.num).wr PRM.BR_CAUSE cause).wr PRM.BR_CLASS p.cls).wr PRM.BR_SOURCE p.source
  let m := m.ev 0x0B err (0x0210 + cause) [sj16 p.num, vl16 (d16 % 65536)]
  let m := if p.port.isSome && !withdrawn then m.onPrm fun x => { x with late := x.late ++ [{ p with state := 2, cause := cause }] } else m
  match p.init with
  | some k => m.promiseNotice k 2 p.cls p.num p.ref cause 0 p.deadline
  | none => m

/-- A promise is breached (R88); its work goes on (R89). -/
def breach (m : Mod) (p : Promise) (cause : Nat) : Mod := m.breachWith p cause (p.deadline % 65536) false

/-- Breach at once every open promise that `p` picks (R87). -/
def breachNow (m : Mod) (p : Promise → Bool) (cause : Nat) : Mod :=
  (m.prm.open_.filter p).foldl (fun m q => m.breach q (higherCause q.tent cause)) m

/-- The commit point of a change of state: every promise still open is breached with "state change" (R93); `withdrawn`: its work too. -/
def stateChange (m : Mod) (withdrawn : Bool) : Mod :=
  m.prm.open_.foldl (fun m p => m.breachWith p (higherCause p.tent 0xC) (p.deadline % 65536) withdrawn) m

/-- The cause of a promise not kept at its deadline (R87, Table 02-7). -/
def causeOf (p : Promise) : Nat :=
  if p.tent ≠ 0 then p.tent
  else if p.mediumLate ∧ p.exceeded then 3
  else if p.lost then 4 else 0xD

/-- A promise's delivery may lie in the commit that a rollback holds back: its release decides (R91). -/
def heldBack (m : Mod) (p : Promise) : Bool :=
  m.frm.held.any fun h => h.dues.contains p.num || (p.cls = 2 && p.deadline = h.tick)

/-- The check at the boundary that ends the deadline tick (R87). -/
def judge (m : Mod) (num : Nat) : Mod :=
  match m.openPromise num with
  | some p => if p.deadline < m.tick ∧ m.heldBack p = false then m.breach p (causeOf p) else m
  | none => m

/-- The report that the work of a promise is complete (R86, R89): kept in time, else the event of a late completion. -/
def promiseDone (m : Mod) (num : Nat) : Mod :=
  let late := fun (m : Mod) => m.onPrm fun x => { x with late := x.late.filter (·.num ≠ num) }
  match m.openPromise num with
  | some p =>
    if m.tick ≤ p.deadline then m.keepPromise p
    else late ((m.breach p (causeOf p)).ev 0x0B info 0x0203 [sj16 num, vl16 (m.tick % 65536)])
  | none =>
    if m.prm.late.any (·.num = num) then late (m.ev 0x0B info 0x0203 [sj16 num, vl16 (m.tick % 65536)]) else m

/-- As `promiseDone`, for work that the combined commit of the tick before `TICK` releases. -/
def promiseReleased (m : Mod) (num : Nat) : Mod :=
  match m.openPromise num with
  | some p => if m.tick ≤ p.deadline + 1 then m.keepPromise p else m.breach p (causeOf p)
  | none => m

/-! ### Numbers, answers, refusals (R65, R78, R80) -/

/-- The number after `n`. -/
def nextNumber (n : Nat) : Nat := if n ≥ 65535 then 1 else n + 1

/-- The first number from `n` that no open promise has. -/
def freeNumber (m : Mod) : Nat → Nat → Nat
  | 0, n => n
  | k + 1, n => if m.prm.open_.any (·.num = n) then m.freeNumber k (nextNumber n) else n

/-- Issue a promise: number, counter, record. -/
def issue (m : Mod) (p : Promise) : Mod × Nat :=
  let n := m.freeNumber 1024 (m.rd PRM.NEXT_NUM)
  let m := (m.inc PRM.ACCEPT_CNT).onPrm fun x => { x with open_ := x.open_ ++ [{ p with num := n, bead := n }] }
  (m.wr PRM.NEXT_NUM (m.freeNumber 1024 (nextNumber n)), n)

/-- The answer goes back by the path the request came by (R65, R326, R335). -/
def answer (m : Mod) (r : Req) (a : Answer) : Mod :=
  let (num, dl, code, detail) := match a with
    | .accepted n d => (n, d, 0, 0)
    | .refused c d => (0, 0, c, d)
  match r.via with
  | .pair =>
    let m := (((m.wr PRM.ANS_VALID 1).wrB PRM.ANS_ACCEPTED (code = 0)).wr PRM.ANS_CODE code).wr PRM.ANS_NUM num
    (m.wr PRM.ANS_DL_LO (dl % 2 ^ 32)).wr PRM.ANS_DL_HI (dl / 2 ^ 32)
  | .route _ => if code = 0 then m else m.ev 0x0B info 0x0201 [sj code]
  | .vinko slot seq win =>
    let body := beBytes 2 num ++ beBytes 6 dl ++ [r.cls, 0] ++ beBytes 2 r.ref
    match m.vnk.open_.find? (fun t => t.slot = slot ∧ t.seq = seq ∧ t.win = win ∧ t.op = 8) with
    | some t => m.complete t (if code = 0 then 0 else 9) (code * 256 + detail) body
    | none => m
  | .acf i _ =>
    if m.on (BRG.LS_ANS i) then m.promiseNotice (m.rd (BRG.LS_ANS_INIT i)) 5 r.cls num r.ref code detail dl
    else if code = 0 then m else (m.inc (BRG.LS_REFUSE_CNT i)).ev 0x0B info 0x0201 [sj code]

/-- A refusal (R80). -/
def refuse (m : Mod) (r : Req) (reason detail : Nat) : Mod :=
  let m := (m.inc PRM.REFUSE_CNT).inc (PRM.REFUSE_BY reason)
  let m := ((m.wr PRM.REF_REASON reason).wr PRM.REF_SOURCE r.source).wr PRM.REF_CLASS r.cls
  m.answer r (.refused reason detail)

/-- The initiator slot that takes a promise's notices (R65, R326). -/
def noticeSlot (m : Mod) (v : Via) : Option Nat :=
  match v with
  | .vinko slot _ _ => some slot
  | .acf i _ => if m.on (BRG.LS_ANS i) then some (m.rd (BRG.LS_ANS_INIT i)) else none
  | _ => none

/-- The record of an accepted request. -/
def recordOf (m : Mod) (r : Req) (deadline rod off : Nat) : Promise :=
  { num := 0, bead := 0, cls := r.cls, source := r.source, ref := r.ref, deadline := deadline, depRod := rod, depOff := off,
    notify := r.notify, target := r.target, act0 := r.act0, act1 := r.act1, init := m.noticeSlot r.via, obj := r.obj }

/-- Accept a request: the promise is issued and answered. -/
def accept (m : Mod) (r : Req) (deadline rod off : Nat) : Mod × Nat :=
  let (m, n) := m.issue (m.recordOf r deadline rod off)
  (m.answer r (.accepted n deadline), n)

/-! ### Intake (R62 to R64) -/

/-- The admitting tick of an intake in cycle `cyc` of the present tick (R64). -/
def admitTick (m : Mod) (cyc : Nat) : Nat := if cyc < 1536 then m.tick else m.tick + 1

/-- A request of a class that waits enters the admission queue, or is refused when 32 are waiting (R63).
(Log: DEDUCED 24, DESIGN CHOICE 127) -/
def intakeReq (m : Mod) (r : Req) : Mod :=
  if m.prm.queue.length < 32 then m.onPrm fun x => { x with queue := x.queue ++ [r] } else m.refuse r 0x07 0

/-- A request of the route table (R62): a reception in a routed object, an edge on a routed input group. -/
def routeReq (m : Mod) (cls : Nat) (e : Route) (target : Nat) (obj : Option Nat) (cyc : Nat) : Mod :=
  m.intakeReq { cls := cls, notify := false, source := 0x41, ref := e.num, rel := e.rel, target := target, act0 := e.act0,
                act1 := 0, via := .route e.num, admTick := m.admitTick cyc, obj := obj }

/-- A store in a routed object `o` of controller `n` (R62, R92): the earlier promise, its MOV_C2E not yet executed, is
breached, and the newer frame takes a promise of its own with the earlier one's deadline and booking, whether or not admission is enabled
or draining, which R92 leaves open. (Log: DESIGN CHOICE 116) -/
def routedStore (m : Mod) (n o cyc : Nat) : Mod :=
  match m.img.routes.find? (fun e => e.kind = 1 ∧ e.src = o + 4096 * n) with
  | none => m
  | some e =>
    match m.prm.open_.find? (fun p => p.cls = 7 ∧ p.obj = some o ∧ ¬ p.moved) with
    | some p =>
      let (m', k) := (m.breach p (higherCause p.tent 8)).issue { p with tent := 0 }
      m'.onPromises (fun q => q.num = k) fun q => { q with bead := p.bead }
    | none => m.routeReq 7 e n (some o) cyc

/-! ### Envelope measurement (R83 to R85) -/

/-- A frame starts on a port: at the boundary that opens a frame, in the interval which opens there (R83). `boundary`: it starts at the
boundary just passed. -/
def envStart (m : Mod) (port : Nat) (boundary : Bool) : Mod :=
  if boundary ∧ m.tick % 100 = 0 then m.onPrm fun x => { x with envNext := SMap.set 0 x.envNext port (SMap.get 0 x.envNext port + 1) }
  else m.onPrm fun x => { x with envFrm := SMap.set 0 x.envFrm port (SMap.get 0 x.envFrm port + 1) }

/-- Bus time in 5 ns cycles and frames in the present interval of a port. -/
def envAdd (m : Mod) (port cycles frames : Nat) : Mod :=
  m.onPrm fun x => { x with envOcc := SMap.set 0 x.envOcc port (SMap.get 0 x.envOcc port + cycles),
                            envFrm := SMap.set 0 x.envFrm port (SMap.get 0 x.envFrm port + frames) }

/-- The boundary that ends a frame interval, for one port (R83). R83 does not say whether a port with no declared envelope exceeds it: it
counts none. (Log: DESIGN CHOICE 115) -/
def envClose (m : Mod) (port : Nat) : Mod :=
  let occ := SMap.get 0 m.prm.envOcc port / 200
  let frm := SMap.get 0 m.prm.envFrm port
  let m := (m.sat (PRM.ENV_MEAS_OCC port) occ).sat (PRM.ENV_MEAS_FRAMES port) frm
  let m := m.onPrm fun x => { x with envOcc := SMap.set 0 x.envOcc port 0, envFrm := SMap.set 0 x.envFrm port (SMap.get 0 x.envNext port),
                                     envNext := SMap.set 0 x.envNext port 0 }
  if m.on (PRM.ENV_OCC port) ∧ (m.rd (PRM.ENV_OCC port) < occ ∨ m.rd (PRM.ENV_FRAMES port) < frm) then
    let m := (m.inc (PRM.ENV_OVER_CNT port)).ev 0x0B warn 0x0202 [sj port, vl16 (Nat.min occ 65535), vl (Nat.min frm 255)]
    m.onPromises (fun p => p.port = some port) fun p => { p with exceeded := true }
  else m

end Mod
end Sys2Proof.Machine
end

