-- ==== Sys2Proof/Machine/Trx.lean ====
section
/-! DEFINITION. Transceivers and PHYs (R285 to R288, R299, R300, R307, R313), bus wakes and how they reach the AON domain and
the network-management engines. -/
namespace Sys2Proof.Machine
open Reg

/-- The page of a port (R261, R309, Table 17-1). -/
def portPage (p : Nat) : Nat := if p < 2 then 0x3A + p else if p < 4 then 0x36 + p else if p < 16 then 0x1C + p else 0x20 + p

/-- The network-management engine of a port; the backbone ports have none. -/
def portEngine (p : Nat) : Option Nat := if p < 2 then none else if p < 4 then some (18 + p) else some (p - 4)

/-- The port of an engine. -/
def enginePort (n : Nat) : Nat := if n < 20 then n + 4 else n - 18

namespace Mod

def trx (m : Mod) (p : Nat) : TrxX := SMap.get {} m.trxs p
def onTrx (m : Mod) (p : Nat) (f : TrxX → TrxX) : Mod := { m with trxs := SMap.set {} m.trxs p (f (m.trx p)) }
def nm (m : Mod) (n : Nat) : NmX := SMap.get {} m.nms n
def onNm (m : Mod) (n : Nat) (f : NmX → NmX) : Mod := { m with nms := SMap.set {} m.nms n (f (m.nm n)) }
def onPwr (m : Mod) (f : PwrX → PwrX) : Mod := { m with pwr := f m.pwr }

/-- The power state: 0 Run, 1 Doze, 2 Park, 3 Shelf (Table 13-2). -/
def inState (m : Mod) (k : Nat) : Bool := m.pstate = k

/-- The port is out of service (R450). -/
def portOos (m : Mod) (p : Nat) : Bool := m.bit BOOT.PORT_OOS p

/-- The engine of port `p`, where it is enabled and the port in service. -/
def engineOf (m : Mod) (p : Nat) : Option Nat := (portEngine p).filter fun n => m.on (NM.NM_EN n) && !m.portOos p

/-! ### Wakes of the module (R379, R386) -/

/-- A wake of this kind ends power state `k` (Table 13-5). -/
def wakeEnds (w : Wake) (k : Nat) : Bool :=
  if k = 1 then decide (4 ≤ w.kind) else if k = 2 then decide (w.kind ≤ 4) else if k = 3 then w.kind = 2 else false

/-- A wake reaches the AON domain: it is latched during an entry, and otherwise ends the state it can end. (Log: DEDUCED 76) -/
def aonWake (m : Mod) (w : Wake) : Mod :=
  if m.on PWR.CHANGING then
    if m.pwr.latch.isNone ∧ wakeEnds w (m.rd PWR.CUR_TGT) then
      (m.onPwr fun x => { x with latch := some w }).wr AON.LATCHED 1
    else m
  else if m.pwr.wake.isNone ∧ wakeEnds w m.pstate then m.onPwr fun x => { x with wake := some w }
  else m

/-! ### Bus wakes (R286, R287, R300, R307, R313) -/

/-- A bus wake is recorded: by the transceiver, by the port's wake mark, its engine, its domain and the AON domain. -/
def busWakeRecord (m : Mod) (p : Nat) (podl : Bool) : Mod :=
  let pg := portPage p
  let m := (((m.wr (TRX.WAKE pg) 1).wr (TRX.KIND pg) 1).wr (TRX.WAKE_TICK pg) m.tick).inc (TRX.WAKE_CNT pg)
  let m := if podl then m.wr (TRX.PODL_WAKE pg) 1 else m
  let m := if 4 ≤ p ∧ p < 16 then m.irq pg 6 else m
  let m := m.onPwr fun x => { x with marks := setBit x.marks p true, noTick := if 2 ≤ m.pstate then setBit x.noTick p true else x.noTick }
  let m := match m.engineOf p with
    | some n => m.onNm n fun x => { x with lWake := true }
    | none => m
  let m := if m.pstate ≤ 1 then m.wakeDom p else m
  m.aonWake ⟨p, if podl then 2 else 1, 0⟩

/-- A dominant phase, wake pulse or activity longer than the filter (R286, R300, R307, R313, R363): one during the Sleep entry
sequence is latched. (Log: DEDUCED 48) -/
def busWakeSeen (m : Mod) (p : Nat) (podl : Bool) : Mod :=
  let pg := portPage p
  let entry := match m.engineOf p with
    | some n => (m.nm n).entry
    | none => false
  let falling : Bool := (m.trx p).target = some 0
  if m.rd (TRX.WAKE_EN pg) = 0 then m
  else if entry || falling then m.onTrx p fun x => { x with latched := true, podl := x.podl || podl }
  else if m.rd (TRX.STATE pg) ≤ 1 then m.busWakeRecord p podl
  else match m.engineOf p with
    | some n => if 16 ≤ p then m.onNm n fun x => { x with lPulse := true } else m
    | none => m

/-! ### Requests (R285) -/

/-- A transceiver is asked for state `t`; `kind` is what a raise records (R287). -/
def trxRequest (m : Mod) (p t kind : Nat) : Mod :=
  let pg := portPage p
  let s := m.rd (TRX.STATE pg)
  if m.on (TRX.BUSY pg) ∨ ¬ m.awake p then m.onTrx p fun x => { x with queued := some t }
  else if t = s then
    let m := m.onTrx p fun x => { x with queued := none }
    match m.engineOf p with
    | some n => if t ≤ 1 then m.onNm n fun x => { x with entry := false } else m
    | none => m
  else
    let m := ((m.wr (TRX.BUSY pg) 1).wrB (TRX.VCC_ON pg) (t ≠ 0 || m.on (TRX.VCC_ON pg))).onTrx p fun x => { x with target := some t, queued := none }
    if s ≤ 1 ∧ s < t then
      let m := (m.wr (TRX.KIND pg) kind).wr (TRX.WAKE_TICK pg) m.tick
      if s = 0 ∧ 4 ≤ p ∧ p < 16 then (m.irq pg 6).ev pg info 0x090D [sj (p - 4), sj kind] else m
    else m

/-- A write of TRX_CTL.REQ takes effect: ignored where an enabled engine owns it (R352) or the port is out of service (R450).
(Log: DEDUCED 59) -/
def trxWrite (m : Mod) (p v : Nat) : Mod :=
  let f := TRX.REQ (portPage p)
  if m.portOos p then m
  else if (m.engineOf p).isSome then m.inc NM.REQ_REJ_CNT
  else (m.wr f (f.fix.apply v)).trxRequest p (f.fix.apply v) 2

/-- The change of a transceiver completes; a wake latched during entry is reported (R286, R363). (Log: DEDUCED 99) -/
def trxDone (m : Mod) (p : Nat) : Mod :=
  let pg := portPage p
  match (m.trx p).target with
  | none => m
  | some t =>
    let m := ((m.wr (TRX.STATE pg) t).wr (TRX.BUSY pg) 0).wrB (TRX.VCC_ON pg) (t ≠ 0)
    let x := m.trx p
    let m := m.onTrx p fun y => { y with target := none, latched := false, podl := false }
    let m := if x.latched ∧ t ≤ 1 then m.busWakeRecord p x.podl else m
    let m := match m.engineOf p with
      | some n =>
        if (m.nm n).entry ∧ t ≤ 1 then
          (m.wrB (NM.WAKE_LATCH n) x.latched).onNm n fun y => { y with entry := false }
        else m
      | none => m
    match x.queued with
    | some q => m.trxRequest p q 2
    | none => m

/-- A domain of a port becomes ready: a request that waited for it takes effect (R352). -/
def trxReady (m : Mod) (p : Nat) : Mod :=
  match (m.trx p).queued with
  | some t => if m.on (TRX.BUSY (portPage p)) then m else m.trxRequest p t 2
  | none => m

/-! ### Faults (R288, R299) -/

/-- A transceiver fault: the STAT bit `f`, its bit in the event's detail. -/
def trxFault (m : Mod) (p : Nat) (f : Nat → Fld) (b : Nat) : Mod :=
  let pg := portPage p
  let m := (m.wr (f pg) 1).inc (TRX.TRX_FAULT_CNT pg)
  if p < 16 then (m.irq pg 7).ev pg warn 0x090A [sj (p - 4), vl b] else m.ev pg warn 0x0A04 [sj p, vl b]

/-- The transmitter of the port can drive its bus: Normal, not disabled by heat, a stuck TXD or the auxiliary supply (R288,
R372). -/
def txOk (m : Mod) (p : Nat) : Bool :=
  m.rd (TRX.STATE (portPage p)) = 3 && !(m.trx p).hot && !(m.trx p).stuck && !m.on PWR.AUX_LOW

end Mod

/-! ### The commands -/

/-- TRX_NORMAL (R285). -/
def execTrxNormal (p : Fin 24) (s : State) : Out := s.next fun m => m.trxWrite p 3

/-- TRX_LISTEN_ONLY (R285). -/
def execTrxListenOnly (p : Fin 24) (s : State) : Out := s.next fun m => m.trxWrite p 2

/-- TRX_STANDBY (R285). -/
def execTrxStandby (p : Fin 24) (s : State) : Out := s.next fun m => m.trxWrite p 1

/-- TRX_SLEEP (R285). -/
def execTrxSleep (p : Fin 24) (s : State) : Out := s.next fun m => m.trxWrite p 0

/-- BUS_WAKE (R286, R300, R307, R313); a wake pulse on LIN occupies its bus (R302). -/
def execBusWake (p : WakePhase) (s : State) : Out :=
  s.next fun m => (if 16 ≤ p.p.val then m.envAdd p.p p.sp.occ.toNat 0 else m).busWakeSeen p.p false

/-- BUS_DOMINANT (R288): no frame of the module holds the bus dominant that long, so none is being sent on it. -/
def execBusDominant (n : Fin 12) (s : State) : Out := s.next fun m => m.trxFault (4 + n) TRX.BUS_DOM 2

/-- TRX_OVERTEMP (R288, R299): the transmitter is disabled until it has cooled. -/
def execTrxOvertemp (p : Fin 20) (s : State) : Out :=
  s.next fun m => (m.trxFault (4 + p) TRX.OT 4).onTrx (4 + p) fun x => { x with hot := true }

end Sys2Proof.Machine
end

