-- ==== Sys2Proof/Machine/Can.lean ====
section
/-! DEFINITION. CAN ports (chapter 9): controller modes, the object store, reception and locks, the arbitration queue, error
confinement, collisions. -/
namespace Sys2Proof.Machine
open Reg

/-! ### The object store (R268, R269) -/

/-- The address of an object. -/
def objAddr (o : Nat) : Nat := 0x21000000 + 80 * o

/-- A read of word `k` of object `o` finds an error (R420, R421). -/
def Mod.objHit (m : Mod) (o k : Nat) (ue : Bool) : Mod := m.eccHit ⟨1, BitVec.ofNat 32 (objAddr o + 4 * k), ue⟩
/-- The address of a chain slot. -/
def slotAddr (s : Nat) : Nat := 0x21050000 + 128 * s

/-- The chain slots that an XL payload of `len` bytes needs (R269). -/
def chainSlots (len : Nat) : Nat := if 56 < len then (len - 56 + 123) / 124 else 0

/-- The key of an object in a lookup index: DIR, IDE, ID (R270). -/
def objKey (dir : Nat) (ide : Bool) (id : Nat) : Nat := dir * 2 ^ 30 + (if ide then 2 ^ 29 else 0) + id

/-- The arbitration value: the base identifier, then RTR or SRR, IDE, the identifier extension and RTR (ISO 11898-1). -/
def arbValue (id : Nat) (ide rtr : Bool) : Nat :=
  let r := if rtr then 1 else 0
  if ide then id / 2 ^ 18 * 2 ^ 21 + 2 ^ 20 + 2 ^ 19 + id % 2 ^ 18 * 2 + r else id % 2 ^ 11 * 2 ^ 21 + r * 2 ^ 20

/-- The frame that arrives on the bus. -/
def busFrame (f : BusFrame) : CanFrame :=
  { id := f.id.toNat, ide := f.ide, rtr := f.rtr, dlc := f.dlc.toNat, fdf := f.fdf, brs := f.brs, esi := f.esi, xlf := f.xlf,
    sdt := f.sdt.toNat, vcid := f.vcid.toNat, sec := f.sec, len := if f.rtr then 0 else f.data.length, af := f.af.toNat,
    data := if f.rtr then [] else f.data.map (·.toNat) }

namespace Mod

def can (m : Mod) (n : Nat) : CanX := SMap.get {} m.cans n
def onCan (m : Mod) (n : Nat) (f : CanX → CanX) : Mod := { m with cans := SMap.set {} m.cans n (f (m.can n)) }

/-- Word `w` of an object, 0 to 3. -/
def objWord (m : Mod) (o w : Nat) : Nat := m.load (objAddr o + 4 * w) 4
/-- Bit `b` of bytes 8 to 11 of an object. -/
def objBit (m : Mod) (o b : Nat) : Bool := (m.objWord o 2).testBit b
/-- Write bit `b` of bytes 8 to 11. -/
def setObjBit (m : Mod) (o b : Nat) (v : Bool) : Mod := m.store (objAddr o + 8) 4 (setBit (m.objWord o 2) b v)

/-- The fields of an object. -/
def objCtrl (m : Mod) (o : Nat) : Nat := fld (m.objWord o 2) 15 12
def objTx (m : Mod) (o : Nat) : Bool := m.objBit o 16
def objEn (m : Mod) (o : Nat) : Bool := m.objBit o 17
def objIde (m : Mod) (o : Nat) : Bool := (m.objWord o 0).testBit 29
def objId (m : Mod) (o : Nat) : Nat := fld (m.objWord o 0) 28 0
def objXl (m : Mod) (o : Nat) : Bool := (m.objWord o 1).testBit 7
def objSeq (m : Mod) (o : Nat) : Nat := fld (m.objWord o 2) 25 22

/-- The identifier of an object with IDE in bit 29, as events carry it. -/
def objIdent (m : Mod) (o : Nat) : Nat := (m.objWord o 0) % 2 ^ 30

/-- Step SEQ, wrapping at 15. (Log: DEDUCED 43) -/
def stepSeq (m : Mod) (o : Nat) : Mod :=
  let w := m.objWord o 2
  m.store (objAddr o + 8) 4 (w - fld w 25 22 * 2 ^ 22 + (fld w 25 22 + 1) % 16 * 2 ^ 22)

/-- The slots of the chain that starts at `h`. -/
def chainFrom (m : Mod) : Nat → Nat → List Nat
  | 0, _ => []
  | k + 1, h => if h = 0x7FF then [] else h :: m.chainFrom k (m.load (slotAddr h + 124) 4 % 2 ^ 11)

/-- The chain of an object, from its chain word. -/
def objChain (m : Mod) (o : Nat) : List Nat :=
  if m.objXl o then
    let w := m.load (objAddr o + 20) 4
    m.chainFrom (fld w 15 11) (w % 2 ^ 11)
  else []

/-- POOL_FREE shows the free slots. -/
def poolSet (m : Mod) (l : List Nat) : Mod := { m with poolUsed := l }.wr OBJ.POOL_FREE (1536 - l.length)

/-- Take `k` free slots; which of them is left open. (Log: DESIGN CHOICE 42) -/
def poolTake : Nat → List Nat → List Nat
  | 0, _ => []
  | k + 1, free =>
    match free[Config.poolPick free.length % free.length]? with
    | some s => s :: poolTake k (free.erase s)
    | none => []

/-- The payload bytes of an object. -/
def objData (m : Mod) (o : Nat) : List Nat :=
  let len := fld (m.objWord o 2) 11 0
  if m.objXl o then (m.bytes (objAddr o + 24) 56 ++ (m.objChain o).flatMap fun s => m.bytes (slotAddr s) 124).take len
  else m.bytes (objAddr o + 16) (Nat.min len 64)

/-- The frame that an object holds. -/
def objFrame (m : Mod) (o : Nat) : CanFrame :=
  let w0 := m.objWord o 0
  let w1 := m.objWord o 1
  { id := fld w0 28 0, ide := w0.testBit 29, rtr := w0.testBit 30, dlc := fld w1 3 0, fdf := w1.testBit 4, brs := w1.testBit 5,
    esi := w1.testBit 6, xlf := w1.testBit 7, sdt := fld w1 15 8, vcid := fld w1 23 16, sec := w1.testBit 24,
    len := fld (m.objWord o 2) 11 0, af := m.load (objAddr o + 16) 4, data := m.objData o }

/-- Words 0 and 1 of a frame (Table 09-3). -/
def frameWord0 (f : CanFrame) : Nat := f.id + (if f.ide then 2 ^ 29 else 0) + (if f.rtr then 2 ^ 30 else 0)
def frameWord1 (f : CanFrame) : Nat :=
  f.dlc + (if f.fdf then 16 else 0) + (if f.brs then 32 else 0) + (if f.esi then 64 else 0) + (if f.xlf then 128 else 0) +
    f.sdt * 2 ^ 8 + f.vcid * 2 ^ 16 + (if f.sec then 2 ^ 24 else 0)

/-- Store the chain slots of an XL payload: `l` the slots, `d` what is left of it. -/
def putChain (m : Mod) : List Nat → List Nat → Mod
  | [], _ => m
  | s :: rest, d =>
    ((m.setBytes (slotAddr s) (d.take 124)).store (slotAddr s + 124) 4 (rest.headD 0x7FF)).putChain rest (d.drop 124)

/-- Write the content of a frame into an object: header words, LEN, NEW, SEQ, payload and chain; the previous chain is freed.
The pool must hold the slots that it needs. -/
def putFrame (m : Mod) (o : Nat) (f : CanFrame) : Mod :=
  let old := m.objChain o
  let k := if f.xlf then chainSlots f.len else 0
  let got := poolTake k ((List.range 1536).filter fun s => ¬ m.poolUsed.contains s)
  let m := (m.store (objAddr o) 4 (frameWord0 f)).store (objAddr o + 4) 4 (frameWord1 f)
  let w := m.objWord o 2
  let m := (m.store (objAddr o + 8) 4 (setBit (w - w % 2 ^ 12 + f.len) 18 true)).stepSeq o
  let m :=
    if f.xlf then
      let m := (m.store (objAddr o + 16) 4 f.af).store (objAddr o + 20) 4 (got.headD 0x7FF + k * 2 ^ 11)
      (m.setBytes (objAddr o + 24) (f.data.take 56)).putChain got (f.data.drop 56)
    else m.setBytes (objAddr o + 16) (f.data.take 64)
  if k = 0 ∧ old = [] then m else m.poolSet ((m.poolUsed.filter fun s => ¬ old.contains s) ++ got)

/-- The pool can supply the chain of a frame; otherwise the frame is dropped, counted and reported (R269). -/
def poolFits (m : Mod) (f : CanFrame) : Bool := !f.xlf || decide (chainSlots f.len ≤ 1536 - m.poolUsed.length)
def poolDrop (m : Mod) (n o : Nat) (f : CanFrame) : Mod :=
  (m.inc OBJ.POOL_EMPTY_CNT).ev (0x20 + n) warn 0x0908 [sj n, sj16 o, vl (chainSlots f.len)]

/-- A refused object write or entry (R270, R276, R292). -/
def badObj (m : Mod) (o cause : Nat) : Mod := ((m.inc OBJ.BAD_WRITE_CNT).wr OBJ.BAD_OBJ o).wr OBJ.CAUSE cause

/-! ### The queue and the attempts (R276, R277, R353) -/

/-- The engine of the controller's network withholds transmissions (Table 12-1). -/
def nmHeld (m : Mod) (n : Nat) : Bool := m.on (NM.NM_EN n) && (m.rd (NM.STATE n) ≤ 1 || m.rd (NM.STATE n) = 5)

/-- TXQ_LVL shows the queue. -/
def setQueue (m : Mod) (n : Nat) (q : List (Nat × Nat)) : Mod :=
  (m.onCan n fun x => { x with queue := q }).wr (CAN.TXQ_LVL n) q.length

/-- The entry with the lowest arbitration value. -/
def lowestEntry (m : Mod) (q : List (Nat × Nat)) : Option Nat :=
  (q.foldl (fun best e =>
    let a := arbValue (m.objId e.1) (m.objIde e.1) ((m.objWord e.1 0).testBit 30)
    match best with
    | some (b, o) => if a < b then some (a, e.1) else some (b, o)
    | none => some (a, e.1)) none).map (·.2)

/-- XL frames are accepted and sent (Table 09-1, Table 09-7): on CN0 to CN3 with XL_EN. -/
def canXl (m : Mod) (n : Nat) : Bool := decide (n < 4) && m.on (CAN.XL_EN n)

/-- The controller sends frames of the object's format (FD_EN, XL_EN); another entry stays in the queue. (Log: DESIGN CHOICE 142) -/
def canSend (m : Mod) (n o : Nat) : Bool :=
  let w := m.objWord o 1
  (!w.testBit 4 || m.on (CAN.FD_EN n)) && (!w.testBit 7 || m.canXl n)

/-- An attempt starts when the controller may send and its queue holds an entry (R276). (Log: DESIGN CHOICE 142) -/
def arbitrate (m : Mod) (n : Nat) : Mod :=
  let x := m.can n
  if x.sending.isNone ∧ m.rd (CAN.MODE n) = 1 ∧ m.rd (CAN.ERRST n) ≤ 1 ∧ m.txOk (4 + n) ∧ ¬ m.nmHeld n then
    m.onCan n fun y => { y with sending := m.lowestEntry (x.queue.filter fun e => m.canSend n e.1) }
  else m

/-- The content that MOV_E2C brings is written: the object keeps its own defining fields (R270). -/
def e2cStore (m : Mod) (o : Nat) (f : CanFrame) (prm : Nat) : Mod :=
  let h := m.objFrame o
  let g := { f with id := h.id, ide := h.ide, fdf := h.fdf, xlf := h.xlf, sdt := h.sdt, vcid := h.vcid, esi := h.esi }
  if m.poolFits g then
    (m.putFrame o g).onPrm fun x => { x with objPrm := SMap.set 0 x.objPrm o prm }
  else m.poolDrop (m.objCtrl o) o g

/-- The attempt is over: the writes that waited for its end take effect (R277). -/
def landWrites (m : Mod) (n : Nat) : Mod :=
  let x := m.can n
  let m := m.onCan n fun y => { y with sending := none, deferred := [] }
  x.deferred.foldl (fun m d => match d with
    | .inl (a, v) => let o := (a - 0x21000000) / 80
                     ((m.store a 4 v).setObjBit o 18 true).stepSeq o
    | .inr (f, prm) => match x.sending with
      | some o => m.e2cStore o f prm
      | none => m) m

/-- The promise that the object's content carries, what waits for the end of an attempt with it. -/
def objPromise (m : Mod) (o : Nat) : Nat :=
  let x := m.can (m.objCtrl o)
  if x.sending = some o then
    x.deferred.foldl (fun a d => match d with
      | .inr (_, prm) => prm
      | .inl _ => a) (SMap.get 0 m.prm.objPrm o)
  else SMap.get 0 m.prm.objPrm o

/-- Every entry is removed and its PEND cleared (R276), and an attempt is over (R277); a CAN_TXW promise among them has lost its frame. -/
def emptyQueue (m : Mod) (n : Nat) : Mod :=
  let q := (m.can n).queue
  let m := q.foldl (fun m e => m.setObjBit e.1 21 false) m
  let m := m.onPromises (fun p => p.cls = 4 ∧ q.any (fun e => SMap.get 0 m.prm.objPrm e.1 = p.num)) fun p => { p with lost := true }
  (m.setQueue n []).landWrites n

/-- The controller is off the bus (R266). -/
def canOff (m : Mod) (n : Nat) : Mod :=
  let m := m.emptyQueue n
  let m := ((((m.wr (CAN.TEC n) 0).wr (CAN.REC n) 0).wr (CAN.RP n) 0).wr (CAN.ERRST n) 3).wr (CAN.RECOV n) 0
  (m.wr (CAN.MODE n) 0).onCan n fun x => { x with monitor := false, modePend := none }

/-- A MODE takes effect on an idle bus (R266). -/
def modeTake (m : Mod) (n mode : Nat) : Mod :=
  let old := m.rd (CAN.MODE n)
  if mode = 0 then m.canOff n
  else
    let m := if old = 1 ∧ mode = 2 then m.emptyQueue n else m
    let m := if old = 0 then m.wr (CAN.ERRST n) 3 else m
    (m.wr (CAN.MODE n) mode).arbitrate n

/-- A frame on the bus ends, an attempt of the controller or another node's frame: the writes that waited for it take effect, then a MODE
that waited, then the next attempt (R266, R277). -/
def endAttempt (m : Mod) (n : Nat) : Mod :=
  let x := m.can n
  let m := (m.landWrites n).onCan n fun y => { y with modePend := none }
  let m := match x.modePend with
    | some k => m.modeTake n k
    | none => m
  m.arbitrate n

/-- A word written to the content of a transmit object (R270, R277): NEW is set and SEQ steps. -/
def objContent (m : Mod) (o a v : Nat) : Mod :=
  let n := m.objCtrl o
  if (m.can n).sending = some o then m.onCan n fun x => { x with deferred := x.deferred ++ [.inl (a, v)] }
  else ((m.store a 4 v).setObjBit o 18 true).stepSeq o

/-- An object enters the arbitration queue of controller `n` (R267, R276). (Log: DEDUCED 47) -/
def canEnter (m : Mod) (n o : Nat) : Mod :=
  let q := (m.can n).queue
  let num := m.objPromise o
  if ¬ m.objTx o ∨ ¬ m.objEn o ∨ m.objCtrl o ≠ n then m.badObj o 3
  else if m.rd (CAN.MODE n) ≠ 1 ∨ m.rd (CAN.ERRST n) = 2 ∨ m.rd (TRX.STATE (0x20 + n)) ≠ 3 then
    (m.inc (CAN.TXQ_FULL_CNT n)).onPromises (fun p => p.num = num ∧ num ≠ 0) fun p => { p with lost := true }
  else
    let kept := fun m : Mod =>
      match m.openPromise num with
      | some p => if p.cls = 3 then m.promiseReleased num else m
      | none => m
    if q.any (·.1 = o) then kept m
    else if 32 ≤ q.length then m.inc (CAN.TXQ_FULL_CNT n)
    else (kept ((m.setQueue n (q ++ [(o, 0)])).setObjBit o 21 true)).arbitrate n

/-! ### Modes (R264, R266) -/

/-- The bit time of a phase in 5 ns cycles (R263), from the coded prescaler and segments. -/
def bitQuanta (s1 s2 : Nat) : Nat := 1 + (s1 + 1) + (s2 + 1)

/-- The timing checks of R264. -/
def canCfgOk (m : Mod) (n : Nat) : Bool :=
  let nq := bitQuanta (m.rd (CAN.NBT_TSEG1 n)) (m.rd (CAN.NBT_TSEG2 n))
  let nt := (m.rd (CAN.NBT_BRP n) + 1) * nq
  let dt := (m.rd (CAN.DBT_BRP n) + 1) * bitQuanta (m.rd (CAN.DBT_TSEG1 n)) (m.rd (CAN.DBT_TSEG2 n))
  let xt := (m.rd (CAN.XBT_BRP n) + 1) * bitQuanta (m.rd (CAN.XBT_TSEG1 n)) (m.rd (CAN.XBT_TSEG2 n))
  let pw := m.rd (CAN.PWMS n) + m.rd (CAN.PWML n)
  decide (8 ≤ nq ∧ nq ≤ 385) && decide (200 ≤ nt) &&
    (!m.on (CAN.FD_EN n) || decide (25 ≤ dt ∧ dt ≤ nt)) &&
    (!m.canXl n || (decide (10 ≤ xt) && (!m.on (CAN.TMS n) || (decide (pw ≠ 0) && decide (xt % pw = 0))))) &&
    m.on (CAN.BUILT n)

/-- The controller is on the bus: not off, integrated, not bus-off, its domain awake, its receiver on. -/
def canLive (m : Mod) (n : Nat) : Bool :=
  m.on (CAN.MODE n) && decide (m.rd (CAN.ERRST n) ≤ 1) && m.awake (4 + n) && decide (2 ≤ m.rd (TRX.STATE (0x20 + n))) &&
    (m.trx (4 + n)).target.all fun t => decide (2 ≤ t)

/-- A write of MODE (R264, R266): it waits for the end of the frame in progress, one of the controller's own or, `busy`, another node's.
(Log: DESIGN CHOICE 143) -/
def canMode (m : Mod) (n mode : Nat) (busy : Bool) : Mod :=
  let mode := if mode = 3 then 0 else mode
  if mode ≠ 0 ∧ ¬ m.canCfgOk n then m.wr (CAN.CFG_ERR n) 1
  else
    let m := m.wr (CAN.CFG_ERR n) 0
    if m.rd (CAN.MODE n) = mode then m.onCan n fun x => { x with modePend := none }
    else if (m.can n).sending.isSome ∨ (busy ∧ m.canLive n) then m.onCan n fun x => { x with modePend := some mode }
    else m.modeTake n mode

/-- The enabled objects of a controller, from the bytes that hold EN (R270). -/
def enabledObjs (m : Mod) (n : Nat) : List Nat :=
  (m.mem.filterMap fun e =>
    if 0x21000000 ≤ e.1 ∧ e.1 < 0x21050000 ∧ (e.1 - 0x21000000) % 80 = 10 ∧ e.2.getLsbD 1 then some ((e.1 - 0x21000000) / 80) else none).filter
    fun o => m.objCtrl o = n

/-- The first key that two entries of an index share: the higher-numbered object. -/
def duplicate : List (Nat × Nat) → Option Nat
  | [] => none
  | (k, o) :: rest =>
    match rest.find? (fun e => e.1 = k) with
    | some e => some (Nat.max o e.2)
    | none => duplicate rest

/-- A write of 1 to BUILD (R270). -/
def canBuild (m : Mod) (n : Nat) : Mod :=
  if m.rd (CAN.MODE n) ≠ 0 then m
  else
    let ix := (m.enabledObjs n).map fun o => (objKey (if m.objTx o then 1 else 0) (m.objIde o) (m.objId o), o)
    match duplicate ix with
    | some o => (((m.wr (CAN.BUILT n) 0).wr (CAN.DUP n) 1).wr OBJ.BAD_OBJ o).wr OBJ.CAUSE 0 |>.ev (0x20 + n) err 0x0909 [sj n, sj16 o]
    | none => ((m.wr (CAN.BUILT n) 1).wr (CAN.DUP n) 0).onCan n fun x => { x with index := ix }

/-! ### Error confinement (R279, R281) -/

/-- The error state that TEC and REC give; the entries are reported (R279). (Log: PRESUMED 44) -/
def confine (m : Mod) (n tec : Nat) : Mod :=
  let st := m.rd (CAN.ERRST n)
  if 255 < tec then
    let m := (((m.wr (CAN.TEC n) 255).wr (CAN.ERRST n) 2).inc (CAN.BO_CNT n)).irq (0x20 + n) 0
    let m := m.ev (0x20 + n) err 0x0901 [sj n, vl 255]
    let m := m.onPromises (fun p => (p.cls = 4 ∨ (p.cls = 3 ∧ p.delayed)) ∧ p.target = n) fun p => { p with lost := true }
    let m := if m.on (CAN.BO_AUTO n) then m.wr (CAN.RECOV n) 1 else m
    m.onCan n fun x => { x with monitor := false }
  else
    let m := m.wr (CAN.TEC n) tec
    if 127 < tec ∨ m.on (CAN.RP n) then
      if st = 0 then ((m.wr (CAN.ERRST n) 1).irq (0x20 + n) 1).ev (0x20 + n) warn 0x0903 [sj n, vl tec, vl (m.rd (CAN.REC n))] else m
    else if st = 1 then m.wr (CAN.ERRST n) 0 else m

/-- Add to the receive error count, which shows at most 127 with RP. (Log: PRESUMED 44) -/
def recAdd (m : Mod) (n k : Nat) : Mod :=
  let r := m.rd (CAN.REC n) + k
  if m.on (CAN.RP n) ∨ 127 < r then (m.wr (CAN.REC n) 127).wr (CAN.RP n) 1 else m.wr (CAN.REC n) r

/-- The receive error count after a good frame (ISO 11898-1). (Log: PRESUMED 44, DESIGN CHOICE 45) -/
def recGood (m : Mod) (n : Nat) : Mod :=
  let m := if m.on (CAN.RP n) then (m.wr (CAN.RP n) 0).wr (CAN.REC n) (119 + Config.recBack % 9) else m.wr (CAN.REC n) (m.rd (CAN.REC n) - 1)
  m.confine n (m.rd (CAN.TEC n))

/-- ACK_RUN returns to 0, and LONELY clears (R281). -/
def ackReset (m : Mod) (n : Nat) : Mod := (m.wr (CAN.ACK_RUN n) 0).wr (CAN.LONELY n) 0

/-- An acknowledgement error of the frame in `o` (R281). -/
def ackMiss (m : Mod) (n o : Nat) : Mod :=
  let m := m.inc (CAN.ACK_RUN n)
  if m.rd (CAN.ACK_RUN n) = m.rd (CAN.LONELY_N n) ∧ ¬ m.on (CAN.LONELY n) then
    (((m.wr (CAN.LONELY n) 1).inc (CAN.LONELY_CNT n)).irq (0x20 + n) 2).ev (0x20 + n) warn 0x0904 [sj n, sj32 (m.objIdent o)]
  else m

/-- An identifier collision (R283). -/
def collision (m : Mod) (n o : Nat) : Mod :=
  let id := m.objId o
  let ide := m.objIde o
  let hit := (List.range 8).find? fun e => m.on (CAN.COLL_VALID n e) ∧ m.rd (CAN.COLL_ID n e) = id ∧ m.on (CAN.COLL_IDE n e) = ide
  let free := (List.range 8).find? fun e => ¬ m.on (CAN.COLL_VALID n e)
  let e := hit.getD (free.getD ((m.can n).coll.headD 0))
  let m := match hit with
    | some _ => m.inc (CAN.COLL_COUNT n e)
    | none => (((m.wr (CAN.COLL_ID n e) id).wrB (CAN.COLL_IDE n e) ide).wr (CAN.COLL_VALID n e) 1).wr (CAN.COLL_COUNT n e) 1
  let m := (m.wr (CAN.COLL_TICK16 n e) m.tick).onCan n fun x => { x with coll := x.coll.filter (· ≠ e) ++ [e] }
  (m.irq (0x20 + n) 4).ev (0x20 + n) warn 0x0906 [sj n, sj (if ide then 1 else 0), sj32 (m.objIdent o)]

/-- The entry of the frame being sent has met an error after arbitration (R282). (Log: PRESUMED 44) -/
def attemptFailed (m : Mod) (n o : Nat) : Mod :=
  let q := (m.can n).queue.map fun e => if e.1 = o then (e.1, e.2 + 1) else e
  let tries := ((q.find? (·.1 = o)).map (·.2)).getD 0
  let lim := m.rd (CAN.RETRY_LIM n)
  if lim ≠ 0 ∧ lim ≤ tries then
    let num := SMap.get 0 m.prm.objPrm o
    let m := (m.setQueue n (q.filter (·.1 ≠ o))).setObjBit o 21 false
    let m := m.onPromises (fun p => p.num = num ∧ num ≠ 0) fun p => { p with lost := true }
    ((m.inc (CAN.ABORT_CNT n)).irq (0x20 + n) 3).ev (0x20 + n) warn 0x0905 [sj n, sj32 (m.objIdent o)]
  else m.setQueue n q

/-- The bus time that an event ends (R284). -/
def canSpan (m : Mod) (n : Nat) (sp : Span) : Mod :=
  if m.on (CAN.MODE n) then m.envAdd (4 + n) sp.occ.toNat (if sp.sof then 1 else 0) else m

/-- An error frame (R279 to R283). `code` is LEC, `region` 0 arbitration, 1 before the CRC field, 2 later; `dom` a dominant bit
after the error flag; `flags` how often a bit error met an active error or overload flag that the controller sent, or eight more dominant
bits followed one (ISO 11898-1). (Log: DEDUCED 46) -/
def canFault (m : Mod) (n : Nat) (tx : Bool) (code : Nat) (dataPhase : Bool) (region : Nat) (dom : Bool) (flags : Nat) : Mod :=
  let m := ((m.inc (CAN.ERRF_CNT n)).wr (CAN.LEC n) code).wrB (CAN.LEC_DATA n) dataPhase
  match tx, (m.can n).sending with
  | true, some o =>
    let free := (code = 3 ∧ m.rd (CAN.ERRST n) = 1 ∧ dom = false) ∨ (code = 1 ∧ region = 0)
    let pwm := m.objXl o ∧ dataPhase ∧ m.on (CAN.TMS n)
    let m := if (code = 4 ∨ code = 5) ∧ region = 1 ∧ ¬ pwm then m.collision n o else m
    let m := if code = 3 then m.ackMiss n o else m
    let m := if region = 0 then m else m.attemptFailed n o
    (m.confine n (m.rd (CAN.TEC n) + (if free then 0 else 8) + 8 * flags)).endAttempt n
  | true, none => m
  | false, _ =>
    let m := m.recAdd n ((if dom then 9 else 1) + 8 * flags)
    (m.confine n (m.rd (CAN.TEC n))).endAttempt n

/-- A transceiver that has left Normal, or whose transmitter is disabled for want of the auxiliary supply, cuts the frame being sent short:
its dominant bits no longer reach the bus (R285, R372). (Log: DESIGN CHOICE 144) -/
def canCut (m : Mod) (n : Nat) : Mod :=
  let v := Config.cutAt n m.tick
  if (m.can n).sending.isSome ∧ (m.rd (TRX.STATE (0x20 + n)) ≠ 3 ∨ m.on PWR.AUX_LOW) then m.canFault n true 5 (v / 3 % 2 = 1) (v % 3) false 0 else m

/-! ### Reception (R271, R272, R274) -/

/-- An unread frame of an object is lost (R272). -/
def frameLost (m : Mod) (n o : Nat) : Mod :=
  ((((m.setObjBit o 19 true).inc (CAN.LOST_CNT n)).irq (0x20 + n) 5).ev (0x20 + n) info 0x0907 [sj n, sj16 o])

/-- The indivisible store of a received frame in an object at cycle `cyc`. -/
def canStore (m : Mod) (n o : Nat) (f : CanFrame) (ts cyc : Nat) : Mod :=
  if m.poolFits f then
    let m := if m.objBit o 18 then m.frameLost n o else m
    (((m.putFrame o f).store (objAddr o + 12) 4 (ts % 2 ^ 32)).inc (CAN.RX_OK_CNT n)).routedStore n o cyc
  else m.poolDrop n o f

/-- A new frame for an object: into the shadow buffer while the object is locked, else stored (R274). -/
def canDeliver (m : Mod) (n o : Nat) (f : CanFrame) (cyc : Nat) : Mod :=
  let x := m.can n
  if x.lock.any (fun l => l.obj = o) then
    let m := if x.shadow.isSome then
      (m.frameLost n o).onCan n fun y => { y with lock := y.lock.map fun l => { l with lost := true } } else m
    m.onCan n fun y => { y with shadow := some (f, m.stamp cyc) }
  else m.canStore n o f (m.stamp cyc) cyc

/-- What a good frame tells the engine of its network (R355, R356, R363). -/
def nmHear (m : Mod) (p : Nat) (msg : Option (Bool × Option Nat)) : Mod :=
  match m.engineOf p with
  | none => m
  | some n =>
    if (m.nm n).entry then (if m.on (TRX.WAKE_EN (portPage p)) then m.onTrx p fun x => { x with latched := true } else m)
    else m.onNm n fun x =>
      let x := { x with lValid := true }
      match msg with
      | some (rpt, node) => { x with lNm := true, lNmRpt := x.lNmRpt || rpt, lNode := node.getD x.lNode }
      | none => x

/-- The NM message that a received CAN frame is (R356). -/
def canNmMsg (m : Mod) (n : Nat) (f : CanFrame) : Option (Bool × Option Nat) :=
  if ¬ f.ide ∧ f.id &&& m.rd (NM.RX_MASK n) = m.rd (NM.RX_ID n) &&& m.rd (NM.RX_MASK n) then
    some (decide (2 ≤ f.data.length) && (f.data.getD 1 0).testBit 0, f.data.head?)
  else none

/-- A received frame becomes valid (R271). (Log: DEDUCED 48) -/
def canReceive (m : Mod) (n : Nat) (f : CanFrame) (cyc : Nat) : Mod :=
  if (f.fdf ∧ ¬ m.on (CAN.FD_EN n)) ∨ (f.xlf ∧ ¬ m.canXl n) then
    if m.on (CAN.PEX n) then m.endAttempt n else m.canFault n false 2 false 1 false 0
  else
    let m := (((m.recGood n).ackReset n).nmHear (4 + n) (m.canNmMsg n f)).endAttempt n
    match (m.can n).index.find? (fun e => e.1 = objKey 0 f.ide f.id) with
    | some e => m.canDeliver n e.2 { f with rtr := f.rtr } cyc
    | none =>
      let d := m.rd (CAN.DEF_OBJ n)
      if d = 0xFFF then m.inc (CAN.UNMATCH_CNT n) else m.canDeliver n d f cyc

/-! ### Conditional clear and locks (R273, R274) -/

/-- The conditional clear of a receive object. -/
def condClear (m : Mod) (o v : Nat) : Mod :=
  if fld v 25 22 = m.objSeq o then
    let m := if v.testBit 18 then m.setObjBit o 18 false else m
    if v.testBit 19 then m.setObjBit o 19 false else m
  else m

/-- A read of bytes 0 to 3 of a receive object takes its controller's lock, in lock mode and where none is held. `r`: the pair
(`none`) or an initiator slot. -/
def lockTake (m : Mod) (o : Nat) (r : Option Nat) : Mod :=
  let n := m.objCtrl o
  if m.objTx o ∨ 12 ≤ n ∨ m.rd (CAN.LOCK_MODE n) = 0 ∨ (m.can n).lock.isSome then m
  else ((m.setObjBit o 20 true).wr (CAN.LOCK_OBJ n) o).onCan n fun x => { x with lock := some ⟨r, o, m.tick, false⟩ }

/-- A word of an object as `r` reads it: bytes 8 to 11 show LOCKED to the holder of the lock only. -/
def objShow (m : Mod) (o b : Nat) (r : Option Nat) : Nat :=
  let v := m.load (objAddr o + b) 4
  if b = 8 ∧ ¬ (m.can (m.objCtrl o)).lock.any (fun l => l.obj = o ∧ l.reader = r) then setBit v 20 false else v

/-- A lock ends in cycle `cyc` of the tick: LOCKED clears and the shadow frame, if any, is stored at once. -/
def lockEnd (m : Mod) (n cyc : Nat) : Mod :=
  match (m.can n).lock with
  | none => m
  | some l =>
    let sh := (m.can n).shadow
    let m := ((m.setObjBit l.obj 20 false).wr (CAN.LOCK_OBJ n) 0xFFF).onCan n fun x => { x with lock := none, shadow := none }
    match sh with
    | some (f, ts) => m.canStore n l.obj f ts cyc
    | none => m

/-- A read of bytes 76 to 79 by the initiator that took the lock: the frame read is done with, and so is a loss before it. -/
def lockRelease (m : Mod) (o : Nat) (r : Option Nat) (cyc : Nat) : Mod :=
  let n := m.objCtrl o
  match (m.can n).lock with
  | some l =>
    if l.obj = o ∧ l.reader = r then
      let m := m.setObjBit o 18 false
      (if l.lost then m else m.setObjBit o 19 false).lockEnd n cyc
    else m
  | none => m

/-- A read of the object store's word at `a` by `r` in cycle `cyc`, with the lock's start and end. -/
def objRead (m : Mod) (a : Nat) (r : Option Nat) (cyc : Nat) : Mod × Nat :=
  if 0x21050000 ≤ a then (m, m.load a 4)
  else
    let o := (a - 0x21000000) / 80
    let b := (a - 0x21000000) % 80
    let m := if b < 4 then m.lockTake o r else m
    let v := m.objShow o b r
    (if 76 ≤ b then m.lockRelease o r cyc else m, v)

/-- A lock is broken: at the tick boundary, or at its timeout. -/
def lockBreak (m : Mod) (n cyc : Nat) : Mod :=
  match (m.can n).lock with
  | some l => ((m.inc (CAN.LOCK_BROKEN_CNT n)).ev (0x20 + n) info 0x090B [sj n, sj16 l.obj]).lockEnd n cyc
  | none => m

/-- At the tick boundary every lock of the pair is broken. -/
def pairLocks (m : Mod) : Mod := forN 12 (fun m n => if (m.can n).lock.any (·.reader = none) then m.lockBreak n 0 else m) m

/-- A rollback in cycle `cyc` ends the locks that the pair took, with no record (R274). -/
def rollbackLocks (m : Mod) (cyc : Nat) : Mod :=
  forN 12 (fun m n => if (m.can n).lock.any (·.reader = none) then m.lockEnd n cyc else m) m

/-! ### Writes to the object store (R270, R273, R292) -/

/-- The places of a word of an object that define it (R270), by its byte offset; `tx` a transmit object. (Log: DEDUCED 111) -/
def defining (b : Nat) (tx : Bool) : Nat :=
  if b = 0 then 0x3FFFFFFF else if b = 4 then (if tx then 0x00FFFF90 else 0) else if b = 8 then 0x0003F000 else 0

/-- A word with the reserved bits of Table 09-3 at 0. -/
def objBits (b v : Nat) : Nat := if b = 0 then v % 2 ^ 31 else if b = 4 then v % 2 ^ 25 else v

/-- A word write at `a` of the object store; `false` where a window is refused. The pair writes the content of an object, a
conditional clear, and with MODE 0 the defining fields, which keep their values otherwise; a Vinko window only a conditional
clear. A word written to a transmit object is content, its defining fields aside. (Log: DEDUCED 111) -/
def objWrite (m : Mod) (a v : Nat) (vinko : Bool) : Mod × Bool :=
  let o := (a - 0x21000000) / 80
  let b := (a - 0x21000000) % 80
  let tx := m.objTx o
  let off := m.rd (CAN.MODE (m.objCtrl o)) = 0
  let old := m.load a 4
  if 0x21050000 ≤ a then
    if vinko then (m.badObj 0 2, false) else (m.store a 4 v, true)
  else if b = 8 ∧ tx = false ∧ (vinko ∨ ¬ off) then (m.condClear o v, true)
  else if vinko then (m.badObj o 2, false)
  else if off then
    let n := if b = 8 then old - old % 2 ^ 18 + v % 2 ^ 18 else objBits b v
    let tx' := if b = 8 then v.testBit 16 else tx
    let m := if tx' ∧ b ≠ 12 then m.objContent o a n else m.store a 4 n
    (if b = 8 ∧ tx = false then m.condClear o v else m, true)
  else
    let k := defining b tx
    let n := objBits b (old &&& k ||| v &&& (0xFFFFFFFF ^^^ k))
    let n := if b = 8 then old - old % 2 ^ 12 + v % 2 ^ 12 else n
    let bad := (old ^^^ v) &&& k ≠ 0
    let m := if bad then m.badObj o 1 else m
    if bad ∧ n = old then (m, true)
    else if tx = false ∨ b = 12 then (m.store a 4 n, true)
    else (m.objContent o a n, true)

/-! ### Moves between objects and the backbone (R270, R275, R278) -/

/-- MOV_E2C at its release: the content of the ingress frame, at once or when the attempt that sends the object ends (R277). -/
def moveE2c (m : Mod) (o : Nat) (f : CanFrame) (prm : Nat) : Mod :=
  let n := m.objCtrl o
  if (m.can n).sending = some o then m.onCan n fun x => { x with deferred := x.deferred ++ [.inr (f, prm)] }
  else m.e2cStore o f prm

/-- The full timestamp of a TS word, which is not later than the present tick (R323). -/
def fullStamp (m : Mod) (ts : Nat) : Nat :=
  let now := m.stamp 1999
  now - (now + 2 ^ 32 - ts % 2 ^ 32) % 2 ^ 32

/-- The frame that MOV_C2E takes: the shadow buffer's where one is held for the object, else the unread one (R275). -/
def c2eFrame (m : Mod) (o : Nat) : Option (CanFrame × Nat) :=
  let x := m.can (m.objCtrl o)
  if x.lock.any (fun l => l.obj = o) ∧ x.shadow.isSome then x.shadow
  else if m.objBit o 18 then some (m.objFrame o, m.fullStamp (m.objWord o 3)) else none

/-- A write of 1 to RESTART (R280). -/
def canRestart (m : Mod) (n : Nat) : Mod :=
  if m.rd (CAN.ERRST n) = 2 ∧ m.rd (CAN.BO_AUTO n) = 0 ∧ m.rd (CAN.RECOV n) = 0 then
    (m.wr (CAN.RECOV n) 1).onCan n fun x => { x with monitor := true }
  else m

/-! ### Park (R289) -/

/-- Park or Shelf entry: queues, flags, locks and chains. -/
def canPark (m : Mod) : Mod :=
  let m := forN 12 (fun m n =>
    let m := m.emptyQueue n
    let m := ((m.wr (CAN.TEC n) 0).wr (CAN.REC n) 0).wr (CAN.RP n) 0
    let m := ((m.wr (CAN.ERRST n) 3).wr (CAN.RECOV n) 0).wr (CAN.LOCK_OBJ n) 0xFFF
    m.onCan n fun x => { x with deferred := [], lock := none, shadow := none, modePend := none, monitor := false }) m
  let objs := fun (b : Nat) => m.mem.filterMap fun e =>
    if 0x21000000 ≤ e.1 ∧ e.1 < 0x21050000 ∧ (e.1 - 0x21000000) % 80 = b then some ((e.1 - 0x21000000) / 80) else none
  let m := (objs 10).foldl (fun m o => m.setByte (objAddr o + 10) (m.byte (objAddr o + 10) &&& 0xE3)) m
  let m := (objs 4).foldl (fun m o => if m.objXl o then
    m.store (objAddr o + 20) 4 (let w := m.load (objAddr o + 20) 4; w - fld w 15 11 * 2 ^ 11) else m) m
  m.poolSet []

end Mod

/-! ### The commands -/

/-- CAN_MODE_OFF (R266). -/
def execCanModeOff (n : BusyCan) (s : State) : Out := s.next fun m => m.canMode n.n 0 n.busy

/-- CAN_MODE_NORMAL (R264, R266). -/
def execCanModeNormal (n : BusyCan) (s : State) : Out := s.next fun m => m.canMode n.n 1 n.busy

/-- CAN_MODE_LISTEN_ONLY (R264, R266). -/
def execCanModeListenOnly (n : BusyCan) (s : State) : Out := s.next fun m => m.canMode n.n 2 n.busy

/-- BUILD (R270). -/
def execBuild (n : Fin 12) (s : State) : Out := s.next fun m => m.canBuild n

/-- CAN_FRAME_VALID (R271, R272, R274, R284, R355). -/
def execCanFrameValid (n : Fin 12) (f : BusFrame) (cyc : BitVec 11) (sp : Span) (s : State) : Out :=
  s.next fun m =>
    let m := m.canSpan n sp
    if m.canLive n then m.canReceive n (busFrame f) cyc.toNat else m

/-- CONDITIONAL_CLEAR (R273): of a receive object; the pair's leaves at the tick boundary, a window's acts when its write completes. -/
def execConditionalClear (o : BitVec 12) (v : WordBy) (s : State) : Out :=
  s.next fun m => if m.objTx o.toNat then m else match v.w with
    | .pair => m.pairCommit (objAddr o.toNat + 8) v.v.toNat
    | .vinko => m.condClear o.toNat v.v.toNat

/-- LOCK_TAKE (R274). -/
def execLockTake (o : BitVec 12) (r : Option (Fin 16)) (s : State) : Out := s.next fun m => m.lockTake o.toNat (r.map (·.val))

/-- LOCK_RELEASE (R274). -/
def execLockRelease (o : BitVec 12) (r : ReadBy) (s : State) : Out :=
  s.next fun m => m.lockRelease o.toNat (r.r.map (·.val)) r.cyc.toNat

/-- LOCK_TIMEOUT (R274). -/
def execLockTimeout (n : LockAt) (s : State) : Out :=
  s.next fun m => if (m.can n.n).lock.any (·.reader ≠ none) then m.lockBreak n.n n.cyc.toNat else m

/-- TXQ_REQ (R276): the pair's write leaves at the tick boundary. (Log: DEDUCED 47) -/
def execTxqReq (n : Fin 12) (o : BitVec 12) (w : Writer) (s : State) : Out :=
  s.next fun m => match w with
    | .pair => m.pairCommit (Mod.regAddr (0x20 + n) 0x140) (o.toNat + 2 ^ 31)
    | .vinko => m.canEnter n o.toNat

/-- The transmitter delay measured at the edge of an FD or XL frame that is sent (R265). -/
def Mod.canDelay (m : Mod) (n : Nat) (delay : Option Nat) : Mod :=
  match delay, (m.can n).sending with
  | some d, some o =>
    let w1 := m.objWord o 1
    if m.on (CAN.EN n) ∧ (w1.testBit 4 ∨ w1.testBit 7) then m.wr (CAN.TDCV n) d else m
  | _, _ => m

/-- CAN_TX_SUCCESS (R265, R277, R279, R281): where the transceiver can drive the bus. -/
def execCanTxSuccess (n : Fin 12) (cyc : BitVec 11) (delay : Byte) (sp : Span) (s : State) : Out :=
  s.next fun m =>
    let m := m.canSpan n sp
    match (m.can n).sending with
    | none => m
    | some o =>
      if ¬ m.txOk (4 + n) then m else
      let num := SMap.get 0 m.prm.objPrm o
      let m := m.canDelay n (some delay.toNat)
      let m := m.setQueue n ((m.can n).queue.filter (·.1 ≠ o))
      let m := ((m.setObjBit o 21 false).setObjBit o 18 false).store (Machine.objAddr o + 12) 4 (m.stamp cyc.toNat % 2 ^ 32)
      let m := ((m.inc (CAN.TX_OK_CNT n)).ackReset n).confine n (m.rd (CAN.TEC n) - 1)
      let m := (if num = 0 then m else m.promiseDone num).onPrm fun x => { x with objPrm := SMap.set 0 x.objPrm o 0 }
      m.endAttempt n

/-- The controller's read of word `k` of the object being sent finds an error (R420, R421): at an uncorrectable one its entry leaves the
queue. (Log: DESIGN CHOICE 63) -/
def Mod.txRead (m : Mod) (n k : Nat) (ue : Bool) : Mod :=
  match (m.can n).sending with
  | none => m
  | some o =>
    let m := m.objHit o k ue
    if ue then
      let num := SMap.get 0 m.prm.objPrm o
      let m := (m.setQueue n ((m.can n).queue.filter (·.1 ≠ o))).setObjBit o 21 false
      ((m.onPromises (fun p => p.num = num ∧ num ≠ 0) fun p => { p with lost := true }).inc (CAN.ABORT_CNT n)).endAttempt n
    else m

/-- CAN_ERROR (R265, R279, R281 to R284, R421). (Log: DEDUCED 46) -/
def execCanError (n : Fin 12) (tx : Bool) (code : Fin 6) (dataPhase : Bool) (region : Fin 3) (dom : AfterError) (sp : Span)
    (ecc : Option (Fin 20 × Bool)) (s : State) : Out :=
  s.next fun m =>
    let m := m.canSpan n sp
    match ecc with
    | some (k, ue) => m.txRead n k ue
    | none =>
      if m.on (CAN.MODE n) ∧ m.rd (CAN.ERRST n) ≤ 1 then
        let m := if tx then m.canDelay n (dom.delay.map (·.toNat)) else m
        m.canFault n tx (code + 1) dataPhase region dom.dom dom.flags
      else m

/-- BO_DELAY_END (R280). -/
def execBoDelayEnd (n : Fin 12) (s : State) : Out :=
  s.next fun m =>
    if m.on (CAN.RECOV n) ∧ m.rd (CAN.ERRST n) = 2 then m.onCan n fun x => { x with monitor := true } else m

/-- BUS_OFF_RECOVERY_DONE (R280). -/
def execBusOffRecoveryDone (n : Fin 12) (s : State) : Out :=
  s.next fun m =>
    if m.on (CAN.RECOV n) ∧ (m.can n).monitor then
      let m := ((m.wr (CAN.RECOV n) 0).wr (CAN.ERRST n) 0).wr (CAN.TEC n) 0
      let m := ((m.wr (CAN.REC n) 0).wr (CAN.RP n) 0).onCan n fun x => { x with monitor := false }
      (m.ev (0x20 + n) info 0x0902 [sj n, vl16 (m.rd (CAN.BO_CNT n))]).arbitrate n
    else m

/-- RESTART (R280). -/
def execRestart (n : Fin 12) (s : State) : Out := s.next fun m => m.canRestart n

/-- CAN_BUS_INTEGRATED (R266). -/
def execCanBusIntegrated (n : Fin 12) (s : State) : Out :=
  s.next fun m =>
    if m.on (CAN.MODE n) ∧ m.rd (CAN.ERRST n) = 3 ∧ 2 ≤ m.rd (TRX.STATE (0x20 + n)) then (m.wr (CAN.ERRST n) 0).arbitrate n else m

end Sys2Proof.Machine
end

