-- ==== Sys2Proof/Machine/LinT1s.lean ====
section
/-! DEFINITION. LIN clusters and 10BASE-T1S segments (chapter 10), the switch's egress queues (R316, R317), and the outcome of
far-side transactions (R340, R344). -/
namespace Sys2Proof.Machine
open Reg

/-- The words of a payload, each sent most significant byte first (R328). -/
def beWords : List Nat → List Nat
  | a :: b :: c :: d :: l => beNum [a, b, c, d] :: beWords l
  | _ => []

/-- The bytes of the module's little-endian words in the order in which their words are sent (R8, R328). -/
def swapWords : List Nat → List Nat
  | a :: b :: c :: d :: l => d :: c :: b :: a :: swapWords l
  | l => l

/-- Words as value and mask. -/
def maskPairs : List Nat → List (Nat × Nat)
  | v :: k :: l => (v, k) :: maskPairs l
  | _ => []

/-- The words that a WRITE or WRITE_M carries, each with its mask (Table 11-4). -/
def Txn.writes (t : Txn) : List (Nat × Nat) :=
  if t.op = 3 then maskPairs (beWords t.payload) else (beWords t.payload).map fun v => (v, 0xFFFFFFFF)

/-- Bytes with masked words written over them from `pos` on. -/
def overlay (b : List Nat) (pos : Nat) : List (Nat × Nat) → List Nat
  | [] => b
  | (v, k) :: l =>
    let w := leNum ((b.drop pos).take 4) &&& (0xFFFFFFFF ^^^ k) ||| v &&& k
    overlay (b.take pos ++ leBytes 4 w ++ b.drop (pos + 4)) (pos + 4) l

namespace Mod

def lin (m : Mod) (p : Nat) : LinX := SMap.get {} m.lins p
def onLin (m : Mod) (p : Nat) (f : LinX → LinX) : Mod := { m with lins := SMap.set {} m.lins p (f (m.lin p)) }
def tseg (m : Mod) (n : Nat) : T1sX := SMap.get {} m.t1s n
def onTseg (m : Mod) (n : Nat) (f : T1sX → T1sX) : Mod := { m with t1s := SMap.set {} m.t1s n (f (m.tseg n)) }
def onEts (m : Mod) (f : EtsX → EtsX) : Mod := { m with ets := f m.ets }

/-! ### Far-side outcomes (R340) -/

/-- A far-side transaction ends with far code `far`, 0 for success. -/
def farDone (m : Mod) (t : Txn) (far : Nat) (payload : List Nat) : Mod :=
  if m.vnk.late.contains t then
    ((m.onVnk fun x => { x with late := x.late.erase t }).txnNotice t 4 far).ev 0x3E warn 0x0B0C [sj t.win, vl16 t.seq]
  else if ¬ m.vnk.open_.contains t then m
  else if t.posted ∧ far ≠ 0 then
    (((m.txnClose t).remember t 8).inc VNK.FAR_FAIL_CNT).txnNotice t 3 far |>.ev 0x3E warn 0x0B07 [sj t.win, sj32 t.addr]
  else m.complete t (if far = 0 then 0 else 8) far payload

/-- An earlier open transaction of the same initiator and window holds this one back (R338, Table 11-8): only a posted write
passes, and only a read. -/
def txnBlocked (m : Mod) (t : Txn) : Bool :=
  (m.vnk.open_.takeWhile fun e => e ≠ t).any fun e => e.slot = t.slot && e.win = t.win && !(t.posted && e.op = 1)

/-- The open transactions, the initiators of each window in turn from the slot after the one served last, each in the order of
arrival (R338). -/
def inTurn (m : Mod) : List Txn :=
  (List.range 16).flatMap fun k => m.vnk.open_.filter fun t => (t.slot + 15 - SMap.get 0 m.vnk.turn t.win % 16) % 16 = k

/-- The waiting transaction of a LIN_DIAG window of port `p` that `f` picks (Table 11-7). -/
def diagTxn (m : Mod) (p : Nat) (f : Txn → Bool) : Option Txn :=
  ((m.inTurn.filter fun t => !m.txnBlocked t) ++ m.vnk.late).find? fun t =>
    m.rd (VNK.WIN_TYPE t.win) = 2 ∧ m.rd (VNK.WIN_SEL t.win) % 8 = p ∧ f t

/-! ### LIN headers (R294, R295, R297, R298) -/

/-- The protected identifier (R298). -/
def linPid (id : Nat) : Nat :=
  let b := fun i => id.testBit i
  id + (if (b 0 ^^ b 1) ^^ (b 2 ^^ b 4) then 64 else 0) + (if (b 1 ^^ b 3) ^^ (b 4 ^^ b 5) then 0 else 128)

/-- The checksum of a response, as CHK selects (R294): the inverted sum with carry of its bytes, the enhanced one with the protected
identifier too; 0x3C and 0x3D take the classic one. (Log: PRESUMED 145) -/
def linCheck (m : Mod) (p id : Nat) (d : List Nat) : Nat :=
  let l := if m.on (LIN.CHK p id) ∧ id ≠ 0x3C ∧ id ≠ 0x3D then linPid id :: d else d
  255 - l.foldl (fun a b => if 255 < a + b then a + b - 255 else a + b) 0

/-- RES of a response that ended with `res` (R296): a complete one is judged by its checksum, one that the module published is its own.
(Log: PRESUMED 145) -/
def linResult (m : Mod) (p id res : Nat) (d : List Nat) (chk : Nat) : Nat :=
  let n := m.rd (LIN.FT_LEN p id)
  if res ≠ 1 ∧ res ≠ 4 then res
  else if m.rd (LIN.DIR p id) = 1 then 1
  else if d.length < n then 3
  else if chk = m.linCheck p id (d.take n) then 1 else 4

/-- The eight bytes of PUB[id]. -/
def pubBytes (m : Mod) (p id : Nat) : List Nat := leBytes 4 (m.rd (LIN.PUB p id 0)) ++ leBytes 4 (m.rd (LIN.PUB p id 1))

/-- The response that the module sends: LEN bytes of PUB[id] and their checksum (R294, R297). -/
def linPublished (m : Mod) (p id : Nat) : List Nat :=
  let d := (m.pubBytes p id).take (m.rd (LIN.FT_LEN p id))
  d ++ [m.linCheck p id d]

/-- Write bytes into PUB[id] from byte 0. -/
def setPub (m : Mod) (p id : Nat) (l : List Nat) : Mod :=
  let b := l ++ (m.pubBytes p id).drop l.length
  (m.wr (LIN.PUB p id 0) (leNum (b.take 4))).wr (LIN.PUB p id 1) (leNum ((b.drop 4).take 4))

/-- The engine of the port lets the header of `id` out (R353, R359, R360). -/
def linLets (m : Mod) (p id : Nat) : Bool :=
  match m.engineOf (16 + p) with
  | none => true
  | some n =>
    let s := m.rd (NM.STATE n)
    let x := m.nm n
    if s = 5 then id = 0x3C && x.goSleep else if s ≤ 1 then false else !x.wakeTx && !x.letNext

/-- A LIN_HDR is released at the boundary that ends its tick (R295). (Log: DEDUCED 56) -/
def linHeader (m : Mod) (p id : Nat) (boundary : Bool) : Mod :=
  let h := m.tick - 1
  let slot := m.prm.linSlots.find? fun b => b.tick = h ∧ b.port = p ∧ b.id = id
  let m : Mod := match slot with
    | some b =>
      let m := (m.setPub p id (b.bytes.take (m.rd (LIN.FT_LEN p id)))).onLin p fun x => { x with pubPrm := SMap.set 0 x.pubPrm id b.prm }
      m.onPrm fun x => { x with linSlots := x.linSlots.erase b }
    | none => m
  if ¬ m.linLets p id then m.inc (LIN.HDR_SKIP_CNT p)
  else if m.rd (LIN.DIR p id) = 3 ∨ (m.lin p).cur.isSome ∨ ¬ m.on (LIN.EN p) ∨ ¬ m.txOk (16 + p) then
    (m.inc (LIN.HDR_SKIP_CNT p)).ev (0x30 + p) warn 0x0A02 [sj (16 + p), sj id]
  else
    let d : Option Txn := if id = 0x3C then m.diagTxn p (fun t => decide (t.op ≠ 1)) else none
    let m : Mod := match d with
      | some t =>
        let m := m.setPub p id (overlay (m.pubBytes p id) t.addr t.writes)
        m.onVnk fun x => { x with nad := SMap.set 0 x.nad p ((m.pubBytes p id).headD 0), turn := SMap.set 0 x.turn t.win t.slot }
      | none => m
    let m : Mod := match m.engineOf (16 + p) with
      | some n => if id = 0x3C then m.onNm n fun x => { x with goSleep := false } else m
      | none => m
    let m := ((m.wr (LIN.BUSY p) 1).wr (LIN.LAST_ID p) id).envStart (16 + p) boundary
    m.onLin p fun x => { x with cur := some id, since := m.stamp 0, diag := d, pub := if m.rd (LIN.DIR p id) = 1 then m.linPublished p id else [] }

/-- The occupancy of a wake pulse up to the present boundary is counted (R302). (Log: DEDUCED 146) -/
def pulseOccupy (m : Mod) (p : Nat) : Mod :=
  match (m.lin p).pulse with
  | some (a, b) =>
    let c := Nat.min b (m.stamp 0)
    (m.envAdd (16 + p) (c - a) 0).onLin p fun x => { x with pulse := if c = b then none else some (c, b) }
  | none => m

/-- The occupancy of a frame in progress up to now is counted (R302). -/
def linOccupy (m : Mod) (p cyc : Nat) : Mod :=
  if (m.lin p).cur.isSome then (m.envAdd (16 + p) (m.stamp cyc - (m.lin p).since) 0).onLin p fun x => { x with since := m.stamp cyc } else m

/-- Stage an effect for the combined commit (R48). -/
def stage (m : Mod) (src : Src) (e : Effect) : Mod := { m with frm := { m.frm with staged := m.frm.staged ++ [⟨src, e⟩] } }

/-- Stage a frame of a talker stream for the combined commit (R327). -/
def stageAcf (m : Mod) (g : Nat) (body : List Nat) : Mod := m.stage ⟨2, 0x3FF, 56⟩ (.acf g body)

/-- The ACF LIN message of a response (IEEE 1722): type, length, pad and mtv, bus, the time, the identifier, the bytes.
(Log: PRESUMED 50) -/
def acfLin (p id time : Nat) (d : List Nat) : List Nat :=
  let pad := (4 - d.length % 4) % 4
  let quad := (12 + d.length + pad) / 4
  beBytes 2 (3 * 512 + quad) ++ [pad * 64 + 32 + p, id] ++ beBytes 8 time ++ d ++ List.replicate pad 0

/-- Vehicle time in ns of a 5 ns timestamp (R321, R323). -/
def vehicleNs (m : Mod) (ts : Nat) : Nat := (m.rd PTP.EPOCH_LO + m.rd PTP.EPOCH_HI * 2 ^ 32 + ts * 5) % 2 ^ 64

/-- A response ends (R296 to R298, R302, R327, R344, R355): `chk` the checksum byte read. -/
def linEnd (m : Mod) (p res : Nat) (d : List Nat) (chk cyc : Nat) : Mod :=
  let x := m.lin p
  match x.cur with
  | none => m
  | some id =>
    let res := m.linResult p id res d chk
    let m := (m.linOccupy p cyc).onLin p fun y => { y with cur := none, pub := [], diag := none }
    let m := (((m.wr (LIN.BUSY p) 0).wr (LIN.LAST_RES p) res).wr (LIN.RES p id) res).wr (LIN.TICK16 p id) m.tick
    let m := if res = 1 then m.inc (LIN.OK_CNT p) else (m.inc (LIN.ERR_CNT p)).ev (0x30 + p) info 0x0A01 [sj (16 + p), sj id, vl res]
    let m := if res = 1 then m.nmHear (16 + p) none else m
    let m := if m.rd (LIN.DIR p id) = 2 ∧ res = 1 then
        let old := leBytes 4 (m.rd (LIN.SUB p id 0)) ++ leBytes 4 (m.rd (LIN.SUB p id 1))
        let b := d.take (m.rd (LIN.FT_LEN p id))
        let b := b ++ old.drop b.length
        let m := if m.on (LIN.NEW p id) then (m.wr (LIN.LOST p id) 1).inc (LIN.LOST_CNT p) else m
        let m := (m.wr (LIN.SUB p id 0) (leNum (b.take 4))).wr (LIN.SUB p id 1) (leNum ((b.drop 4).take 4))
        let m := (m.wr (LIN.NEW p id) 1).wr (LIN.SEQ p id) (m.rd (LIN.SEQ p id) + 1)
        match m.img.routes.find? (fun e => e.kind = 3 ∧ e.src = id + 256 * p) with
        | some e => m.stageAcf e.dst (acfLin p id (m.vehicleNs (m.stamp cyc)) (d.take (m.rd (LIN.FT_LEN p id))))
        | none => m
      else m
    let num := SMap.get 0 x.pubPrm id
    let m := if m.rd (LIN.DIR p id) ≠ 1 ∨ num = 0 then m
      else if res = 1 then (m.promiseDone num).onLin p fun y => { y with pubPrm := SMap.set 0 y.pubPrm id 0 }
      else m.onPromises (fun q => q.num = num) fun q => { q with lost := true }
    let m := match x.diag with
      | some t => m.farDone t (if res = 1 then 0 else 256 + res) []
      | none => m
    if id = 0x3D then
      match m.diagTxn p (fun t => decide (t.op = 1)) with
      | some t =>
        if res ≠ 1 then m.farDone t (256 + res) []
        else if d.headD 0 = SMap.get 0 m.vnk.nad p then m.farDone t 0 (swapWords (((d ++ List.replicate 8 0).drop (t.addr - 8)).take t.aux))
        else m
      | none => m
    else m

/-- A write of 1 to WAKE_TX (R301); the pulse before it is counted as far as it has run, and one that still runs is drawn out.
(Log: DEDUCED 146) -/
def linWakeTx (m : Mod) (p : Nat) : Mod :=
  if m.rd (TRX.STATE (0x30 + p)) = 3 ∧ (m.lin p).cur.isNone then
    let m := m.pulseOccupy p
    let stop := m.stamp 0 + m.rd (LIN.WAKE_LEN p) * 10000
    m.onLin p fun x => { x with pulse := some (m.stamp 0, match x.pulse with
      | some (_, b) => Nat.max b stop
      | none => stop) }
  else m.inc (LIN.HDR_SKIP_CNT p)

/-- Park or Shelf entry (R308). -/
def linPark (m : Mod) : Mod :=
  let m := forN 8 (fun m p => forN 64 (fun m id => (m.wr (LIN.NEW p id) 0).wr (LIN.LOST p id) 0)
    ((m.onLin p fun x => { x with cur := none, pub := [], diag := none, pubPrm := [], pulse := none }).wr (LIN.BUSY p) 0)) m
  forN 2 (fun m n => (m.onTseg n fun x => { x with pq := [], nm := none }).wr (TS.PQ_LVL n) 0) m

/-! ### The switch (R316, R317) -/

/-- The bytes that wait for egress port `e`: beyond each queue's guaranteed 4 KiB, and in queue `q`. -/
def egressShared (m : Mod) (e : Nat) : Nat := forN 8 (fun a q => a + ((SMap.get [] m.ets.queues (8 * e + q)).sum - 4096)) 0
def egressFill (m : Mod) (e q : Nat) : Nat := (SMap.get [] m.ets.queues (8 * e + q)).sum

/-- Queue a frame of `len` bytes on egress port `e`, or drop it for want of buffer (R317). (Log: DEDUCED 55) -/
def egressPut (m : Mod) (e q len : Nat) : Mod :=
  let f := m.egressFill e q
  if f + len ≤ 4096 ∨ m.egressShared e + (f + len - 4096) - (f - 4096) ≤ 32768 then
    m.onEts fun x => { x with queues := SMap.set [] x.queues (8 * e + q) (SMap.get [] x.queues (8 * e + q) ++ [len]) }
  else m.inc (ETS.DROP_CNT e q)

/-- The bytes of a frame on the wire. -/
def ethLen (f : EthFrame) : Nat := 18 + (if f.vlan.isSome then 4 else 0) + (if f.rtag.isSome then 6 else 0) + Nat.max 46 f.payload.length

/-- Switch a frame from ingress port `i` (0 BB0, 1 BB1, 2 TS0, 3 TS1): by its destination address, else flooded to every port
but its own and the host port (R316). (Log: DEDUCED 54) -/
def switchFrame (m : Mod) (i : Nat) (f : EthFrame) : Mod :=
  let q := match f.vlan with
    | some (pcp, _) => pcp.toNat
    | none => m.rd ETS.DEF_PCP
  match m.ets.macs.find? (fun e => e.1 = f.dst.toNat) with
  | some (_, e) => if e = i then m else m.egressPut e q (ethLen f)
  | none => forN 4 (fun m e => if e = i then m else m.egressPut e q (ethLen f)) m

/-- The egress queue of a port that strict priority serves next, a shaped one only while its credit is not below 0 (R316).
(Log: DEDUCED 49) -/
def egressNext (m : Mod) (e : Nat) : Option Nat := (List.range 8).reverse.find? fun q =>
  SMap.get [] m.ets.queues (8 * e + q) ≠ [] && (!m.on (ETS.CBS_EN e q) || 0 ≤ SMap.get 0 m.ets.credit (8 * e + q))

/-- The bytes that a frame takes on the wire beside its own: preamble and gap. -/
def wireExtra : Nat := 20

/-- The first frame of egress queue `q` of port `e` leaves, at the cost of its bits where the queue is shaped. (Log: PRESUMED 148) -/
def egressPop (m : Mod) (e q : Nat) : Mod :=
  let k := 8 * e + q
  let l := SMap.get [] m.ets.queues k
  let cost : Int := if m.on (ETS.CBS_EN e q) then 800 * (l.headD 0 + wireExtra) else 0
  m.onEts fun x => { x with queues := SMap.set [] x.queues k l.tail, credit := SMap.set 0 x.credit k (SMap.get 0 x.credit k - cost) }

/-- The credit of queue `k` after one more tick (R316): IDLE_SLOPE is gained, and nothing above 0 is kept while no frame waits.
(Log: PRESUMED 148) -/
def creditNext (m : Mod) (k : Nat) : Int :=
  if ¬ m.on (ETS.CBS_EN (k / 8) (k % 8)) then 0
  else
    let c := SMap.get 0 m.ets.credit k + m.rd (ETS.IDLE_SLOPE (k / 8) (k % 8))
    if SMap.get [] m.ets.queues k = [] then min 0 c else c

/-- The frames that leave backbone port `n` in `left` bytes of line time. -/
def bbDrain (n : Nat) : Nat → Nat → Mod → Mod
  | 0, _, m => m
  | k + 1, left, m =>
    match m.egressNext n with
    | none => m
    | some q =>
      let len := (SMap.get [] m.ets.queues (8 * n + q)).headD 0 + wireExtra
      let m := (m.egressPop n q).bbSent n
      if left < len then m.onEts fun x => { x with debt := SMap.set 0 x.debt n (len - left) } else bbDrain n k (left - len) m

/-- One tick of backbone port `n`'s egress: frames leave at the rate that SPEED selects (R311, R316). (Log: DESIGN CHOICE 147) -/
def bbEgress (m : Mod) (n : Nat) : Mod :=
  let rate := if m.on (BB.SPEED n) then 125 else 1250
  let owed := SMap.get 0 m.ets.debt n
  let m := m.onEts fun x => { x with debt := SMap.set 0 x.debt n (owed - rate) }
  if owed < rate ∧ m.bbSends n then bbDrain n 64 (rate - owed) m else m

/-- One tick of the switch's egress ports: the credits of the shaped queues, and what leaves the backbone ports.
(Log: DESIGN CHOICE 147) -/
def switchTick (m : Mod) : Mod :=
  let ks := m.ets.queues.map (·.1) ++ (m.ets.credit.map (·.1)).filter fun k => SMap.get [] m.ets.queues k = []
  let m := m.onEts fun x => { x with credit := ks.foldl (fun c k => SMap.set 0 c k (m.creditNext k)) x.credit }
  (m.bbEgress 0).bbEgress 1

/-! ### T1S ports (R303 to R307) -/

/-- The engine of the port lets frames of the module out (R353). -/
def t1sLets (m : Mod) (n : Nat) : Bool :=
  match m.engineOf (2 + n) with
  | some k => decide (2 ≤ m.rd (NM.STATE k) ∧ m.rd (NM.STATE k) ≤ 4)
  | none => true

/-- A T1S_TX frame enters the promise queue (R304). -/
def t1sEnqueue (m : Mod) (n num : Nat) (f : List Nat) : Mod :=
  let m := m.onTseg n fun x => { x with pq := x.pq ++ [(num, f)] }
  m.wr (TS.PQ_LVL n) (m.tseg n).pq.length

/-- The frame sent in the module's opportunity: the promise queue, then an NM message, then the switch (R304, R356). (Log: DEDUCED 49) -/
def t1sSent (m : Mod) (n : Nat) (sp : Span) : Mod :=
  if ¬ m.plcaSends n ∨ ¬ m.t1sLets n ∨ m.rd (TS.MAX_BC n) < (m.tseg n).burst then m
  else
    let done := fun m : Mod => ((m.inc (TS.TX_OK_CNT n)).envAdd (2 + n) sp.occ.toNat (if sp.sof then 1 else 0)).onTseg n fun x => { x with burst := x.burst + 1 }
    match (m.tseg n).pq, (m.tseg n).nm, m.egressNext (2 + n) with
    | (num, _) :: rest, _, _ =>
      done (((m.onTseg n fun x => { x with pq := rest }).wr (TS.PQ_LVL n) rest.length).promiseDone num)
    | [], some _, _ => done (m.onTseg n fun x => { x with nm := none })
    | [], none, some q => done (m.egressPop (2 + n) q)
    | [], none, none => m

/-- The event of collisions outside the module's opportunity, once a superframe (R305). (Log: DEDUCED 55) -/
def t1sReport (m : Mod) (n : Nat) : Mod :=
  let k := (m.tseg n).colSf
  if k = 0 then m else (m.onTseg n fun x => { x with colSf := 0 }).ev (0x38 + n) warn 0x0A11 [sj (2 + n), vl k]

end Mod

/-! ### The commands -/

/-- LIN_FRAME_END (R296, R297). -/
def execLinFrameEnd (p : Fin 8) (res : Fin 6) (bytes : LinBytes) (cyc : BitVec 11) (s : State) : Out :=
  s.next fun m => m.linEnd p (res + 1) (bytes.bytes.map (·.toNat)) bytes.chk.toNat cyc.toNat

/-- WAKE_TX (R301). -/
def execWakeTx (p : Fin 8) (s : State) : Out := s.next fun m => m.linWakeTx p

/-- UNEXPLAINED_DOMINANT (R300, R302): of 250 µs to 5 ms; the pulse occupies the bus. -/
def execUnexplainedDominant (p : Fin 8) (d : DomPhase) (s : State) : Out :=
  s.next fun m =>
    let len := d.len
    let m := m.envAdd (16 + p) d.sp.occ.toNat 0
    if 25 ≤ len.toNat ∧ len.toNat ≤ 500 ∧ m.rd (TRX.STATE (0x30 + p)) = 3 ∧ m.on (TRX.WAKE_EN (0x30 + p)) ∧ (m.lin p).cur.isNone then
      let m := (m.wr (TRX.KIND (0x30 + p)) 1).wr (TRX.WAKE_TICK (0x30 + p)) m.tick
      let m := match m.engineOf (16 + p) with
        | some n => m.onNm n fun x => { x with lPulse := true }
        | none => m
      m.ev (0x30 + p) info 0x0A03 [sj (16 + p), vl len.toNat]
    else m

/-- PLCA_CYCLE (R303, R306). -/
def execPlcaCycle (n : Fin 2) (us : BitVec 16) (s : State) : Out :=
  s.next fun m =>
    if m.plcaSends n then (m.wr (TS.CYC_MAX n) (Nat.max (m.rd (TS.CYC_MAX n)) us.toNat)).onTseg n fun x => { x with burst := 0 } else m

/-- T1S_FRAME_SENT (R304, R306). -/
def execT1sFrameSent (n : Fin 2) (sp : Span) (s : State) : Out := s.next fun m => m.t1sSent n sp

/-- T1S_COLLISION (R304, R305): the frame of the module's opportunity stays for the next. -/
def execT1sCollision (n : Fin 2) (own : Bool) (s : State) : Out :=
  s.next fun m =>
    if ¬ m.plcaSends n then m else
    let m := m.inc (TS.COL_CNT n)
    if own then m else m.onTseg n fun x => { x with colSf := x.colSf + 1 }

/-- FOREIGN_BEACON (R305): received by a port that is coordinator. -/
def execForeignBeacon (n : Fin 2) (s : State) : Out :=
  s.next fun m => if ¬ m.plcaSends n then m else ((m.wr (TS.DUP_COORD n) 1).inc (TS.BEACON_FOREIGN_CNT n)).ev (0x38 + n) err 0x0A10 [sj (2 + n)]

/-- T1S_FRAME_RX (R306, R316, R355, R356): EtherType 0x88B6 is an NM message. (Log: PRESUMED 104) -/
def execT1sFrameRx (n : Fin 2) (f : EthFrame) (sp : Span) (s : State) : Out :=
  s.next fun m =>
    if m.rd (TRX.STATE (0x38 + n)) = 3 ∧ (m.trx (2 + n)).target.isNone then
      let m := (m.inc (TS.RX_OK_CNT n)).envAdd (2 + n) sp.occ.toNat (if sp.sof then 1 else 0)
      let d := f.payload.map (·.toNat)
      let m := m.nmHear (2 + n) (if f.etype = 0x88B6#16 then some (decide (2 ≤ d.length) && (d.getD 1 0).testBit 0, d.head?) else none)
      m.switchFrame (2 + n) f
    else m

end Sys2Proof.Machine
end

