-- ==== Sys2Proof/Machine/Nm.lean ====
section
/-! DEFINITION. The network-management engines (chapter 12): the step, its transitions, NM messages, false wakes, the entry
window, LIN sleep and wake. -/
namespace Sys2Proof.Machine
open Reg

namespace Mod

/-- The source of what an engine stages: a bead of SB. -/
def nmSrc : Src := ⟨1, 0x3FF, 56⟩

/-- An event of the NM page, naming its network (R367). -/
def nmEv (m : Mod) (n cls code : Nat) (items : List Item) : Mod := m.ev 0x3F cls code (sj n :: items)

/-! ### NM messages (R356) -/

/-- The module's NM message: NODE_ID and the control bit vector. -/
def nmBytes (m : Mod) (n : Nat) : List Nat :=
  [m.rd (NM.NODE_ID n), (if (m.nm n).rpt then 1 else 0) + (if (m.nm n).actWake then 16 else 0)]

/-- The engine of a CAN network writes its message into TX_OBJ and enters it. -/
def nmCanSend (m : Mod) (n : Nat) (b : List Nat) : Mod :=
  let o := m.rd (NM.TX_OBJ n)
  let a := objAddr o + 16
  (m.objContent o a (leNum b + m.load a 4 / 65536 * 65536)).canEnter n o

/-- The release of an NM message at the boundary: sent, or held until the transceiver reports Normal. -/
def nmSend (m : Mod) (n : Nat) (b : List Nat) : Mod :=
  if n < 12 then
    if m.rd (TRX.STATE (0x20 + n)) = 3 then m.nmCanSend n b else m.onNm n fun x => { x with held := some b }
  else if 20 ≤ n then m.onTseg (n - 20) fun x => { x with nm := some b }
  else m

/-- Stage a message, unless PASSIVE; LIN has none. -/
def nmStage (m : Mod) (n : Nat) : Mod :=
  if m.on (NM.PASSIVE n) ∨ (12 ≤ n ∧ n < 20) then m else m.stage nmSrc (.nmMsg n (m.nmBytes n))

/-! ### State changes (R353, R354) -/

/-- The engine enters state `s`: its timer starts, and it stages what the state asks for. -/
def nmGo (m : Mod) (n s : Nat) : Mod :=
  let old := m.rd (NM.STATE n)
  let p := enginePort n
  let t := if s = 1 then m.rd (NM.FW_T n) else if s = 2 then m.rd (NM.RPT_T n) else if s = 4 then m.rd (NM.NM_TO n)
    else if s = 5 then m.rd (NM.PBS_T n) else 0
  let m := (m.wr (NM.STATE n) s).onNm n fun x =>
    { x with timer := t, rpt := false, actWake := x.actWake && decide (s ≠ 3), rsMs := if s = 4 then 0 else x.rsMs, rsDone := x.rsDone && decide (s ≠ 4) }
  let m := if s = 4 then m.wr (NM.RS_TIME n) 0 else m
  let m := if old = 0 then (m.stage nmSrc (.wake p)).stage nmSrc (.trx p 3) else m
  let m := if s = 0 then
      let m := if n < 12 then m.emptyQueue n else m
      (m.stage nmSrc (.trx p (if m.on (NM.SLEEP_TRX n) then 1 else 0))).onNm n fun x =>
        { x with entry := true, rHold := false, replayed := false, held := none, wakeTx := false, letNext := false }
    else m
  let m := if n < 12 then m.arbitrate n else m
  if s = 5 ∧ 12 ≤ n ∧ n < 20 then
    (m.stage nmSrc (.pub (n - 12) 0x3C (0 :: List.replicate 7 0xFF))).onNm n fun x => { x with goSleep := true }
  else m

/-- Into Repeat Message, with the repeat request bit or without. -/
def nmRepeat (m : Mod) (n : Nat) (rpt : Bool) : Mod := (m.nmGo n 2).onNm n fun x => { x with rpt := rpt }

/-- Out of Bus Sleep, or Wake Check, by HOLD; a LIN engine that leaves Bus Sleep has a wake pulse to send (R360). -/
def nmByHold (m : Mod) (n : Nat) : Mod :=
  let lin := m.rd (NM.STATE n) = 0 ∧ 12 ≤ n ∧ n < 20
  ((m.nmRepeat n false).onNm n fun x => { x with wakeTx := lin }).nmEv n info 0x0C01 [sj 1]

/-- A wake from the entry window is replayed (R363). -/
def nmReplay (m : Mod) (n code : Nat) : Mod := (m.inc NM.REPLAY_CNT).nmEv n info 0x0C07 [sj code]

/-- A false wake (R357). -/
def nmFalse (m : Mod) (n : Nat) : Mod :=
  let m := ((m.nmGo n 0).inc (NM.FALSE_WAKE_CNT n)).inc (NM.FW_RUN n)
  let r := m.rd (NM.FW_RUN n)
  let m := m.nmEv n info 0x0C03 [vl r]
  if m.on (NM.FW_WARN n) ∧ r = m.rd (NM.FW_WARN n) ∧ ¬ (m.nm n).fwDone then
    (m.nmEv n warn 0x0C04 [vl r]).onNm n fun x => { x with fwDone := true }
  else m

/-- The lowest activity code latched (R362, Table 12-3), 0 none. -/
def nmActivity (x : NmX) (hold : Bool) : Nat :=
  if x.lNm then 1 else if x.lValid then 2 else if x.lWake || x.lPulse then 3 else if hold || x.lHold then 4 else 0

/-- The first row of Table 12-2 that matches; `x` holds what was latched, `exp` the running timer has expired. (Log: DEDUCED 58) -/
def nmRow (m : Mod) (n : Nat) (x : NmX) (exp : Bool) : Mod :=
  let hold := m.on (NM.HOLD n)
  match m.rd (NM.STATE n) with
  | 0 =>
    let latch := m.on (NM.WAKE_LATCH n)
    if x.entry then m
    else if hold then
      let m := if x.rHold then m.nmReplay n 2 else m
      (((m.wr (NM.WAKE_LATCH n) 0).nmByHold n).onNm n fun y => { y with actWake := true, rHold := false })
    else if x.lWake ∨ latch then
      let m := if latch then m.nmReplay n 1 else m
      (((m.wr (NM.WAKE_LATCH n) 0).nmGo n 1).onNm n fun y => { y with replayed := latch })
    else m
  | 1 =>
    if hold then m.nmByHold n
    else if x.lValid then
      (((m.wr (NM.FW_RUN n) 0).onNm n fun y => { y with fwDone := false }).nmRepeat n false).nmEv n info 0x0C01 [sj (if x.replayed then 3 else 2)]
    else if exp then m.nmFalse n
    else m
  | 2 => if exp then m.nmGo n (if hold then 3 else 4) else m
  | 3 =>
    if x.lRpt ∨ x.lNmRpt then m.nmRepeat n x.lRpt
    else if ¬ hold then m.nmGo n 4
    else m
  | 4 =>
    if x.lRpt ∨ x.lNmRpt then m.nmRepeat n x.lRpt
    else if hold then m.nmGo n 3
    else if exp then m.nmGo n 5
    else m
  | 5 =>
    let a := nmActivity x hold
    if a ≠ 0 then ((m.inc NM.PBS_ABORT_CNT).nmEv n info 0x0C05 [sj a]).nmRepeat n false
    else if exp then
      let m := if x.goSleep then (m.nmEv n warn 0x0C08 []).onNm n fun y => { y with goSleep := false } else m
      m.nmGo n 0
    else m
  | _ => m

/-- Ready Sleep: the NM timer and AWAKE_BY follow a received message; RS_TIME runs, and is reported once (R361). -/
def nmReady (m : Mod) (n : Nat) (x : NmX) : Mod :=
  if m.rd (NM.STATE n) ≠ 4 then m
  else
    let m := if x.lNm then (m.wr (NM.AWAKE_BY n) x.lNode).onNm n fun y => { y with timer := m.rd (NM.NM_TO n) } else m
    let ms := (m.nm n).rsMs + 1
    let m := (m.onNm n fun y => { y with rsMs := ms }).sat (NM.RS_TIME n) (ms / 100)
    if m.on (NM.RS_REPORT n) ∧ m.rd (NM.RS_REPORT n) * 1000 ≤ ms ∧ ¬ (m.nm n).rsDone then
      (m.onNm n fun y => { y with rsDone := true }).nmEv n info 0x0C06 [vl (m.rd (NM.AWAKE_BY n)), vl16 (m.rd (NM.RS_TIME n))]
    else m

/-- NM messages of Repeat Message and Normal, every CYCLE steps from their start (R353). -/
def nmCycle (m : Mod) (n old : Nat) : Mod :=
  let sends := fun s => s = 2 ∨ s = 3
  if sends (m.rd (NM.STATE n)) then
    let c := if sends old then (m.nm n).cyc - 1 else 0
    if c = 0 then (m.nmStage n).onNm n fun y => { y with cyc := m.rd (NM.CYCLE n) } else m.onNm n fun y => { y with cyc := c }
  else m

/-- LIN after HOLD: WAKE_TX at the first step with the transceiver in Normal, headers from the step after it (R360). -/
def nmLinWake (m : Mod) (n : Nat) : Mod :=
  if (m.nm n).letNext then m.onNm n fun y => { y with letNext := false }
  else if (m.nm n).wakeTx ∧ m.rd (TRX.STATE (portPage (enginePort n))) = 3 then
    (m.stage nmSrc (.wakeTx (n - 12))).onNm n fun y => { y with wakeTx := false, letNext := true }
  else m

/-- One step of an engine (R350, R351, R354). -/
def nmStep (m : Mod) (n : Nat) : Mod :=
  if ¬ m.on (NM.NM_EN n) ∨ m.portOos (enginePort n) then m
  else
    let old := m.rd (NM.STATE n)
    let m := m.nmLinWake n
    let m := m.nmReady n (m.nm n)
    let x := m.nm n
    let t := if old = 4 ∧ x.lNm then x.timer else x.timer - 1
    let m := m.onNm n fun y => { y with timer := t, lNm := false, lNmRpt := false, lValid := false, lWake := false, lHold := false,
                                        lRpt := false, lPulse := false }
    (m.nmRow n x (t = 0)).nmCycle n old

/-! ### Writes, starts (R361, R365) -/

/-- A write of HOLD takes effect. -/
def nmHold (m : Mod) (n : Nat) (v : Bool) : Mod :=
  (m.wrB (NM.HOLD n) v).onNm n fun x => if v then { x with lHold := true, rHold := x.rHold || x.entry } else x

/-- A write of 1 to RPT_REQ takes effect: in Normal and Ready Sleep only (R354). -/
def nmRptReq (m : Mod) (n : Nat) : Mod :=
  if m.rd (NM.STATE n) = 3 ∨ m.rd (NM.STATE n) = 4 then m.onNm n fun x => { x with lRpt := true } else m

/-- The first state of an enabled engine at start step S9, from its transceiver; a marked wake is latched (R365). -/
def nmFirst (m : Mod) (n : Nat) : Mod :=
  let p := enginePort n
  let s := m.rd (TRX.STATE (portPage p))
  let m := m.onNm n fun _ => {}
  if ¬ m.on (NM.NM_EN n) ∨ m.portOos p then m
  else
    let m := if s = 3 ∨ (n < 12 ∧ s = 2) then (m.wr (NM.STATE n) 2).onNm n fun x => { x with timer := m.rd (NM.RPT_T n) } else m.wr (NM.STATE n) 0
    if m.pwr.marks.testBit p then m.onNm n fun x => { x with lWake := true } else m

/-- What a transceiver's new state brings: a held NM message enters, a frame is cut short, the next attempt starts (R356, R285, R276). -/
def trxSettled (m : Mod) (p : Nat) : Mod :=
  if 4 ≤ p ∧ p < 16 then
    let n := p - 4
    let m := match (m.nm n).held with
      | some b => if m.rd (TRX.STATE (0x20 + n)) = 3 then (m.onNm n fun x => { x with held := none }).nmCanSend n b else m
      | none => m
    (m.canCut n).arbitrate n
  else m

/-- The step at which the timer of state `s` reaches 0: the timer runs and is down to its last step (R351). -/
def nmExpire (m : Mod) (n s : Nat) : Mod := if m.rd (NM.STATE n) = s ∧ (m.nm n).timer ≤ 1 then m.nmStep n else m

end Mod

/-! ### The commands -/

/-- HOLD_WRITE (R361, R363). -/
def execHoldWrite (n : Fin 22) (v : Bool) (s : State) : Out := s.next fun m => m.nmHold n v

/-- RPT_REQ (R354). -/
def execRptReq (n : Fin 22) (s : State) : Out := s.next fun m => m.nmRptReq n

/-- RPT_TIMER_EXPIRE (R354). -/
def execRptTimerExpire (n : Fin 22) (s : State) : Out := s.next fun m => m.nmExpire n 2

/-- NM_TIMER_EXPIRE (R354). -/
def execNmTimerExpire (n : Fin 22) (s : State) : Out := s.next fun m => m.nmExpire n 4

/-- PBS_TIMER_EXPIRE (R354, R359). -/
def execPbsTimerExpire (n : Fin 22) (s : State) : Out := s.next fun m => m.nmExpire n 5

/-- FW_TIMER_EXPIRE (R357). -/
def execFwTimerExpire (n : Fin 22) (s : State) : Out := s.next fun m => m.nmExpire n 1

/-- READY_SLEEP_REPORT (R361): the step at which RS_TIME reaches RS_REPORT. -/
def execReadySleepReport (n : Fin 22) (s : State) : Out :=
  s.next fun m =>
    if m.rd (NM.STATE n) = 4 ∧ m.on (NM.RS_REPORT n) ∧ m.rd (NM.RS_REPORT n) * 1000 ≤ (m.nm n).rsMs + 1 then m.nmStep n else m

/-- TRX_CHANGE_DONE (R285, R286, R313, R363): on a backbone port whose link is up, Sleep waits for the TC10 handshake. -/
def execTrxChangeDone (p : Fin 24) (s : State) : Out :=
  s.next fun m =>
    if p.val < 2 ∧ (m.trx p).target = some 0 ∧ m.on (BB.LINK p) then m else (m.trxDone p).trxSettled p

/-- TXD_TIMEOUT (R288, R299): `stuck`, TXD has been dominant beyond its limit and the bus is released; otherwise TXD is recessive again. -/
def execTxdTimeout (p : TxdLevel) (s : State) : Out :=
  s.next fun m =>
    let m := m.onTrx (4 + p.p) fun x => { x with stuck := p.stuck }
    if p.stuck then m.trxFault (4 + p.p) TRX.TXD_TO 1 else m.trxSettled (4 + p.p)

/-- TRX_OVERTEMP_END (R288). -/
def execTrxOvertempEnd (p : Fin 20) (s : State) : Out :=
  s.next fun m => (m.onTrx (4 + p) fun x => { x with hot := false }).trxSettled (4 + p)

end Sys2Proof.Machine
end

