-- ==== Sys2Proof/Machine/Rods.lean ====
section
/-! DEFINITION. Tile memory (chapter 1): the rod layout, the checks of R35, the selection and loading of rods, repair, reload
and scrubbing, and the active set. -/
namespace Sys2Proof.Machine
open Reg

/-- Copy A and copy B of the tile. -/
def tileA : Nat := 0x22000000
def tileB : Nat := 0x22040000

/-- The little-endian word at byte `i` of a list. -/
def wordAt (b : List Nat) (i : Nat) : Nat := leNum ((b.drop i).take 4)

/-- A rod header (R34). -/
structure RodHdr where
  index : Nat
  kind : Nat
  format : Nat
  count : Nat
  gen : Nat
  alt : Nat
  frameMod : Nat
  framePhase : Nat
  target : Nat
  tag : Nat
deriving DecidableEq, Repr

/-- The header of 256 rod bytes. -/
def RodHdr.of (b : List Nat) : RodHdr :=
  let h0 := wordAt b 0
  let h1 := wordAt b 4
  { index := fld h0 9 0, kind := fld h0 11 10, format := fld h0 15 12, count := fld h0 21 16, gen := fld h0 31 24,
    alt := fld h1 9 0, frameMod := fld h1 19 10, framePhase := fld h1 29 20, target := wordAt b 8, tag := fld (wordAt b 12) 15 0 }

/-- The 56 bead words of a rod. -/
def rodBeads (b : List Nat) : List Nat := (List.range 56).map fun i => wordAt b (16 + 4 * i)

/-- The number of the first check of R35 that a copy fails, 0 where it passes. `tick` is the tick a slack rod serves. -/
def rodCheck (gen idx tick : Nat) (asAlt : Bool) (b : List Nat) : Nat :=
  let h := RodHdr.of b
  if crc32c (b.take 252) ≠ wordAt b 252 then 1
  else if h.index ≠ idx then 2
  else if h.format ≠ 1 ∨ h.kind = 3 then 3
  else if 56 < h.count then 4
  else if h.frameMod = 0 ∨ 1000 < h.frameMod ∨ h.frameMod ≤ h.framePhase then 5
  else if fld (wordAt b 0) 23 22 ≠ 0 ∨ fld (wordAt b 4) 31 30 ≠ 0 ∨ fld (wordAt b 12) 31 16 ≠ 0 ∨
      ((b.drop 240).take 12).any (fun x => x != 0) = true then 6
  else if (h.kind ≠ 1 ∧ h.gen ≠ gen) ∨ (h.kind = 2 ∧ (h.alt ≠ 0x3FF ∨ h.frameMod ≠ 1)) ∨
      (h.kind = 1 ∧ (h.gen ≠ 0 ∨ h.alt ≠ 0x3FF ∨ h.frameMod ≠ 1 ∨ h.target ≠ tick % 2 ^ 32)) then 7
  else if asAlt = true ∧ (h.kind = 1 ∨ h.alt ≠ 0x3FF ∨ h.frameMod ≠ 1) then 8
  else 0

/-- The 256 bytes of a slack rod with its tally word (R33, R52). -/
def slackRod (idx tick : Nat) (beads : List Nat) : List Nat :=
  let body := leBytes 4 (idx + 0x400 + 0x1000 + beads.length * 2 ^ 16) ++ leBytes 4 (0x3FF + 2 ^ 10) ++ leBytes 4 (tick % 2 ^ 32) ++
    leBytes 4 0 ++ (beads ++ List.replicate (56 - beads.length) 0).flatMap (leBytes 4) ++ List.replicate 12 0
  body ++ leBytes 4 (crc32c body)

namespace Mod

def onFrm (m : Mod) (f : FrmX → FrmX) : Mod := { m with frm := f m.frm }

def copyA (m : Mod) (r : Nat) : List Nat := m.bytes (tileA + 256 * r) 256
def copyB (m : Mod) (r : Nat) : List Nat := m.bytes (tileB + 256 * r) 256

/-- Write both copies of a rod. -/
def writeRod (m : Mod) (r : Nat) (b : List Nat) : Mod := (m.setBytes (tileA + 256 * r) b).setBytes (tileB + 256 * r) b

/-- The rod is out of service (R51). -/
def oos (m : Mod) (r : Nat) : Bool := m.bit (TIL.OOS (r / 32)) (r % 32)

/-- The rod lies in the slack ring (R39). -/
def inRing (m : Mod) (r : Nat) : Bool :=
  decide (m.rd FRM.SLACK_BASE ≤ r) && decide (r < m.rd FRM.SLACK_BASE + m.rd FRM.SLACK_LEN)

/-- The slack rod of a tick (R39). -/
def slackOf (m : Mod) (t : Nat) : Nat := m.rd FRM.SLACK_BASE + t % m.rd FRM.SLACK_LEN

/-- The GEN of a tick table. -/
def genOf (m : Mod) (tab : Nat) : Nat := if tab = 0 then m.rd FRM.GEN0 else m.rd FRM.GEN1

/-- The rod that a tick table names at a position for slot SA (0) or SB (1). -/
def named (m : Mod) (tab p s : Nat) : Nat := if s = 0 then m.rd (FRM.TAB_SA tab p) else m.rd (FRM.TAB_SB tab p)

/-- The tick table that will be active in tick `t`, a pending swap included (R42, R73). -/
def tableAt (m : Mod) (t : Nat) : Nat :=
  if t < (m.tick / 100000 + 1) * 100000 then m.rd FRM.TAB_ACT else m.rd FRM.TAB_NEXT

/-- The header of a scheduled or idle rod from its first copy that passes. -/
def goodHeader (m : Mod) (gen r : Nat) (asAlt : Bool) : Option RodHdr :=
  if rodCheck gen r 0 asAlt (m.copyA r) = 0 then some (RodHdr.of (m.copyA r))
  else if rodCheck gen r 0 asAlt (m.copyB r) = 0 then some (RodHdr.of (m.copyB r)) else none

/-- The rod that runs in slot `s` of tick `t` by R40, 0x3FF none. -/
def runsIn (m : Mod) (t s : Nat) : Nat :=
  let tab := m.tableAt t
  let r := m.named tab (t % 100) s
  if r = 0x3FF ∨ m.oos r = true then 0x3FF
  else match m.goodHeader (m.genOf tab) r false with
    | none => 0x3FF
    | some h =>
      if h.kind = 0 ∧ t / 100 % h.frameMod ≠ h.framePhase then
        if h.alt = 0x3FF ∨ m.oos h.alt = true then 0x3FF
        else match m.goodHeader (m.genOf tab) h.alt true with
          | some _ => h.alt
          | none => 0x3FF
      else r

/-- The active set of R54, the slack ring aside: named by the active table, or the alternate of a rod that it names; ALT 0x3FF is no
alternate (R34). -/
def inActive (m : Mod) (r : Nat) : Bool :=
  let tab := m.rd FRM.TAB_ACT
  (List.range 100).any fun p => [0, 1].any fun s =>
    let n := m.named tab p s
    n != 0x3FF && (n == r || (match m.goodHeader (m.genOf tab) n false with
      | some h => h.kind = 0 && h.alt != 0x3FF && h.alt = r
      | none => false))

/-! ### Loading (R40, R50, Table 01-5) -/

/-- Record a failure in TIL (Table 01-10): `copies` 1 A, 2 B, 3 both. -/
def tilFail (m : Mod) (r copies check : Nat) (scrub : Bool) : Mod :=
  let m := ((m.wr TIL.FAIL_ROD r).wr TIL.FAIL_COPY copies).wrB TIL.FAIL_HDR (1 < check)
  let m := (m.wrB TIL.FAIL_SCRUB scrub).wr TIL.FAIL_TICK16 m.tick
  let m := if copies % 2 = 1 then m.inc TIL.FAIL_A_CNT else m
  if 2 ≤ copies then m.inc TIL.FAIL_B_CNT else m

/-- Both copies of a rod fail: the commit assembly replaces a slack rod and requests the reload of another (R52, step 7). -/
def tilDouble (m : Mod) (r check serves : Nat) (scrub : Bool) : Mod :=
  let m := ((m.tilFail r 3 check scrub).inc TIL.DOUBLE_CNT).ev 0x0C err 0x0104 [sj16 r]
  if m.inRing r then m.onFrm fun x => { x with emptied := x.emptied ++ [(r, serves)] }
  else m.onFrm fun x => { x with doubles := x.doubles ++ [r] }

/-- The reload requests of a tick's double failures (Table 01-5, step 7); a rod whose reload is pending is not requested again. -/
def reloadRequests (m : Mod) : Mod :=
  let m := m.onFrm fun x =>
    { x with reload := x.doubles.foldl (fun l r => if l.contains r then l else l ++ [r]) x.reload, doubles := [] }
  if m.frm.reload = [] then m else (m.wr TIL.RELOAD_ROD (m.frm.reload.headD 0x3FF)).wr TIL.RELOAD_BUSY 1

/-- A rod that serves tick `t` is lost: the promises that depend on it there are breached with cause "tile" (R41, R52, R79). -/
def rodLost (m : Mod) (r t : Nat) : Mod := m.breachNow (fun p => p.dependsOn r t) 1

/-- A slot is skipped with cause "tile" (R41). -/
def skipRod (m : Mod) (r : Nat) : Mod := m.rodLost r m.tick

/-- What a slot runs of a copy that passed. -/
def slotRun (r : Nat) (b : List Nat) : SlotRun :=
  let h := RodHdr.of b
  { loaded := true, rod := r, tag := h.tag, kind := h.kind, count := if h.kind = 2 then 0 else h.count, beads := rodBeads b }

/-- Load a rod: copy A, else copy B (R50). (Log: DEDUCED 23) -/
def loadRod (m : Mod) (r : Nat) (asAlt : Bool) : Mod × Option (List Nat) :=
  let gen := m.genOf (m.rd FRM.TAB_ACT)
  let ca := rodCheck gen r m.tick asAlt (m.copyA r)
  if ca = 0 then (m, some (m.copyA r))
  else
    let e := fun m : Mod => m.ev 0x0C warn 0x0103 [sj16 r, sj ca]
    let cb := rodCheck gen r m.tick asAlt (m.copyB r)
    if cb = 0 then
      let m := e (m.tilFail r 1 ca false)
      (m.onFrm fun x => { x with repairs := x.repairs ++ [(r, false)] }, some (m.copyB r))
    else ((e m).tilDouble r cb (m.tick + m.rd FRM.SLACK_LEN) false, none)

/-- Select and check the rod of one slot (R40): index 0x3FF is an empty slot, SL's too. (Log: DEDUCED 113) -/
def fetchSlot (m : Mod) (s : Nat) : Mod :=
  let run := fun (m : Mod) (x : SlotRun) => m.onFrm fun f => { f with slots := SMap.set {} f.slots s x }
  let out := fun (m : Mod) (r : Nat) => m.oos r || m.frm.reload.contains r
  let r := if s = 2 then m.slackOf m.tick else m.named (m.rd FRM.TAB_ACT) (m.tick % 100) s
  if r = 0x3FF then run m {}
  else if out m r then run (m.skipRod r) {}
  else match m.loadRod r false with
    | (m, none) => run (m.skipRod r) {}
    | (m, some b) =>
      let h := RodHdr.of b
      if h.kind = 0 ∧ m.tick / 100 % h.frameMod ≠ h.framePhase then
        if h.alt = 0x3FF then run m {}
        else if out m h.alt then run (m.skipRod h.alt) {}
        else match m.loadRod h.alt true with
          | (m, none) => run (m.skipRod h.alt) {}
          | (m, some b) => run m (slotRun h.alt b)
      else run m (slotRun r b)

/-- The fetch phase of the present tick, once (R31, R40). -/
def fetch (m : Mod) : Mod :=
  if m.on FRM.RUNNING ∧ ¬ m.frm.fetched then (forN 3 fetchSlot m).onFrm fun x => { x with fetched := true } else m

/-! ### The commit assembly's work on the tile (R51 to R54) -/

/-- Write the empty slack rods that R52 asks for, and copy each good copy over its failed one (step 6); `bad`: the copies whose
read-back fails. -/
def tileRepairs (m : Mod) (bad : List Nat) : Mod :=
  let m := m.frm.emptied.foldl (fun m e => m.writeRod e.1 (slackRod e.1 e.2 [])) m
  let m := m.frm.repairs.foldl (fun m e =>
    let m := if e.2 then m.setBytes (tileB + 256 * e.1) (m.copyA e.1) else m.setBytes (tileA + 256 * e.1) (m.copyB e.1)
    if bad.contains e.1 then (m.wr TIL.DEGRADED 1).ev 0x0C err 0x0105 [sj16 e.1] else m) m
  m.onFrm fun x => { x with emptied := [], repairs := [] }

/-- The tick that R54 names for a slack rod. -/
def scrubTick (m : Mod) (r : Nat) : Nat :=
  let len := m.rd FRM.SLACK_LEN
  let d := (r - m.rd FRM.SLACK_BASE + len - m.tick % len) % len
  m.tick + (if d = 0 then len else d)

/-- One step of the scrubber (R54). (Log: DEDUCED 23) -/
def scrubTile (m : Mod) : Mod :=
  if ¬ m.on TIL.SCRUB_EN then m
  else
    let r := m.rd TIL.SCRUB_POS
    let m := m.wr TIL.SCRUB_POS ((r + 1) % 1024)
    if m.oos r ∨ ¬ (m.inRing r ∨ m.inActive r) then m
    else
      let t := m.scrubTick r
      let gen := m.genOf (m.rd FRM.TAB_ACT)
      let ca := rodCheck gen r t false (m.copyA r)
      let cb := rodCheck gen r t false (m.copyB r)
      if ca ≠ 0 ∧ cb ≠ 0 then
        let m := m.tilDouble r cb t true
        if m.inRing r then m.rodLost r t else m
      else if ca ≠ 0 ∨ cb ≠ 0 then
        let m := (m.tilFail r (if ca ≠ 0 then 1 else 2) (Nat.max ca cb) true).ev 0x0C warn 0x0103 [sj16 r, sj (Nat.max ca cb)]
        m.onFrm fun x => { x with repairs := x.repairs ++ [(r, decide (ca = 0))] }
      else m

end Mod
end Sys2Proof.Machine
end

