-- ==== Sys2Proof/Machine/Beads.lean ====
section
/-! DEFINITION. Beads (R43 to R48): their decoding, the domains they address, their effects, and the staging of effects. -/
namespace Sys2Proof.Machine
open Reg

/-- A bead (Table 01-4). -/
inductive Bead where
  | nop
  | chSet (q c act arg : Nat)
  | bankSet (k mask val : Nat)
  | motCmd (k mode duty : Nat)
  | lsSet (mask val : Nat)
  | ledSet (n duty : Nat)
  | topCtl (e op addr : Nat)
  | sampDi (g slot : Nat)
  | sampCi (slot mask : Nat)
  | sampIs (k slot : Nat)
  | sampFv (q slot : Nat)
  | sampPg (pg slot : Nat)
  | movC2e (t o : Nat)
  | movE2c (i o : Nat)
  | canTxq (n o : Nat)
  | linHdr (p id : Nat)
  | nmStep (n : Nat)
  | dispatch (task budget : Nat)
  | prmDone (num : Nat)
  | diagReq (q c kind : Nat)
  | domWake (d : Nat)
  | skipIf (slot bit : Nat) (pol : Bool) (n : Nat)
  | event (cls code : Nat)
  | stop
deriving DecidableEq, Repr

/-- The reserved operand bits of an opcode, 1 where Table 01-4 names no operand; `none` for an opcode it does not list. -/
def beadReserved (op : Nat) : Option Nat :=
  match op with
  | 0x00 | 0x3F => some 0x3FFFFFF
  | 0x01 => some 0
  | 0x02 => some 0x07F0000
  | 0x03 => some 0x00000FF
  | 0x04 => some 0x3FF0000
  | 0x05 => some 0x00F0000
  | 0x06 => some 0x01FFF00
  | 0x08 | 0x0B => some 0x0FFFF00
  | 0x09 => some 0x3FF0000
  | 0x0A => some 0x07FFF00
  | 0x0C => some 0x003FF00
  | 0x10 | 0x11 => some 0x07FF000
  | 0x12 => some 0x03FF000
  | 0x13 => some 0x040FFFF
  | 0x15 => some 0x01FFFFF
  | 0x18 => some 0x000F800
  | 0x19 => some 0x3FF0000
  | 0x1A => some 0x000FFFF
  | 0x1B => some 0x3FFFFE0
  | 0x1C => some 0x0007FC0
  | 0x1D => some 0x0FF0000
  | _ => none

/-- The number of words a SAMP_CI captures. -/
def ones8 (mask : Nat) : Nat := forN 8 (fun a i => if mask.testBit i then a + 1 else a) 0

/-- A bead by opcode, its operands cut out. -/
def beadOf (op w : Nat) : Bead :=
  match op with
  | 0x01 => .chSet (fld w 25 24) (fld w 23 19) (fld w 18 16) (fld w 15 0)
  | 0x02 => .bankSet (fld w 25 23) (fld w 15 8) (fld w 7 0)
  | 0x03 => .motCmd (fld w 25 23) (fld w 22 20) (fld w 19 8)
  | 0x04 => .lsSet (fld w 15 8) (fld w 7 0)
  | 0x05 => .ledSet (fld w 25 20) (fld w 15 0)
  | 0x06 => .topCtl (fld w 25 24) (fld w 23 21) (fld w 7 0)
  | 0x08 => .sampDi (fld w 25 24) (fld w 7 0)
  | 0x09 => .sampCi (fld w 15 8) (fld w 7 0)
  | 0x0A => .sampIs (fld w 25 23) (fld w 7 0)
  | 0x0B => .sampFv (fld w 25 24) (fld w 7 0)
  | 0x0C => .sampPg (fld w 25 18) (fld w 7 0)
  | 0x10 => .movC2e (fld w 25 23) (fld w 11 0)
  | 0x11 => .movE2c (fld w 25 23) (fld w 11 0)
  | 0x12 => .canTxq (fld w 25 22) (fld w 11 0)
  | 0x13 => .linHdr (fld w 25 23) (fld w 21 16)
  | 0x15 => .nmStep (fld w 25 21)
  | 0x18 => .dispatch (fld w 25 16) (fld w 10 0)
  | 0x19 => .prmDone (fld w 15 0)
  | 0x1A => .diagReq (fld w 25 24) (fld w 23 19) (fld w 18 16)
  | 0x1B => .domWake (fld w 4 0)
  | 0x1C => .skipIf (fld w 25 21) (fld w 20 16) (w.testBit 15) (fld w 5 0)
  | 0x1D => .event (fld w 25 24) (fld w 15 0)
  | 0x3F => .stop
  | _ => .nop

/-- Every operand lies in its stated range (R44 cause 3). -/
def Bead.inRange : Bead → Bool
  | .chSet _ c act _ => c < 20 && act ≤ 5
  | .motCmd _ mode _ => mode ≤ 4
  | .ledSet n _ => n < 48
  | .topCtl _ op _ => op ≤ 4
  | .sampCi slot mask => slot + ones8 mask ≤ 256
  | .sampIs _ slot => slot + 5 ≤ 256
  | .sampPg pg slot => mapped pg && slot + 2 ≤ 256
  | .canTxq n _ => n < 12
  | .nmStep n => n < 22
  | .dispatch _ budget => 1 ≤ budget && budget ≤ 2000
  | .prmDone num => num ≠ 0
  | .diagReq _ c kind => c < 20 && kind ≤ 5
  | .skipIf _ _ _ n => 1 ≤ n && n ≤ 55
  | .event cls _ => cls ≤ 2
  | _ => true

/-- Decode a bead word, or say which cause of R44 it has. -/
def decodeBead (w : Nat) : Except Nat Bead :=
  match beadReserved (fld w 31 26) with
  | none => .error 1
  | some r =>
    if w &&& r ≠ 0 then .error 2
    else
      let b := beadOf (fld w 31 26) w
      if b.inRange then .ok b else .error 3

/-- The beads of a rod from position `pos` on, `n` of them, that run: position, word, and whether it runs in every execution. `sure`:
the first position that no SKIP_IF passes; `cut`: an END that a SKIP_IF may pass lies before. -/
def runFrom (beads : List Nat) : Nat → Nat → Nat → Bool → List (Nat × Nat × Bool)
  | 0, _, _, _ => []
  | n + 1, pos, sure, cut =>
    let w := beads.getD pos 0
    let all := decide (sure ≤ pos) && !cut
    match decodeBead w with
    | .ok .stop => if all then [(pos, w, true)] else (pos, w, false) :: runFrom beads n (pos + 1) sure true
    | .ok (.skipIf _ _ _ k) => (pos, w, all) :: runFrom beads n (pos + 1) (Nat.max sure (pos + 1 + k)) cut
    | _ => (pos, w, all) :: runFrom beads n (pos + 1) sure cut

/-- The beads that an execution of a rod runs: none of an idle rod (R36), none from COUNT on or after an END (R32); those behind a
SKIP_IF run in some executions only. -/
def rodRuns (b : List Nat) : List (Nat × Nat × Bool) :=
  let h := RodHdr.of b
  if h.kind = 2 then [] else runFrom (rodBeads b) h.count 0 0 false

/-- The domains that a bead addresses (R45). -/
def Bead.domains : Bead → List Nat
  | .chSet q _ _ _ => [24 + q]
  | .diagReq q _ _ => [24 + q]
  | .bankSet k _ _ => [24 + k / 2]
  | .sampIs k _ => [24 + k / 2]
  | .sampFv q _ => [24 + q]
  | .motCmd k _ _ => [24 + k / 2, 29]
  | .lsSet _ _ => [29]
  | .sampDi _ _ => [29]
  | .sampCi _ _ => [29]
  | .ledSet _ _ => [28]
  | .topCtl _ _ _ => [28]
  | .canTxq n _ => [4 + n]
  | .linHdr p _ => [16 + p]
  | _ => []

/-- The output, queue, controller or engine that an effect addresses (R48). R48 does not say what the target of a CAN_TXQ or of a
MOV_C2E is: a CAN_TXQ addresses its controller and object, and no two MOV_C2E address one target. (Log: DESIGN CHOICE 114) -/
def Effect.sameTarget : Effect → Effect → Bool
  | .ch q c _ _, .ch q' c' _ _ => q = q' && c = c'
  | .mot k _ _, .mot k' _ _ => k = k'
  | .ls k _, .ls k' _ => k = k'
  | .sink n _, .sink n' _ => n = n'
  | .eng e op addr, .eng e' op' addr' =>
    if op = 4 || op' = 4 then op = 4 && op' = 4 && addr % 4 = addr' % 4 else e = e'
  | .e2c _ o _ _, .e2c _ o' _ _ => o = o'
  | .txq n o, .txq n' o' => n = n' && o = o'
  | .trx p _, .trx p' _ => p = p'
  | .pub p id _, .pub p' id' _ => p = p' && id = id'
  | .lin p _, .lin p' _ => p = p'
  | .diag q c _, .diag q' c' _ => q = q' && c = c'
  | _, _ => false

/-- The promises whose own bead stands at `src` (R45). -/
def Promise.hasBead (p : Promise) (src : Src) (tick : Nat) : Bool :=
  src.slot = 2 && p.depRod = src.rod && p.deadline = tick + p.depOff && p.cls ≤ 7 && p.pos ≤ src.bead && src.bead < p.pos + p.cnt

/-- The promises that depend on a bead: their own, or a lane's CAN_TXQ for controller `n` (R45). -/
def Promise.needs (p : Promise) (b : Bead) (src : Src) (tick : Nat) : Bool :=
  p.hasBead src tick || (match b with
    | .canTxq n _ => (p.cls = 3 || p.cls = 4) && p.target = n && p.depRod = src.rod && p.deadline = tick + p.depOff
    | _ => false)

namespace Mod

def slotX (m : Mod) (s : Nat) : SlotRun := SMap.get {} m.frm.slots s
def onSlot (m : Mod) (s : Nat) (f : SlotRun → SlotRun) : Mod :=
  m.onFrm fun x => { x with slots := SMap.set {} x.slots s (f (m.slotX s)) }

/-- A bead error (R44). -/
def beadError (m : Mod) (src : Src) (cause : Nat) : Mod :=
  let m := ((m.inc FRM.BEAD_ERR_CNT).wr FRM.ERR_ROD src.rod).wr FRM.ERR_BEAD src.bead
  (m.wr FRM.ERR_CAUSE cause).ev 0x0A err 0x0107 [sj16 src.rod, sj src.bead, sj cause]

/-- A domain skip (R45): every sleeping or waking domain the bead addresses starts its wake. -/
def domSkip (m : Mod) (b : Bead) (src : Src) (ds : List Nat) : Mod :=
  let m := ((ds.foldl wakeDom m).inc FRM.DOM_SKIP_CNT).ev 0x0A warn 0x0108 [sj (ds.headD 0), sj16 src.rod]
  m.breachNow (fun p => p.needs b src m.tick) 2

/-- PAGE_STAT of a page (Table 17-2). -/
def pageStat (m : Mod) (pg : Nat) : Nat :=
  let d := pageDomain pg
  let port := if d < 24 then m.portOos d else false
  (if m.awake d then 1 else 0) + (if d < 31 ∧ m.bit PWR.DOM_WAKING d then 2 else 0) + (if port then 4 else 0) +
    (if m.keyOpen pg then 8 else 0) + (if SMap.get [] m.pwr.wbuf d ≠ [] then 16 else 0)

/-! ### Captures (R47) -/

/-- Write one sample word. -/
def sample (m : Mod) (i v : Nat) : Mod := m.wr (FRM.SAMPLE i) v

/-- SAMP_DI (R242), and the requests of routed inputs whose edge it captures (R62, R337). -/
def sampDi (m : Mod) (g slot cyc : Nat) : Mod :=
  let filt := m.rd FIO.DI_FILT / 2 ^ (8 * g) % 256
  let raw := m.rd FIO.DI_RAW / 2 ^ (8 * g) % 256
  let edge := m.fio.edges / 2 ^ (8 * g) % 256
  let m := (m.sample slot (filt + raw * 2 ^ 8 + edge * 2 ^ 16)).onFio fun x => { x with edges := x.edges - edge * 2 ^ (8 * g) }
  if edge = 0 then m
  else
    (m.img.routes.filter fun e => e.kind = 2 ∧ e.src = g).foldl (fun m e =>
      m.intakeReq { cls := 8, notify := false, source := 0x41, ref := e.num, rel := e.rel, target := e.num, act0 := 0, act1 := 0,
                    via := .route e.num, admTick := m.admitTick cyc,
                    frame := [e.dst] ++ beBytes 2 e.num ++ [g, filt, raw, edge] ++ beBytes 6 m.tick ++ beBytes 2 cyc ++ [0, 0] }) m

/-- SAMP_CI: the counters of the masked inputs into consecutive words. -/
def sampCi (m : Mod) (slot mask : Nat) : Mod :=
  (forN 8 (fun (a : Mod × Nat) j =>
    if mask.testBit j then (a.1.sample a.2 (a.1.rd (FIO.CI_COUNT j)), a.2 + 1) else a) (m, slot)).1

/-- SAMP_IS: the ten current-sense results of a bank, two in a word (R103). -/
def sampIs (m : Mod) (k slot : Nat) : Mod :=
  forN 5 (fun m j =>
    let is := fun i => m.rd (HQ.IS (k / 2) (10 * (k % 2) + i))
    m.sample (slot + j) (is (2 * j) + is (2 * j + 1) * 2 ^ 16)) m

/-- SAMP_FV: the feed voltage and its minimum, which restarts (R103). -/
def sampFv (m : Mod) (q slot : Nat) : Mod :=
  let v := m.rd (HQ.FEED_V q)
  (m.sample slot (v + Nat.min v (m.quad q).sampMin * 2 ^ 16)).onQuad q fun x => { x with sampMin := v }

/-- SAMP_PG: PAGE_IRQ and PAGE_STAT, or the interrupt summaries for SYS (R480). -/
def sampPg (m : Mod) (pg slot : Nat) : Mod :=
  if pg = 0 then
    (m.sample slot (flags 32 fun i => m.irqSum i)).sample (slot + 1) (flags 32 fun i => m.irqSum (32 + i))
  else (m.sample slot (m.rd (COM.PAGE_IRQ pg))).sample (slot + 1) (m.pageStat pg)

/-! ### ACF messages (R323, Table 11-2) -/

/-- The ACF message of a CAN frame of controller `n` with vehicle time `t`. (Log: PRESUMED 50) -/
def acfCan (n : Nat) (f : CanFrame) (t : Nat) : List Nat :=
  let pad := (4 - f.data.length % 4) % 4
  if f.xlf then
    let pad := (4 - (26 + f.data.length) % 4) % 4
    beBytes 2 (5 * 512 + (26 + f.data.length + pad) / 4) ++ beBytes 6 (0x4C5A00000000 + n) ++
      beBytes 4 (f.id * 2 ^ 21 + (if f.sec then 2 ^ 20 else 0) + f.vcid * 2 ^ 12 + f.sdt * 2 ^ 4) ++ beBytes 4 f.af ++
      beBytes 2 f.data.length ++ beBytes 8 t ++ f.data ++ List.replicate pad 0
  else
    let b := fun (x : Bool) k => if x then 2 ^ k else 0
    beBytes 2 (512 + (16 + f.data.length + pad) / 4) ++
      [pad * 64 + 32 + b f.rtr 4 + b f.ide 3 + b f.brs 2 + b f.fdf 1 + b f.esi 0, n] ++
      beBytes 8 t ++ beBytes 4 f.id ++ f.data ++ List.replicate pad 0

/-- MOV_C2E (R92, R275, R324): the message is composed as the object stands. `ue`: its read is uncorrectable (R421). -/
def moveC2e (m : Mod) (t o : Nat) (src : Src) (ue : Bool) : Mod :=
  if ue then (m.setObjBit o 18 false).breachNow (fun p => p.cls = 7 ∧ p.obj = some o ∧ ¬ p.moved) 8
  else
    let m' := m.onPromises (fun p => p.cls = 7 ∧ p.obj = some o) fun p => { p with moved := true }
    match m.c2eFrame o with
    | none => m'
    | some (f, ts) =>
      (m'.setObjBit o 18 false).stage src (.c2e t o (acfCan (m.objCtrl o) f (m.vehicleNs ts)))

/-- The promises of the frames in an ingress queue are delayed by their medium (R278). -/
def delayIngress (m : Mod) (i : Nat) : Mod :=
  let nums := (SMap.get [] m.prm.ingress i).map (·.prm)
  m.onPromises (fun p => nums.contains p.num) fun p => { p with delayed := true }

/-- MOV_E2C (R270, R278, R325): the head of the ingress queue, unless the object still waits to be sent. -/
def takeE2c (m : Mod) (i o : Nat) (src : Src) : Mod :=
  match SMap.get [] m.prm.ingress i with
  | [] => m
  | x :: rest =>
    if m.objBit o 21 then (m.inc (CAN.E2C_BUSY_CNT (m.objCtrl o))).delayIngress i
    else (m.onPrm fun y => { y with ingress := SMap.set [] y.ingress i rest }).stage src (.e2c i o x.frame x.prm)

/-! ### Execution -/

/-- The wake that a DOM_WAKE bead asks for (R383, R386). -/
def domWakeBead (m : Mod) (d : Nat) : Mod :=
  let m := m.wakeDom d
  if d = 30 then m.aonWake ⟨0x23, 6, 0⟩ else m

/-- Queue a task slice for the next tick (R43, cause 4 of R44). -/
def dispatch (m : Mod) (task budget : Nat) (src : Src) : Mod :=
  let sum := (m.frm.dispNext.map (·.budget)).sum + budget
  if 2000 < sum then m.beadError src 4
  else
    let p := (m.prm.open_.find? fun p => p.cls = 2 && p.hasBead src m.tick).map (·.num)
    (m.onFrm fun x => { x with dispNext := x.dispNext ++ [⟨task, budget, p.getD 0⟩] }).wr FRM.DISPATCH_SUM sum

/-- A bead's read of an object, with the error that it finds, if any (R420, R421). (Log: DESIGN CHOICE 63) -/
def beadRead (m : Mod) (o : Nat) (ecc : Option (Nat × Bool)) : Mod :=
  match ecc with
  | some (k, ue) => m.objHit o k ue
  | none => m

/-- The effect of a bead whose domains are awake. `ecc`: the error that the read of its object finds. -/
def beadEffect (m : Mod) (b : Bead) (src : Src) (ecc : Option (Nat × Bool)) : Mod :=
  let ue := ecc.any (·.2)
  let cyc := 192 + 448 * src.slot + 8 * src.bead
  match b with
  | .nop => m
  | .chSet q c act arg => m.stage src (.ch q c act arg)
  | .bankSet k mask val => forN 8 (fun m j =>
      if mask.testBit j then m.stage src (.ch (k / 2) (10 * (k % 2) + j) (if val.testBit j then 1 else 0) 0) else m) m
  | .motCmd k mode duty => m.stage src (.mot k mode duty)
  | .lsSet mask val => forN 8 (fun m k => if mask.testBit k then m.stage src (.ls k (val.testBit k)) else m) m
  | .ledSet n duty => m.stage src (.sink n duty)
  | .topCtl e op addr => m.stage src (.eng e op addr)
  | .sampDi g slot => m.sampDi g slot cyc
  | .sampCi slot mask => m.sampCi slot mask
  | .sampIs k slot => m.sampIs k slot
  | .sampFv q slot => m.sampFv q slot
  | .sampPg pg slot => m.sampPg pg slot
  | .movC2e t o => (m.beadRead o ecc).moveC2e t o src ue
  | .movE2c i o => m.takeE2c i o src
  | .canTxq n o =>
    let m := m.beadRead o ecc
    if ue then m.setObjBit o 18 false else m.stage src (.txq n o)
  | .linHdr p id => m.stage src (.lin p id)
  | .nmStep n => m.nmStep n
  | .dispatch task budget => m.dispatch task budget src
  | .prmDone num => m.onFrm fun x => { x with done := x.done ++ [num] }
  | .diagReq q c kind => m.stage src (.diag q c kind)
  | .domWake d => m.domWakeBead d
  | .skipIf slot bit pol n =>
    if m.bit (FRM.SAMPLE slot) bit = pol then m else m.onSlot src.slot fun x => { x with next := src.bead + 1 + n }
  | .event cls code => m.ev 0x0A cls code [sj16 (m.slotX src.slot).tag, sj src.bead]
  | .stop => m.onSlot src.slot fun x => { x with ended := true }

/-- Execute a bead word. -/
def runBead (m : Mod) (src : Src) (w : Nat) (ecc : Option (Nat × Bool)) : Mod :=
  match decodeBead w with
  | .error c => m.beadError src c
  | .ok b =>
    let ds := b.domains.filter fun d => !m.awake d
    if ds = [] then m.beadEffect b src ecc else m.domSkip b src ds

/-- A bead at `pos` of slot `s` runs: the Frame issues rods (R57), the slot has one that passed its check (R40, R41, R50), the position is
below its COUNT, an idle rod's being 0 (R32, R36), and no END, skip or later bead has passed it (R32, R43). -/
def slotOpen (m : Mod) (s pos : Nat) : Bool :=
  let x := m.slotX s
  m.on FRM.RUNNING && x.loaded && decide (pos < x.count) && !x.ended && decide (x.next ≤ pos)

/-- A bead takes its place. -/
def beadAt (m : Mod) (s pos w : Nat) (ecc : Option (Nat × Bool)) : Mod :=
  let m := m.fetch
  if m.slotOpen s pos then (m.onSlot s fun y => { y with next := pos + 1 }).runBead ⟨s, (m.slotX s).rod, pos⟩ w ecc else m

/-- The beads of a slot from position `pos`, `n` of them. -/
def beadsFrom (m : Mod) (s : Nat) : Nat → Nat → Mod
  | 0, _ => m
  | n + 1, pos => (m.beadAt s pos ((m.slotX s).beads.getD pos 0) none).beadsFrom s n (pos + 1)

/-- The beads of the fetched rods that have not run yet (R31). (Log: DESIGN CHOICE 15) -/
def restOfBeads (m : Mod) : Mod :=
  forN 3 (fun m s => m.beadsFrom s ((m.slotX s).count - (m.slotX s).next) (m.slotX s).next) m.fetch

end Mod

/-- A bead row: the bead of opcode `op` with operand bits `ops` at position `pos` of slot `slot`. (Log: DESIGN CHOICE 15) -/
def execBead (op : Nat) (slot : Fin 3) (pos : Fin 56) (ops : BitVec 26) (ecc : Option (Fin 20 × Bool)) (s : State) : Out :=
  s.next fun m => m.beadAt slot pos (op * 2 ^ 26 + ops.toNat) (ecc.map fun e => (e.1.val, e.2))

/-- NOP (R43). -/
def execNop (slot : Fin 3) (pos : Fin 56) (ops : BitVec 26) (s : State) : Out := execBead 0x00 slot pos ops none s
/-- CH_SET (R105). -/
def execChSet (slot : Fin 3) (pos : Fin 56) (ops : BitVec 26) (s : State) : Out := execBead 0x01 slot pos ops none s
/-- BANK_SET (R105). -/
def execBankSet (slot : Fin 3) (pos : Fin 56) (ops : BitVec 26) (s : State) : Out := execBead 0x02 slot pos ops none s
/-- MOT_CMD (R191). -/
def execMotCmd (slot : Fin 3) (pos : Fin 56) (ops : BitVec 26) (s : State) : Out := execBead 0x03 slot pos ops none s
/-- LS_SET (R247). -/
def execLsSet (slot : Fin 3) (pos : Fin 56) (ops : BitVec 26) (s : State) : Out := execBead 0x04 slot pos ops none s
/-- LED_SET (R209). -/
def execLedSet (slot : Fin 3) (pos : Fin 56) (ops : BitVec 26) (s : State) : Out := execBead 0x05 slot pos ops none s
/-- TOP_CTL (R221). -/
def execTopCtl (slot : Fin 3) (pos : Fin 56) (ops : BitVec 26) (s : State) : Out := execBead 0x06 slot pos ops none s
/-- SAMP_DI (R242). -/
def execSampDi (slot : Fin 3) (pos : Fin 56) (ops : BitVec 26) (s : State) : Out := execBead 0x08 slot pos ops none s
/-- SAMP_CI (R43). -/
def execSampCi (slot : Fin 3) (pos : Fin 56) (ops : BitVec 26) (s : State) : Out := execBead 0x09 slot pos ops none s
/-- SAMP_IS (R103). -/
def execSampIs (slot : Fin 3) (pos : Fin 56) (ops : BitVec 26) (s : State) : Out := execBead 0x0A slot pos ops none s
/-- SAMP_FV (R103). -/
def execSampFv (slot : Fin 3) (pos : Fin 56) (ops : BitVec 26) (s : State) : Out := execBead 0x0B slot pos ops none s
/-- SAMP_PG (R480). -/
def execSampPg (slot : Fin 3) (pos : Fin 56) (ops : BitVec 26) (s : State) : Out := execBead 0x0C slot pos ops none s
/-- MOV_C2E (R275). -/
def execMovC2e (slot : Fin 3) (pos : Fin 56) (ops : BitVec 26) (ecc : Option (Fin 20 × Bool)) (s : State) : Out := execBead 0x10 slot pos ops ecc s
/-- MOV_E2C (R270). -/
def execMovE2c (slot : Fin 3) (pos : Fin 56) (ops : BitVec 26) (s : State) : Out := execBead 0x11 slot pos ops none s
/-- CAN_TXQ (R276). -/
def execCanTxq (slot : Fin 3) (pos : Fin 56) (ops : BitVec 26) (ecc : Option (Fin 20 × Bool)) (s : State) : Out := execBead 0x12 slot pos ops ecc s
/-- LIN_HDR (R295). -/
def execLinHdr (slot : Fin 3) (pos : Fin 56) (ops : BitVec 26) (s : State) : Out := execBead 0x13 slot pos ops none s
/-- NM_STEP (R350). -/
def execNmStep (slot : Fin 3) (pos : Fin 56) (ops : BitVec 26) (s : State) : Out := execBead 0x15 slot pos ops none s
/-- DISPATCH (R71). -/
def execDispatch (slot : Fin 3) (pos : Fin 56) (ops : BitVec 26) (s : State) : Out := execBead 0x18 slot pos ops none s
/-- PRM_DONE (R86). -/
def execPrmDone (slot : Fin 3) (pos : Fin 56) (ops : BitVec 26) (s : State) : Out := execBead 0x19 slot pos ops none s
/-- DIAG_REQ (R174). -/
def execDiagReq (slot : Fin 3) (pos : Fin 56) (ops : BitVec 26) (s : State) : Out := execBead 0x1A slot pos ops none s
/-- DOM_WAKE (R383). -/
def execDomWake (slot : Fin 3) (pos : Fin 56) (ops : BitVec 26) (s : State) : Out := execBead 0x1B slot pos ops none s
/-- SKIP_IF (R43). -/
def execSkipIf (slot : Fin 3) (pos : Fin 56) (ops : BitVec 26) (s : State) : Out := execBead 0x1C slot pos ops none s
/-- EVENT (R428). -/
def execEvent (slot : Fin 3) (pos : Fin 56) (ops : BitVec 26) (s : State) : Out := execBead 0x1D slot pos ops none s
/-- END (R43). -/
def execEndBead (slot : Fin 3) (pos : Fin 56) (ops : BitVec 26) (s : State) : Out := execBead 0x3F slot pos ops none s

end Sys2Proof.Machine
end

