-- ==== Sys2Proof/Machine/Admission.lean ====
section
/-! DEFINITION. The admission unit (chapter 2): the checks of a request, the slack ledger, pair cycles, lanes, LIN slots, the
T1S allowance, and the decision of R77. -/
namespace Sys2Proof.Machine
open Reg

/-- The BEAD_MASK group of an opcode (R335). -/
def beadGroup (op : Nat) : Option Nat :=
  match op with
  | 0x01 => some 0
  | 0x02 => some 1
  | 0x03 => some 2
  | 0x04 => some 3
  | 0x05 => some 4
  | 0x06 => some 5
  | 0x10 => some 6
  | 0x18 => some 7
  | _ => none

/-- The class permits an action bead of opcode `op` (Table 02-2). -/
def classPermits (cls op : Nat) : Bool :=
  op = 0 || (cls = 1 && 1 ≤ op && op ≤ 6) || (cls = 2 && op = 0x18) || (cls = 7 && op = 0x10)

/-- The default LATEST_REL of a class whose deadline lies inside the module (Table 02-2). -/
def defaultRel (cls wire t1s : Nat) : Nat :=
  if cls = 1 then 1 else if cls = 2 then 2 else if cls = 3 then 1 else if cls = 4 then 1 + wire else if cls = 5 then 100
  else if cls = 6 then 1 + t1s else if cls = 7 then 4 else 0

/-- What a bead addresses, for the exclusion of R69: outputs 0, bridges 1, low-side outputs 2, sinks 3, engines 4, objects 5. -/
def Bead.targets : Bead → List (Nat × Nat)
  | .chSet q c _ _ => [(0, q * 20 + c)]
  | .bankSet k mask _ => ((List.range 8).filter fun j => mask.testBit j).map fun j => (0, k / 2 * 20 + 10 * (k % 2) + j)
  | .motCmd k _ _ => [(1, k)]
  | .lsSet mask _ => ((List.range 8).filter fun j => mask.testBit j).map fun j => (2, j)
  | .ledSet n _ => [(3, n)]
  | .topCtl e _ _ => [(4, e)]
  | .movC2e _ o => [(5, o)]
  | _ => []

/-- What a bead word addresses; a malformed word addresses nothing. -/
def wordTargets (w : Nat) : List (Nat × Nat) :=
  match decodeBead w with
  | .ok b => b.targets
  | .error _ => []

/-- The action words of a request that are not NOP. -/
def Req.acts (r : Req) : List Nat := [r.act0, r.act1].filter (· ≠ 0)

/-- The slack beads that a request costs (R68). -/
def Req.cost (r : Req) : Nat := r.acts.length + (if r.cls = 2 then 0 else 1)

namespace Mod

/-! ### Lanes (R72, R73) -/

/-- Insert an execution by its start cycle. -/
def insertLane (x : Lane × Nat) : List (Lane × Nat) → List (Lane × Nat)
  | [] => [x]
  | y :: ys => if x.2 ≤ y.2 then x :: y :: ys else y :: insertLane x ys

/-- The bytes of a scheduled rod that runs in tick `t`: its first copy that passes. -/
def runBytes (m : Mod) (t r : Nat) : List Nat :=
  if rodCheck (m.genOf (m.tableAt t)) r 0 false (m.copyA r) = 0 then m.copyA r else m.copyB r

/-- The lane executes in tick `t`: its rod runs in SB there, and its beads run in that rod. A lane in SL never executes, since the slack
rod runs there. (Log: DEDUCED 27) -/
def laneRuns (m : Mod) (l : Lane) (t : Nat) : Bool :=
  l.slot = 1 && m.tableAt t = l.tab && t % 100 = l.pos && m.runsIn t 1 = l.rod && l.rod != 0x3FF &&
    (rodRuns (m.runBytes t l.rod)).any fun x => x.1 = l.bead

/-- The lane executions of ingress queue `q` in tick `t`, in the order they start: lane and start cycle. -/
def lanesIn (m : Mod) (q ctrl t : Nat) : List (Lane × Nat) :=
  (m.img.lanes.filter fun l => l.queue = q ∧ l.ctrl = ctrl ∧ m.laneRuns l t = true).map fun l => (l, 192 + 448 * l.slot + 8 * l.bead)

/-- The tick and rod of the `k`-th execution (from 1) from tick `t` on, those of tick `t` only after cycle `cyc`. -/
def laneTick (m : Mod) (q ctrl : Nat) : Nat → Nat → Nat → Nat → Option (Nat × Lane)
  | 0, _, _, _ => none
  | fuel + 1, t, cyc, k =>
    let ls := ((m.lanesIn q ctrl t).filter fun x => cyc < x.2).foldr insertLane []
    match ls.drop (k - 1) with
    | x :: _ => if 0 < k then some (t, x.1) else none
    | [] => laneTick m q ctrl fuel (t + 1) 0 (k - ls.length)

/-! ### Permission and form (R67) -/

/-- The permission check: the detail of a refusal 0x09, if any. -/
def notPermitted (r : Req) : Option Nat :=
  let bad := fun w => fld w 31 26 ≠ 0 ∧ ¬ (classPermits r.cls (fld w 31 26) = true ∧
    ((beadGroup (fld w 31 26)).any fun g => r.beadMask.testBit g) = true)
  if ¬ r.classMask.testBit (r.cls - 1) then some 2
  else if r.cls = 5 then none
  else if bad r.act0 then some 0 else if bad r.act1 then some 1 else none

/-- A command that R106 or R190 rejects. -/
def cmdRejected (m : Mod) (b : Bead) : Bool :=
  match b with
  | .chSet q c act _ => m.bridged q c || m.chCause q c act ≠ 0
  | .bankSet k mask _ => (List.range 8).any fun j => mask.testBit j && m.chCause (k / 2) (10 * (k % 2) + j) 0 ≠ 0
  | .motCmd k _ _ => m.force (k / 2) (MOT.BR_EN k) = 0
  | _ => false

/-- A bead word is malformed: a bead error by R44, or a rejected command. -/
def badBead (m : Mod) (w : Nat) : Bool :=
  match decodeBead w with
  | .error _ => true
  | .ok b => m.cmdRejected b

/-- TARGET names no port of the class, or no identifier that the module publishes (R298). R77 names no refusal for a CAN or T1S request whose
TARGET lies beyond the controllers or the T1S ports: it is malformed. (Log: DESIGN CHOICE 123) -/
def badTarget (m : Mod) (r : Req) : Bool :=
  if r.cls = 3 ∨ r.cls = 4 then decide (12 ≤ r.target)
  else if r.cls = 5 then r.target ≠ fld r.target 5 0 + fld r.target 10 8 * 256 ||
    m.rd (LIN.DIR (fld r.target 10 8) (fld r.target 5 0)) != 1
  else r.cls = 6 && decide (2 ≤ r.target)

/-- The form check: the detail of a refusal 0x0C, if any, the first offending word (R67, R298). The words of a LIN_FRAME are data.
(Log: DESIGN CHOICE 123) -/
def malformed (m : Mod) (r : Req) : Option Nat :=
  if m.badTarget r then some 1
  else if r.cls = 5 then none
  else if m.badBead r.act0 ∨ ((r.cls = 1 ∨ r.cls = 2 ∨ r.cls = 7) ∧ r.act0 = 0) then some 2
  else if m.badBead r.act1 ∨ (r.cls = 2 ∧ r.act1 ≠ 0) then some 3 else none

/-! ### Owner and permits (R77, R90) -/

/-- The effective owner of a target, 0 Frame. -/
def targetOwner (m : Mod) (t : Nat × Nat) : Nat :=
  match t with
  | (0, k) => m.rd (HQ.OWN_EFF (k / 20) (m.lead (k / 20) (k % 20)))
  | (1, k) => m.brOwnerOf k
  | (2, k) => if m.bit FIO.LS_LOCK k then 3 else effOf (m.ls k).own
  | (3, k) => effOf (m.sink k).own
  | _ => 0

/-- The channels that a bead turns on. -/
def turnsOn (b : Bead) : List (Nat × Nat) :=
  match b with
  | .chSet q c act _ => if act = 0 ∨ act = 5 then [] else [(q, c)]
  | .bankSet k mask val => ((List.range 8).filter fun j => mask.testBit j && val.testBit j).map fun j => (k / 2, 10 * (k % 2) + j)
  | .motCmd k mode _ => if mode = 0 then [] else [(k / 2, brEven k), (k / 2, brEven k + 1)]
  | _ => []

/-- The beads of a request. -/
def reqBeads (r : Req) : List Bead :=
  r.acts.filterMap fun w => match decodeBead w with
    | .ok b => some b
    | .error _ => none

/-- The refusal for owner or permit, if any. -/
def ownerOrPermit (m : Mod) (r : Req) : Option (Nat × Nat) :=
  match (r.acts.flatMap wordTargets).find? (fun t => m.targetOwner t ≠ 0) with
  | some t => some (0x03, m.targetOwner t)
  | none =>
    match ((reqBeads r).flatMap turnsOn).find? (fun t => m.perms t.1 t.2 ≠ 31) with
    | some t => some (0x04, m.perms t.1 t.2)
    | none => none

/-! ### The slack ledger (R69, R70) -/

def ledgerAt (m : Mod) (t : Nat) : Ledger := ((m.prm.ledger.find? (·.1 = t)).map (·.2)).getD ⟨[], none⟩

def setLedger (m : Mod) (t : Nat) (l : Ledger) : Mod :=
  m.onPrm fun x => { x with ledger := (t, l) :: x.ledger.filter (·.1 ≠ t) }

/-- The request fits in the slack rod of tick `t` (R69). -/
def fits (m : Mod) (r : Req) (t : Nat) : Bool :=
  let l := m.ledgerAt t
  let mine := r.acts.flatMap wordTargets
  let touched := (m.prm.ledger.filter fun e => e.2.dirty = some r.admTick).length
  decide (l.beads.length + r.cost ≤ 56) &&
    !((l.beads.flatMap wordTargets).any fun t => mine.contains t) &&
    (decide (touched < 40) || l.dirty = some r.admTick)

/-- Compiled and admitted pair cycles of a tick (R71). -/
def cyclesOf (m : Mod) (t : Nat) : Nat := SMap.get 0 m.img.budget (t % 100) + SMap.get 0 m.prm.cycles t

/-- Pair cycles that a tick still offers. -/
def cyclesFree (m : Mod) (t : Nat) : Nat := 2000 - m.cyclesOf t

/-- Write the slack rod of tick `t` from its ledger (R38, R68). -/
def writeSlack (m : Mod) (t : Nat) : Mod :=
  let r := m.slackOf t
  m.writeRod r (slackRod r t (m.ledgerAt t).beads)

/-- Every slack rod that requests admitted in the present tick touched (R38, R64). -/
def writeLedger (m : Mod) : Mod :=
  (m.prm.ledger.filter fun e => e.2.dirty = some m.tick).foldl (fun m e => m.writeSlack e.1) m

/-- Book a request into tick `t` and accept it. A rod that this tick's commit assembly has still to write is written before a
request admitted in the next tick touches it. -/
def bookSlack (m : Mod) (r : Req) (t : Nat) : Mod :=
  let rod := m.slackOf t
  let l := m.ledgerAt t
  let m := if l.dirty = some m.tick ∧ r.admTick ≠ m.tick ∧ ¬ m.frm.assembled then m.writeSlack t else m
  let off := if r.cls = 2 then 1 else 0
  let (m, n) := m.accept r (t + off) rod off
  let m := m.onPromises (fun p => p.num = n) fun p => { p with pos := l.beads.length, cnt := r.cost }
  let beads := l.beads ++ r.acts ++ (if r.cls = 2 then [] else [0x19 * 2 ^ 26 + n])
  let m := m.setLedger t ⟨beads, some r.admTick⟩
  let m := if r.cls = 2 then
      m.onPrm fun x => { x with cycles := SMap.set 0 x.cycles (t + 1) (SMap.get 0 x.cycles (t + 1) + fld r.act0 10 0) }
    else m
  if r.admTick = m.tick ∧ m.frm.assembled then m.writeSlack t else m

/-- The first tick from `t` on, `k` of them, into which the request fits; whether a tick failed for pair cycles; the most free
cycles seen. -/
def findSlack (m : Mod) (r : Req) : Nat → Nat → Bool → Nat → Option Nat × Bool × Nat
  | 0, _, short, best => (none, short, best)
  | k + 1, t, short, best =>
    if m.fits r t then
      if r.cls = 2 ∧ m.cyclesFree (t + 1) < fld r.act0 10 0 then
        m.findSlack r k (t + 1) true (Nat.max best (m.cyclesFree (t + 1)))
      else (some t, short, best)
    else m.findSlack r k (t + 1) short best

/-- OUTPUT, TASK and ROUTE_UP. Where no tick is examined, as for a TASK with LATEST_REL 1, R80 does not say what the detail of 0x01 is: the
beads free in the last tick of the empty range. (Log: DESIGN CHOICE 124) -/
def decideSlack (m : Mod) (r : Req) (latest : Nat) : Mod :=
  let a := r.admTick
  let last := Nat.min (if r.cls = 2 then latest - 1 else latest) (a + m.rd FRM.SLACK_LEN - 1)
  if r.cls = 2 ∧ m.pstate = 1 then
    (m.aonWake ⟨0x24, 7, r.source⟩).refuse r 0x06 30
  else match (if r.cls = 1 then m.ownerOrPermit r else none) with
  | some (reason, d) => m.refuse r reason d
  | none =>
    let ds := if r.cls = 2 then [] else ((reqBeads r).flatMap Bead.domains).filter fun d => !m.awake d
    let m := ds.foldl wakeDom m
    let w := ds.foldl (fun a d => Nat.max a (wakeTicks d)) 0
    let earliest := if ds = [] then a + 1 else a + 2 + w
    if ds ≠ [] ∧ last < earliest then m.refuse r 0x06 ((ds.find? fun d => wakeTicks d = w).getD 0)
    else match m.findSlack r (last + 1 - earliest) earliest false 0 with
      | (some t, _, _) => m.bookSlack r t
      | (none, true, best) => m.refuse r 0x05 (best / 100)
      | (none, false, _) => m.refuse r 0x01 (56 - (m.ledgerAt last).beads.length)

/-! ### Media (R73, R75, R84) -/

/-- A port cannot complete work on its medium: no envelope declared, or out of service (R84, R450). -/
def noEnvelope (m : Mod) (port : Nat) : Bool := !m.on (PRM.ENV_OCC port) || m.portOos port

/-- The identifier, IDE in bit 29, of the transmit object that a lane's MOV_E2C names (R84). -/
def laneIdent (m : Mod) (l : Lane) : Nat :=
  let b := if (m.goodHeader (m.genOf l.tab) l.rod false).isSome ∧ rodCheck (m.genOf l.tab) l.rod 0 false (m.copyA l.rod) ≠ 0
    then m.copyB l.rod else m.copyA l.rod
  m.objIdent (fld (wordAt b (16 + 4 * l.bead)) 11 0)

/-- WIRE_TICKS of a controller and an identifier. -/
def wireTicks (m : Mod) (n ident : Nat) : Option Nat := (m.img.wire.find? fun e => e.1 = ident ∧ e.2.1 = n).map (·.2.2)

/-- CAN_TX and CAN_TXW on ingress queue `i`, taken in at cycle `cyc` of the present tick with its frame (R63, R73, R84). -/
def decideCan (m : Mod) (r : Req) (i cyc : Nat) (f : CanFrame) : Mod :=
  let port := 4 + r.target
  let q := SMap.get [] m.prm.ingress i
  let rel := r.rel
  let fuel := (if rel = 0 then 1 else rel) + 2
  if 32 ≤ q.length ∨ m.portOos port ∨ (r.cls = 4 ∧ m.noEnvelope port) then m.refuse r 0x02 port
  else match m.laneTick i r.target fuel m.tick (cyc + 8) (q.length + 1) with
    | none => m.refuse r 0x02 port
    | some (t, l) =>
      let wire := if r.cls = 4 then m.wireTicks r.target (m.laneIdent l) else some 0
      match wire with
      | none => m.refuse r 0x02 port
      | some w =>
        let latest := r.admTick + (if rel = 0 then defaultRel r.cls w 0 else rel)
        if latest < t + w then m.refuse r 0x02 port
        else
          let (m, n) := m.accept r (t + w) l.rod w
          m.onPrm fun x => { x with ingress := SMap.set [] x.ingress i (SMap.get [] x.ingress i ++ [⟨f, n⟩]) }

/-- A LIN_HDR bead for the port and identifier runs in tick `t`. -/
def linHdrIn (m : Mod) (t p id : Nat) : Bool :=
  [0, 1].any fun s =>
    let r := m.runsIn t s
    r ≠ 0x3FF && (rodRuns (m.runBytes t r)).any fun x => x.2.1 = 0x13 * 2 ^ 26 + p * 2 ^ 23 + id * 2 ^ 16

/-- The first free slot of an identifier from tick `t` on (R75). (Log: DEDUCED 57) -/
def linSlotFrom (m : Mod) (p id : Nat) : Nat → Nat → Option Nat
  | 0, _ => none
  | k + 1, t =>
    if m.linHdrIn t p id && !(m.prm.linSlots.any fun b => b.tick = t ∧ b.port = p ∧ b.id = id) then some t
    else m.linSlotFrom p id k (t + 1)

/-- LIN_FRAME (R75, R298). (Log: DEDUCED 57) -/
def decideLin (m : Mod) (r : Req) (latest : Nat) : Mod :=
  let p := fld r.target 10 8
  let id := fld r.target 5 0
  let slot := m.rd (LIN.SLOT_T p id)
  if m.noEnvelope (16 + p) then m.refuse r 0x02 (16 + p)
  else match m.linSlotFrom p id (latest - slot - r.admTick) (r.admTick + 1) with
    | none => m.refuse r 0x02 (16 + p)
    | some t =>
      let (m, n) := m.accept r (t + slot) 0x3FF 0
      m.onPrm fun x => { x with linSlots := x.linSlots ++ [⟨t, p, id, leBytes 4 r.act0 ++ leBytes 4 r.act1, n⟩] }

/-- The first tick from `t` on with room in a T1S port's allowance (R75). -/
def t1sFrom (m : Mod) (n : Nat) : Nat → Nat → Option Nat
  | 0, _ => none
  | k + 1, t => if SMap.get 0 m.prm.t1sBooked (2 * t + n) < m.rd (TS.ALLOW n) then some t else m.t1sFrom n k (t + 1)

/-- T1S_TX (R75, R304). A request that carries no Ethernet frame, as one of the pair, books as any other and its frame is empty: the spec does
not say what it sends. (Log: DESIGN CHOICE 125) -/
def decideT1s (m : Mod) (r : Req) (latest : Nat) : Mod :=
  let n := r.target
  let w := m.rd (TS.T1S_TICKS n)
  if m.noEnvelope (2 + n) ∨ 32 ≤ (m.tseg n).pq.length then m.refuse r 0x02 (2 + n)
  else match m.t1sFrom n (latest - w - r.admTick) (r.admTick + 1) with
    | none => m.refuse r 0x02 (2 + n)
    | some t =>
      let (m, k) := m.accept r (t + w) 0x3FF 0
      let m := m.onPrm fun x => { x with t1sBooked := SMap.set 0 x.t1sBooked (2 * t + n) (SMap.get 0 x.t1sBooked (2 * t + n) + 1) }
      m.t1sEnqueue n k r.frame

/-- DI_EVENT (R74): the event frame joins the combined commit of its tick. A request of the pair or of a PROMISE has no route entry and no
capture: its frame carries the request's own bytes, to the initiator slot that the first of them names, 0 where it has none; the spec does
not say what becomes of it. (Log: DESIGN CHOICE 126) -/
def decideEvent (m : Mod) (r : Req) : Mod :=
  let a := r.admTick
  if 16 ≤ SMap.get 0 m.prm.egress a then m.refuse r 0x01 0
  else
    let m := m.onPrm fun x => { x with egress := SMap.set 0 x.egress a (SMap.get 0 x.egress a + 1) }
    let (m, n) := m.accept r a 0x3FF 0
    m.stage ⟨2, 0x3FF, 56⟩ (.event (r.frame.headD 0) r.frame.tail n)

/-! ### The decision (R77) -/

/-- The target of the change in progress, as a refusal 0x0B details it, 0 none (R93). -/
def changeTarget (m : Mod) : Nat :=
  if ¬ m.on PRM.DRAINING then 0 else if m.on UPD.HANDOVER then 4 else m.rd PWR.CUR_TGT

/-- The checks that come before the class (R77): the refusal, if any. -/
def firstChecks (m : Mod) (r : Req) : Option (Nat × Nat) :=
  if ¬ m.on PRM.EN then some (0x0E, 0)
  else if m.on PRM.DRAINING then some (0x0B, m.changeTarget)
  else if r.cls = 0 ∨ 8 < r.cls ∨ r.bad then some (0x0C, 0)
  else match notPermitted r with
    | some d => some (0x09, d)
    | none => match m.malformed r with
      | some d => some (0x0C, d)
      | none => if 1024 ≤ m.prm.open_.length then some (0x0A, 0) else none

/-- Decide a request that carries no ACF frame. A CAN_TX or CAN_TXW that the pair or a PROMISE presents has no frame to send, and the spec does
not say what becomes of it: it is refused with 0x02. (Log: DESIGN CHOICE 127) -/
def decideReq (m : Mod) (r : Req) : Mod :=
  match m.firstChecks r with
  | some (reason, d) => m.refuse r reason d
  | none =>
    let rel := if r.rel = 0 then defaultRel r.cls 0 (m.rd (TS.T1S_TICKS r.target)) else r.rel
    let latest := r.admTick + rel
    if r.cls = 1 ∨ r.cls = 2 ∨ r.cls = 7 then m.decideSlack r latest
    else if r.cls = 5 then m.decideLin r latest
    else if r.cls = 6 then m.decideT1s r latest
    else if r.cls = 8 then m.decideEvent r
    else m.refuse r 0x02 (4 + r.target)

/-- A CAN request of listener stream `i` (R63, R325). -/
def canRequest (m : Mod) (r : Req) (i cyc : Nat) (f : CanFrame) : Mod :=
  match m.firstChecks r with
  | some (reason, d) => m.refuse r reason d
  | none => m.decideCan r i cyc f

/-- A request arrives: those of the classes CAN_TX and CAN_TXW are decided at once and do not enter the queue (R63). -/
def takeReq (m : Mod) (r : Req) : Mod := if r.cls = 3 ∨ r.cls = 4 then m.decideReq r else m.intakeReq r

/-- Decide the request at the head of the admission queue (R63). (Log: DEDUCED 24) -/
def decideHead (m : Mod) : Mod :=
  match m.prm.queue with
  | [] => m
  | r :: rest => (m.onPrm fun x => { x with queue := rest }).decideReq r

/-- Present REQ0 to REQ3 as a request at cycle 0 (R62, R65). -/
def presentReq (m : Mod) : Mod :=
  if ¬ m.prm.reqGo then m
  else
    let w := fun i => m.rd (PRM.REQ i)
    let m := (m.onPrm fun x => { x with reqGo := false }).wr PRM.ANS_VALID 0
    m.takeReq { cls := fld (w 0) 3 0, notify := (w 0).testBit 4, source := 0x40, ref := fld (w 0) 31 16, rel := fld (w 1) 15 0,
                  target := fld (w 1) 31 16, act0 := w 2, act1 := w 3, bad := decide (fld (w 0) 7 5 ≠ 0), via := .pair,
                  admTick := m.tick }

end Mod

/-! ### The commands -/

/-- REQ_GO (R62, R65): a pair write leaves at the tick boundary; a Vinko write is denied. (Log: DEDUCED 67) -/
def execReqGo (w : Writer) (s : State) : Out :=
  s.next fun m => match w with
    | .pair => m.pairCommit (Mod.regAddr 0x0B 0x150) 1
    | .vinko => m.inc VNK.DENIED_CNT

/-- ADMISSION_DECISION (R63, R77). -/
def execAdmissionDecision (s : State) : Out := s.next Mod.decideHead

/-- PROMISE_DEADLINE (R87). -/
def execPromiseDeadline (num : BitVec 16) (s : State) : Out := s.next fun m => m.judge num.toNat

/-- ENV_INTERVAL_END (R83). -/
def execEnvIntervalEnd (p : Fin 22) (s : State) : Out := s.next fun m => m.envClose (2 + p)

end Sys2Proof.Machine
end

