-- ==== Sys2Proof/Machine/Events.lean ====
section
/-! DEFINITION. Integrity and the event log (chapter 15): the writer, the archive, the error-correcting memories and the flash
scrubber. -/
namespace Sys2Proof.Machine
open Reg

/-- The four words of a record (Table 15-4). -/
def EvtRec.words (r : EvtRec) : List Nat :=
  [r.tick % 2 ^ 32, r.tick / 2 ^ 32 % 2 ^ 16 + r.code * 2 ^ 16, r.detail,
   r.page % 256 + r.cls % 4 * 2 ^ 8 + (if r.est then 2 ^ 10 else 0) + (if r.trunc then 2 ^ 11 else 0) + r.rep % 256 * 2 ^ 12 +
     r.seq % 4096 * 2 ^ 20]

/-- The record that 16 bytes hold. -/
def EvtRec.ofBytes (b : List Nat) : EvtRec :=
  let w := fun i => leNum ((b.drop (4 * i)).take 4)
  { tick := w 0 + fld (w 1) 15 0 * 2 ^ 32, page := fld (w 3) 7 0, cls := fld (w 3) 9 8, code := fld (w 1) 31 16, detail := w 2,
    est := (w 3).testBit 10, trunc := (w 3).testBit 11, rep := fld (w 3) 19 12, seq := fld (w 3) 31 20 }

/-- The 16 bytes of a record. -/
def EvtRec.bytes (r : EvtRec) : List Nat := r.words.flatMap (leBytes 4)

/-- Record `a` is older than `b` (R431). -/
def olderRec (a b : EvtRec) : Bool := a.tick < b.tick || (a.tick = b.tick && a.seq < b.seq)

namespace Mod

def onEvt (m : Mod) (f : EvtX → EvtX) : Mod := { m with evt := f m.evt }

/-! ### The writer (R429 to R432) -/

/-- The lowest-numbered free slot (R431). (Log: DEDUCED 73) -/
def freeSlot (m : Mod) : Option Nat := (List.range 1024).find? fun i => (SMap.find? m.evt.log i).isNone

/-- The oldest record of class `c`: its slot. -/
def oldest (m : Mod) (c : Nat) : Option Nat :=
  (m.evt.log.foldl (fun (b : Option (Nat × EvtRec)) e =>
    if e.2.cls ≠ c then b else match b with
      | some x => if olderRec e.2 x.2 then some e else b
      | none => some e) none).map (·.1)

/-- The lowest class present in the log. -/
def lowestClass (m : Mod) : Nat := m.evt.log.foldl (fun a e => Nat.min a e.2.cls) 3

/-- The slot that a new record of class `c` takes when the log is full: a victim's, or none (R431). (Log: DEDUCED 73) -/
def victim (m : Mod) (c : Nat) : Option Nat :=
  if c = crit ∧ (m.oldest info).isSome then m.oldest info
  else if c < m.lowestClass then none
  else m.oldest m.lowestClass

/-- Store a record in a slot. -/
def storeRec (m : Mod) (i : Nat) (r : EvtRec) : Mod :=
  let r := { r with seq := m.rd EVT.NEXT_SEQ }
  let m := (m.wr EVT.NEXT_SEQ ((r.seq + 1) % 4096)).wr EVT.LATEST i
  m.onEvt fun x => { x with log := SMap.put x.log i r, latest := SMap.put x.latest r.page i,
                            crit := if r.cls = crit then x.crit ++ [r] else x.crit }

/-- The record that the new one may be coalesced into (R430): its slot. (Log: DEDUCED 71) -/
def coalesceInto (m : Mod) (e : EvtIn) : Option (Nat × EvtRec) :=
  match SMap.find? m.evt.latest e.body.page with
  | none => none
  | some i => match SMap.find? m.evt.log i with
    | some r =>
      if r.page = e.body.page ∧ r.cls = e.body.cls ∧ r.code = e.body.code ∧ r.rep < 255 ∧
          r.detail &&& e.keyMask = e.body.detail &&& e.keyMask then some (i, r) else none
    | none => none

/-- The writer handles one record. (Log: DEDUCED 72) -/
def writeRec (m : Mod) (e : EvtIn) : Mod :=
  if e.body.cls < m.rd EVT.MIN_CLASS ∨ (mapped e.body.page ∧ e.body.cls < m.rd (COM.MIN_CLASS e.body.page)) then
    m.inc (EVT.FILTERED e.body.cls)
  else match m.coalesceInto e with
    | some (i, r) => m.onEvt fun x => { x with log := SMap.put x.log i { r with rep := r.rep + 1, detail := e.body.detail } }
    | none =>
      match m.freeSlot with
      | some i => m.storeRec i e.body
      | none => match m.victim e.body.cls with
        | some i =>
          let c := ((SMap.find? m.evt.log i).map (·.cls)).getD 0
          let m := (m.dropped c).onEvt fun x => { x with latest := x.latest.filter fun p => p.2 != i }
          m.storeRec i e.body
        | none => m.dropped e.body.cls

/-- A slot whose words give an uncorrectable read counts as free (R421). -/
def freeBad (m : Mod) (i : Nat) : Mod :=
  if (SMap.find? m.evt.log i).isSome then
    (m.inc EVT.BAD_SLOT_CNT).onEvt fun x => { x with log := SMap.del x.log i, latest := x.latest.filter fun p => p.2 != i }
  else m

/-- The writer takes the head of its queue (R429). -/
def takeRec (m : Mod) : Mod :=
  match m.evt.intake with
  | [] => m
  | e :: rest => (m.onEvt fun x => { x with intake := rest }).writeRec e

/-- The report of dropped records at a superframe boundary (R434). -/
def dropReport (m : Mod) : Mod :=
  if m.evt.rises = [] then m
  else
    let n := fun c => Nat.min (SMap.get 0 m.evt.rises c) 255
    (m.onEvt fun x => { x with rises := [] }).ev 0x08 warn 0x0F05 [vl (n 0), vl (n 1), vl (n 2), vl (n 3)]

/-! ### The archive (R432, R436 to R438) -/

def archiveBase : Nat := 0x10940000
def critBase : Nat := 0x109E0000

/-- The 1024 slots as bytes. -/
def slotBytes (m : Mod) : List Nat :=
  (List.range 1024).flatMap fun i => match SMap.find? m.evt.log i with
    | some r => r.bytes
    | none => List.replicate 16 0

/-- The first 60 bytes of a snapshot header. -/
def snapHeader (m : Mod) (n : Nat) : List Nat :=
  [0x4F, 0x5A, 0x45, 0x56] ++ leBytes 4 n ++ leBytes 6 m.tick ++ leBytes 2 m.evt.log.length ++ List.replicate 44 0

/-- The log is copied into the next snapshot area (R436, R438). -/
def snapBegin (m : Mod) : Mod :=
  let n := m.evt.snapNo
  let a := archiveBase + n % 32 * 0x5000
  let h := m.snapHeader n
  let s := m.slotBytes
  let m := ((m.setBytes a (h ++ leBytes 4 (crc32c (h ++ s)))).setBytes (a + 0x1000) s)
  m.onEvt fun x => { x with snapNo := n + 1 }

/-- The snapshot completes, or fails to write; the next area is erased (R436, R438). -/
def snapEnd (m : Mod) (ok : Bool) : Mod :=
  let n := m.evt.snapNo - 1
  if ok then ((m.wr EVT.ARCH_AREA (n % 32)).inc EVT.ARCH_CNT).eraseMem (archiveBase + (n + 1) % 32 * 0x5000) 0x5000
  else (m.inc EVT.ARCH_FAIL_CNT).eraseMem (archiveBase + n % 32 * 0x5000) 0x5000

/-- The snapshot of area `a`, where its check passes: its number. -/
def snapNumber (m : Mod) (a : Nat) : Option Nat :=
  let b := archiveBase + a * 0x5000
  if m.load b 4 = 0x56455A4F ∧ crc32c (m.bytes b 60 ++ m.bytes (b + 0x1000) 16384) = m.load (b + 60) 4 then some (m.load (b + 4) 4)
  else none

/-- The latest record of each page, by sequence number before `next`. -/
def latestOf (log : SMap EvtRec) (next : Nat) : SMap Nat :=
  let age := fun (r : EvtRec) => (next + 8192 - 1 - r.seq) % 4096
  log.foldl (fun l e => match SMap.find? l e.2.page with
    | some i => match SMap.find? log i with
      | some r => if age e.2 < age r then SMap.put l e.2.page e.1 else l
      | none => SMap.put l e.2.page e.1
    | none => SMap.put l e.2.page e.1) []

/-- The log is restored from the newest good snapshot (R438). -/
def snapRestore (m : Mod) : Mod :=
  let best := (List.range 32).foldl (fun (b : Option (Nat × Nat)) a => match m.snapNumber a with
    | none => b
    | some n => match b with
      | some x => if x.2 < n then some (a, n) else b
      | none => some (a, n)) none
  match best with
  | none => (m.onEvt fun x => { x with log := [], latest := [] }).ev 0x08 err 0x0F07 []
  | some (a, n) =>
    let b := archiveBase + a * 0x5000 + 0x1000
    let log : SMap EvtRec := (List.range 1024).foldl (fun l i =>
      let d := m.bytes (b + 16 * i) 16
      if d.all (· = 0) then l else SMap.put l i (EvtRec.ofBytes d)) []
    (m.onEvt fun x => { x with log := log, latest := latestOf log (m.rd EVT.NEXT_SEQ) }).ev 0x08 info 0x0F06 [vl n]

/-- The next Critical record is written through (R432, R437). -/
def critWrite (m : Mod) (ok : Bool) : Mod :=
  match m.evt.crit with
  | [] => m
  | r :: rest =>
    let m := m.onEvt fun x => { x with crit := rest }
    if ok then
      let p := m.rd EVT.CRIT_POS
      let b := r.bytes
      (m.setBytes (critBase + 16 * p) (b ++ b.take 12 ++ leBytes 4 (crc32c b))).wr EVT.CRIT_POS ((p + 2) % 8192)
    else m.inc EVT.ARCH_FAIL_CNT

/-! ### The memory scrubber (R422) -/

/-- The scrubber's finds of one tick (R422). (Log: DESIGN CHOICE 63) -/
def eccScrub (m : Mod) (l : List EccHit) : Mod := if m.on EVT.SCRUB_EN then l.foldl eccHit m else m

/-! ### The flash scrubber (R424) -/

def bankBase (b : Nat) : Nat := 0x10000000 + b * 0x400000
def slotBase (s : Nat) : Nat := 0x10800000 + s * 0x80000
/-- The manifest of a bank (R454). -/
def manifest (b : Nat) : Nat := bankBase b + 0x3FE000

/-- A flash check fails (R424). -/
def flashBad (m : Mod) (region block : Nat) : Mod :=
  (((m.wr EVT.BAD_REGION region).wr EVT.BAD_BLOCK block).inc EVT.FLASH_FAIL_CNT).ev 0x08 err 0x0F03 [sj region, vl16 block]

/-- One block of the active firmware bank. -/
def scrubFw (m : Mod) : Mod :=
  let bank := m.rd BOOT.ACT_BANK
  let n := m.load (manifest bank + 6) 2
  if m.load (manifest bank) 4 ≠ 0x57465A4F ∨ n = 0 ∨ 1022 < n then m
  else
    let k := if m.evt.scrubFw < n then m.evt.scrubFw else 0
    let m := m.onEvt fun x => { x with scrubFw := k + 1 }
    if crc32c (m.bytes (bankBase bank + 4096 * k) 4096) = m.load (manifest bank + 64 + 4 * k) 4 then m else m.flashBad 0 k

/-- One block of the active configuration slot. -/
def scrubCfg (m : Mod) : Mod :=
  let b := slotBase (m.rd BOOT.ACT_CFG)
  let len := m.load (b + 8) 4
  if m.load b 4 ≠ 0x46435A4F ∨ 524288 < len + 68 then m
  else
    let k := m.evt.scrubCfg
    let part := m.bytes (b + 4096 * k) (Nat.min 4096 (len - 4096 * k))
    let acc := part.foldl crcByte (BitVec.ofNat 32 m.evt.scrubAcc)
    if len ≤ 4096 * (k + 1) then
      let m := m.onEvt fun x => { x with scrubCfg := 0, scrubAcc := 0xFFFFFFFF }
      if (acc ^^^ 0xFFFFFFFF#32).toNat = m.load (b + len) 4 then m else m.flashBad 1 k
    else m.onEvt fun x => { x with scrubCfg := k + 1, scrubAcc := acc.toNat }

/-- The flash scrubber's block of this frame. -/
def scrubFlash (m : Mod) : Mod :=
  if ¬ m.on EVT.SCRUB_EN then m
  else
    let turn := m.evt.scrubTurn
    let m := m.onEvt fun x => { x with scrubTurn := !turn }
    if turn then m.scrubCfg else m.scrubFw

/-! ### Reading the log, RAISE (R435, R440) -/

/-- A read of REC_DATA0 latches the selected slot's words. -/
def recLatch (m : Mod) : Mod :=
  let w := ((SMap.find? m.evt.log (m.rd EVT.REC_SEL)).map EvtRec.words).getD [0, 0, 0, 0]
  forN 4 (fun m i => m.wr (EVT.REC_DATA i) (w.getD i 0)) m

/-- A write of RAISE at the boundary. -/
def raiseWord (m : Mod) (v : Nat) : Mod :=
  if v.testBit 31 then m.ev (fld v 27 20) (fld v 17 16) (fld v 15 0) [vl32 (m.rd EVT.RAISE_DETAIL)] else m

end Mod

/-! ### The commands -/

/-- The writer's read of word `k` of the log memory finds an error (R420, R421): the slot of an uncorrectable one counts as free.
(Log: DESIGN CHOICE 63) -/
def Mod.logRead (m : Mod) (k : BitVec 12) (ue : Bool) : Mod :=
  let m := m.eccHit ⟨2, BitVec.ofNat 32 (4 * k.toNat), ue⟩
  if ue then m.freeBad (k.toNat / 4) else m

/-- EVENT_RECORD (R420, R421, R429 to R431). (Log: DESIGN CHOICE 63) -/
def execEventRecord (ecc : Option (BitVec 12 × Bool)) (s : State) : Out :=
  s.next fun m => (match ecc with
    | some (k, ue) => m.logRead k ue
    | none => m).takeRec

/-- CRITICAL_WRITE_THROUGH (R432). -/
def execCriticalWriteThrough (ok : Bool) (s : State) : Out := s.next fun m => m.critWrite ok

/-- RAISE (R440). -/
def execRaiseEvent (v : Word) (w : Writer) (s : State) : Out :=
  s.next fun m => match w with
    | .pair => m.pairCommit (Mod.regAddr 0x08 0x150) v.toNat
    | .vinko => m.inc VNK.DENIED_CNT

/-- REC_DATA0_READ (R435). -/
def execRecData0Read (s : State) : Out := s.next Mod.recLatch

end Sys2Proof.Machine
end

