-- ==== Sys2Proof/Machine/Image.lean ====
section
/-! DEFINITION. Firmware manifests, configuration images, the OTP and the keys (chapter 16): the formats of Tables 16-4 to 16-10
and the checks of Tables 16-3 and 16-5. -/
namespace Sys2Proof.Machine
open Reg

/-- A directory entry (R456). -/
structure Sect where
  type : Nat
  flg : Nat
  off : Nat
  size : Nat
deriving DecidableEq, Repr

/-- The entry size of a section type (Table 16-7). -/
def entrySize (ty : Nat) : Option Nat :=
  match ty with
  | 0x0001 | 0x0002 | 0x0003 => some 12
  | 0x0010 => some 256
  | 0x0011 => some 404
  | 0x0012 => some 200
  | 0x0013 | 0x0015 => some 8
  | 0x0014 => some 16
  | 0x0016 => some 84
  | _ => none

/-- The address may stand in a REG section (Table 16-9). -/
def regPermitted (ty addr : Nat) : Bool :=
  let pg := (addr - 0x40000000) / 0x1000
  let off := addr % 0x1000
  let hq := decide (0x10 ≤ pg ∧ pg ≤ 0x13) || pg = 0x15
  decide (0x40000000 ≤ addr) && mapped pg && decide (addr % 4 = 0) &&
  (if ty = 1 then hq
   else if ty = 2 then !hq && !([0x01, 0x05, 0x06, 0x07].contains pg)
   else (off = 0x200 && (decide (0x20 ≤ pg ∧ pg ≤ 0x2B) || decide (0x30 ≤ pg ∧ pg ≤ 0x3B))) ||
     (pg = 0x3F && (List.range 22).any fun n => off = (NM.HOLD n).off))

/-- Two sections overlap. -/
def Sect.overlaps (a b : Sect) : Bool := decide (a.off < b.off + b.size) && decide (b.off < a.off + a.size)

/-- No two of a list overlap. -/
def disjoint : List Sect → Bool
  | [] => true
  | s :: rest => rest.all (fun t => !s.overlaps t) && disjoint rest

namespace Mod

/-! ### OTP and keys (R459 to R461) -/

def onSec (m : Mod) (f : SecX → SecX) : Mod := { m with sec := f m.sec }

/-- The OTP word at a byte address. -/
def otpWord (m : Mod) (a : Nat) : Nat := forN 4 (fun v i => v + (SMap.get 0#8 m.sec.otp (a + i)).toNat * 2 ^ (8 * i)) 0

/-- Set the bits of `v` in an OTP word; a bit only changes from 0 to 1. (Log: DEDUCED 85) -/
def otpSet (m : Mod) (a v : Nat) : Mod :=
  let w := m.otpWord a ||| v
  m.onSec fun x => { x with otp := forN 4 (fun o i => SMap.set 0#8 o (a + i) (BitVec.ofNat 8 (w / 2 ^ (8 * i)))) x.otp }

/-- The number of bits set in a number below 2^64. -/
def popcount (v : Nat) : Nat := ((List.range 64).filter fun i => v.testBit i).length

/-- The anti-rollback field and its counter. -/
def arbField (m : Mod) : Nat := m.otpWord 0x104 + m.otpWord 0x108 * 2 ^ 32
def arbCount (m : Mod) : Nat := popcount m.arbField

/-- Key slot `k` is usable: valid and not revoked. -/
def keyUsable (m : Mod) (k : Nat) : Bool := (m.otpWord 0x100).testBit k && !(m.otpWord 0x100).testBit (8 + k)

/-- SEC.FLAGS and PAIR.STAT.SPLIT_DIS show the OTP. (Log: DESIGN CHOICE 6) -/
def secShow (m : Mod) : Mod :=
  let w := m.otpWord 0x100
  let f := m.otpWord 0x10C
  let m := ((m.wr SEC.ARB m.arbCount).wr SEC.KEY_VALID (fld w 3 0 &&& (15 - fld w 11 8))).wr SEC.KEY_REVOKED (fld w 11 8)
  ((m.wr SEC.SPLIT_DIS (fld f 0 0)).wr SEC.DEBUG_LOCK (fld f 1 1)).wr PAIR.SPLIT_DIS (fld f 0 0)

/-- The counter advances to `n`: the lowest clear bits of the field are set. -/
def arbAdvance (m : Mod) (n : Nat) : Mod :=
  let f := m.arbField
  let bits := (((List.range 64).filter fun i => !f.testBit i).take (n - m.arbCount)).foldl (fun v i => v + 2 ^ i) 0
  ((m.otpSet 0x104 (bits % 2 ^ 32)).otpSet 0x108 (bits / 2 ^ 32)).secShow

/-! ### Firmware (R446, R454) -/

def fwVer (m : Mod) (bank : Nat) : Nat := m.load (manifest bank + 8) 4
def fwEntry (m : Mod) (bank : Nat) : Nat := m.load (manifest bank + 16) 4
def fwBlocks (m : Mod) (bank : Nat) : Nat := m.load (manifest bank + 6) 2

/-- The first block whose CRC is wrong. -/
def badBlock (m : Mod) (bank : Nat) : Option Nat :=
  (List.range (m.fwBlocks bank)).find? fun k =>
    crc32c (m.bytes (bankBase bank + 4096 * k) 4096) ≠ m.load (manifest bank + 64 + 4 * k) 4

/-- The number of the first check of Table 16-3 that a bank fails, 0 where it passes, and the block of check 5. `sig`: SIG
verifies. -/
def fwCheck (m : Mod) (bank : Nat) (sig : Bool) : Nat × Nat :=
  let a := manifest bank
  let n := m.fwBlocks bank
  let off := m.load (a + 20) 4
  let len := m.load (a + 24) 4
  if m.load a 4 ≠ 0x57465A4F ∨ m.load (a + 4) 2 ≠ 1 ∨ n = 0 ∨ 1022 < n then (1, 0)
  else if 3 < m.byte (a + 13) ∨ ¬ m.keyUsable (m.byte (a + 13)) then (2, 0)
  else if ¬ sig then (3, 0)
  else if m.byte (a + 12) < m.arbCount then (4, 0)
  else match m.badBlock bank with
    | some k => (5, k)
    | none =>
      if n * 4096 < off + len ∨ 16384 < len ∨ crc32c (m.bytes (bankBase bank + off) len) ≠ m.load (a + 28) 4 then (6, 0) else (0, 0)

/-! ### Configuration images (R455 to R458) -/

def imgLength (m : Mod) (b : Nat) : Nat := m.load (b + 8) 4

/-- The directory. -/
def sects (m : Mod) (b : Nat) : List Sect :=
  (List.range (m.load (b + 6) 2)).map fun i =>
    let e := b + 64 + 16 * i
    ⟨m.load e 2, m.load (e + 2) 2, m.load (e + 4) 4, m.load (e + 8) 4⟩

/-- The addresses of the entries of one section type, in order. -/
def entries (m : Mod) (b ty : Nat) : List Nat :=
  let n := (entrySize ty).getD 1
  ((m.sects b).filter fun s => s.type = ty).flatMap fun s => (List.range (s.size / n)).map fun k => b + s.off + n * k

/-- The value that an image gives a field: its reset value, then the entries of the REG sections. -/
def imgField (m : Mod) (b : Nat) (f : Fld) : Nat :=
  let a := regAddr f.page f.off
  let step := fun (v e : Nat) =>
    if m.load e 4 = a then
      let mask := m.load (e + 8) 4 / 2 ^ f.lo % 2 ^ f.w
      f.fix.apply ((v &&& (f.max - mask)) ||| (m.load (e + 4) 4 / 2 ^ f.lo % 2 ^ f.w &&& mask))
    else v
  ((m.entries b 1) ++ (m.entries b 2) ++ (m.entries b 3)).foldl step f.rst

/-- The TABLES entry of a table. -/
def imgTable (m : Mod) (b t : Nat) : Option Nat := (m.entries b 0x11).find? fun e => m.byte e = t

def imgGen (m : Mod) (b t : Nat) : Nat := ((m.imgTable b t).map fun e => m.byte (e + 1)).getD 0

/-- The rod that a table of the image names at a position, for SA (0) or SB (1). -/
def imgNamed (m : Mod) (b t p s : Nat) : Nat :=
  ((m.imgTable b t).map fun e => m.load (e + 4 + 4 * p + 2 * s) 2 % 1024).getD 0x3FF

/-- The bytes of a rod of the image. -/
def imgRod (m : Mod) (b r : Nat) : Option (List Nat) :=
  ((m.entries b 0x10).find? fun e => m.load e 2 % 1024 = r).map fun e => m.bytes e 256

/-- The table positions: table, position, slot. -/
def imgPlaces (m : Mod) (b : Nat) : List (Nat × Nat × Nat) :=
  ([0, 1].filter fun t => (m.imgTable b t).isSome).flatMap fun t =>
    (List.range 100).flatMap fun p => [(t, p, 0), (t, p, 1)]

/-- The named places and their rods. -/
def imgRefs (m : Mod) (b : Nat) : List (Nat × Nat × Nat × Nat) :=
  ((m.imgPlaces b).map fun (t, p, s) => (t, p, s, m.imgNamed b t p s)).filter fun x => x.2.2.2 ≠ 0x3FF

/-- The alternate of a rod of the image, 0x3FF none. -/
def imgAlt (m : Mod) (b r : Nat) : Nat := ((m.imgRod b r).map fun d => (RodHdr.of d).alt).getD 0x3FF

/-- The frame period of a rod of the image. -/
def imgMod (m : Mod) (b r : Nat) : Nat := ((m.imgRod b r).map fun d => (RodHdr.of d).frameMod).getD 1

/-- The beads of a rod of the image that are well-formed, with their positions. -/
def imgBeads (m : Mod) (b r : Nat) : List (Nat × Bead) :=
  match m.imgRod b r with
  | none => []
  | some d => (List.range (Nat.min 56 (RodHdr.of d).count)).filterMap fun i =>
    match decodeBead (wordAt d (16 + 4 * i)) with
    | .ok x => some (i, x)
    | .error _ => none

/-- The beads of a rod of the image that an execution of it runs (R32, R36): position, bead, whether every execution runs it. -/
def imgRuns (m : Mod) (b r : Nat) : List (Nat × Bead × Bool) :=
  match m.imgRod b r with
  | none => []
  | some d => (rodRuns d).filterMap fun x => match decodeBead x.2.1 with
    | .ok y => some (x.1, y, x.2.2)
    | .error _ => none

/-- The beads that run at a place naming rod `r`, those of the alternate included where the rod runs in some frames only: position, bead,
whether it runs there in every frame. -/
def imgPlace (m : Mod) (b r : Nat) : List (Nat × Bead × Bool) :=
  let l := m.imgRuns b r
  if m.imgMod b r = 1 then l
  else
    let k := if m.imgAlt b r = 0x3FF then [] else m.imgRuns b (m.imgAlt b r)
    (l.map fun x => (x.1, x.2.1, x.2.2 && k.contains x)) ++ k.filter fun x => !l.any fun y => y.1 = x.1 && y.2.1 = x.2.1

def laneOf (m : Mod) (e : Nat) : Lane :=
  ⟨m.byte e, m.byte (e + 1), m.byte (e + 3), m.byte (e + 2), m.byte (e + 4), m.byte (e + 5), m.load (e + 6) 2 % 1024⟩

def routeOf (m : Mod) (e : Nat) : Route :=
  ⟨m.load e 2, m.byte (e + 2), m.load (e + 4) 2, m.byte (e + 6), m.load (e + 8) 2, m.load (e + 12) 4⟩

/-- Check 5 (R457, R458). -/
def dirOk (m : Mod) (b : Nat) : Bool :=
  let n := m.load (b + 6) 2
  let l := m.sects b
  decide (1 ≤ n) && decide (n ≤ 64) && disjoint l &&
  (l.all fun s => decide (64 + 16 * n ≤ s.off) && decide (s.off + s.size ≤ m.imgLength b) &&
    (match entrySize s.type with
      | some k => decide (s.size % k = 0)
      | none => !s.flg.testBit 0)) &&
  ([0, 1].all fun t => decide (((m.entries b 0x11).filter fun e => m.byte e = t).length ≤ 1)) &&
  ([1, 2, 3].all fun ty => (m.entries b ty).all fun e => regPermitted ty (m.load e 4))

/-- Check 6: every rod passes R35 as it would when loaded under the GEN of the tables. -/
def rodsOk (m : Mod) (b : Nat) : Bool :=
  let refs := m.imgRefs b
  (m.entries b 0x10).all fun e =>
    let d := m.bytes e 256
    let r := m.load e 2 % 1024
    let pass := fun t alt => rodCheck (m.imgGen b t) r 0 alt d = 0
    let named := refs.filter fun x => x.2.2.2 = r
    let alts := refs.filter fun x => m.imgAlt b x.2.2.2 = r
    if named = [] ∧ alts = [] then pass 0 false || pass 1 false
    else named.all (fun x => pass x.1 false) && alts.all fun x => pass x.1 true

/-- Check 7: the slack ring; no table names a rod of it, in a slot or as an alternate (R39). -/
def ringOk (m : Mod) (b : Nat) : Bool :=
  let base := m.imgField b FRM.SLACK_BASE
  let len := m.imgField b FRM.SLACK_LEN
  let inside := fun r : Nat => decide (base ≤ r) && decide (r < base + len)
  let alt := fun r : Nat => m.imgAlt b r ≠ 0x3FF && inside (m.imgAlt b r)
  decide (base + len - 1 ≤ 1023) && (m.imgRefs b).all (fun x => !inside x.2.2.2 && !alt x.2.2.2) &&
    (m.entries b 0x10).all fun e => !inside (m.load e 2 % 1024)

/-- Check 9: the lanes (R72, R73). A tick table names no rod for slot SL, so a lane there is looked for in both slots of its position:
DEDUCED (log entry 27). (Log: DEDUCED 27) -/
def lanesOk (m : Mod) (b : Nat) : Bool :=
  (m.entries b 0x13).all fun e =>
    let l := m.laneOf e
    let named := fun s : Nat => let r := m.imgNamed b l.tab l.pos s
      decide (r ≠ 0x3FF) && (r = l.rod || m.imgAlt b r = l.rod)
    let d := m.imgBeads b l.rod
    (named 1 || l.slot = 2 && named 0) && (l.slot = 1 || l.slot = 2) &&
    (d.any fun x => x.1 = l.bead && (match x.2 with
      | .movE2c q _ => q = l.queue
      | _ => false)) &&
    d.any fun x => x.1 = l.bead + 1 && (match x.2 with
      | .canTxq n _ => n = l.ctrl
      | _ => false)

/-- Check 10: the input group of a DI_EVENT route is captured at one bead position in every tick (R74). -/
def inputsOk (m : Mod) (b : Nat) : Bool :=
  ((m.entries b 0x14).filter fun e => m.byte (e + 2) = 2).all fun e =>
    let g := (m.routeOf e).src
    [0, 1].all fun t => (m.imgTable b t).isNone ||
      [0, 1].any fun s => (List.range 56).any fun i => (List.range 100).all fun p =>
        (m.imgPlace b (m.imgNamed b t p s)).any fun x => x.1 = i && x.2.2 && (match x.2.1 with
          | .sampDi g' _ => g' = g
          | _ => false)

/-- The image's schedule has a header of identifier `id` on LIN port `p`, at least once every `ms` frames. -/
def headerIn (m : Mod) (b p id ms : Nat) : Bool :=
  let has := fun r : Nat => (m.imgRuns b r).any fun y => y.2.1 = .linHdr p id
  (m.imgRefs b).any fun x =>
    let n := m.imgMod b x.2.2.2
    let alt := m.imgAlt b x.2.2.2
    (decide (n ≤ ms) && has x.2.2.2) || (decide (2 ≤ ms) && n != 1 && alt != 0x3FF && has alt)

/-- Check 11: LIN (R296, R344, R359). -/
def linOk (m : Mod) (b : Nat) : Bool :=
  (forN 8 (fun ok p => ok && ((List.range 64).all fun id =>
    m.imgField b (LIN.DIR p id) = 3 ||
      decide (14 * (34 + 10 * (m.imgField b (LIN.FT_LEN p id) + 1)) * 1000000000 + 10000 * m.imgField b (LIN.BAUD p) ≤
        m.imgField b (LIN.SLOT_T p id) * 99950 * m.imgField b (LIN.BAUD p)))) true) &&
  ((List.range 64).all fun w => m.imgField b (VNK.WIN_EN w) = 0 || m.imgField b (VNK.WIN_TYPE w) ≠ 2 ||
    (m.headerIn b (m.imgField b (VNK.WIN_SEL w) % 8) 0x3C 1000 && m.headerIn b (m.imgField b (VNK.WIN_SEL w) % 8) 0x3D 1000)) &&
  (List.range 8).all fun p => m.imgField b (NM.NM_EN (12 + p)) = 0 || m.headerIn b p 0x3C (m.imgField b (NM.PBS_T (12 + p)))

/-- The places of engine `n`'s NM_STEP in a table: the slot, and whether it runs there in every frame. -/
def nmSteps (m : Mod) (b n t : Nat) : List (Nat × Bool) :=
  ((m.imgRefs b).filter fun x => x.1 = t).flatMap fun x =>
    ((m.imgPlace b x.2.2.2).filter fun y => y.2.1 = .nmStep n).map fun y => (x.2.2.1, y.2.2)

/-- Check 12: NM_STEP placement (R350) and NM transmit objects (R356). -/
def nmOk (m : Mod) (b : Nat) : Bool :=
  (List.range 22).all fun n => m.imgField b (NM.NM_EN n) = 0 ||
    (([0, 1].all fun t => (m.imgTable b t).isNone || m.nmSteps b n t = [(1, true)]) &&
     (decide (12 ≤ n) ||
      (let o := m.imgField b (NM.TX_OBJ n)
       (m.entries b 0x10).all fun e => (m.imgBeads b (m.load e 2 % 1024)).all fun y => match y.2 with
         | .canTxq _ o' => o' ≠ o
         | .movE2c _ o' => o' ≠ o
         | .movC2e _ o' => o' ≠ o
         | _ => true)))

/-- The number of the first check of Table 16-5, of 1 to `last`, that the image at `b` fails, 0 where it passes. `sig`: SIG verifies;
`ver`: FW_VER of the firmware. -/
def cfgCheck (m : Mod) (b : Nat) (sig : Bool) (ver last : Nat) : Nat :=
  let len := m.imgLength b
  let key := m.byte (b + 20)
  let bad := fun n (ok : Bool) => decide (n ≤ last) && !ok
  if m.load b 4 ≠ 0x46435A4F ∨ m.load (b + 4) 2 ≠ 1 ∨ len % 4 ≠ 0 ∨ 524288 < len + 68 then 1
  else if crc32c (m.bytes b len) ≠ m.load (b + len) 4 then 2
  else if 3 < key ∨ ¬ m.keyUsable key ∨ ¬ sig then 3
  else if ver < m.load (b + 16) 4 then 4
  else if bad 5 (m.dirOk b) then 5
  else if bad 6 (m.rodsOk b) then 6
  else if bad 7 (m.ringOk b) then 7
  else if bad 8 ((m.entries b 0x12).all fun e => (List.range 100).all fun p => decide (m.load (e + 2 * p) 2 ≤ 2000)) then 8
  else if bad 9 (m.lanesOk b) then 9
  else if bad 10 (m.inputsOk b) then 10
  else if bad 11 (m.linOk b) then 11
  else if bad 12 (m.nmOk b) then 12
  else if bad 13 (!((m.byte (b + 21)).testBit 0 && m.on SEC.SPLIT_DIS)) then 13
  else 0

/-! ### Identity (R453) -/

/-- CFG_VER of the loaded image, 0 on factory defaults. -/
def cfgVer (m : Mod) : Nat := (m.boot.cfgSlot.map fun s => m.load (slotBase s + 12) 4).getD 0

/-- Words 0 to 30 of the identity record (Table 16-2). (Log: DEDUCED 102) -/
def idnBody (m : Mod) (i : Nat) : Nat :=
  let f := m.otpWord 0x100
  let flag := fun (b : Nat) (f : Fld) => m.rd f * 2 ^ b
  if i = 0 then 0x36395A4F else if i = 1 then 0x412D3834 else if i = 2 then 0x00303051 else if i = 3 then 0x1B0
  else if i < 8 then m.load (0x10900000 + 4 * (i - 4)) 4
  else if i < 20 then m.rd (IDN.ID i)
  else if i = 20 then m.fwVer m.boot.bank else if i = 21 then m.cfgVer
  else if i = 22 then forN 3 (fun v q => Nat.min v (m.rd (HQ.UCODE_VER (q + 1)))) (m.rd (HQ.UCODE_VER 0))
  else if i = 23 then
    flag 0 BOOT.ACT_BANK + flag 1 BOOT.ACT_CFG + flag 2 SYS.CFG_DEFAULT + flag 3 BOOT.RESCUE + flag 4 SEC.SPLIT_DIS +
      flag 5 SEC.DEBUG_LOCK + m.arbCount * 2 ^ 8 + fld f 3 0 * 2 ^ 16 + fld f 11 8 * 2 ^ 20
  else if i = 24 then 0x1964854B else 0

/-- Word `i` of the identity record. (Log: DEDUCED 102) -/
def idnWord (m : Mod) (i : Nat) : Nat :=
  if i = 31 then crc32c ((List.range 31).flatMap fun k => leBytes 4 (m.idnBody k)) else m.idnBody i

end Mod
end Sys2Proof.Machine
end

