-- ==== Sys2Proof/Machine/Pair.lean ====
section
/-! DEFINITION. The Boxwood pair (chapter 14): the cores' privileged state, the tick's work, agreement and rollback, the checker,
the untrusted pair and the watchdog. -/
namespace Sys2Proof.Machine
open Reg

/-! ### Core state (R394 to R396) -/

/-- Register `i`; x0 reads 0. -/
def CoreX.reg (c : CoreX) (i : Nat) : Nat := if i = 0 then 0 else SMap.get 0 c.x i

/-- Write register `i`; x0 discards the write. -/
def CoreX.setReg (c : CoreX) (i v : Nat) : CoreX := if i = 0 then c else { c with x := SMap.set 0 c.x i (v % 2 ^ 32) }

/-- A return from a trap: MIE from MPIE, the mode from MPP; a return to User mode clears MPRV. (Log: PRESUMED 60) -/
def CoreX.mret (c : CoreX) : CoreX :=
  let pie := fld c.mstatus 7 7
  let user := decide (fld c.mstatus 12 11 = 0)
  { c with pc := c.mepc, user := user,
           mstatus := c.mstatus - fld c.mstatus 3 3 * 8 - pie * 128 - fld c.mstatus 12 11 * 2048 + pie * 8 + 128 -
             (if user then fld c.mstatus 17 17 * 2 ^ 17 else 0) }

/-- `n` cycles pass: mslice counts down while it is not 0; its step to 0 is SLICE_BUDGET_EXCEPTION (R396). -/
def CoreX.spend (c : CoreX) (n : Nat) : CoreX :=
  { c with mcycle := (c.mcycle + n) % 2 ^ 64, mtickcyc := c.mtickcyc + n,
           mslice := if c.mslice = 0 then 0 else Nat.max 1 (c.mslice - n) }

/-- The trap that a core has taken before a command's instruction (R394, R421, R485). (Log: DESIGN CHOICE 62, DESIGN CHOICE 63) -/
def CoreX.early (c : CoreX) : Option EarlyTrap → CoreX
  | none => c
  | some (.illegal pc) => { c with pc := pc.toNat }.trap 2 (Config.trapValue 2 pc.toNat)
  | some (.fetch pc a ue) => { c with pc := pc.toNat }.trap 1 (if ue then a.toNat else Config.trapValue 1 a.toNat)

/-- What a core has run before a command's instruction. (Log: DESIGN CHOICE 62) -/
def CoreX.run (c : CoreX) (r : Ran) : CoreX :=
  let c := c.early r.trap
  let c := (r.regs.foldl (fun c p => c.setReg p.1 p.2.toNat) c).spend r.cycles.toNat
  let c := if r.mret then c.mret else c
  { c with minstret := (c.minstret + r.instrs.toNat) % 2 ^ 64, pc := r.pc.toNat }

/-- The core goes on after the instruction. -/
def CoreX.after (c : CoreX) (r : Ran) : CoreX := { c with pc := (r.pc.toNat + if r.short then 2 else 4) % 2 ^ 32 }

/-! ### CSRs (Table 14-1, Table 14-2) -/

/-- Four PMP configuration bytes as a word. -/
def CoreX.pmpWord (c : CoreX) (k : Nat) : Nat :=
  forN 4 (fun a i => a + SMap.get 0 c.pmpcfg (4 * k + i) * 2 ^ (8 * i)) 0

/-- PMP region `i` is locked. -/
def CoreX.pmpLocked (c : CoreX) (i : Nat) : Bool := (SMap.get 0 c.pmpcfg i).testBit 7

/-- A stored PMP configuration byte: bits 6 and 5 read 0, and a write permission needs the read permission. (Log: PRESUMED 60) -/
def pmpLegal (b : Nat) : Nat :=
  let b := b &&& 0x9F
  if b.testBit 1 ∧ ¬ b.testBit 0 then b - 2 else b

/-- Write four PMP configuration bytes; a locked region keeps its byte. -/
def CoreX.setPmpWord (c : CoreX) (k v : Nat) : CoreX :=
  forN 4 (fun c i => if c.pmpLocked (4 * k + i) then c
    else { c with pmpcfg := SMap.set 0 c.pmpcfg (4 * k + i) (pmpLegal (v / 2 ^ (8 * i) % 256)) }) c

/-- Write a PMP address; the region's lock, or a locked TOR region above it, keeps it. -/
def CoreX.setPmpAddr (c : CoreX) (i v : Nat) : CoreX :=
  if c.pmpLocked i ∨ (c.pmpLocked (i + 1) ∧ fld (SMap.get 0 c.pmpcfg (i + 1)) 4 3 = 1) then c
  else { c with pmpaddr := SMap.set 0 c.pmpaddr i v }

/-- The value of a CSR; `none` where it is not implemented. `hart`: mhartid; `time`: TICK of the work in progress; `irq`: the tick
interrupt is pending. (Log: PRESUMED 60) -/
def CoreX.csr (c : CoreX) (hart time : Nat) (irq : Bool) (a : Nat) : Option Nat :=
  if a = 0x300 then some c.mstatus else if a = 0x301 then some 0x40101104 else if a = 0x304 then some c.mie
  else if a = 0x305 then some c.mtvec else if a = 0x340 then some c.mscratch else if a = 0x341 then some c.mepc
  else if a = 0x342 then some c.mcause else if a = 0x343 then some c.mtval else if a = 0x344 then some (if irq then 0x800 else 0)
  else if 0x3A0 ≤ a ∧ a ≤ 0x3A3 then some (c.pmpWord (a - 0x3A0))
  else if 0x3B0 ≤ a ∧ a ≤ 0x3BF then some (SMap.get 0 c.pmpaddr (a - 0x3B0))
  else if a = 0x7C0 then some c.mslice else if a = 0xFC0 then some c.mtickcyc
  else if a = 0xB00 ∨ a = 0xC00 then some (c.mcycle % 2 ^ 32) else if a = 0xB80 ∨ a = 0xC80 then some (c.mcycle / 2 ^ 32)
  else if a = 0xB02 ∨ a = 0xC02 then some (c.minstret % 2 ^ 32) else if a = 0xB82 ∨ a = 0xC82 then some (c.minstret / 2 ^ 32)
  else if a = 0xC01 then some (time % 2 ^ 32) else if a = 0xC81 then some (time / 2 ^ 32)
  else if (0xB03 ≤ a ∧ a ≤ 0xB1F) ∨ (0xB83 ≤ a ∧ a ≤ 0xB9F) then some 0
  else if a = 0xF11 ∨ a = 0xF12 then some 0 else if a = 0xF13 then some 0xB0 else if a = 0xF14 then some hart else none

/-- The stored mstatus: MIE, MPIE, MPP (Machine or User), MPRV. (Log: PRESUMED 60) -/
def legalStatus (v : Nat) : Nat :=
  fld v 3 3 * 8 + fld v 7 7 * 128 + (if fld v 12 11 = 3 then 0x1800 else 0) + fld v 17 17 * 2 ^ 17

/-- Write a CSR. -/
def CoreX.setCsr (c : CoreX) (a v : Nat) : CoreX :=
  let lo := fun w : Nat => w / 2 ^ 32 * 2 ^ 32 + v
  let hi := fun w : Nat => w % 2 ^ 32 + v * 2 ^ 32
  if a = 0x300 then { c with mstatus := legalStatus v } else if a = 0x304 then { c with mie := v &&& 0x800 }
  else if a = 0x305 then { c with mtvec := v - v % 4 } else if a = 0x340 then { c with mscratch := v }
  else if a = 0x341 then { c with mepc := v - v % 2 } else if a = 0x342 then { c with mcause := v }
  else if a = 0x343 then { c with mtval := v } else if a = 0x7C0 then { c with mslice := v % 2048 }
  else if 0x3A0 ≤ a ∧ a ≤ 0x3A3 then c.setPmpWord (a - 0x3A0) v
  else if 0x3B0 ≤ a ∧ a ≤ 0x3BF then c.setPmpAddr (a - 0x3B0) v
  else if a = 0xB00 then { c with mcycle := lo c.mcycle } else if a = 0xB80 then { c with mcycle := hi c.mcycle }
  else if a = 0xB02 then { c with minstret := lo c.minstret } else if a = 0xB82 then { c with minstret := hi c.minstret }
  else c

/-! ### The tick signature (R402) -/

/-- One bit of the CRC-64, most significant bit first. -/
def crc64Bit (c : BitVec 64) : BitVec 64 := if c.getMsbD 0 then (c <<< 1) ^^^ 0x42F0E1EBA9EA3693#64 else c <<< 1

/-- One byte of the CRC-64. -/
def crc64Byte (c : BitVec 64) (b : Nat) : BitVec 64 :=
  crc64Bit (crc64Bit (crc64Bit (crc64Bit (crc64Bit (crc64Bit (crc64Bit (crc64Bit (c ^^^ (BitVec.ofNat 64 b <<< 56)))))))))

/-- A 32-bit word, least significant byte first. -/
def crc64Word (c : BitVec 64) (w : Nat) : BitVec 64 :=
  [w % 256, w / 256 % 256, w / 65536 % 256, w / 16777216 % 256].foldl crc64Byte c

/-- The words that the signature covers, in order. -/
def CoreX.sigWords (c : CoreX) : List Nat :=
  (List.range 31).map (fun i => c.reg (i + 1)) ++
  [c.pc, c.mstatus, c.mtvec, c.mie, c.mscratch, c.mepc, c.mcause, c.mtval] ++
  (List.range 4).map c.pmpWord ++ (List.range 16).map (fun i => SMap.get 0 c.pmpaddr i) ++
  [c.minstret % 2 ^ 32, c.minstret / 2 ^ 32]

/-- The tick signature of a core. -/
def CoreX.signature (c : CoreX) : Nat := (c.sigWords.foldl crc64Word 0#64).toNat

namespace Mod

/-! ### Running a core -/

/-- The pair is in split mode (R415). -/
def split (m : Mod) : Bool := m.on PAIR.MODE

/-- The core that a command names: in lockstep there is one. -/
def pick (m : Mod) (holly : Bool) : Bool := m.split && holly

/-- In lockstep the trailing core follows the leading core (R400). -/
def follow (m : Mod) : Mod :=
  if m.split then m else m.onPair fun x => { x with w1 := { x.w1 with core := x.w0.core } }

/-- The pair is clocked and may execute: not in Doze, not asleep, halted, or untrusted. -/
def pairUp (m : Mod) : Bool := m.pstate = 0 && m.awake 30 && !m.pair.debug && !m.pair.untrusted

/-- A core executes an instruction of its own now. (Log: DEDUCED 64) -/
def coreRuns (m : Mod) (holly : Bool) : Bool :=
  let w := m.worker holly
  m.pairUp && decide (w.phase = .idle ∨ w.phase = .work) && w.stall.isNone && !m.on PAIR.CHK_BUSY

/-- What the module records of a trap that a core has taken before a command's instruction: a fetch of an address that is not there
(R485), or one that finds an uncorrectable error, after which the runtime ends the slice without counting it (Table 15-2). -/
def early (m : Mod) (h : Bool) (r : Ran) : Mod :=
  match r.trap with
  | some (.fetch _ a ue) =>
    if region a.toNat = .none then m.unmapped a.toNat 0
    else match ue, eccMem a.toNat with
      | true, some k => (m.eccHit ⟨k, BitVec.ofNat 32 (a.toNat - a.toNat % 4), true⟩).sliceDrop h false
      | _, _ => m
  | _ => m

/-- A command's instruction: what ran before it, then `f`; both cores in lockstep. (Log: DEDUCED 64) -/
def instr (m : Mod) (holly : Bool) (r : Ran) (f : Mod → Bool → Mod) : Mod :=
  let h := m.pick holly
  if m.coreRuns h then (f ((m.early h r).onWorker h fun w => { w with core := w.core.run r }) h).follow else m

/-- The instruction completes. -/
def retire (m : Mod) (h : Bool) (r : Ran) : Mod := m.onWorker h fun w => { w with core := w.core.after r }

/-- An illegal instruction. -/
def illegal (m : Mod) (h : Bool) (r : Ran) : Mod := m.trapCore h 2 (Config.trapValue 2 r.pc.toNat)

/-- The TICK that `time` reads (R395). -/
def workTick (m : Mod) (h : Bool) : Nat := if (m.worker h).phase = .idle then m.tick else (m.worker h).tick

/-- A CSR instruction (R394, R396): `src`, the value written or the mask; `none` where nothing is written. -/
def csrAccess (m : Mod) (h : Bool) (a : Nat) (op : CsrOp) (src : Option Nat) (rd : Nat) (r : Ran) : Mod :=
  let w := m.worker h
  let hart := if h then 1 else 0
  if (w.core.user ∧ fld a 9 8 ≠ 0) ∨ (fld a 11 10 = 3 ∧ src.isSome) then m.illegal h r
  else match w.core.csr hart (m.workTick h) w.irq a with
    | none => m.illegal h r
    | some old =>
      let c := match src with
        | none => w.core
        | some v => w.core.setCsr a (match op with
          | .rw => v
          | .rs => old ||| v
          | .rc => old &&& (2 ^ 32 - 1 - v))
      (m.onWorker h fun w => { w with core := c.setReg rd old }).retire h r

/-! ### The tick's work (R397, R398, R401) -/

/-- The pair takes the tick interrupt: the checkpoint, the trap entry, the tick's slices (R397, R405). (Log: DEDUCED 65) -/
def tickInterrupt (m : Mod) (h : Bool) : Mod :=
  let w := m.worker h
  if ¬ (m.pairUp ∧ w.irq ∧ (w.phase = .idle ∨ w.phase = .agreed) ∧ ¬ m.pair.reagreed ∧ ¬ m.on PAIR.CHK_BUSY) then m
  else
    let mine := m.frm.dispNow.filter fun s => !m.split || decide (512 ≤ s.task) = h
    let m := m.onFrm fun x => { x with dispNow := x.dispNow.filter fun s => m.split && decide (512 ≤ s.task) != h }
    let m := m.onPair fun x => { x with check := w.core }
    (m.onWorker h fun w => { w with core := { w.core.trap 0x8000000B 0 with mtickcyc := 0 }, phase := .work, tick := m.tick,
                                    irq := false, slices := mine, taken := [], redo := 0, cur := none, stall := none }).follow

/-- ECALL (R394, R397): in User mode the running slice ends, complete. (Log: DEDUCED 65) -/
def ecall (m : Mod) (h : Bool) : Mod :=
  let w := m.worker h
  let m := m.trapCore h (if w.core.user then 8 else 11) 0
  match w.core.user, w.cur with
  | true, some c => m.onWorker h fun w => { w with cur := none, kept := if c.prm = 0 then w.kept else w.kept ++ [c.prm] }
  | _, _ => m

/-- The end of tick: the signature is formed (R397, R402). -/
def endTick (m : Mod) (h : Bool) : Mod :=
  let m := m.onWorker h fun w => { w with phase := .ended, cur := none }
  if m.split then m else m.onPair fun x => { x with sig := x.w0.core.signature }

/-- WFI (R394, R397). (Log: DEDUCED 65) -/
def wfi (m : Mod) (h : Bool) (r : Ran) : Mod :=
  let w := m.worker h
  if w.core.user then m.illegal h r
  else
    let m := m.retire h r
    if w.phase = .work then m.endTick h else m

/-- The slice-budget exception (R396, R399). -/
def sliceBudget (m : Mod) (h : Bool) : Mod :=
  let w := m.worker h
  if m.pairUp ∧ w.phase = .work ∧ w.core.mslice ≠ 0 then
    ((m.onWorker h fun w => { w with core := { w.core with mslice := 0 }, stall := none }).sliceCut h).follow
  else m

/-- The tick meter reaches 2040 cycles (R398). -/
def meterLimit (m : Mod) (h : Bool) : Mod :=
  let w := m.worker h
  if m.pairUp ∧ w.phase = .work then
    let m := m.onWorker h fun w => { w with core := { w.core with mtickcyc := 2040 }, stall := none }
    let m := if w.cur.isSome then m.sliceCut h else m
    ((m.onWorker h fun w => { w with slices := [] }).endTick h).follow
  else m

/-- A register that keeps the largest value seen since its previous read. -/
def peak (m : Mod) (f : Fld) (v : Nat) : Mod := if m.rd f < v then m.wr f v else m

/-- The tick is agreed (R401, R404, R409): its entries await the boundary, or, re-executed, the release of R59. -/
def tickAgreed (m : Mod) : Mod :=
  let w := m.pair.w0
  if m.split ∨ ¬ m.pairUp ∨ w.phase ≠ .ended then m
  else
    let m := ((m.peak PAIR.UNDO_MAX m.pair.undo.length).peak PAIR.CQ_MAX w.cq.length).peak PAIR.REPLAY_MAX m.pair.replay.length
    let re := m.pair.reexec
    let m := if re = false ∧ m.on PAIR.WINDOW ∧ m.pair.winTick ≤ w.tick then m.wr PAIR.WINDOW 0 else m
    m.onPair fun x =>
      { x with w0 := { x.w0 with phase := .agreed, ready := x.w0.cq, readyKept := x.w0.kept, cq := [], kept := [], mark := 0 },
               undo := [], replay := [], rpos := 0, reexec := false, reagreed := re }

/-! ### Orders of the Frame (R58, R160) -/

/-- The Hold order. -/
def holdOrder (m : Mod) : Mod := ((forN 4 (fun m q => m.quadHold q) m).blockHold ledW).blockHold fioW

/-- The Hold release order. -/
def holdRelease (m : Mod) : Mod := ((forN 4 (fun m q => m.quadHoldEnd q) m).blockHoldEnd ledW).blockHoldEnd fioW

/-- The Safe order: staged effects are discarded, the heartbeat stops (R58). -/
def safeOrder (m : Mod) : Mod :=
  let m := ((forN 4 (fun m q => m.quadSafeOrder q) m).blockSafeOrder ledW).blockSafeOrder fioW
  (m.wr FRM.SAFE_ORDER 1).onFrm fun x => { x with staged := [], done := [], lost := [], image := none, held := none, withhold := true }

/-! ### Faults of the pair (R405, R409 to R412) -/

/-- LAST_FAULT. -/
def lastFault (m : Mod) (cause field : Nat) : Mod :=
  ((m.wr PAIR.FAULT_CAUSE cause).wr PAIR.FAULT_FIELD field).wr PAIR.FAULT_TICK16 m.tick

/-- The pair declares itself untrusted (R412). (Log: DEDUCED 68) -/
def distrust (m : Mod) (cause : Nat) : Mod :=
  if m.pair.untrusted then m
  else
    let m := ((m.safeOrder.lastFault cause 0).ev 0x09 crit 0x0E02 [sj cause]).wr PAIR.CHK_BUSY 0
    { m with pair := { m.pair with untrusted := true }, boot := { m.boot with resetDue := 2 } }

/-- The rollback limit of the superframe is reached (R409). -/
def rbLimit (m : Mod) : Bool := m.on PAIR.RB_LIM && decide (m.rd PAIR.RB_LIM ≤ m.rd PAIR.SF_RB)

/-- A rollback of the tick in work begins (R405): reported to the Frame, the restore under way; the locks that the pair took end (R274). -/
def rollback (m : Mod) : Mod :=
  let n := m.pair.w0.tick
  let m := m.rollbackLocks m.pair.w0.core.mtickcyc
  let m := (((m.wr PAIR.WINDOW 1).inc PAIR.ROLLBACK_CNT).inc PAIR.SF_RB).wr FRM.ROLLBACK 1
  (m.inc FRM.ROLLBACK_CNT).onPair fun x =>
    { x with w0 := { x.w0 with phase := .restore, stall := none }, mism := some n, winTick := n + 1 }

/-- The address has a read side effect (R342): an RC field, or a removing read. -/
def sideEffect (addr : Nat) : Bool :=
  decide (0x40000000 ≤ addr) && decide (addr < 0x40040000) &&
  (let pg := (addr - 0x40000000) / 0x1000
   let off := addr % 0x1000 - addr % 4
   (fieldsAt pg off).any fun f => f.acc = .rc)

/-- The entries of the transactions issued in the cycle of the mismatch and after it are not agreed: they leave the log (R406). -/
def unagreed (m : Mod) (late : Nat) : Mod :=
  let k := m.pair.replay.length - late
  let bad := (m.pair.replay.drop k).filter fun e => sideEffect e.addr
  let m := m.onPair fun x => { x with replay := x.replay.take k }
  match bad with
  | [] => m
  | e :: _ => (m.wr PAIR.UNAGREED_ADDR e.addr).ev 0x09 warn 0x0E04 [sj32 e.addr, vl bad.length]

/-- A mismatch (R405, R406, R409, R410): the field, the leading core's address, how many of the latest replay entries are not
agreed. -/
def mismatch (m : Mod) (field addr late : Nat) : Mod :=
  let p := m.pair.w0.phase
  if m.split ∨ ¬ m.pairUp ∨ m.on PAIR.CHK_BUSY ∨ ¬ (p = .work ∨ p = .ended ∨ p = .restore) then m
  else
    let m := m.unagreed late
    if m.on PAIR.WINDOW then m.distrust 4
    else if m.rbLimit then m.distrust 6
    else
      let cls := if field = 3 then 2 else 1
      let m := (m.lastFault cls field).wr PAIR.LAST_ADDR addr
      let m := if field = 3 then m.inc PAIR.STATE_ONLY_CNT else m
      (m.ev 0x09 warn 0x0E01 [sj field, sj cls]).rollback

/-- The restore is complete, and the re-execution begins from tick entry (R405). -/
def restoreDone (m : Mod) : Mod :=
  if m.split ∨ ¬ m.pairUp ∨ m.on PAIR.CHK_BUSY ∨ m.pair.w0.phase ≠ .restore then m
  else
    let m := m.pair.undo.foldl (fun m e => m.store e.1 4 e.2) m
    (m.onPair fun x =>
      { x with undo := [], rpos := 0, reexec := true,
               w0 := { x.w0 with core := { x.check.trap 0x8000000B 0 with mtickcyc := 0 }, phase := .work, cq := [], kept := [],
                                 mark := 0, cur := none, redo := 0 } }).follow

/-- A checker alarm (R411): 1 rails, 2 parity. (Log: DEDUCED 68) -/
def checkerAlarm (m : Mod) (src : Nat) : Mod :=
  let p := m.pair.w0.phase
  if m.split ∨ ¬ m.pairUp ∨ m.on PAIR.CHK_BUSY then m
  else if m.on PAIR.WINDOW then m.distrust 4
  else
    let busy := decide (p = .work ∨ p = .ended)
    (m.wr PAIR.CHK_BUSY 1).onPair fun x =>
      { x with alarmSrc := src, alarmWork := busy, w0 := { x.w0 with phase := if busy then .alarm else x.w0.phase } }

/-- The result of an injection test (R413): the field and pattern of the first failure, if any. -/
def injResult (m : Mod) (fail : Option (Nat × Nat)) : Mod :=
  let m := m.inc PAIR.INJ_RUNS
  match fail with
  | none => m.wr PAIR.INJ_RESULT 1
  | some (f, p) =>
    (((m.wr PAIR.INJ_RESULT 2).wr PAIR.INJ_FIELD f).wr PAIR.INJ_PATTERN p).ev 0x09 err 0x0E0A [sj f, vl p]

/-- The injection test of a checker alarm completes (Table 14-6). -/
def injectionDone (m : Mod) (fail : Option (Nat × Nat)) : Mod :=
  if ¬ m.on PAIR.CHK_BUSY then m
  else
    let m := (m.injResult fail).wr PAIR.CHK_BUSY 0
    if fail.isSome then m.distrust 5
    else
      let m := ((m.inc PAIR.ALARM_CNT).ev 0x09 warn 0x0E03 [sj m.pair.alarmSrc]).lastFault 3 0
      if ¬ m.pair.alarmWork then m
      else if m.rbLimit then m.distrust 6 else m.rollback

/-! ### Watchdog (R414) and the debugger (R463) -/

/-- The watchdog expires. (Log: DEDUCED 69) -/
def watchdog (m : Mod) : Mod :=
  let p := m.rd PAIR.WDT_PERIOD
  if p = 0 ∨ m.pair.wdt < p then m
  else
    let m := ((m.holdOrder.lastFault 8 0).ev 0x09 err 0x0E07 [vl16 p]).onPair fun x => { x with wdt := 0 }
    { m with boot := { m.boot with resetDue := 1 } }

/-- A write of WDT_KICK takes effect. -/
def kick (m : Mod) (key : Nat) : Mod := if key = 0xA5 then m.onPair fun x => { x with wdt := 0 } else m

/-- The debug module is reachable: not locked, or opened by DBG_AUTH. -/
def debugOpen (m : Mod) : Bool := !m.on SEC.DEBUG_LOCK || m.on SEC.DEBUG_OPEN

end Mod

/-! ### The commands -/

/-- TICK_INTERRUPT (R397). -/
def execTickInterrupt (holly : Bool) (s : State) : Out := s.next fun m => m.tickInterrupt (m.pick holly)

/-- ECALL (R394, R397). -/
def execEcall (holly : Bool) (r : Ran) (s : State) : Out := s.next fun m => m.instr holly r fun m h => m.ecall h

/-- EBREAK (R394). -/
def execEbreak (holly : Bool) (r : Ran) (s : State) : Out :=
  s.next fun m => m.instr holly r fun m h => m.trapCore h 3 (Config.trapValue 3 r.pc.toNat)

/-- WFI (R394, R397). -/
def execWfi (holly : Bool) (r : Ran) (s : State) : Out := s.next fun m => m.instr holly r fun m h => m.wfi h r

/-- FENCE (R394): every access is performed in program order. -/
def execFence (holly : Bool) (r : Ran) (s : State) : Out := s.next fun m => m.instr holly r fun m h => m.retire h r

/-- FENCE_I (R394): flushes the instruction buffer in 8 cycles. -/
def execFenceI (holly : Bool) (r : Ran) (s : State) : Out :=
  s.next fun m => m.instr holly r fun m h => (m.onWorker h fun w => { w with core := w.core.spend 7 }).retire h r

/-- CSR_ACCESS (R394, R396). -/
def execCsrAccess (holly : Bool) (a : BitVec 12) (op : CsrOp) (src : Option Word) (rd : Fin 32) (r : Ran) (s : State) : Out :=
  s.next fun m => m.instr holly r fun m h => m.csrAccess h a.toNat op (src.map (·.toNat)) rd r

/-- SLICE_BUDGET_EXCEPTION (R396, R399). -/
def execSliceBudgetException (holly : Bool) (s : State) : Out := s.next fun m => m.sliceBudget (m.pick holly)

/-- TICK_METER_LIMIT (R398). -/
def execTickMeterLimit (holly : Bool) (s : State) : Out := s.next fun m => m.meterLimit (m.pick holly)

/-- TICK_AGREED (R401). -/
def execTickAgreed (s : State) : Out := s.next Mod.tickAgreed

/-- MISMATCH (R405). -/
def execMismatch (field : Fin 4) (addr : Word) (late : Fin 4) (s : State) : Out := s.next fun m => m.mismatch field addr.toNat late

/-- RESTORE_DONE (R405). -/
def execRestoreDone (s : State) : Out := s.next Mod.restoreDone

/-- CHECKER_ALARM (R411). -/
def execCheckerAlarm (parity : Bool) (s : State) : Out := s.next fun m => m.checkerAlarm (if parity then 2 else 1)

/-- INJECTION_TEST_DONE (R413): the field and the pattern of the first failure. -/
def execInjectionTestDone (fail : Option (Fin 4 × Fin 65)) (s : State) : Out :=
  s.next fun m => m.injectionDone (fail.map fun p => (p.1.val, p.2.val))

/-- WATCHDOG_EXPIRE (R414). -/
def execWatchdogExpire (s : State) : Out := s.next Mod.watchdog

/-- WDT_KICK (R414): the pair's kick leaves at the tick boundary. -/
def execWdtKick (key : Byte) (w : Writer) (s : State) : Out :=
  s.next fun m => match w with
    | .pair => m.pairCommit (Mod.regAddr 0x09 0x134) key.toNat
    | .vinko => m.kick key.toNat

/-- DEBUG_HALT (R463): the pair halts where it stands. -/
def execDebugHalt (s : State) : Out :=
  s.next fun m => if m.debugOpen then m.onPair fun x => { x with debug := true } else m

/-- DEBUG_RESUME (R56, R463). -/
def execDebugResume (s : State) : Out :=
  s.next fun m => if m.debugOpen then m.onPair fun x => { x with debug := false } else m

end Sys2Proof.Machine
end

