-- ==== Sys2Proof/Machine/Backbone.lean ====
section
/-! DEFINITION. The backbone (chapter 11) but for Vinko: links, MACsec, frame recovery, vehicle time, and the unpacking of ACF
frames into requests. -/
namespace Sys2Proof.Machine
open Reg

namespace Mod

/-- The link of a port goes down (R311). -/
def linkDown (m : Mod) (n : Nat) : Mod := ((m.wr (BB.LINK n) 0).inc (BB.LINK_DOWN_CNT n)).ev (0x3A + n) warn 0x0B01 [sj n]

/-- The PHY of a port is powered: not in Sleep, or on its way out of it (R313). -/
def phyPowered (m : Mod) (n : Nat) : Bool := m.rd (TRX.STATE (0x3A + n)) ≠ 0 || (m.trx n).target = some 3

/-! ### MACsec (R314, R315) -/

/-- An agreed SAK is installed at the frame boundary: its packet numbers start afresh (R315). (Log: PRESUMED 104) -/
def sakTake (m : Mod) (n : Nat) : Mod :=
  match (m.bb n).saNext with
  | none => m
  | some k => (m.wr (BB.SAK_OK n) 1).onBb n fun x => { x with sa := ⟨k, 0, 0⟩, saNext := none }

/-- A frame is dropped by MACsec: the first of a superframe raises an event, whose count the superframe's end completes. -/
def secDrop (m : Mod) (n : Nat) : Mod :=
  let first := (m.bb n).dropSf = 0
  let m := m.onBb n fun x => { x with dropSf := x.dropSf + 1 }
  if first then m.ev (0x3A + n) warn 0x0B03 [sj n, vl 0] else m

/-- Replace the detail of the newest waiting or stored record of a page and code. -/
def amend (m : Mod) (pg code detail : Nat) : Mod :=
  let hit := fun (r : EvtRec) => r.page = pg && r.code = code
  if m.evt.intake.any fun e => hit e.body then
    { m with evt := { m.evt with intake := m.evt.intake.map fun e => if hit e.body then { e with body := { e.body with detail := detail } } else e } }
  else
    let newer := fun (a b : EvtRec) => b.tick < a.tick || (b.tick = a.tick && b.seq < a.seq)
    match m.evt.log.foldl (fun (b : Option (Nat × EvtRec)) e =>
      if hit e.2 && b.all (fun x => newer e.2 x.2) then some e else b) none with
    | some e => { m with evt := { m.evt with log := SMap.put m.evt.log e.1 { e.2 with detail := detail } } }
    | none => m

/-- The end of a superframe adds the drop count to the event (R314). -/
def secReport (m : Mod) (n : Nat) : Mod :=
  let k := (m.bb n).dropSf
  if k = 0 then m else (m.amend (0x3A + n) 0x0B03 (n + Nat.min k 255 * 256)).onBb n fun x => { x with dropSf := 0 }

/-- The MACsec checks of a received frame: whether it passes on. (Log: PRESUMED 51) -/
def secCheck (m : Mod) (n : Nat) (tag : Option SecTag) (etype : Nat) : Mod × Bool :=
  if ¬ m.on (BB.SEC_EN n) then (m, true)
  else match tag with
    | some t =>
      let top := (m.bb n).sa.rxPn
      if ¬ m.on (BB.SAK_OK n) then (m.secDrop n, false)
      else if ¬ t.verifies then ((m.inc (BB.ICV_FAIL_CNT n)).secDrop n, false)
      else if t.pn.toNat + m.rd (BB.REPLAY_WIN n) ≤ top then ((m.inc (BB.REPLAY_CNT n)).secDrop n, false)
      else (m.onBb n fun x => { x with sa := { x.sa with rxPn := Nat.max top t.pn.toNat } }, true)
    | none =>
      if etype = 0x88F7 ∨ etype = 0x888E then (m, true) else ((m.inc (BB.UNTAGGED_CNT n)).secDrop n, false)

/-! ### Vector recovery (R319) -/

/-- Shift a history of `n` bits by `d` positions: new bits 0, then the bit of the frame. (Log: PRESUMED 53) -/
def shiftHist (h : List Bool) (n d : Nat) : List Bool := (true :: (List.replicate (d - 1) false ++ h)).take n

/-- The bits that a shift by `d` takes out of a full history and that were never set. -/
def lostBits (h : List Bool) (n d : Nat) : Nat := (((List.replicate (d - 1) false ++ h).drop (n - 1)).filter (· = false)).length

/-- The counters of Table 11-11 in their order. -/
def frerPassed := 0
def frerDiscarded := 1
def frerOutOfOrder := 2
def frerRogue := 3
def frerLost := 4
def frerResets := 5

/-- A frame with R-TAG number `seq` passes its recovery function. (Log: PRESUMED 53) -/
def recover (m : Mod) (mac vlan seq : Nat) : Mod :=
  let n := m.rd ETS.HIST_LEN
  let put := fun (m : Mod) (x : FrerX) => m.onEts fun e =>
    { e with frer := e.frer.map fun y => if y.mac = mac ∧ y.vlan = vlan then x else y }
  match m.ets.frer.find? fun y => y.mac = mac ∧ y.vlan = vlan with
  | none =>
    let m := m.inc (ETS.RECOV frerPassed)
    if m.ets.frer.length < 32 then m.onEts fun e => { e with frer := e.frer ++ [⟨mac, vlan, seq, true :: List.replicate (n - 1) false⟩] } else m
  | some x =>
    let d := (seq + 65536 - x.top) % 65536
    if 0 < d ∧ d < 32768 then
      if n ≤ d then m.inc (ETS.RECOV frerRogue)
      else
        let m := (m.inc (ETS.RECOV frerPassed)).add (ETS.RECOV frerLost) (lostBits x.hist n d)
        let m := if d = 1 then m else m.inc (ETS.RECOV frerOutOfOrder)
        put m { x with top := seq, hist := shiftHist x.hist n d }
    else
      let b := (65536 - d) % 65536
      if n ≤ b then m.inc (ETS.RECOV frerRogue)
      else if x.hist.getD b false then m.inc (ETS.RECOV frerDiscarded)
      else put ((m.inc (ETS.RECOV frerPassed)).inc (ETS.RECOV frerOutOfOrder)) { x with hist := x.hist.set b true }

/-- A received backbone frame (R314, R316, R319). -/
def bbReceive (m : Mod) (n : Nat) (tag : Option SecTag) (host : Bool) (f : EthFrame) : Mod :=
  if ¬ m.bbHears n then m
  else
    let m := m.busWakeSeen n false
    let (m, ok) := m.secCheck n tag f.etype.toNat
    if ¬ ok then m
    else
      let m := m.inc (BB.RX_OK_CNT n)
      if host then match f.rtag with
        | some r => m.recover f.src.toNat ((f.vlan.map (·.2.toNat)).getD 0) r.toNat
        | none => m.inc ETS.TAGLESS_CNT
      else m.switchFrame n f

/-! ### Vehicle time (R28, R320, R321) -/

/-- A number as a signed field of `w` bits, saturating. -/
def signedField (w : Nat) (v : Int) : Nat :=
  let lim : Int := 2 ^ (w - 1)
  let c := if v < -lim then -lim else if lim ≤ v then lim - 1 else v
  (if c < 0 then c + 2 * lim else c).toNat

/-- The ticks of an update interval of R28: 2^LOG_SYNC seconds (R320), LOG_SYNC −5 to 0 in two's complement. -/
def updateTicks (m : Mod) : Nat := if m.rd PTP.LOG_SYNC = 0 then 100000 else 100000 / 2 ^ (16 - m.rd PTP.LOG_SYNC)

/-- Port `n` has received no Sync for three sync intervals (R320). -/
def missed (m : Mod) (n : Nat) : Bool := decide (SMap.get 0 m.ets.heard n + 3 * m.updateTicks ≤ m.tick)

/-- EPOCH in ns. -/
def epoch (m : Mod) : Nat := m.rd PTP.EPOCH_LO + m.rd PTP.EPOCH_HI * 2 ^ 32

def setEpoch (m : Mod) (v : Nat) : Mod := (m.wr PTP.EPOCH_LO (v % 2 ^ 32)).wr PTP.EPOCH_HI (v / 2 ^ 32 % 2 ^ 32)

/-- The synchronisation state changes (R28). -/
def syncGo (m : Mod) (s : Nat) (warning : Bool) : Mod :=
  let m := (m.wr FRM.SYNC s).onFrm fun x =>
    { x with good := 0, bad := 0, holdSf := 0, freq := if s = 0 then 0 else x.freq, freqAcc := if s = 0 then 0 else x.freqAcc }
  if warning then m.ev 0x0A warn 0x0102 [sj s, vl16 (m.rd FRM.PHASE_ERR)] else m.ev 0x0A info 0x0101 [sj s]

/-- The frequency correction in 10⁻⁹ that an offset update with phase error `ph` leads to, at most the 50 ppm of R27; how it follows from
the updates the spec does not say. (Log: DESIGN CHOICE 119) -/
def freqNext (m : Mod) (ph : Int) : Int := max (-50000) (min 50000 (Config.freqLoop m.frm.freq ph))

/-- The Frame takes an offset update with phase error `ph` in ns (R27, R28). -/
def phaseUpdate (m : Mod) (ph : Int) : Mod :=
  let m := m.onFrm fun x => { x with lastUpd := x.tick, holdSf := 0, freq := m.freqNext ph }
  let m := (m.wr FRM.PHASE_ERR (if ph < -32767 then 32769 else signedField 16 ph)).sat FRM.SLEW_LEFT ((ph.natAbs + 4) / 5)
  let ok := ph.natAbs ≤ 200
  match m.rd FRM.SYNC with
  | 1 =>
    let k := if ok then m.frm.good + 1 else 0
    if 16 ≤ k then m.syncGo 2 false else m.onFrm fun x => { x with good := k }
  | 2 =>
    let k := if ok then 0 else m.frm.bad + 1
    if 4 ≤ k then m.syncGo 1 true else m.onFrm fun x => { x with bad := k }
  | _ => m.syncGo 1 false

/-- A Follow_Up of gPTP domain `domain`: the port's mean link delay, and on the slave port the offset from origin timestamp and
correction, mean link delay and receive cycle (R320, R321). -/
def followUp (m : Mod) (n domain origin mld cyc : Nat) : Mod :=
  if ¬ m.on PTP.EN ∨ ¬ m.bbHears n ∨ m.rd PTP.DOMAIN ≠ domain then m
  else
  let m := (m.wr (PTP.MLD n) mld).onEts fun x => { x with heard := SMap.set 0 x.heard n m.tick }
  if m.rd PTP.SLAVE ≠ n then m
  else
    let here := m.tick * 10000 + cyc * 5
    let offset : Int := (m.epoch + here : Nat) - (origin + mld : Nat)
    let whole : Int := (offset + 5000) / 10000
    let ph := offset - whole * 10000
    let m := m.wr PTP.OFFSET (signedField 32 offset)
    let was := m.rd FRM.SYNC
    let m := m.phaseUpdate ph
    if ¬ m.ets.epochSet then
      if m.rd FRM.SYNC = 2 ∧ was ≠ 2 then
        let b : Int := (origin + mld : Nat) - (cyc * 5 : Nat)
        let e : Int := (b + 5000) / 10000 * 10000 - (m.tick * 10000 : Nat)
        (m.setEpoch (e % 2 ^ 64).toNat).onEts fun x => { x with epochSet := true }
      else m
    else if whole = 0 then m
    else
      let m := (m.setEpoch ((((m.epoch : Nat) : Int) - whole * 10000) % 2 ^ 64).toNat).inc PTP.EPOCH_CHG_CNT
      m.ev 0x0D info 0x0B06 [vl (-whole % 256).toNat]

/-! ### ACF frames (R325) -/

/-- A CAN frame of the bus as the content of an object. -/
def busContent (f : BusFrame) : CanFrame :=
  { id := f.id.toNat, ide := f.ide, rtr := f.rtr, dlc := f.dlc.toNat, fdf := f.fdf, brs := f.brs, esi := f.esi, xlf := f.xlf,
    sdt := f.sdt.toNat, vcid := f.vcid.toNat, sec := f.sec, len := f.data.length, af := f.af.toNat, data := f.data.map (·.toNat) }

/-- One message of listener stream `i`, number `k` of its frame, which came in on backbone port `n`. -/
def acfMsg (m : Mod) (n i seq cyc k : Nat) (g : AcfMsg) : Mod :=
  let cls := m.rd (BRG.LS_CLASS i)
  let tgt := m.rd (BRG.LS_TARGET i)
  let ref := (seq * 256 + k) % 65536
  let m := m.inc BRG.ACF_RX_CNT
  let req : Req := { cls := cls, notify := m.on (BRG.LS_ANS i), source := n, ref := ref, rel := m.rd (BRG.LS_REL i), target := tgt,
                     act0 := 0, act1 := 0, via := .acf i ref, admTick := m.admitTick cyc }
  match g with
  | .can bus f => if (cls = 3 ∨ cls = 4) ∧ bus = tgt then m.canRequest req i cyc (busContent f) else m.inc BRG.ACF_BAD_CNT
  | .lin bus id bytes =>
    if cls = 5 ∧ bus = tgt then
      let d := bytes.map (·.toNat)
      m.intakeReq { req with target := id + 256 * tgt, act0 := leNum (d.take 4), act1 := leNum ((d.drop 4).take 4) }
    else m.inc BRG.ACF_BAD_CNT
  | .other => m.inc BRG.ACF_BAD_CNT

/-- The messages of a frame, in order. -/
def acfMsgs (m : Mod) (n i seq cyc : Nat) : Nat → List AcfMsg → Mod
  | _, [] => m
  | k, g :: gs => (m.acfMsg n i seq cyc k g).acfMsgs n i seq cyc (k + 1) gs

/-- The enabled listener stream of a stream ID. -/
def listener (m : Mod) (sid : Nat) : Option Nat :=
  (List.range 8).find? fun i => m.on (BRG.LS_EN i) && m.rd (BRG.LS_SID_LO i) + m.rd (BRG.LS_SID_HI i) * 2 ^ 32 = sid

end Mod

/-! ### The commands -/

/-- LINK_DOWN (R311): a link that is up goes down. -/
def execLinkDown (n : Fin 2) (s : State) : Out :=
  s.next fun m => if m.on (BB.LINK n) then m.linkDown n else m

/-- LINK_UP (R311): a link that is down comes up on an enabled port whose PHY is powered (R313). -/
def execLinkUp (n : Fin 2) (sqi : BitVec 3) (s : State) : Out :=
  s.next fun m => if ¬ m.on (BB.EN n) ∨ m.on (BB.LINK n) ∨ ¬ m.phyPowered n then m else ((m.wr (BB.LINK n) 1).wr (BB.SQI n) sqi.toNat).ev (0x3A + n) info 0x0B02 [sj n, vl (m.rd (BB.SPEED n))]

/-- PODL_POWER_APPEAR (R313). -/
def execPodlPowerAppear (n : Fin 2) (s : State) : Out := s.next fun m => m.busWakeSeen n true

/-- TC10_SLEEP_DONE (R313): the port is in Sleep, its PHY unpowered, its link down (R311). -/
def execTc10SleepDone (n : Fin 2) (s : State) : Out :=
  s.next fun m => if (m.trx n).target = some 0 then (if m.on (BB.LINK n) then m.linkDown n else m).trxDone n else m

/-- BB_FRAME_RX (R314, R316, R319). (Log: DESIGN CHOICE 8) -/
def execBbFrameRx (n : Fin 2) (tag : Option SecTag) (host : Bool) (f : EthFrame) (s : State) : Out :=
  s.next fun m => m.bbReceive n tag host f

/-- MKA_SAK_INSTALL (R315): the change takes effect at a frame boundary. (Log: PRESUMED 104) -/
def execMkaSakInstall (n : Fin 2) (sak : BitVec 128) (s : State) : Out :=
  s.next fun m => m.onBb n fun x => { x with saNext := some sak.toNat }

/-- FRER_RESET (R319): the recovery function takes any next frame. -/
def execFrerReset (mac : BitVec 48) (vlan : BitVec 12) (s : State) : Out :=
  s.next fun m =>
    match m.ets.frer.findIdx? fun y => y.mac = mac.toNat ∧ y.vlan = vlan.toNat with
    | some k => ((m.onEts fun e => { e with frer := e.frer.eraseIdx k }).inc (ETS.RECOV Mod.frerResets)).ev 0x3C info 0x0B04 [sj k]
    | none => m

/-- FOLLOW_UP (R320, R321). (Log: PRESUMED 104) -/
def execFollowUp (n : SyncPort) (origin : BitVec 64) (mld : Word) (cyc : BitVec 11) (s : State) : Out :=
  s.next fun m => m.followUp n.n n.domain.toNat origin.toNat mld.toNat cyc.toNat

/-- SLAVE_CHANGEOVER (R320). -/
def execSlaveChangeover (s : State) : Out :=
  s.next fun m =>
    let n := 1 - m.rd PTP.SLAVE
    if m.on PTP.EN ∧ m.on PTP.STANDBY ∧ m.missed (m.rd PTP.SLAVE) ∧ ¬ m.missed n then
      ((m.wr PTP.SLAVE n).inc PTP.PORT_SW_CNT).ev 0x0D warn 0x0B05 [sj n]
    else m

/-- SYNC_TX (R322): Sync and Follow_Up leave through the port's egress queue. (Log: PRESUMED 52) -/
def execSyncTx (n : Fin 2) (cyc : BitVec 11) (s : State) : Out :=
  s.next fun m =>
    if m.on PTP.EN ∧ m.bit PTP.TS_MASTER n ∧ m.rd (TRX.STATE (0x38 + n)) = 3 then
      let raised := m.rd FRM.SYNC = 0 || m.rd FRM.SYNC = 3
      let m := m.onEts fun x => { x with sync := SMap.set (0, false) x.sync n (m.epoch + m.tick * 10000 + cyc.toNat * 5, raised) }
      (m.egressPut (2 + n) (m.rd ETS.DEF_PCP) 64).egressPut (2 + n) (m.rd ETS.DEF_PCP) 94
    else m

/-- ACF_FRAME (R325). -/
def execAcfFrame (n : Fin 2) (sid : BitVec 64) (seq : Byte) (cyc : BitVec 11) (msgs : List AcfMsg) (s : State) : Out :=
  s.next fun m => if ¬ m.bbTakes n ∨ 2 ≤ m.pstate then m else match m.listener sid.toNat with
    | some i => m.acfMsgs n i seq.toNat cyc.toNat 0 msgs
    | none => m.inc BRG.ACF_BAD_CNT

end Sys2Proof.Machine
end

