-- ==== Sys2Proof/Machine/Power.lean ====
section
/-! DEFINITION. Power states, supplies and retention (chapter 13): the supply selection, the vote and the changes of state, the
wake record, the span, the sleep and wake of domains. -/
namespace Sys2Proof.Machine
open Reg

/-- A refusing block: its page index, the code of its domain (`none` for AON), its reason (Table 13-3). -/
structure Vote where
  page : Nat
  dom : Option Nat
  reason : Nat

/-- The code that LAST_REF and the events carry for a domain; AON, which has none, takes 31. -/
def Vote.code (v : Vote) : Nat := v.dom.getD 31

namespace Mod

/-! ### The vote (R376, Table 13-3) -/

/-- An output of quadrant `q` has effective owner Hold or Safe. -/
def quadHeld (m : Mod) (q : Nat) : Bool :=
  (List.range 20).any fun c => m.rd (HQ.OWN_EFF q c) = 1 || m.rd (HQ.OWN_EFF q c) = 2

/-- A low-side output has effective owner Hold or Safe. -/
def fioHeld (m : Mod) : Bool :=
  (List.range 8).any fun k => !m.bit FIO.LS_LOCK k && (effOf (m.ls k).own = 1 || effOf (m.ls k).own = 2)

/-- An enabled engine is not in Bus Sleep. -/
def nmBusy (m : Mod) : Bool := (List.range 22).any fun n => m.on (NM.NM_EN n) && m.on (NM.STATE n)

/-- The schedule keeps the pair from Doze. -/
def pairScheduled (m : Mod) : Bool := m.img.budget.any (fun e => e.2 != 0) || m.on FRM.DISPATCH_SUM

/-- An update session, a live handover or a probation is open (R471). -/
def updateOpen (m : Mod) : Bool := m.rd UPD.HOLDER_PORT ≠ 0xFF || m.on UPD.HANDOVER || m.upd.phase != 0 || m.on UPD.PROBATION

/-- The blocks that refuse a change to `t`, in the order of Table 13-3. (Log: DEDUCED 75) -/
def votes (m : Mod) (t : Nat) : List Vote :=
  let deep := decide (2 ≤ t)
  ((List.range 4).filter fun q => deep && m.quadHeld q).map (fun q => ⟨0x10 + q, some (24 + q), 1⟩) ++
  (if deep && m.fioHeld then [⟨0x16, some 29, 1⟩] else []) ++
  (if deep && m.nmBusy then [⟨0x3F, some 31, 2⟩] else []) ++
  (if t = 1 && m.pairScheduled then [⟨0x09, some 30, 3⟩] else []) ++
  (if m.updateOpen then [⟨0x06, some 31, 4⟩] else []) ++
  (if t = 3 && !m.keyOpen 0x03 then [⟨0x03, none, 5⟩] else [])

/-- A block's refusal is counted with its domain, which keeps the page and the reason (R376). -/
def voteCount (m : Mod) (cnt : Nat → Fld) (v : Vote) : Mod :=
  match v.dom with
  | some d => (((m.inc (cnt d)).wr (PWR.DOM_LAST_PAGE d) v.page).wr (PWR.DOM_LAST_REASON d) v.reason).wr (PWR.DOM_LAST_TICK16 d) m.tick
  | none => m

/-- PWR.LAST_REF and the event of the first refusal. -/
def voteReport (m : Mod) (t : Nat) (abort : Bool) (v : Vote) : Mod :=
  let m := ((m.wr PWR.REF_TARGET t).wrB PWR.REF_ABORT abort).wr PWR.REF_DOM v.code
  let m := (m.wr PWR.REF_PAGE v.page).wr PWR.REF_REASON v.reason
  m.ev 0x03 (if abort then warn else info) (if abort then 0x0D03 else 0x0D02) [vl t, sj v.code, sj v.page, sj v.reason]

/-- Refusals `vs` of a change to `t`, the first of them recorded. -/
def refused (m : Mod) (t : Nat) (vs : List Vote) : Mod :=
  match vs with
  | [] => m
  | v :: _ => (vs.foldl (fun m v => m.voteCount PWR.DOM_REFUSE_CNT v) m).voteReport t false v

/-! ### Requests and the end of a change (R375, R377, R379) -/

/-- A request for state `t` acts on the present state: the vote, and one tick after its release the acceptance (Table 13-4); `by_` is the
writer, whose release lies at a boundary for the pair. (Log: DEDUCED 75) -/
def changeStart (m : Mod) (t by_ : Nat) : Mod :=
  if m.pstate = 0 ∧ t ≠ 0 then
    match m.votes t with
    | [] =>
      (m.wr PWR.CUR_TGT t).onPwr fun x => { x with vote := if by_ = 0 then 2 else 1 }
    | vs => m.refused t vs
  else if m.pstate = 1 ∧ t = 0 then m.aonWake ⟨0x22, 5, by_⟩
  else m.inc PWR.DROP_CNT

/-- A request takes effect (R375, R377). (Log: DEDUCED 75) -/
def powerRequest (m : Mod) (t by_ : Nat) : Mod :=
  if m.on PWR.CHANGING ∨ m.pwr.vote ≠ 0 then
    if t = m.rd PWR.CUR_TGT ∨ (m.on PWR.PEND ∧ t = m.rd PWR.PEND_TGT) then m
    else
      let m := if m.on PWR.PEND then (m.inc PWR.DISPLACE_CNT).ev 0x03 info 0x0D04 [vl (m.rd PWR.PEND_TGT), vl t] else m
      ((m.wr PWR.PEND 1).wr PWR.PEND_TGT t).onPwr fun x => { x with pendBy := by_ }
  else m.changeStart t by_

/-- A change ends, or is `aborted`: the latched wake is replayed; after an abort DRAINING clears at the next tick (R93).
(Log: DEDUCED 76, DEDUCED 120) -/
def changeEnd (m : Mod) (aborted : Bool) : Mod :=
  let m := ((m.wr PWR.CHANGING 0).wr AON.LATCHED 0).wr PWR.PEND 0
  let m := if aborted then m else m.wr PRM.DRAINING 0
  let l := m.pwr.latch
  let m := m.onPwr fun x => { x with phase := 0, drain := 0, latch := none, resume := aborted }
  match l with
  | some w =>
    if wakeEnds w m.pstate then
      ((m.inc AON.REPLAY_CNT).ev 0x04 info 0x0D08 [sj w.src, sj w.kind]).onPwr fun x => { x with wake := some w, replay := true }
    else m
  | none => m

/-- Step 2 of Table 13-4: the change is accepted, admission drains, the wake latch is armed. (Log: DEDUCED 75) -/
def changeAccept (m : Mod) : Mod :=
  let m := m.onPwr fun x => { x with vote := x.vote - 1 }
  if m.pwr.vote ≠ 0 then m
  else ((m.wr PWR.CHANGING 1).wr PRM.DRAINING 1).onPwr fun x => { x with phase := 1, drain := 0, resume := false }

/-- Admission resumes at the tick after an abort (R93). (Log: DEDUCED 120) -/
def admitAgain (m : Mod) : Mod :=
  if m.pwr.resume then (m.wr PRM.DRAINING 0).onPwr fun x => { x with resume := false } else m

/-- The change ends, and a pending request acts as if written now (R377). -/
def changeDone (m : Mod) (aborted : Bool) : Mod :=
  let p := m.on PWR.PEND
  let t := m.rd PWR.PEND_TGT
  let by_ := m.pwr.pendBy
  let m := m.changeEnd aborted
  if p then m.changeStart t by_ else m

/-- The commit point of a change (R93, R376): an abort, or every open promise breached with "state change". -/
def commitPoint (m : Mod) : Mod :=
  if m.pwr.phase ≠ 1 ∨ (m.prm.open_ ≠ [] ∧ m.pwr.drain < m.rd PRM.DRAIN_LIM) then m
  else
    let t := m.rd PWR.CUR_TGT
    match m.votes t with
    | v :: vs => (((v :: vs).foldl (fun m v => m.voteCount PWR.DOM_ABORT_CNT v) m).voteReport t true v).changeDone true
    | [] =>
      let m := m.stateChange (decide (2 ≤ t))
      if t = 1 then (((m.wr PWR.STATE 1).wrBit PWR.DOM_STAT 30 false).onPwr fun x => { x with since := m.tick }).changeDone false
      else m.onPwr fun x => { x with phase := 2 }

/-! ### Park and Shelf entry (R378, R382, Table 13-4) -/

/-- The Park order, released with a combined commit (step 5); the handshake and the archive begin (step 6). -/
def parkOrder (m : Mod) : Mod :=
  if m.pwr.phase ≠ 2 then m
  else
    let m := forN 4 (fun m q => m.quadPark q) m
    let m := m.motPark.ledPark.fioPark.diagPark.canPark.linPark
    let m := (m.trxRequest 0 0 2).trxRequest 1 0 2
    m.snapBegin.onPwr fun x => { x with phase := 3 }

/-- The Frame stops (step 7); `ok`: the archive was written. -/
def parkStop (m : Mod) (ok : Bool) : Mod :=
  if m.pwr.phase ≠ 3 ∨ m.on (TRX.BUSY 0x3A) ∨ m.on (TRX.BUSY 0x3B) then m
  else
    let m := (m.snapEnd ok).wr FRM.RUN 0
    let m := (m.wr FRM.RUNNING 0).onFrm fun x => { x with startPend := false, stopPend := false }
    let m := (m.wr AON.TICK_ENTRY_LO (m.tick % 2 ^ 32)).wr AON.TICK_ENTRY_HI (m.tick / 2 ^ 32)
    let ref := m.rd FIO.DI_FILT
    (m.onFio fun x => { x with parkRef := ref, parkRun := [] }).onPwr fun x => { x with marks := 0, phase := 4 }

/-- A Lock holds a channel of the quadrant (R122). -/
def quadLocked (m : Mod) (q : Nat) : Bool := (List.range 20).any fun c => m.rd (HQ.OWN_EFF q c) = 3

/-- The domains power off into retention (step 8). -/
def parkDown (m : Mod) : Mod :=
  if m.pwr.phase ≠ 4 then m
  else
    let t := m.rd PWR.CUR_TGT
    let kept := fun q => decide (t = 2) && m.quadLocked q
    let stat := flags 32 fun d => decide (24 ≤ d) && decide (d < 28) && kept (d - 24)
    let m := forN 4 (fun (m : Mod) q => if kept q then m.onQuad q fun x => { x with saved := false } else m.quadBoot q) m
    let m := ((m.wr PWR.STATE t).wr PWR.DOM_STAT stat).wr PWR.DOM_WAKING 0
    let m := ((m.wr CLK.XTAL_OK 0).wr CLK.PLL_PAIR 0).wr CLK.PLL_SEQ 0
    (m.onFio fun x => { x with cleaning := [], waiting := [] }).changeDone false

/-! ### The span and its uncertainty (R387 to R389) -/

/-- A count of RC periods in ticks, to the nearest. -/
def spanOf (m : Mod) (count : Nat) : Nat := (2 * count * m.rd AON.CAL_PERIOD + 2560000) / 5120000

/-- The temperature difference between the latest calibration and code `temp`, in K. -/
def deltaT (m : Mod) (temp : Nat) : Nat := Nat.max temp (m.rd AON.CAL_TEMP) - Nat.min temp (m.rd AON.CAL_TEMP)

/-- The uncertainty of an RC span in ticks, in units of 1/10000 of it, rounded up, plus 4. -/
def uncOf (span dT : Nat) : Nat :=
  let u := if dT ≤ 20 then 30 else Nat.min (30 + 5 * (dT - 20)) 500
  (span * u + 9999) / 10000 + 4

/-- The TICK of the last boundary before the stop. -/
def tickEntry (m : Mod) : Nat := m.rd AON.TICK_ENTRY_LO + m.rd AON.TICK_ENTRY_HI * 2 ^ 32

/-- Publish a span and set TICK from it (R389). (Log: DEDUCED 77) -/
def setSpan (m : Mod) (span unc : Nat) (est wide : Bool) : Mod :=
  let m := ((m.wr AON.SPAN_LO (span % 2 ^ 32)).wr AON.SPAN_HI (span / 2 ^ 32)).wrB AON.EST est
  let m := (m.wrB AON.UNC_WIDE wide).sat AON.UNC unc
  (m.onFrm fun x => { x with tick := (m.tickEntry + span) % 2 ^ 48, good := 0, bad := 0, holdSf := 0, freq := 0, freqAcc := 0 }).wr FRM.SYNC 0

/-- The span of the RC oscillator across Park or Shelf (R387, R388). (Log: DEDUCED 100) -/
def rcSpan (m : Mod) (count temp : Nat) : Mod :=
  let dT := m.deltaT temp
  let span := m.spanOf count
  let m := (m.wr AON.TEMP_EXIT temp).setSpan span (uncOf span dT) true (decide (20 < dT))
  if 20 < dT then m.ev 0x04 warn 0x0D07 [vl dT, vl32 (m.rd AON.UNC)] else m

/-- The span less its uncertainty, in milliseconds (R165). -/
def decayMs (m : Mod) : Nat := (m.rd AON.SPAN_LO + m.rd AON.SPAN_HI * 2 ^ 32 - m.rd AON.UNC) / 100

/-! ### The wake record and the exits (R380, R381, R386) -/

/-- The event of a recorded wake. -/
def wakeEvent (m : Mod) (w : Wake) (replayed : Bool) : Mod :=
  m.ev 0x04 info 0x0D05 [sj w.src, sj w.kind, vl w.detail, vl (if replayed then 1 else 0)]

/-- Record the wake that ends the present state, at TICK `t`; its event waits for the Frame. -/
def wakeRecord (m : Mod) (w : Wake) (t : Nat) : Mod :=
  let r := m.pwr.replay
  let m := (((m.wr AON.WAKE_SRC w.src).wr AON.WAKE_KIND w.kind).wrB AON.REPLAYED r).wr AON.WAKE_DETAIL w.detail
  let m := ((m.wr AON.WAKE_TICK_LO (t % 2 ^ 32)).wr AON.WAKE_TICK_HI (t / 2 ^ 32 % 2 ^ 16)).inc AON.WAKE_CNT
  let m := m.onPwr fun x => { x with wake := none, replay := false }
  if m.on FRM.RUNNING then m.wakeEvent w r else m.onPwr fun x => { x with wakeEv := some (w, r) }

/-- The microcode of the active bank is loaded into quadrant `q` (R448): `ok`, its check word agrees. -/
def ucodeLoad (m : Mod) (q ver : Nat) (ok : Bool) : Mod :=
  if ok then m.ucodeStart q ver
  else (m.wrBit BOOT.UCODE_FAIL q true).ev 0x05 err 0x1006 [sj q]

/-- The UCODE_VER of a bank's manifest (Table 16-4). -/
def bankUcodeVer (m : Mod) (bank : Nat) : Nat := m.load (bankBase bank + 0x3FE000 + 32) 2

/-- The ports whose wake had no TICK yet take the TICK of the wake (R287). -/
def stampWakes (m : Mod) (t : Nat) : Mod :=
  let mask := m.pwr.noTick
  let m := forN 24 (fun m p => if mask.testBit p then m.wr (TRX.WAKE_TICK (portPage p)) t else m) m
  m.onPwr fun x => { x with noTick := 0 }

/-- The saved protection block of quadrant `q` fails its check (R423): every channel starts with RETRY latched, its models and
counts 0. -/
def protFail (m : Mod) (q : Nat) : Mod :=
  let m := forN 20 (fun m c => m.wr (HQ.RETRY_L q c) 1) (m.protClear q)
  (m.onQuad q fun x => { x with saved := false }).ev 0x08 err 0x0F04 [sj q]

/-- The saved state of quadrant `q` is restored after `ms` milliseconds (R165); `bad`: its block fails its check. -/
def protBack (m : Mod) (q ms : Nat) (bad : Bool) : Mod :=
  if ¬ (m.quad q).saved then m
  else if bad then m.protFail q
  else (m.onQuad q fun x => { x with saved := false }).protRestore q ms

/-- The clocks run again. -/
def clocksUp (m : Mod) : Mod := ((m.wr CLK.XTAL_OK 1).wr CLK.PLL_PAIR 1).wr CLK.PLL_SEQ 1

/-- The Park exit (Table 13-6); a quadrant that a Lock has kept awake runs on with its microcode (R130, R165): `c0` the count at the wake, `c` at the restart, `temp` the temperature code, `ok` the quadrants
whose microcode passes its check, `bad` those whose saved block fails its check. -/
def parkExit (m : Mod) (c0 c temp ok bad : Nat) : Mod :=
  match m.pstate, m.pwr.wake with
  | 2, some w =>
    let t := (m.tickEntry + m.spanOf c0) % 2 ^ 48
    let m := (m.wakeRecord w t).stampWakes t
    let m := (m.rcSpan c temp).clocksUp
    let stat := m.rd PWR.DOM_STAT
    let m := (m.wr PWR.STATE 0).wr PWR.DOM_STAT 0xCF000000
    let ms := m.decayMs
    let kept := fun q => stat.testBit (24 + q)
    let ver := m.bankUcodeVer (m.rd BOOT.ACT_BANK)
    let m := forN 4 (fun m q =>
      if kept q then m.pauseFrom q 0
      else ((m.protBack q ms (bad.testBit q)).onQuad q fun x => { x with sampMin := 0xFFF }).ucodeLoad q ver (ok.testBit q)) m
    (m.wr FRM.RUN 1).onFrm fun x => { x with startPend := true, stopPend := false }
  | _, _ => m

/-- A Doze exit (R381). -/
def dozeExit (m : Mod) : Mod :=
  match m.pstate, m.pwr.wake with
  | 1, some w => ((m.wr PWR.STATE 0).wrBit PWR.DOM_STAT 30 true).wakeRecord w m.tick
  | _, _ => m

/-! ### Input sensing in Park (R257) -/

/-- One sample of the inputs, `raw` the comparator levels, which INV inverts: the run of samples that differ from the reference, by input. -/
def parkSense (m : Mod) (raw : Nat) : Mod :=
  if m.pstate ≠ 2 then m
  else
    let step := fun (x : FioX) (i : Nat) =>
      let n := if (raw.testBit i != m.on (FIO.INV i)) ≠ x.parkRef.testBit i ∧ m.on (FIO.PARK_EN i) then SMap.get 0 x.parkRun i + 1 else 0
      { x with parkRun := SMap.set 0 x.parkRun i (Nat.min n 255) }
    let m := m.onFio fun x => forN 32 step x
    match (List.range 32).find? fun i => m.rd FIO.CONF < SMap.get 0 m.fio.parkRun i with
    | some i => m.aonWake ⟨0x20, 3, i⟩
    | none => m

/-! ### Domain sleep (R384) -/

/-- The port that a far-side window reaches (Table 11-7). -/
def farPort (m : Mod) (w : Nat) : Option Nat :=
  let sel := m.rd (VNK.WIN_SEL w)
  if m.rd (VNK.WIN_TYPE w) = 2 then some (16 + sel % 8)
  else if m.rd (VNK.WIN_TYPE w) = 3 then some (4 + m.rd (BRG.TP_CTRL (sel % 16)))
  else if m.rd (VNK.WIN_TYPE w) = 4 then some (2 + sel / 16) else none

/-- The condition of Table 13-7 for domain `d` to sleep in Run. -/
def maySleep (m : Mod) (d : Nat) : Bool :=
  if d < 24 then
    (match m.engineOf d with
      | some n => m.rd (NM.STATE n) = 0
      | none => m.rd (TRX.STATE (portPage d)) = 0) &&
    !(m.vnk.open_.any fun t => m.farPort t.win = some d)
  else if d < 28 then (List.range 20).all fun c => m.rd (HQ.OWN_EFF (d - 24) c) = 0 && m.rd (HQ.OUT (d - 24) c) = 0
  else if d = 28 then
    ((List.range 48).all fun n => effOf (m.sink n).own = 0 && m.rd (LED.APPLIED n) = 0 && m.sinkWant n = 0) &&
    (List.range 4).all fun e => m.rd (TOP.STATE e) = 0
  else if d = 29 then
    ((List.range 8).all fun k => effOf (m.ls k).own = 0 && !m.bit FIO.LS_LOCK k && !m.bit FIO.LS_VAL k && !m.bit FIO.LS_OUT k) &&
    (List.range 8).all fun k => m.rd (MOT.BR_EN k) = 0 || (m.rd (MOT.MODE k) = 0 && m.rd (MOT.APPLIED k) = 0)
  else false

/-- The page of the block that refuses for domain `d`. -/
def sleepPage (d : Nat) : Nat :=
  if d < 24 then portPage d else if d < 28 then 0x10 + (d - 24) else if d = 28 then 0x18 else if d = 29 then 0x16
  else if d = 30 then 0x09 else 0x0A

/-- A write of DOM_SLEEP takes effect: a domain whose condition does not hold refuses. -/
def sleepRequest (m : Mod) (mask : Nat) : Mod :=
  forN 32 (fun m d =>
    if ¬ mask.testBit d ∨ ¬ m.awake d ∧ d < 31 then m
    else if m.maySleep d then m.onPwr fun x => { x with sleepReq := setBit x.sleepReq d true }
    else m.refused 0 [⟨sleepPage d, some d, if d < 24 then 2 else 1⟩]) m

/-- At a tick boundary the asked domains whose conditions hold go to sleep (R384, R486). (Log: DEDUCED 36) -/
def sleepTick (m : Mod) : Mod :=
  forN 31 (fun m d =>
    if m.pwr.sleepReq.testBit d ∧ m.maySleep d ∧ SMap.get [] m.pwr.wbuf d = [] ∧ m.awake d then
      let m := (m.wrBit PWR.DOM_STAT d false).onPwr fun x => { x with sleepReq := setBit x.sleepReq d false }
      if 24 ≤ d ∧ d < 28 then (m.pumpsDown (d - 24)).updateSupply (d - 24) else m
    else m) m

/-! ### Supplies (R369 to R372) -/

/-- VBL is at or above 3.0 V, in 16 mV. -/
def vblUsable (vbl : Nat) : Bool := decide (188 ≤ vbl)

/-- VPOD is below 8.5 V, in 16 mV (Table 13-1). -/
def vpodLow (vpod : Nat) : Bool := decide (16 * vpod < 8500)

/-- The output of the auxiliary regulator in mV, from the highest feed in 16 mV (R372). -/
def auxOut (feed : Nat) : Nat := if 6000 ≤ 16 * feed then 5000 else 16 * feed - 800

/-- The measured supplies. -/
def supplySeen (m : Mod) (vpod vbl : Nat) : Mod := (m.wr PWR.VPOD_V vpod).wr PWR.VBL_V vbl

/-- A changeover between VPOD and VBL (Table 13-1). -/
def changeover (m : Mod) (src : Nat) : Mod :=
  ((m.wr PWR.SRC src).inc PWR.CHG_CNT).ev 0x03 info 0x0D01 [sj src, vl16 (m.rd PWR.VPOD_V), vl16 (m.rd PWR.VBL_V)]

/-- Neither input is usable. -/
def holdUp (m : Mod) : Mod := (m.wr PWR.SRC 0).wr PWR.VBL_LOW 1

end Mod

/-! ### The commands -/

/-- VPOD_LOSS (R369): the supplies in 16 mV. -/
def execVpodLoss (vpod vbl : BitVec 12) (s : State) : Out :=
  s.next fun m =>
    let m := m.supplySeen vpod.toNat vbl.toNat
    if m.rd PWR.SRC ≠ 1 ∨ ¬ Mod.vpodLow vpod.toNat then m else if Mod.vblUsable vbl.toNat then m.changeover 2 else m.holdUp

/-- VPOD_RETURN (R369): from VBL it is a changeover, otherwise a selection. -/
def execVpodReturn (vpod vbl : BitVec 12) (s : State) : Out :=
  s.next fun m =>
    let m := m.supplySeen vpod.toNat vbl.toNat
    if m.pwr.vpodBlocked ∨ 16 * vpod.toNat < 9000 then m
    else if m.rd PWR.SRC = 2 then m.changeover 1 else (m.wr PWR.SRC 1).wr PWR.VBL_LOW 0

/-- HOLDUP_START (R371). -/
def execHoldupStart (vpod vbl : BitVec 12) (s : State) : Out :=
  s.next fun m =>
    let m := m.supplySeen vpod.toNat vbl.toNat
    if Mod.vpodLow vpod.toNat ∧ ¬ Mod.vblUsable vbl.toNat then m.holdUp else m

/-- HOLDUP_END (R371): the input that returned is selected. -/
def execHoldupEnd (vpod vbl : BitVec 12) (s : State) : Out :=
  s.next fun m =>
    let m := m.supplySeen vpod.toNat vbl.toNat
    if ¬ m.on PWR.VBL_LOW ∨ ((m.pwr.vpodBlocked ∨ Mod.vpodLow vpod.toNat) ∧ ¬ Mod.vblUsable vbl.toNat) then m
    else (m.wr PWR.VBL_LOW 0).wr PWR.SRC (if Mod.vblUsable vbl.toNat then 2 else 1)

/-- AUX_LOW (R372): the highest feed in 16 mV; the frames in progress are cut short. -/
def execAuxLow (feed : BitVec 12) (s : State) : Out :=
  s.next fun m =>
    if m.on PWR.AUX_LOW ∨ 4500 ≤ Mod.auxOut feed.toNat then m
    else forN 12 (fun (m : Mod) n => m.canCut n) ((m.wr PWR.AUX_LOW 1).ev 0x03 warn 0x0D06 [vl16 feed.toNat])

/-- AUX_RECOVER (R372): the output has been at or above 4.7 V for 1 ms; what waited for the transmitters proceeds. -/
def execAuxRecover (s : State) : Out :=
  s.next fun m => if m.on PWR.AUX_LOW then forN 24 (fun m p => m.trxSettled p) (m.wr PWR.AUX_LOW 0) else m

/-- A write of PWR.CTL with GO 1 (R375): the pair's leaves at the tick boundary. -/
def Mod.ctlWrite (m : Mod) (t : Nat) (w : Writer) : Mod :=
  match w with
  | .pair => m.pairCommit (Mod.regAddr 0x03 0x100) (t + 2 ^ 31)
  | .vinko => m.powerRequest t 1

/-- REQUEST_RUN (R375). -/
def execRequestRun (w : Writer) (s : State) : Out := s.next fun m => m.ctlWrite 0 w

/-- REQUEST_DOZE (R381). -/
def execRequestDoze (w : Writer) (s : State) : Out := s.next fun m => m.ctlWrite 1 w

/-- REQUEST_PARK (R378). -/
def execRequestPark (w : Writer) (s : State) : Out := s.next fun m => m.ctlWrite 2 w

/-- REQUEST_SHELF (R382). -/
def execRequestShelf (w : Writer) (s : State) : Out := s.next fun m => m.ctlWrite 3 w

/-- COMMIT_POINT (R93, R376). -/
def execCommitPoint (s : State) : Out := s.next Mod.commitPoint

/-- PARK_STOP (R378): `ok`, the archive was written. -/
def execParkStop (ok : Bool) (s : State) : Out := s.next fun m => m.parkStop ok

/-- PARK_POWER_DOWN (R378). -/
def execParkPowerDown (s : State) : Out := s.next Mod.parkDown

/-- PARK_WAKE (R380): RC counts at the wake and at the restart, the temperature code, the quadrants whose microcode is good, those
whose saved block is bad. -/
def execParkWake (atWake atRestart : BitVec 40) (temp : Byte) (ucodeOk aonBad : BitVec 4) (s : State) : Out :=
  s.next fun m => m.parkExit atWake.toNat atRestart.toNat temp.toNat ucodeOk.toNat aonBad.toNat

/-- DOZE_EXIT (R381). -/
def execDozeExit (s : State) : Out := s.next Mod.dozeExit

/-- PARK_SENSE_SAMPLE (R257). -/
def execParkSenseSample (raw : Word) (s : State) : Out := s.next fun m => m.parkSense raw.toNat

/-- SHELF_MEMORY_LOSS (R382): in Shelf, with VPOD absent. -/
def execShelfMemoryLoss (s : State) : Out :=
  s.next fun m => if m.pstate = 3 ∧ m.rd PWR.SRC ≠ 1 then m.onPwr fun x => { x with memLost := true } else m

/-- DOM_SLEEP (R384). -/
def execDomSleep (mask : Word) (w : Writer) (s : State) : Out :=
  s.next fun m => match w with
    | .pair => m.pairCommit (Mod.regAddr 0x03 0x114) mask.toNat
    | .vinko => m.sleepRequest mask.toNat

/-- AON_TIMER_EXPIRE (R386): TIMER seconds from the entry's completion; in Doze the ticks count them. -/
def execAonTimerExpire (s : State) : Out :=
  s.next fun m => if m.on AON.TIMER ∧ (m.pstate ≠ 1 ∨ m.pwr.since + m.rd AON.TIMER * 100000 ≤ m.tick) then m.aonWake ⟨0x21, 4, 0⟩ else m

end Sys2Proof.Machine
end

