-- ==== Sys2Proof/Machine/RegAccess.lean ====
section
/-! DEFINITION. Register pages (chapter 17): what a read shows and does, what a write changes and starts, the write lock, unmapped
addresses, sleeping domains and the write buffers, tile memory. -/
namespace Sys2Proof.Machine
open Reg

namespace Mod

/-! ### Reads (R13, R14, R484) -/

/-- The 16 bytes of the promise record that REC_SEL names (R79): STATE 0xF where none is held. -/
def recWords (m : Mod) : List Nat :=
  let n := m.rd PRM.REC_SEL
  match (m.prm.open_ ++ m.prm.closed).find? (·.num = n) with
  | some p => p.words
  | none => [n + 0xF * 2 ^ 20, 0, 0, 0]

/-- What a read of the word at `off` of page `pg` shows, its effects aside. -/
def regShow (m : Mod) (pg off : Nat) : Nat :=
  if ¬ mapped pg then 0
  else if off = 0x00C then m.pageStat pg
  else if pg = 0x01 ∧ 0x100 ≤ off ∧ off < 0x180 then m.idnWord ((off - 0x100) / 4)
  else if pg = 0x07 ∧ off = 0x104 then m.otpWord (m.rd SEC.OTP_ADDR - m.rd SEC.OTP_ADDR % 4)
  else if pg = 0x0A ∧ off = 0x108 then m.tick % 2 ^ 32
  else if pg = 0x0B ∧ 0x12C ≤ off ∧ off < 0x13C then m.recWords.getD ((off - 0x12C) / 4) 0
  else if pg = 0x0B ∧ 0x300 ≤ off ∧ off < 0x400 then
    let k := (off - 0x300) / 4
    (if k < m.rd FRM.SLACK_LEN then (m.ledgerAt (m.tick + k)).beads.length else 0) + m.cyclesOf (m.tick + k) * 2 ^ 16
  else m.wordOf pg off

/-- Every RC field of the word is cleared by its read (R14). -/
def clearRc (m : Mod) (pg off : Nat) : Mod :=
  (fieldsAt pg off).foldl (fun m f => if f.acc = .rc then m.wr f 0 else m) m

/-- SLICE_TASK, SLICE_BUDGET and SLICE_VALID as a read returns them. -/
def showSlice (m : Mod) (s : Option Slice) : Mod :=
  match s with
  | some s => ((m.wr PAIR.SLICE_TASK s.task).wr PAIR.SLICE_BUDGET s.budget).wr PAIR.SLICE_VALID 1
  | none => ((m.wr PAIR.SLICE_TASK 0).wr PAIR.SLICE_BUDGET 0).wr PAIR.SLICE_VALID 0

/-- A read of SLICE by a core removes the next slice of its tick (R418); the slice runs. -/
def slicePop (m : Mod) (h : Bool) : Mod :=
  let w := m.worker h
  match w.slices with
  | [] => m.showSlice none
  | s :: rest =>
    (m.onWorker h fun w => { w with slices := rest, taken := w.taken.take w.redo ++ [s], redo := w.redo + 1, cur := some s,
                                    mark := w.cq.length }).showSlice (some s)

/-- What a read does before its value is taken: TICK_LO latches TICK_HI (R17), REC_DATA0 latches a record (R435), CHG_POP (R185)
and SLICE (R418) remove. `reader`: a core, or `none` for a Vinko window. -/
def readLatch (m : Mod) (pg off : Nat) (reader : Option Bool) : Mod :=
  if pg = 0x0A ∧ off = 0x108 then m.wr FRM.TICK_HI (m.tick / 2 ^ 32)
  else if pg = 0x08 ∧ off = 0x10C then m.recLatch
  else if pg = 0x14 ∧ off = 0x108 then m.chgPop (if reader.isSome then 0 else 1)
  else if pg = 0x09 ∧ off = 0x12C then
    match reader with
    | some h => m.slicePop h
    | none => m.showSlice none
  else m

/-- The offset of word `i` of the position unit's snapshots: three words for each pair. -/
def snapOff (i : Nat) : Nat := 0x214 + 0x20 * (i / 3) + 4 * (i % 3)

/-- The number that the snapshot before keeps a word under, where the word is one of a snapshot. -/
def snapIndex (pg off : Nat) : Option Nat :=
  if pg = 0x0A ∧ 0xC00 ≤ off then some ((off - 0xC00) / 4)
  else if pg = 0x15 then ((List.range 12).find? fun i => snapOff i = off).map (256 + ·)
  else none

/-- A word as a reader sees it: a core that works on the tick before reads the snapshots before (R47, R203). -/
def snapShow (m : Mod) (pg off : Nat) (reader : Option Bool) : Nat :=
  match snapIndex pg off with
  | some i =>
    if reader.any (fun h => decide ((m.worker h).phase ≠ .idle ∧ (m.worker h).tick < m.tick)) then SMap.get 0 m.frm.snapPrev i
    else m.regShow pg off
  | none => m.regShow pg off

/-- A read of a register word. (Log: DEDUCED 103) -/
def regRead (m : Mod) (pg off : Nat) (reader : Option Bool) : Mod × Nat :=
  let m := m.readLatch pg off reader
  (m.clearRc pg off, m.snapShow pg off reader)

/-! ### Writes (R12, R13, R482) -/

/-- The value that a field takes from `v` under `mask`. -/
def newVal (m : Mod) (f : Fld) (v mask : Nat) : Nat :=
  let k := fld mask (f.lo + f.w - 1) f.lo
  f.fix.apply (m.rd f &&& (f.max ^^^ k) ||| fld v (f.lo + f.w - 1) f.lo &&& k)

/-- A write to one field under its access code. (Log: DEDUCED 38) -/
def fieldWrite (m : Mod) (f : Fld) (v mask : Nat) : Mod :=
  let t := fld (v &&& mask) (f.lo + f.w - 1) f.lo
  match f.acc with
  | .rw => m.wr f (m.newVal f v mask)
  | .rwl => if m.keyOpen f.page then m.wr f (m.newVal f v mask) else m
  | .w1c => m.wr f (m.rd f &&& (f.max ^^^ t))
  | .w1s => m.wr f (m.rd f ||| t)
  | _ => m

/-- A write to every field of a word but those whose lowest bits are listed. -/
def plainWrite (m : Mod) (pg off v mask : Nat) (skip : List Nat) : Mod :=
  (fieldsAt pg off).foldl (fun m f => if skip.contains f.lo then m else m.fieldWrite f v mask) m

/-- The write would change an RWL field. -/
def rwlChanges (m : Mod) (pg off v mask : Nat) : Bool :=
  (fieldsAt pg off).any fun f => f.acc = .rwl && m.newVal f v mask != m.rd f

/-- PAGE_KEY (R481): LOCKDOWN takes effect first and closes the key; `t` the bits written, `mask` their places. -/
def keyWrite (m : Mod) (pg t mask : Nat) : Mod :=
  if t.testBit 9 then (m.wr (COM.LOCKDOWN pg) 1).wr (COM.KEY pg) 0
  else if mask % 256 = 0 then m
  else if fld t 7 0 ≠ 0x4B then m.wr (COM.KEY pg) 0
  else if m.on (COM.LOCKDOWN pg) then m
  else m.wr (COM.KEY pg) 1

/-- A write of SEQ_CTL.RUN (R57): a start is refused where the slack ring does not fit. Table 01-8 does not say whether a start that is
accepted clears CFG_ERR: it does. (Log: DESIGN CHOICE 121) -/
def runWrite (m : Mod) (v : Bool) : Mod :=
  if v then
    if 1023 < m.rd FRM.SLACK_BASE + m.rd FRM.SLACK_LEN - 1 then m.wr FRM.CFG_ERR 1
    else ((m.wr FRM.CFG_ERR 0).wr FRM.RUN 1).onFrm fun x => { x with stopPend := false, startPend := !m.on FRM.RUNNING }
  else (m.wr FRM.RUN 0).onFrm fun x => { x with startPend := false, stopPend := m.on FRM.RUNNING }

/-- A write to a tick-table entry (R42): one of the active table is ignored. R42 does not say whether ROD and BEAD of BEAD_ERR_LAST change
with it: they keep. (Log: DESIGN CHOICE 122) -/
def tabWrite (m : Mod) (t off v mask : Nat) : Mod :=
  if m.rd FRM.TAB_ACT = t then (m.inc FRM.BEAD_ERR_CNT).wr FRM.ERR_CAUSE 6 else m.plainWrite 0x0A off v mask []

/-- SYS.CTL.RST (R480): the Hold order, and a Warm reset asked for. (Log: DEDUCED 84) -/
def softReset (m : Mod) : Mod :=
  let m := m.holdOrder
  { m with boot := { m.boot with resetDue := 1 } }

/-- A write of ENV_OCC and ENV_FRAMES of port `p`; while the Frame runs it waits for the superframe boundary. -/
def envWrite (m : Mod) (p off v mask : Nat) : Mod :=
  if ¬ m.on FRM.RUNNING then m.plainWrite 0x0B off v mask []
  else
    let m := m.onPrm fun x => { x with envPend := x.envPend ++ [((PRM.ENV_OCC p).key, m.newVal (PRM.ENV_OCC p) v mask),
                                                               ((PRM.ENV_FRAMES p).key, m.newVal (PRM.ENV_FRAMES p) v mask)] }
    m.ev 0x0B info 0x0204 [sj p]

/-- An OTP program command (R459): accepted while the SEC key is open and none is in progress. -/
def otpGo (m : Mod) : Mod :=
  if ¬ m.keyOpen 0x07 ∨ m.on SEC.OTP_BUSY then m
  else
    let a := m.rd SEC.OTP_ADDR - m.rd SEC.OTP_ADDR % 4
    (((m.wr SEC.OTP_BUSY 1).wr SEC.OTP_FAIL 0).onSec fun x => { x with prog := some (a, m.rd SEC.OTP_DATA) }).ev 0x07 info 0x1016
      [sj32 a]

/-- A word of the CAK (R462), while the SEC key is open. (Log: DEDUCED 103) -/
def cakWrite (m : Mod) (i v : Nat) : Mod :=
  if m.keyOpen 0x07 then m.onSec fun x => { x with cak := SMap.set 0 x.cak i v } else m

/-- The conditional clear of a LIN status word (R297). -/
def stWrite (m : Mod) (n id t : Nat) : Mod :=
  if fld t 11 8 = m.rd (LIN.SEQ n id) then
    let m := if t.testBit 0 then m.wr (LIN.NEW n id) 0 else m
    if t.testBit 1 then m.wr (LIN.LOST n id) 0 else m
  else m

/-- CFG of a counting input (R245): a start begins afresh. -/
def ciWrite (m : Mod) (j off v mask : Nat) : Mod :=
  let m' := m.plainWrite 0x16 off v mask []
  if m.on (FIO.CI_EN j) = false ∧ m'.on (FIO.CI_EN j) then m'.onCi j fun _ => {} else m'

/-- WIN[w] (Table 11-7, R341): TYPE 6 and 7 are stored as 0 with EN 0, RD_PREF on another type than PAGE as 0. -/
def winWrite (m : Mod) (w off v mask : Nat) : Mod :=
  let m := m.plainWrite 0x3E off v mask []
  let m := if 6 ≤ m.rd (VNK.WIN_TYPE w) then (m.wr (VNK.WIN_TYPE w) 0).wr (VNK.WIN_EN w) 0 else m
  if m.on (VNK.WIN_TYPE w) then m.wr (VNK.RD_PREF w) 0 else m

/-- Where ON_AUTO is 0 and no test is requested, no evaluation runs: its count is discarded (R172). -/
def autoOff (m : Mod) (q c : Nat) : Mod :=
  if m.on (HQ.ON_AUTO q c) ∨ m.on (HQ.DIAG_BUSY q c) then m else m.onChan q c fun y => { y with diag := {} }

/-- A write to a word of HQ page `q`, `t` its trigger bits. -/
def hqWrite (m : Mod) (q off v mask t : Nat) : Mod :=
  let pg := 0x10 + q
  let c := (off - 0x100) / 0x40
  let r := (off - 0x100) % 0x40
  if off < 0x600 then
    if r = 0x08 then
      let act := m.newVal (HQ.ACT q c) v mask
      m.chRelease q c act (m.newVal (HQ.ARG q c) v mask)
    else
      let m := m.plainWrite pg off v mask []
      if r = 0x38 then m.autoOff q c
      else if r = 0x30 ∧ t.testBit 31 then m.latchClr q c
      else if r = 0x3C ∧ t.testBit 30 then m.diagRequest q c (fld t 29 27)
      else m
  else if off = 0x600 then
    let m := m.plainWrite pg off v mask [0]
    if m.keyOpen pg ∧ mask.testBit 0 then m.pairEn q (v % 2) else m
  else
    let m := m.plainWrite pg off v mask []
    if off = 0x608 ∧ t.testBit 31 then m.wr (HQ.FEED_VMIN q) (m.rd (HQ.FEED_V q))
    else if off = 0x64C ∧ t.testBit 0 then m.quadSafeRel q
    else m

/-- A write to a word of the MOT page; `boundary`: at a tick boundary. -/
def motWrite (m : Mod) (off v mask : Nat) (boundary : Bool) : Mod :=
  let k := (off - 0x100) / 0x20
  let r := (off - 0x100) % 0x20
  if off < 0x200 then
    if r = 0 then
      let m := m.plainWrite 0x15 off v mask [0]
      if m.keyOpen 0x15 ∧ mask.testBit 0 then m.brEn k (v % 2) else m
    else if r = 0x0C then m.motRelease k (m.newVal (MOT.MODE k) v mask) (m.newVal (MOT.DUTY k) v mask)
    else m.plainWrite 0x15 off v mask []
  else if off < 0x280 ∧ off % 0x20 = 4 then m.qdPosSet ((off - 0x200) / 0x20) (m.newVal (MOT.QD_POS ((off - 0x200) / 0x20)) v mask) boundary
  else m.plainWrite 0x15 off v mask []

/-- A write to a word of the LED, TOP or CLR page. -/
def lightWrite (m : Mod) (pg off v mask t : Nat) : Mod :=
  if pg = 0x19 ∧ 0x800 ≤ off then
    let e := (off - 0x800) / 0x200
    let i := (off - 0x800) % 0x200 / 4
    if m.keyOpen 0x19 then m.progWrite e i (m.newVal (TOP.PROG e i) v mask) else m
  else if pg = 0x1A ∧ off = 0x600 then m.rawTransfer (m.wordOf pg off &&& (0xFFFFFFFF ^^^ mask) ||| t)
  else
    let m := m.plainWrite pg off v mask []
    if pg = 0x18 then
      if off = 0x40C ∧ t.testBit 0 then m.blockSafeRel ledW
      else if off = 0x418 ∧ t.testBit 31 then m.thClear
      else if off = 0x41C ∧ t.testBit 0 then m.nbGo
      else m
    else if pg = 0x19 then
      if off < 0x200 ∧ off % 0x40 = 4 ∧ t.testBit 31 then m.engCommand ((off - 0x100) / 0x40) (fld t 2 0) (fld t 15 8) else m
    else if 0x200 ≤ off ∧ off < 0x600 ∧ off % 0x40 = 0x1C ∧ t.testBit 31 then m.targetApply ((off - 0x200) / 0x40)
    else m

/-- A write to a word of the FIO page. -/
def fioWrite (m : Mod) (off v mask t : Nat) (w : Writer) : Mod :=
  if 0x200 ≤ off ∧ off < 0x280 ∧ off % 0x10 = 0 then m.ciWrite ((off - 0x200) / 0x10) off v mask
  else if off = 0x320 then m.lsCmdWord t
  else
    let m := m.plainWrite 0x16 off v mask []
    if off = 0x348 ∧ t.testBit 0 then m.blockSafeRel fioW
    else if off = 0x350 ∧ t.testBit 31 then m.diagWrite w
    else if off < 0x180 then m.rawShow ((off - 0x100) / 4)
    else m

/-- A write to a word of a CAN page: MODE acts on the other settings of its word; the bit timing is open while MODE is 0, with SJW at
most TSEG2 (R263). -/
def canWrite (m : Mod) (n off v mask t : Nat) : Mod :=
  let pg := 0x20 + n
  if off = 0x100 then
    let m := m.plainWrite pg off v mask [0]
    let mode := m.newVal (CAN.MODE n) v mask
    let m := if ¬ m.keyOpen pg ∨ mask % 4 = 0 then m
      else if mode = m.rd (CAN.MODE n) then m.onCan n fun x => { x with modePend := none }
      else m.canMode n mode (Config.busBusy n m.tick)
    if t.testBit 9 then m.canBuild n else m
  else if 0x108 ≤ off ∧ off ≤ 0x118 ∧ m.on (CAN.MODE n) then m
  else
    let m := m.plainWrite pg off v mask []
    let jump := fun (m : Mod) (sjw seg : Fld) => if m.rd seg < m.rd sjw then m.wr sjw (m.rd seg) else m
    if off = 0x108 then jump m (CAN.NBT_SJW n) (CAN.NBT_TSEG2 n)
    else if off = 0x10C then jump m (CAN.DBT_SJW n) (CAN.DBT_TSEG2 n)
    else if off = 0x110 then jump m (CAN.XBT_SJW n) (CAN.XBT_TSEG2 n)
    else if off = 0x11C ∧ t.testBit 31 then m.canRestart n
    else if off = 0x140 ∧ t.testBit 31 then m.canEnter n (fld t 11 0)
    else m

/-- A write to a word of a LIN page. -/
def linWrite (m : Mod) (n off v mask t : Nat) : Mod :=
  if 0xA00 ≤ off ∧ off < 0xB00 then m.stWrite n ((off - 0xA00) / 4) t
  else
    let m := m.plainWrite (0x30 + n) off v mask []
    if off = 0x100 ∧ t.testBit 2 then m.linWakeTx n else m

/-- A write to a word of the FRM page. -/
def frmWrite (m : Mod) (off v mask : Nat) : Mod :=
  if off = 0x100 then
    let m := m.plainWrite 0x0A off v mask [0]
    if m.keyOpen 0x0A ∧ mask.testBit 0 then m.runWrite (v.testBit 0) else m
  else if off = 0x114 ∧ m.on FRM.RUNNING then m
  else if 0x400 ≤ off ∧ off < 0x800 then if m.keyOpen 0x0A then m.tabWrite ((off - 0x400) / 0x200) off v mask else m
  else m.plainWrite 0x0A off v mask []

/-- A write to a word of the NM page. -/
def nmWrite (m : Mod) (off v mask t : Nat) : Mod :=
  let n := (off - 0x100) / 0x20
  if 0x100 ≤ off ∧ off < 0x400 ∧ off % 0x20 = 0x14 then
    let m := m.plainWrite 0x3F off v mask [0]
    let m := if mask.testBit 0 then m.nmHold n (v.testBit 0) else m
    if t.testBit 1 then m.nmRptReq n else m
  else m.plainWrite 0x3F off v mask []

/-- UPD.CTL (R469 to R472): what the pair has written, for the handover to act on. (Log: DEDUCED 95) -/
def updCtl (m : Mod) (t : Nat) : Mod := { m with upd := { m.upd with ctl := m.upd.ctl ||| t % 16 } }

/-- The effect of a write of `v` under `mask` to the word at `off` of page `pg`. `w`: the pair, whose writes act at the tick
boundary, or a Vinko window. (Log: DESIGN CHOICE 10) -/
def wordWrite (m : Mod) (pg off v mask : Nat) (w : Writer) : Mod :=
  let t := v &&& mask
  let m := if m.keyOpen pg = false ∧ m.rwlChanges pg off v mask then m.keyReject pg off w.code else m
  if ¬ mapped pg ∨ fieldsAt pg off = [] then m
  else if off = 0x01C then m.keyWrite pg t mask
  else if off < 0x100 then m.plainWrite pg off v mask []
  else if 0x10 ≤ pg ∧ pg ≤ 0x13 then m.hqWrite (pg - 0x10) off v mask t
  else if off = 0x200 ∧ pageDomain pg < 24 then
    let m := m.plainWrite pg off v mask [0]
    if mask % 4 = 0 then m else m.trxWrite (pageDomain pg) (m.newVal (TRX.REQ pg) v mask)
  else if 0x20 ≤ pg ∧ pg ≤ 0x2B then m.canWrite (pg - 0x20) off v mask t
  else if 0x30 ≤ pg ∧ pg ≤ 0x37 then m.linWrite (pg - 0x30) off v mask t
  else if 0x18 ≤ pg ∧ pg ≤ 0x1A then m.lightWrite pg off v mask t
  else if pg = 0x15 then m.motWrite off v mask (w = .pair)
  else if pg = 0x16 then m.fioWrite off v mask t w
  else if pg = 0x0A then m.frmWrite off v mask
  else if pg = 0x3F then m.nmWrite off v mask t
  else if pg = 0x00 ∧ off = 0x100 then if fld t 7 0 = 0xD1 then m.softReset else m
  else if pg = 0x03 ∧ off = 0x100 then if t.testBit 31 then m.powerRequest (t % 4) w.code else m
  else if pg = 0x03 ∧ off = 0x114 then m.sleepRequest t
  else if pg = 0x06 ∧ off = 0x110 then if w = .pair then m.updCtl t else m
  else if pg = 0x07 ∧ off = 0x108 then if t.testBit 0 then m.otpGo else m
  else if pg = 0x07 ∧ 0x140 ≤ off ∧ off < 0x150 then m.cakWrite ((off - 0x140) / 4) v
  else if pg = 0x08 ∧ off = 0x150 then m.raiseWord t
  else if pg = 0x08 ∧ off = 0x154 then m.wr EVT.RAISE_DETAIL t
  else if pg = 0x09 ∧ off = 0x134 then m.kick (fld t 7 0)
  else if pg = 0x0B ∧ off = 0x150 then if t.testBit 0 then m.onPrm fun x => { x with reqGo := true } else m
  else if pg = 0x0B ∧ 0x400 ≤ off ∧ off % 0x10 = 0 then
    if m.keyOpen 0x0B then m.envWrite ((off - 0x400) / 0x10) off v mask else m
  else if pg = 0x3E ∧ 0x400 ≤ off ∧ off % 0x10 = 0 then m.winWrite ((off - 0x400) / 0x10) off v mask
  else m.plainWrite pg off v mask []

/-! ### What a Vinko window may not write (R213, R247, R297, R440 and chapters 3 and 6) -/

/-- A Vinko write to the word is denied by its block's chapter: the block's own count and record; `none` where it is not.
(Log: DEDUCED 95) -/
def vinkoDenied (m : Mod) (pg off : Nat) : Option Mod :=
  let c := (off - 0x100) / 0x40
  if 0x10 ≤ pg ∧ pg ≤ 0x13 ∧ 0x100 ≤ off ∧ off < 0x600 ∧ off % 0x40 = 0x08 then some (m.cmdReject (pg - 0x10) c 3)
  else if pg = 0x15 ∧ 0x100 ≤ off ∧ off < 0x200 ∧ off % 0x20 = 0x0C then some (m.motReject ((off - 0x100) / 0x20) 3)
  else if pg = 0x18 ∧ 0x100 ≤ off ∧ off < 0x400 ∧ off % 0x10 = 0x4 then some (m.inc LED.VNK_REJ_CNT)
  else if pg = 0x19 ∧ 0x100 ≤ off ∧ off < 0x200 ∧ off % 0x40 = 0x4 then some (m.inc LED.VNK_REJ_CNT)
  else if pg = 0x1A ∧ 0x200 ≤ off ∧ off < 0x600 ∧ (off % 0x40 = 0x18 ∨ off % 0x40 = 0x1C) then some (m.inc LED.VNK_REJ_CNT)
  else if pg = 0x16 ∧ off = 0x320 then some (m.inc FIO.VNK_REJ_CNT)
  else if 0x30 ≤ pg ∧ pg ≤ 0x37 ∧ ((0x600 ≤ off ∧ off < 0x800) ∨ (0x400 ≤ off ∧ off < 0x500 ∧ m.on (LIN.EN (pg - 0x30)))) then
    some (m.inc (LIN.VNK_REJ_CNT (pg - 0x30)))
  else if (pg = 0x08 ∧ off = 0x150) ∨ (pg = 0x0B ∧ 0x140 ≤ off ∧ off ≤ 0x150) then some m
  else none

/-! ### The memory map (Table 17-4) -/

/-- The rod of a tile address. -/
def tileRod (a : Nat) : Nat := (a - 0x22000000) % 0x40000 / 256

/-- A write to tile memory is permitted (R37). -/
def tileOpen (m : Mod) (r : Nat) (w : Writer) : Bool :=
  !m.on FRM.RUNNING || (w = .pair && !m.inActive r && !m.inRing r)

/-- A tile write is refused (R37). -/
def tileRefuse (m : Mod) (r : Nat) (w : Writer) : Mod := m.ev 0x0C err 0x010A [sj16 r, sj (if w = .pair then 1 else 2)]

/-! ### Release of the pair's entries (R48, R55, R486) -/

/-- The pair's entry for a register page: applied, held for its domain, dropped, or without effect on a port out of service. -/
def commitPage (m : Mod) (e : Commit) : Mod :=
  let pg := (e.addr - 0x40000000) / 0x1000
  let off := e.addr % 0x1000
  let d := pageDomain pg
  if off < 0x100 then m.wordWrite pg off e.data 0xFFFFFFFF .pair
  else if d < 24 ∧ m.portOos d then m
  else if m.awake d then m.wordWrite pg off e.data 0xFFFFFFFF .pair
  else
    let m := m.wakeDom d
    let q := SMap.get [] m.pwr.wbuf d
    if q.length < 32 then m.onPwr fun x => { x with wbuf := SMap.set [] x.wbuf d (q ++ [e]) }
    else (m.inc SYS.WBUF_DROP_CNT).ev 0 err 0x1103 [sj pg, sj16 off]

/-- One entry of the pair takes effect. -/
def commitEntry (m : Mod) (e : Commit) : Mod :=
  match region e.addr with
  | .page => m.commitPage e
  | .obj =>
    if e.width = 4 then (m.objWrite e.addr e.data false).1
    else
      let a := e.addr - e.addr % 4
      let k := 2 ^ (8 * (e.addr % 4))
      let old := m.load a 4
      let cur := old / k % 2 ^ (8 * e.width)
      (m.objWrite a (old - cur * k + e.data % 2 ^ (8 * e.width) * k) false).1
  | .tile => if m.tileOpen (tileRod e.addr) .pair then m.store e.addr e.width e.data else m.tileRefuse (tileRod e.addr) .pair
  | .aon => m.store e.addr e.width e.data
  | _ => m

/-- A domain is ready: its held entries are applied in commit order (R486). -/
def drainWbuf (m : Mod) (d : Nat) : Mod :=
  let q := SMap.get [] m.pwr.wbuf d
  q.foldl commitPage (m.onPwr fun x => { x with wbuf := SMap.set [] x.wbuf d [] })

end Mod

/-! ### The commands -/

/-- The RW and RWL fields of a word as they stand: what a store that means to change other bits carries for them. -/
def Mod.heldWord (m : Mod) (pg off : Nat) : Nat :=
  (fieldsAt pg off).foldl (fun a f => if f.acc = .rw ∨ f.acc = .rwl then a + m.rd f * 2 ^ f.lo else a) 0

/-- A Vinko write under `mask` touches an RWL field (R482). (Log: DEDUCED 90) -/
def Mod.rwlTouched (pg off mask : Nat) : Bool :=
  (fieldsAt pg off).any fun f => f.acc = .rwl && fld mask (f.lo + f.w - 1) f.lo != 0

/-- The block-specific offsets of the page are out of reach: the domain sleeps or wakes. -/
def Mod.pageAsleep (m : Mod) (pg off : Nat) : Bool := decide (0x100 ≤ off) && !m.awake (pageDomain pg)

/-- The block-specific offsets of the page belong to a port out of service (R450, R486). -/
def Mod.pageOos (m : Mod) (pg off : Nat) : Bool := decide (0x100 ≤ off) && decide (pageDomain pg < 24) && m.portOos (pageDomain pg)

/-- A write of a register word by `w`: the pair's joins its commit queue (R484); a window's acts at once, or is refused; one to a
sleeping domain wakes it and stalls (R486). No page there: R485 refuses it. -/
def Mod.regCommand (m : Mod) (pg off v mask : Nat) (w : Writer) : Mod :=
  let a := Mod.regAddr pg off
  if ¬ mapped pg then
    match w with
    | .pair => (m.unmapped a 0).trapCore false 7 (Config.trapValue 7 a)
    | .vinko => m.unmapped a 1
  else match w with
  | .pair => m.pairCommit (Mod.regAddr pg off) (m.heldWord pg off &&& (0xFFFFFFFF ^^^ mask) ||| v &&& mask)
  | .vinko =>
    if m.pageOos pg off then m
    else if m.pageAsleep pg off then m.wakeDom (pageDomain pg)
    else match m.vinkoDenied pg off with
      | some m => m.inc VNK.DENIED_CNT
      | none =>
        if m.keyOpen pg = false ∧ Mod.rwlTouched pg off mask then m.keyReject pg off 1 else m.wordWrite pg off v mask .vinko

/-- A read of a register word by `reader` as a command. -/
def Mod.readCommand (m : Mod) (pg off : Nat) (reader : Option Bool) : Mod :=
  let a := Mod.regAddr pg off
  if ¬ mapped pg then
    match reader with
    | some h => (m.unmapped a 0).trapCore h 5 (Config.trapValue 5 a)
    | none => m.unmapped a 1
  else if m.pageOos pg off then m
  else if m.pageAsleep pg off then m.wakeDom (pageDomain pg)
  else (m.regRead pg off reader).1

/-- REGISTER_WRITE (R13). -/
def execRegisterWrite (pg : Fin 64) (word : Fin 1024) (v mask : Word) (w : Writer) (s : State) : Out :=
  s.next fun m => m.regCommand pg (4 * word) v.toNat mask.toNat w

/-- RC_FIELD_READ (R14): `reader` the pair's core (true for Holly), or `none` for a Vinko window. -/
def execRcFieldRead (pg : Fin 64) (word : Fin 1024) (reader : Option Bool) (s : State) : Out :=
  s.next fun m => m.readCommand pg (4 * word) reader

/-- TICK_LO_READ (R17). -/
def execTickLoRead (s : State) : Out := s.next fun m => (m.regRead 0x0A 0x108 none).1

/-- KEY_OPEN (R481). -/
def execKeyOpen (pg : Fin 64) (w : Writer) (s : State) : Out := s.next fun m => m.regCommand pg 0x01C 0x4B 0xFF w

/-- KEY_CLOSE (R481): `v` is another value than 0x4B. -/
def execKeyClose (pg : Fin 64) (v : Byte) (w : Writer) (s : State) : Out :=
  s.next fun m => m.regCommand pg 0x01C (if v = 0x4B#8 then 0 else v.toNat) 0xFF w

/-- LOCKDOWN (R481): `cmd` the CMD value of the same write. -/
def execLockdown (pg : Fin 64) (cmd : Byte) (w : Writer) (s : State) : Out :=
  s.next fun m => m.regCommand pg 0x01C (cmd.toNat + 0x200) 0x2FF w

/-- SOFTWARE_RESET (R480). -/
def execSoftwareReset (w : Writer) (s : State) : Out := s.next fun m => m.regCommand 0x00 0x100 0xD1 0xFF w

/-- SEQ_RUN_START (R57). -/
def execSeqRunStart (w : Writer) (s : State) : Out := s.next fun m => m.regCommand 0x0A 0x100 1 1 w

/-- SEQ_RUN_STOP (R57). -/
def execSeqRunStop (w : Writer) (s : State) : Out := s.next fun m => m.regCommand 0x0A 0x100 0 1 w

/-- TAB_NEXT (R42). -/
def execTabNext (t : Fin 2) (w : Writer) (s : State) : Out := s.next fun m => m.regCommand 0x0A 0x100 (16 * t) 0x10 w

/-- TILE_WRITE (R37): of a word of copy A (0) or B (1) of a rod; the pair's is queued where it is permitted, and otherwise its store takes
the access fault of a bus error (R394). -/
def execTileWrite (copy : Fin 2) (rod : Fin 1024) (word : Fin 64) (v : Word) (w : Writer) (s : State) : Out :=
  s.next fun m =>
    let a := 0x22000000 + 0x40000 * copy.val + 256 * rod.val + 4 * word.val
    match m.tileOpen rod w, w with
      | true, .pair => m.pairCommit a v.toNat
      | true, .vinko => m.store a 4 v.toNat
      | false, .pair => (m.tileRefuse rod .pair).trapCore false 7 (Config.trapValue 7 a)
      | false, .vinko => m.tileRefuse rod .vinko

/-- OTP_PROGRAM (R459). -/
def execOtpProgram (w : Writer) (s : State) : Out := s.next fun m => m.regCommand 0x07 0x108 1 1 w

/-- CAK_WRITE (R462). -/
def execCakWrite (i : Fin 4) (v : Word) (w : Writer) (s : State) : Out :=
  s.next fun m => m.regCommand 0x07 (0x140 + 4 * i) v.toNat 0xFFFFFFFF w

end Sys2Proof.Machine
end

