-- ==== Sys2Proof/Machine/Update.lean ====
section
/-! DEFINITION. Keys, OTP and the test port (R459 to R463), update sessions (R464 to R468), ISO 14229-1 on the service port (R467), the
live handover, probation and fallback (R469 to R474). -/
namespace Sys2Proof.Machine
open Reg

namespace Mod

def onUpd (m : Mod) (f : UpdX → UpdX) : Mod := { m with upd := f m.upd }
def onUds (m : Mod) (f : UdsX → UdsX) : Mod := { m with uds := f m.uds }
def onBoot (m : Mod) (f : BootX → BootX) : Mod := { m with boot := f m.boot }

/-! ### OTP and the test port (R459, R463) -/

/-- The bits of an OTP word that a program command does not set: the revoked bits (R460) and the anti-rollback field (R461). -/
def otpHeld (a : Nat) : Nat := if a = 0x100 then 0xF00 else if a = 0x104 ∨ a = 0x108 then 0xFFFFFFFF else 0

/-- A program command completes; the bits of `stuck` did not take (R459). (Log: DEDUCED 85) -/
def otpDone (m : Mod) (stuck : Nat) : Mod :=
  match m.sec.prog with
  | none => m
  | some (a, v) =>
    let w := m.otpWord a ||| v &&& (0xFFFFFFFF ^^^ (stuck ||| otpHeld a))
    let m := (m.otpSet a w).onSec fun x => { x with prog := none }
    ((m.wr SEC.OTP_BUSY 0).wrB SEC.OTP_FAIL (w &&& v ≠ v)).secShow

/-- The test access port takes an instruction (R463): while it is locked, another than BYPASS and IDCODE is as BYPASS.
(Log: PRESUMED 80) -/
def tapTake (m : Mod) (i : Nat) : Mod :=
  m.onSec fun x => { x with tap := if m.on SEC.DEBUG_LOCK ∧ ¬ m.on SEC.DEBUG_OPEN ∧ 2 ≤ i then 0 else i }

/-- A signature is written to DBG_AUTH (R463). -/
def debugAuth (m : Mod) (slot : Nat) (ok : Bool) : Mod :=
  if m.sec.challenge.isSome ∧ m.keyUsable slot ∧ ok then
    ((m.onSec fun x => { x with challenge := none }).wr SEC.DEBUG_OPEN 1).ev 0x07 crit 0x1015 []
  else m

/-! ### Sessions (R464 to R466) -/

/-- A session is open. -/
def session (m : Mod) : Bool := m.rd UPD.HOLDER_PORT ≠ 0xFF

/-- The source holds the lock; slot 0xFF is the service port. -/
def holds (m : Mod) (port slot : Nat) : Bool := m.rd UPD.HOLDER_PORT = port && m.rd UPD.HOLDER_SLOT = slot

/-- The holder as BUSY names it. (Log: DEDUCED 86) -/
def holderAux (m : Mod) : Nat := m.rd UPD.HOLDER_PORT * 256 + m.rd UPD.HOLDER_SLOT

/-- The positive answer to send key, or busyRepeatRequest. -/
def udsSay (m : Mod) (l : List Nat) : Mod := m.onUds fun x => { x with rsp := l }
def udsNo (m : Mod) (sid code : Nat) : Mod := m.udsSay [0x7F, sid, code]

/-- The holder makes a transaction: the idle time starts anew (R466). -/
def updHeard (m : Mod) (slot : Nat) : Mod :=
  if m.session ∧ m.rd UPD.HOLDER_SLOT = slot then m.onUpd fun x => { x with lastTick := m.tick } else m

/-- An OPEN is decided: the lock is taken, or BUSY is answered, counted and recorded. (Log: DEDUCED 94) -/
def openOne (m : Mod) (o : OpenReq) : Mod :=
  if m.session then
    let m := (m.inc UPD.BUSY_CNT).ev 0x06 info 0x100A [sj (m.rd UPD.HOLDER_PORT), sj (m.rd UPD.HOLDER_SLOT)]
    match o.txn with
    | some t => m.complete t 6 m.holderAux []
    | none => m.udsNo 0x27 0x21
  else
    let m := ((m.wr UPD.HOLDER_PORT o.port).wr UPD.HOLDER_SLOT o.slot).onUpd fun x =>
      { x with erased := false, verified := false, lastTick := m.tick }
    let m := if m.on UPD.PROBATION then m else m.wr UPD.STATE 1
    match o.txn with
    | some t => m.complete t 0 0 []
    | none => m.udsSay [0x67, 0x12]

/-- The OPENs of a tick, by ascending port (R465). (Log: DEDUCED 94) -/
def decideOpens (m : Mod) : Mod :=
  let l := m.upd.opens
  if l = [] then m
  else forN 24 (fun m p => (l.filter fun o => o.port = p).foldl openOne m) (m.onUpd fun x => { x with opens := [] })

/-- The session ends (R466). -/
def sessionEnd (m : Mod) : Mod :=
  let m := ((m.wr UPD.HOLDER_PORT 0xFF).wr UPD.HOLDER_SLOT 0xFF).onUpd fun x => { x with erased := false, verified := false }
  let m := m.onUds fun x => { x with download := none }
  if m.on UPD.PROBATION ∨ m.upd.phase ≠ 0 then m else m.wr UPD.STATE 0

/-- IDLE_TO seconds have passed since the holder was last heard (R466). -/
def idleOver (m : Mod) : Bool := m.session && decide (m.upd.lastTick + 100000 * m.rd UPD.IDLE_TO ≤ m.tick)

/-- The idle time passes (R466). -/
def sessionTimeout (m : Mod) : Mod :=
  if ¬ m.idleOver then m
  else (m.ev 0x06 warn 0x100B [sj (m.rd UPD.HOLDER_PORT)]).sessionEnd.wr UPD.RESULT 0x1D

/-! ### Operations (Table 16-11): each answers its result by Table 16-12 -/

/-- The inactive target of a type: 0 and 1 the banks, 2 and 3 the slots. -/
def inactive (m : Mod) (tt : Nat) : Nat := if tt = 0 then 1 - m.rd BOOT.ACT_BANK else 3 - m.rd BOOT.ACT_CFG

/-- Base and size of a target. -/
def targetBase (t : Nat) : Nat := if t < 2 then bankBase t else slotBase (t - 2)
def targetSize (t : Nat) : Nat := if t < 2 then 0x400000 else 0x80000

/-- No target is permitted while a probation or a handover runs; another type than 0 and 1 is no target. -/
def updBarred (m : Mod) (tt : Nat) : Bool := m.on UPD.PROBATION || m.upd.phase != 0 || decide (1 < tt)

/-- A result, with STATE failed. (Log: DEDUCED 94) -/
def updFail (m : Mod) (r : Nat) : Mod := (m.wr UPD.RESULT r).wr UPD.STATE 9

/-- ERASE. -/
def updErase (m : Mod) (tt : Nat) : Mod × Nat :=
  if m.updBarred tt then (m.updFail 0x16, 0x16)
  else (((((m.wr UPD.STATE 2).wr UPD.TARGET (m.inactive tt)).wr UPD.BLOCKS 0).wr UPD.NEW_VER 0).onUpd fun x =>
    { x with erasing := some (m.inactive tt), erased := false, verified := false }, 1)

/-- The erase completes, also where its session has ended meanwhile. -/
def eraseDone (m : Mod) : Mod :=
  match m.upd.erasing with
  | none => m
  | some t =>
    let m := (m.eraseMem (targetBase t) (targetSize t)).onUpd fun x => { x with erasing := none }
    if m.rd UPD.STATE = 2 then ((m.wr UPD.STATE 3).wr UPD.RESULT 1).onUpd fun x => { x with erased := true } else m

/-- WRITE of bytes at an offset of the target. -/
def updWrite (m : Mod) (tt off : Nat) (l : List Nat) : Mod × Nat :=
  let t := m.inactive tt
  let a := targetBase t + off
  if m.updBarred tt then (m.wr UPD.RESULT 0x16, 0x16)
  else if ¬ m.upd.erased ∨ m.upd.erasing.isSome ∨ m.rd UPD.STATE = 5 ∨ m.rd UPD.TARGET ≠ t ∨ targetSize t < off + l.length ∨
      (m.bytes a l.length).any (· ≠ 0xFF) then (m.wr UPD.RESULT 0x15, 0x15)
  else ((((m.setBytes a l).wr UPD.STATE 4).wr UPD.RESULT 1).wr UPD.BLOCKS (Nat.max (m.rd UPD.BLOCKS) ((off + l.length) / 4096))
    |>.onUpd fun x => { x with verified := false }, 1)

/-- VERIFY. -/
def updVerify (m : Mod) (tt : Nat) : Mod × Nat :=
  if m.updBarred tt then (m.updFail 0x16, 0x16)
  else ((((m.wr UPD.STATE 5).wr UPD.TARGET (m.inactive tt)).wr UPD.BLOCKS 0).onUpd fun x => { x with verified := false }, 1)

/-- The result of the checks of a firmware target, with the block of result 0x13. -/
def fwResult (m : Mod) (bank : Nat) (sig : Bool) : Nat × Nat :=
  match m.fwCheck bank sig with
  | (0, _) =>
    match m.boot.cfgSlot with
    | some s => if m.fwVer bank < m.load (slotBase s + 16) 4 then (0x19, 0) else (1, 0)
    | none => (1, 0)
  | (c, k) => ([0x14, 0x11, 0x10, 0x12, 0x13, 0x14].getD (c - 1) 0x14, k)

/-- The result of checks 1 to 5 of a configuration target. (Log: DEDUCED 79) -/
def cfgResult (m : Mod) (slot : Nat) (sig : Bool) : Nat :=
  let b := slotBase slot
  match m.cfgCheck b sig (m.fwVer m.boot.bank) 5 with
  | 0 => 1
  | 3 => if 3 < m.byte (b + 20) ∨ ¬ m.keyUsable (m.byte (b + 20)) then 0x11 else 0x10
  | 4 => 0x19
  | _ => 0x14

/-- The verification completes; `sig`: SIG verifies. (Log: DEDUCED 79) -/
def verifyDone (m : Mod) (sig : Bool) : Mod :=
  if m.rd UPD.STATE ≠ 5 then m
  else
    let t := m.rd UPD.TARGET
    let r := if t < 2 then m.fwResult t sig else (m.cfgResult (t - 2) sig, 0)
    let m := if t < 2 then m.sat UPD.BLOCKS (m.fwBlocks t) else m
    if r.1 = 1 then
      let m := if t < 2 then m.wr UPD.NEW_VER (m.fwVer t) else m
      ((m.wr UPD.STATE 6).wr UPD.RESULT 1).onUpd fun x => { x with verified := true }
    else (if r.1 = 0x13 then m.wr UPD.BAD_BLOCK r.2 else m).updFail r.1

/-- The superframe boundary of a live handover (R469): the first that lies at least DRAIN_LIM + 2 ticks ahead. -/
def handoverTick (m : Mod) : Nat := (m.tick + m.rd PRM.DRAIN_LIM + 2 + 99999) / 100000 * 100000

/-- ACTIVATE (R468): parameter 1 at the next start, 0 by a live handover. (Log: DEDUCED 78, DEDUCED 84) -/
def updActivate (m : Mod) (tt param : Nat) : Mod × Nat :=
  let no := fun (r : Nat) => (m.wr UPD.RESULT r, r)
  let t := m.inactive tt
  if ¬ m.upd.verified ∨ m.rd UPD.TARGET ≠ t then no 0x18
  else if m.on PWR.CHANGING then no 0x17
  else if m.updBarred tt ∨ 1 < param ∨ (param = 0 ∧ tt = 1) then no 0x16
  else if param = 1 then
    let m := if tt = 0 then
        ((m.wr BOOT.ACT_BANK t).onBoot fun x => { x with prevBank := m.rd BOOT.ACT_BANK, onTrial := true }).onUpd fun x => { x with snap := [] }
      else m.wr BOOT.ACT_CFG (t - 2)
    (((((m.wr BOOT.REACHED 0xF).wr BOOT.ALT_TRY 0xF).wr UPD.STATE 7).wr UPD.RESULT 1).softReset, 1)
  else ((((m.wr UPD.STATE 7).wr UPD.RESULT 1).onBoot fun x => { x with prevBank := m.rd BOOT.ACT_BANK }).onUpd fun x =>
    { x with phase := 1, bTick := m.handoverTick }, 1)

/-- REJECT (R472). (Log: DEDUCED 94) -/
def updReject (m : Mod) : Mod := if m.on UPD.PROBATION then m.onUpd fun x => { x with failed := true } else m

/-- REVOKE (R460); `sig`: the signature verifies with another usable slot. -/
def updRevoke (m : Mod) (slot : Nat) (sig : Bool) : Mod × Nat :=
  if ¬ sig then (m.wr UPD.RESULT 0x10, 0x10)
  else if 3 < slot ∨ ((List.range 4).all fun k => k = slot || !m.keyUsable k) then (m.wr UPD.RESULT 0x1E, 0x1E)
  else ((((m.otpSet 0x100 (m.otpWord 0x100 ||| 2 ^ (8 + slot))).secShow).ev 0x07 warn 0x1014 [sj slot]).wr UPD.RESULT 1, 1)

/-- The 16 bytes of STATUS. -/
def updStatus (m : Mod) : List Nat :=
  [m.rd UPD.STATE, m.rd UPD.TARGET, m.rd UPD.RESULT, 0] ++ beBytes 2 (m.rd UPD.BLOCKS) ++ beBytes 2 (m.rd UPD.BAD_BLOCK) ++
    beBytes 4 (m.rd UPD.NEW_VER) ++ beBytes 2 (m.rd UPD.PROB_LEFT) ++ [m.rd UPD.HOLDER_PORT, m.rd UPD.HOLDER_SLOT]

/-! ### Live handover (R469, R470) and fallback (R473, R474) -/

/-- The bits of a word's RWL fields. -/
def rwlMask (pg off : Nat) : Nat := (fieldsAt pg off).foldl (fun a f => if f.acc = .rwl then a + f.max * 2 ^ f.lo else a) 0

/-- The RWL words of every page other than BOOT, UPD and SEC, with their settings. -/
def snapshot (m : Mod) : List (Nat × Nat) :=
  (List.range 64).flatMap fun pg =>
    if ¬ mapped pg ∨ (5 ≤ pg ∧ pg ≤ 7) then []
    else (List.range 1024).filterMap fun i =>
      let k := rwlMask pg (4 * i)
      if k = 0 then none else some (regAddr pg (4 * i), m.wordOf pg (4 * i) &&& k)

/-- One word is written back to its snapshot value where it differs; the number of such words so far. -/
def putBack (a : Mod × Nat) (e : Nat × Nat) : Mod × Nat :=
  let m := a.1
  let pg := (e.1 - 0x40000000) / 0x1000
  let off := e.1 % 0x1000
  let k := rwlMask pg off
  if m.wordOf pg off &&& k = e.2 then a
  else
    let key := m.rd (COM.KEY pg)
    let m := ((m.wr (COM.KEY pg) 1).wordWrite pg off e.2 k .vinko).wr (COM.KEY pg) key
    let m := m.inc UPD.DISCARD_CNT
    (if a.2 < 64 then m.ev 0x06 info 0x1011 [sj pg, sj16 off] else m, a.2 + 1)

/-- The settings snapshot is imported (R473, R474), where its check word holds. (Log: DESIGN CHOICE 112) -/
def importSnap (m : Mod) : Mod :=
  if ¬ m.on UPD.REGION_OK then m
  else if Config.regionHolds m.tick = false then m.wr UPD.REGION_OK 0
  else
    let (m, n) := m.upd.snap.foldl putBack (m, 0)
    if 64 < n then m.ev 0x06 warn 0x1012 [vl16 n] else m

/-- The pair is restarted alone at the ENTRY of a bank. (Log: DESIGN CHOICE 3) -/
def pairRestart (m : Mod) (bank : Nat) : Mod :=
  let w : Worker := { core := { pc := m.fwEntry bank } }
  (m.onPair fun x => { x with w0 := w, w1 := w, check := {}, undo := [], replay := [], rpos := 0, reexec := false, reagreed := false,
                              mism := none }).onBoot fun x => { x with bank := bank }

/-- Boundary B (Table 16-14, steps 2 and 3): the Hold order and the settings snapshot; the old image exports. -/
def handoverStart (m : Mod) : Mod :=
  if m.upd.phase = 2 ∧ m.upd.bTick ≤ m.tick then
    let m := m.holdOrder
    (m.wr UPD.REGION_OK 1).onUpd fun x => { x with phase := 3, snap := m.snapshot, ctl := 0 }
  else m

/-- EXPORT_DONE (step 5). -/
def exportDone (m : Mod) : Mod :=
  if m.upd.phase = 3 then
    let b := m.rd UPD.TARGET
    ((m.onBoot fun x => { x with prevBank := x.bank }).pairRestart b).onUpd fun x => { x with phase := 4 }
  else m

/-- No EXPORT_DONE by 0.60 ms after boundary B (R470): the handover is abandoned. -/
def exportTimeout (m : Mod) : Mod := if m.upd.phase = 3 ∧ m.upd.bTick + 60 ≤ m.tick then (m.updFail 0x1A).onUpd fun x => { x with phase := 6 } else m

/-- The Hold of a handover or fallback is released, and admission resumes. -/
def handoverEnd (m : Mod) : Mod := ((m.holdRelease.wr PRM.DRAINING 0).wr UPD.HANDOVER 0).onUpd fun x => { x with phase := 0 }

/-- IMPORT_OK: of the new image, acted on at the next tick boundary; of the old one after a fallback. -/
def importOk (m : Mod) : Mod :=
  if m.upd.phase = 4 then m.onUpd fun x => { x with phase := 5 }
  else if m.upd.phase = 7 then m.handoverEnd
  else m

/-- IMPORT_FAIL: the fallback, or a Warm reset with Hold standing where the old image cannot import its own state. -/
def importFail (m : Mod) : Mod :=
  if m.upd.phase = 4 then (m.updFail 0x1B).onUpd fun x => { x with fallback := 0x1B }
  else if m.upd.phase = 7 then m.onBoot fun x => { x with resetDue := 1 }
  else m

/-- No IMPORT_OK by 1.90 ms after boundary B (R470). -/
def importTimeout (m : Mod) : Mod := if m.upd.phase = 4 ∧ m.upd.bTick + 190 ≤ m.tick then m.importFail else m

/-- What the pair has written to UPD.CTL is taken up. -/
def ctlTake (m : Mod) : Mod :=
  let t := m.upd.ctl
  if t = 0 then m
  else
    let m := m.onUpd fun x => { x with ctl := 0 }
    let m := if t.testBit 0 then m.exportDone else m
    let m := if t.testBit 1 then m.importOk else m
    let m := if t.testBit 2 then m.importFail else m
    if t.testBit 3 then m.updReject else m

/-- A probation begins (R469, R468). -/
def probationBegin (m : Mod) : Mod :=
  (((m.wr UPD.PROBATION 1).wr UPD.PROB_LEFT 1000).wr UPD.STATE 8).onUpd fun x => { x with failed := false, probTick := m.tick }

/-- The record of a fallback (R473). -/
def fallbackRecord (m : Mod) (r : Nat) : Mod := (m.inc UPD.FALLBACK_CNT).ev 0x06 err 0x1013 [vl16 r]

/-- A fallback without a reset (R473). -/
def fallbackNow (m : Mod) : Mod :=
  let m := (m.holdOrder.fallbackRecord m.upd.fallback).pairRestart m.boot.prevBank
  (m.wr BOOT.ACT_BANK m.boot.prevBank).importSnap.onUpd fun x => { x with phase := 7, fallback := 0 }

/-- A probation fails (R472). -/
def probationFail (m : Mod) : Mod :=
  ((m.updFail 0x1C).wr UPD.PROBATION 0).wr UPD.PROB_LEFT 0 |>.onUpd fun x => { x with failed := false, fallback := 0x1C }

/-- A probation passes, 10 s after the Hold release (R472). -/
def probationPass (m : Mod) : Mod :=
  if ¬ m.on UPD.PROBATION ∨ m.upd.failed ∨ m.tick < m.upd.probTick + 1000000 then m
  else
    let b := m.boot.bank
    let m := ((m.wr UPD.PROBATION 0).wr UPD.PROB_LEFT 0).wr BOOT.ACT_BANK b
    let m := (m.arbAdvance (m.byte (manifest b + 12))).ev 0x06 info 0x1010 [vl32 (m.rd UPD.NEW_VER)]
    ((m.wr UPD.RESULT 1).wr UPD.STATE (if m.session then 1 else 0)).onBoot fun x => { x with prevBank := b, onTrial := false }

/-- What updates do at a tick boundary, the TICK already advanced. The commit point of a handover lies DRAIN_LIM ticks after its entry, one
before boundary B (R93, Table 16-14). -/
def updBoundary (m : Mod) : Mod :=
  let m := m.decideOpens.ctlTake
  let m := if m.upd.phase = 1 ∧ m.upd.bTick ≤ m.tick + m.rd PRM.DRAIN_LIM + 1 then
      (((m.wr UPD.HANDOVER 1).wr PRM.DRAINING 1).ev 0x06 info 0x100D [vl32 (m.rd UPD.NEW_VER)]).onUpd fun x => { x with phase := 2 }
    else if m.upd.phase = 5 then m.handoverEnd.probationBegin
    else if m.upd.phase = 6 then m.handoverEnd
    else m
  let m := if m.upd.phase = 2 ∧ m.upd.bTick = m.tick + 1 then m.stateChange false else m
  let m := if m.on UPD.PROBATION ∧ m.upd.failed then m.probationFail else m
  let m := if m.upd.fallback ≠ 0 then m.fallbackNow else m
  if m.on UPD.PROBATION ∧ m.upd.probTick < m.tick ∧ (m.tick - m.upd.probTick) % 1000 = 0 then m.wr UPD.PROB_LEFT (m.rd UPD.PROB_LEFT - 1) else m

/-! ### ISO 14229-1 on the service port (R467) -/

/-- The service port, while SVC_CTRL names a controller. -/
def svcPort (m : Mod) : Option Nat := if m.rd UPD.SVC_CTRL < 12 then some (4 + m.rd UPD.SVC_CTRL) else none

/-- The service port holds the lock; another source does. -/
def svcHolds (m : Mod) : Bool := m.svcPort.any fun p => m.holds p 0xFF
def svcOther (m : Mod) : Bool := m.session && !m.svcHolds

/-- A request that needs the lock. (Log: PRESUMED 81, DEDUCED 150) -/
def udsGuard (m : Mod) (sid : Nat) (f : Mod → Mod) : Mod :=
  if m.svcPort.isNone then m
  else if m.svcOther then m.udsNo sid 0x21
  else if ¬ m.svcHolds then m.udsNo sid 0x33
  else f m

/-- A request that needs no lock: busyRepeatRequest while another source holds it (R467). (Log: DEDUCED 150) -/
def udsAny (m : Mod) (sid : Nat) (f : Mod → Mod) : Mod :=
  if m.svcPort.isNone then m else if m.svcOther then m.udsNo sid 0x21 else f m

/-- TesterPresent: the idle time of the service port's session starts anew (R466). -/
def udsPresent (m : Mod) (sub : Nat) : Mod :=
  if sub = 0 then ((if m.svcHolds then m.updHeard 0xFF else m).udsSay [0x7E, 0]) else m.udsNo 0x3E 0x12

/-- The answer to an operation: positive, or generalProgrammingFailure. -/
def udsResult (a : Mod × Nat) (sid : Nat) (yes : List Nat) : Mod := if a.2 = 1 then a.1.udsSay yes else a.1.udsNo sid 0x72

/-- DiagnosticSessionControl. (Log: PRESUMED 81, DESIGN CHOICE 82) -/
def udsSession (m : Mod) (sub : Nat) : Mod :=
  if sub = 1 then
    let m := if m.svcHolds then m.sessionEnd else m
    (m.onUds fun x => { x with prog := false, seed := none, download := none }).udsSay ([0x50, 1] ++ beBytes 4 Config.udsTiming)
  else if sub = 2 then (m.onUds fun x => { x with prog := true }).udsSay ([0x50, 2] ++ beBytes 4 Config.udsTiming)
  else m.udsNo 0x10 0x12

/-- ReadDataByIdentifier. -/
def udsRead (m : Mod) (did : Nat) : Mod :=
  let yes := fun (l : List Nat) => m.udsSay ([0x62] ++ beBytes 2 did ++ l)
  if did = 0xF18C then yes (m.bytes 0x10900008 8)
  else if did = 0xF195 then yes (beBytes 4 (m.fwVer m.boot.bank))
  else if did = 0xFD10 then yes [m.rd UPD.HOLDER_PORT, m.rd UPD.HOLDER_SLOT]
  else m.udsNo 0x22 0x31

/-- SecurityAccess, request seed. -/
def udsSeed (m : Mod) (seed : List Nat) : Mod :=
  if ¬ m.uds.prog then m.udsNo 0x27 0x7F
  else (m.onUds fun x => { x with seed := some seed }).udsSay ([0x67, 0x11] ++ seed)

/-- SecurityAccess, send key: the OPEN is decided at the end of the tick (R465). -/
def udsKey (m : Mod) (slot : Nat) (ok : Bool) : Mod :=
  match m.uds.seed, m.svcPort with
  | some _, some p =>
    let m := m.onUds fun x => { x with seed := none }
    if m.keyUsable slot ∧ ok then m.onUpd fun x => { x with opens := x.opens ++ [⟨p, 0xFF, none⟩] } else m.udsNo 0x27 0x35
  | _, _ => m.udsNo 0x27 0x24

/-- RoutineControl: `opt` the option bytes, target type first; `sig` the signature of a REVOKE verifies. (Log: DEDUCED 83) -/
def udsRoutine (m : Mod) (sub rid : Nat) (opt : List Nat) (sig : Bool) : Mod :=
  let yes := [0x71, sub] ++ beBytes 2 rid
  let tt := opt.headD 0
  if rid < 0xFF00 ∨ 0xFF03 < rid then m.udsNo 0x31 0x31
  else if sub = 3 then m.udsSay (yes ++ [m.rd UPD.RESULT])
  else if sub ≠ 1 then m.udsNo 0x31 0x12
  else if rid = 0xFF00 then udsResult (m.updErase tt) 0x31 yes
  else if rid = 0xFF01 then udsResult (m.updVerify tt) 0x31 yes
  else if rid = 0xFF02 then udsResult (m.updActivate (if m.rd UPD.TARGET < 2 then 0 else 1) tt) 0x31 yes
  else udsResult (m.updRevoke tt sig) 0x31 yes

/-- RequestDownload: to the base of the inactive bank or slot. -/
def udsDownload (m : Mod) (format addr : Nat) : Mod :=
  match (if format = 0x44 then [0, 1].find? fun tt => targetBase (m.inactive tt) = addr else none) with
  | some tt => (m.onUds fun x => { x with download := some (tt * 2 ^ 32, 1) }).udsSay [0x74, 0x20, 0x04, 0x02]
  | none => m.udsNo 0x34 0x31

/-- TransferData: the next block, by its counter. (Log: PRESUMED 81) -/
def udsTransfer (m : Mod) (counter : Nat) (l : List Nat) : Mod :=
  match m.uds.download with
  | none => m.udsNo 0x36 0x24
  | some (pos, c) =>
    if counter ≠ c ∨ 1024 < l.length then m.udsNo 0x36 0x73
    else
      let a := m.updWrite (pos / 2 ^ 32) (pos % 2 ^ 32) l
      let m := if a.2 = 1 then a.1.onUds fun x => { x with download := some (pos + l.length, (c + 1) % 256) } else a.1
      udsResult (m, a.2) 0x36 [0x76, c]

end Mod

/-! ### The commands -/

/-- OTP_PROGRAM_DONE (R459): the bits that did not take. -/
def execOtpProgramDone (stuck : Word) (s : State) : Out := s.next fun m => m.otpDone stuck.toNat

/-- DBG_AUTH_READ (R463): the fresh challenge. -/
def execDbgAuthRead (challenge : BitVec 128) (s : State) : Out :=
  s.next fun m => m.onSec fun x => { x with challenge := some (beBytes 16 challenge.toNat) }

/-- DBG_AUTH_WRITE (R463): whether the signature verifies under the slot's key. -/
def execDbgAuthWrite (slot : Fin 4) (ok : Bool) (s : State) : Out := s.next fun m => m.debugAuth slot ok

/-- TAP_INSTRUCTION (R463): 0 BYPASS, 1 IDCODE, 2 SAMPLE/PRELOAD, 3 EXTEST. -/
def execTapInstruction (i : Fin 4) (s : State) : Out := s.next fun m => m.tapTake i

/-- ERASE_DONE (R464). -/
def execEraseDone (s : State) : Out := s.next Mod.eraseDone

/-- VERIFY_DONE (R464): whether SIG verifies. (Log: DESIGN CHOICE 8) -/
def execVerifyDone (sig : Bool) (s : State) : Out := s.next fun m => m.verifyDone sig

/-- SESSION_TIMEOUT (R466). -/
def execSessionTimeout (s : State) : Out := s.next Mod.sessionTimeout

/-- DIAGNOSTIC_SESSION_CONTROL (R467). -/
def execDiagnosticSessionControl (sub : Byte) (s : State) : Out := s.next fun m => m.udsAny 0x10 fun m => m.udsSession sub.toNat

/-- ECU_RESET (R467). (Log: DEDUCED 84) -/
def execEcuReset (sub : Byte) (s : State) : Out :=
  s.next fun m => m.udsAny 0x11 fun m =>
    if sub.toNat = 1 then (m.udsSay [0x51, 1]).softReset else m.udsNo 0x11 0x12

/-- READ_DATA_BY_IDENTIFIER (R467). -/
def execReadDataByIdentifier (did : BitVec 16) (s : State) : Out := s.next fun m => m.udsAny 0x22 fun m => m.udsRead did.toNat

/-- REQUEST_SEED (R467): the fresh seed. -/
def execRequestSeed (seed : BitVec 128) (s : State) : Out := s.next fun m => m.udsAny 0x27 fun m => m.udsSeed (beBytes 16 seed.toNat)

/-- SEND_KEY (R465, R467): whether the signature verifies under the slot's key. -/
def execSendKey (slot : Fin 4) (ok : Bool) (s : State) : Out := s.next fun m => if m.svcPort.isNone then m else m.udsKey slot ok

/-- ROUTINE_CONTROL (R467). -/
def execRoutineControl (sub : Byte) (rid : BitVec 16) (opt : List Byte) (sig : Bool) (s : State) : Out :=
  s.next fun m => m.udsGuard 0x31 fun m => m.udsRoutine sub.toNat rid.toNat (opt.map (·.toNat)) sig

/-- REQUEST_DOWNLOAD (R467). -/
def execRequestDownload (format : Byte) (addr size : Word) (s : State) : Out :=
  s.next fun m => m.udsGuard 0x34 fun m => if size.toNat = 0 then m.udsNo 0x34 0x31 else m.udsDownload format.toNat addr.toNat

/-- TRANSFER_DATA (R467). -/
def execTransferData (counter : Byte) (data : List Byte) (s : State) : Out :=
  s.next fun m => m.udsGuard 0x36 fun m => m.udsTransfer counter.toNat (data.map (·.toNat))

/-- REQUEST_TRANSFER_EXIT (R467). -/
def execRequestTransferExit (s : State) : Out :=
  s.next fun m => m.udsGuard 0x37 fun m =>
    if m.uds.download.isNone then m.udsNo 0x37 0x24 else (m.onUds fun x => { x with download := none }).udsSay [0x77]

/-- TESTER_PRESENT (R467). -/
def execTesterPresent (sub : Byte) (s : State) : Out :=
  s.next fun m => m.udsAny 0x3E fun m => m.udsPresent sub.toNat

/-- HANDOVER_START (R469). -/
def execHandoverStart (s : State) : Out := s.next Mod.handoverStart

/-- EXPORT_DONE (R469): the pair's write has taken effect. (Log: DESIGN CHOICE 9) -/
def execExportDone (s : State) : Out := s.next Mod.exportDone

/-- IMPORT_OK (R469, R473). -/
def execImportOk (s : State) : Out := s.next Mod.importOk

/-- IMPORT_FAIL (R470, R473). -/
def execImportFail (s : State) : Out := s.next Mod.importFail

/-- CTL_REJECT (R472). -/
def execCtlReject (s : State) : Out := s.next Mod.updReject

/-- EXPORT_TIMEOUT (R470). -/
def execExportTimeout (s : State) : Out := s.next Mod.exportTimeout

/-- IMPORT_TIMEOUT (R470). -/
def execImportTimeout (s : State) : Out := s.next Mod.importTimeout

/-- PROBATION_PASS (R472). -/
def execProbationPass (s : State) : Out := s.next Mod.probationPass

end Sys2Proof.Machine
end

