-- ==== Sys2Proof/Machine/Start.lean ====
section
/-! DEFINITION. Resets and the start sequence (chapters 13 and 16): what each reset keeps (Table 13-8), steps S0 to S10, rescue,
factory defaults, the end of the start. -/
namespace Sys2Proof.Machine
open Reg

namespace Mod

/-! ### What a reset keeps (R15, R161, R390) -/

/-- The reset class, the page and the offset of a field key. -/
def keyClass (k : Nat) : Nat := k % 4
def keyPage (k : Nat) : Nat := k / 524288
def keyOff (k : Nat) : Nat := k / 128 % 4096

/-- The pages of the dice and blocks that a Warm reset does not restart (R161). -/
def heldPage (pg : Nat) : Bool := [0x10, 0x11, 0x12, 0x13, 0x15, 0x16, 0x18, 0x19, 0x1A].contains pg

/-- The register entries that a Warm reset keeps, and those that a start after Shelf keeps. -/
def warmRegs (m : Mod) : SMap Nat := m.regs.filter fun e => keyClass e.1 ≠ 0 || (heldPage (keyPage e.1) && decide (0x100 ≤ keyOff e.1))
def keepRegs (m : Mod) : SMap Nat := m.regs.filter fun e => keyClass e.1 = 2

/-- The bytes at `lo` to `hi - 1`. -/
def memRange (m : Mod) (lo hi : Nat) : SMap Byte := m.mem.filter fun e => decide (lo ≤ e.1) && decide (e.1 < hi)

/-- The flash. -/
def flash (m : Mod) : SMap Byte := m.memRange 0x10000000 0x10A00000

/-- A start begins at S0. -/
def startBegin (m : Mod) (kind : Nat) : Mod :=
  m.onBoot fun x => { x with step := 0, altStep := 15, kind := kind, defaults := false, hb := 0, counting := false, resetDue := 0,
                             cfgSlot := none }

/-- A Cold reset (R371): every field and memory but the flash and the OTP. The number of the latest archive snapshot is read
back from the archive. -/
def coldReset (m : Mod) : Mod :=
  let last := (List.range 32).foldl (fun a i => match m.snapNumber i with
    | some n => Nat.max a (n + 1)
    | none => a) 0
  let n : Mod := { mem := m.flash, sec := { otp := m.sec.otp, cak := m.sec.cak }, evt := { snapNo := last } }
  n.secShow

/-- The order of the latest collisions, which outlives a reset with the registers of the table (R283). -/
def collKept (m : Mod) : SMap CanX :=
  (m.cans.map fun e => (e.1, ({ coll := e.2.coll } : CanX))).filter fun e => e.2 ≠ {}

/-- The end of Shelf (R382): wake `w`, at RC count `c0`. -/
def shelfEnd (m : Mod) (w : Wake) (c0 : Nat) : Mod :=
  let t := (m.tickEntry + m.spanOf c0) % 2 ^ 48
  let m := (m.wakeRecord w t).stampWakes t
  let saved := fun (x : ChanX) => ({ th1 := x.th1, th2 := x.th2, clampB := x.clampB, retryPause := x.retryPause } : ChanX)
  let n : Mod :=
    { regs := m.keepRegs, mem := m.flash ++ m.memRange 0x23000000 0x23004000, evt := { snapNo := m.evt.snapNo },
      frm := { tick := m.tick }, chans := (m.chans.map fun e => (e.1, saved e.2)).filter fun e => e.2 ≠ {},
      quads := (m.quads.map fun e => (e.1, ({ saved := e.2.saved } : QuadX))).filter fun e => e.2 ≠ {},
      fio := { ov := m.fio.ov, oc := m.fio.oc, th := m.fio.th, ol := m.fio.ol }, cans := m.collKept, trxs := m.trxs, pwr := { marks := m.pwr.marks, wakeEv := m.pwr.wakeEv, cal := m.pwr.cal },
      boot := { prevBank := m.boot.prevBank, bank := m.boot.bank }, sec := { otp := m.sec.otp, cak := m.sec.cak } }
  ((n.wr PWR.STATE 0).secShow.snapRestore).startBegin 1

/-- PoDL power ends Shelf; where AON retained memory was lost it is a Cold reset (R382). -/
def shelfWake (m : Mod) (p c0 : Nat) : Mod :=
  if m.pstate ≠ 3 then m
  else if m.pwr.memLost then m.coldReset
  else
    let m := if m.pwr.wake.isNone then m.busWakeRecord p true else m
    m.shelfEnd (m.pwr.wake.getD ⟨p, 2, 0⟩) c0

/-- A step of the start fails (R443): 1 its condition, 2 the watchdog, 3 a reset. A Warm reset follows. (Log: DEDUCED 97) -/
def stepFail (m : Mod) (cause : Nat) : Mod :=
  let k := Nat.min m.boot.step 10
  let m := (((m.wr BOOT.REACHED k).wr BOOT.LAST_FAIL k).inc BOOT.FAIL_CNT).ev 0x05 err 0x1001 [sj k, sj cause]
  m.onBoot fun x => { x with step := 15, counting := false, resetDue := if x.resetDue = 0 then 3 else x.resetDue }

/-- A start is under way: a step runs, or S10 has passed and the hundredth heartbeat has not. -/
def starting (m : Mod) : Bool := decide (m.boot.step ≤ 10) || m.boot.counting

/-- A Warm reset now is a failed probation (R471). -/
def probationLost (m : Mod) : Bool :=
  m.on UPD.PROBATION || decide (2 ≤ m.upd.phase ∧ m.upd.phase ≤ 5) || (m.boot.onTrial && decide (m.boot.bank ≠ m.boot.prevBank))

/-- The failed probation in the start that follows a Warm reset (R473). -/
def fallbackReset (m : Mod) : Mod :=
  (((m.updFail 0x1C).wr UPD.PROBATION 0).wr BOOT.ACT_BANK m.boot.prevBank).fallbackRecord 0x1C
    |>.onBoot fun x => { x with onTrial := false, importDue := true }

/-- Results and commands that a Warm reset clears although their block runs on (rows 12 and 13 of Table 13-8). -/
def warmDiag (m : Mod) : Mod :=
  let m := forN 4 (fun (m : Mod) q => forN 20 (fun (m : Mod) c =>
    ((((m.wr (HQ.DIAG_CODE q c) 0).wr (HQ.DIAG_BUSY q c) 0).wr (HQ.DIAG_KIND q c) 0).wr (HQ.V_MEAS q c) 0).onChan q c fun x =>
      { x with diag := {} }) m) m
  forN 8 (fun (m : Mod) k => m.wr (MOT.STOPPED k) 0) m

/-- A Warm reset (R15, R94, R160, R389, R390, R445). (Log: DEDUCED 97) -/
def warmReset (m : Mod) : Mod :=
  let m := if m.starting then m.stepFail 3 else m
  let lost := m.probationLost
  let hold := decide (m.boot.resetDue = 1) || m.boot.holdRel || decide (3 ≤ m.upd.phase)
  let t := m.tick
  let n := m.prm.open_.length
  let m : Mod :=
    { m with regs := m.warmRegs, frm := { tick := t }, prm := { resetReport := true }, dia := {}, pair := {}, img := {},
             cans := m.collKept, lins := [], t1s := [], nms := [], vnk := {}, bbs := [], ets := {}, pwr := { cal := m.pwr.cal },
             evt := { m.evt with scrubTurn := false, scrubFw := 0, scrubCfg := 0, scrubAcc := 0xFFFFFFFF },
             sec := { m.sec with prog := none }, uds := {}, upd := { snap := m.upd.snap }, poolUsed := [] }
  let m := (((m.wr PRM.RESET_OPEN n).wr AON.TICK_ENTRY_LO (t % 2 ^ 32)).wr AON.TICK_ENTRY_HI (t / 2 ^ 32)).wr BOOT.WARM 1
  let m := (((m.wr PAIR.MODE 0).wr PWR.STATE 0).warmDiag.secShow.startBegin 2).onBoot fun x => { x with holdRel := hold }
  if lost then m.fallbackReset else m

/-! ### Rescue (R444, R347) -/

/-- The windows of R347. -/
def defaultWindows (m : Mod) : Mod :=
  let m := forN 64 (fun (m : Mod) w => (m.wr (VNK.WIN_EN w) 0).wr (VNK.RD_PREF w) 0) m
  let m := forN 2 (fun (m : Mod) w =>
    (((m.wr (VNK.WIN_EN w) 1).wr (VNK.WIN_TO w) 50).wr (VNK.INIT_MASK w) 0xFFFF).wr (VNK.WIN_WR w) 0) m
  let m := (((m.wr (VNK.WIN_TYPE 0) 0).wr (VNK.WIN_BASE 0) 0x40000000).wr (VNK.WIN_SIZE 0) 0xE000).wr (VNK.WIN_RD 0) 1
  forN 2 (fun (m : Mod) n => m.wr (BB.SEC_EN n) 1) ((m.wr (VNK.WIN_TYPE 1) 5).wr VNK.LEARN 1)

/-- Every page key is closed (R483). -/
def closeKeys (m : Mod) : Mod := forN 64 (fun (m : Mod) pg => if mapped pg then m.wr (COM.KEY pg) 0 else m) m

/-- A port is out of service (R450): its domain sleeps. -/
def portOut (m : Mod) (p : Nat) : Mod :=
  ((m.wrBit BOOT.PORT_OOS p true).wrBit PWR.DOM_STAT p false).ev 0x05 err 0x1005 [sj p]

/-- A port is brought up to the state that its REQ names, or keeps the state of its engine; `ok`: it is reached in time.
(Log: DEDUCED 99) -/
def portUp (m : Mod) (p : Nat) (ok : Bool) : Mod :=
  let pg := portPage p
  let m := if (m.engineOf p).isSome ∨ m.on (TRX.BUSY pg) then m
    else m.trxRequest p (m.rd (TRX.REQ pg)) (if m.boot.kind = 1 then 3 else 2)
  if ok then (if (m.trx p).target.isSome then m.trxDone p else m) else m.portOut p

/-- Rescue (R444): only the backbone comes up, where a PLL has locked. -/
def rescue (m : Mod) (k ports : Nat) (pll : Bool) : Mod :=
  let m := ((m.wr BOOT.RESCUE 1).ev 0x05 crit 0x1003 [sj k]).defaultWindows
  let m := if pll then (m.portUp 0 (ports.testBit 0)).portUp 1 (ports.testBit 1) else m
  m.closeKeys.onBoot fun x => { x with step := 15 }

/-! ### S0 to S4 (Table 16-1) -/

/-- The next step begins (R442). -/
def goStep (m : Mod) (k : Nat) : Mod := (m.wr BOOT.REACHED k).onBoot fun x => { x with step := k }

/-- The running step takes its alternate form. -/
def alt (m : Mod) : Bool := m.boot.altStep = m.boot.step

/-- S0 in its alternate form: AON retained memory other than the start record is empty. -/
def aonEmpty (m : Mod) : Mod :=
  let m := { m with regs := m.regs.filter fun e => keyClass e.1 ≠ 2 || keyPage e.1 = 0x05 }
  forN 4 (fun m q => (m.protClear q).onQuad q fun x => { x with saved := false }) m

/-- S0: the start record of R443, the saved protection blocks of R423. -/
def stepAon (m : Mod) (r : StepRes) : Mod :=
  let k := m.rd BOOT.REACHED
  if k ≤ 10 ∧ m.rd BOOT.ALT_TRY = k then m.rescue k r.ports.toNat r.pass
  else
    let m := m.wr BOOT.RESCUE 0
    let m := if k ≤ 10 then
        ((((m.wr BOOT.ALT_TRY k).wrBit BOOT.ALT k true).onBoot fun x => { x with altStep := k }).ev 0x05 warn 0x1002 [sj k])
      else m
    let m := if m.alt then m.aonEmpty else m
    (forN 4 (fun m q => if (m.quad q).saved ∧ r.aonBad.getLsbD q then m.protFail q else m) m).goStep 1

/-- S1: the logic source. -/
def stepSupply (m : Mod) (r : StepRes) : Mod :=
  if m.boot.kind = 2 ∧ ¬ m.alt then m.goStep 2
  else
    let m := if m.alt then m.onPwr fun x => { x with vpodBlocked := true } else m
    if r.src = 0 ∨ (m.alt ∧ r.src ≠ 2) then m.stepFail 1 else ((m.wr PWR.SRC r.src).wr PWR.VBL_LOW 0).goStep 2

/-- S2: the clocks. -/
def stepClocks (m : Mod) (r : StepRes) : Mod :=
  if ¬ r.pass then m.stepFail 1
  else if m.alt then
    ((((m.wr BOOT.INT_OSC 1).wr CLK.INT_OSC 1).wr CLK.PLL_PAIR 1).wr CLK.PLL_SEQ 1).goStep 3
  else m.clocksUp.goStep 3

/-- S3: the memory test loses the contents of SRAM, the object store and the tile copies; after a Warm reset the handover region
at the top of SRAM is read only (R445). -/
def stepMemory (m : Mod) (r : StepRes) : Mod :=
  let m := m.eraseMem 0x20000000 (if m.boot.kind = 2 then 0x1E0000 else 0x200000)
  let m := (m.eraseMem 0x21000000 0x80000).eraseMem 0x22000000 0x80000
  if r.pass then m.goStep 4 else m.stepFail 1

/-- S4: the injection test (R413). -/
def stepComparator (m : Mod) (r : StepRes) : Mod :=
  let m := m.injResult (r.inj.map fun p => (p.1.val, p.2.val))
  if r.inj.isSome then m.stepFail 1 else m.goStep 5

/-! ### S5 and S6 (R446, R447, R425) -/

/-- Whether the signature of a bank or slot verifies. -/
def sigOf (r : StepRes) (k : Nat) : Bool := if k = 0 then r.sigA else r.sigB

/-- S5: the firmware. -/
def stepFirmware (m : Mod) (r : StepRes) : Mod :=
  let b := if m.alt then 1 - m.rd BOOT.ACT_BANK else m.rd BOOT.ACT_BANK
  match m.fwCheck b (sigOf r b) with
  | (0, _) =>
    let m := (m.wr BOOT.ACT_BANK b).pairRestart b
    (m.onBoot fun x => { x with onTrial := x.onTrial && decide (b ≠ x.prevBank) }).goStep 6
  | (c, k) => ((m.wr BOOT.S5_CHECK c).ev 0x05 err 0x1007 [sj b, sj c, vl16 k]).stepFail 1

/-- The start goes on as a factory-default start. -/
def factory (m : Mod) : Mod :=
  ((m.wr SYS.CFG_DEFAULT 1).wr BOOT.ADOPT 0).onBoot fun x => { x with defaults := true, cfgSlot := none }

/-- One slot is checked at S6: the check it fails, 0 none, which is recorded. -/
def slotCheck (m : Mod) (s : Nat) (sig : Bool) : Mod × Nat :=
  match m.cfgCheck (slotBase s) sig (m.fwVer m.boot.bank) 13 with
  | 0 => (m, 0)
  | c =>
    let m := ((m.wr BOOT.CFG_SLOT s).wr BOOT.CFG_CHECK c).ev 0x05 warn 0x100E [sj s, sj c]
    (if c = 13 then m.ev 0x09 err 0x0E09 [] else m, c)

/-- A slot passes: its image is loaded by the steps that follow. -/
def slotTake (m : Mod) (s : Nat) : Mod :=
  ((m.wr BOOT.ACT_CFG s).wrB BOOT.ADOPT ((m.byte (slotBase s + 21)).testBit 1)).onBoot fun x => { x with cfgSlot := some s }

/-- S6: the configuration. -/
def stepConfig (m : Mod) (r : StepRes) : Mod :=
  let none_ := fun (m : Mod) (s c : Nat) => m.factory.ev 0x08 err 0x0F10 [sj s, sj c]
  let s := m.rd BOOT.ACT_CFG
  if m.alt then (none_ m s 0).goStep 7
  else
    let a := m.slotCheck s (sigOf r s)
    if a.2 = 0 then (a.1.slotTake s).goStep 7
    else
      let b := a.1.slotCheck (1 - s) (sigOf r (1 - s))
      if b.2 = 0 then (b.1.slotTake (1 - s)).goStep 7 else (none_ b.1 (1 - s) b.2).goStep 7

/-! ### Image writes (R449, R457) -/

/-- An entry of a REG section, at `e`. -/
def regEntry (m : Mod) (e : Nat) : Mod :=
  let a := m.load e 4
  m.wordWrite ((a - 0x40000000) / 0x1000) (a % 0x1000) (m.load (e + 4) 4) (m.load (e + 8) 4) .vinko

/-- A setting of the word did not take the entry's value: its block has refused the write (R449). (Log: DEDUCED 98) -/
def entryRefused (before after : Mod) (e : Nat) : Bool :=
  let a := before.load e 4
  let pg := (a - 0x40000000) / 0x1000
  let off := a % 0x1000
  pg ≠ 0x3E && !(decide (0x30 ≤ pg ∧ pg ≤ 0x37) && decide (0xA00 ≤ off)) &&
  (fieldsAt pg off).any fun f => (f.acc = .rw || f.acc = .rwl) &&
    after.rd f ≠ before.newVal f (before.load (e + 4) 4) (before.load (e + 8) 4)

/-- An entry of REG8: a refused write is counted and reported. (Log: DEDUCED 98) -/
def reg8Entry (m : Mod) (e : Nat) : Mod :=
  let n := m.regEntry e
  if m.entryRefused n e then (n.inc BOOT.REGW_REJ).ev 0x05 warn 0x1008 [sj32 (m.load e 4)] else n

/-- The read-only Warm-class fields of a page that record what has passed, which no later act of the block brings up to date; the others
show what it holds, applies or measures, as Table 13-8 keeps it (R161, R390). (Log: DEDUCED 132) -/
def pageRecords (pg : Nat) : List Fld :=
  if 0x10 ≤ pg ∧ pg < 0x14 then
    let q := pg - 0x10
    [HQ.FEED_VMIN q, HQ.CMD_REJ_CH q, HQ.CMD_REJ_CAUSE q, HQ.TIE_CH q, HQ.TIE_PART q, HQ.TIE_TICK16 q, HQ.QDISS q, HQ.FEED_MEAN q,
     HQ.IMBAL q, HQ.SHARE q] ++ (List.range 20).map (fun c => HQ.I_ON q c) ++
    (if q = 0 then [HQ.MOD_I_MEAN, HQ.MOD_ESTIMATE, HQ.MOD_BUDGET] else [])
  else if pg = 0x15 then [MOT.REJ_BR, MOT.REJ_CAUSE] ++ (List.range 8).flatMap fun k => [MOT.CUR_STALL k, MOT.HALL_STALL k]
  else if pg = 0x16 then
    [FIO.RES_CH, FIO.RES_KIND, FIO.RES_CAUSE, FIO.RES_VALUE, FIO.RES_VALID] ++
    (List.range 8).flatMap fun j => [FIO.CI_PERIOD j, FIO.NWIN j, FIO.STALE j, FIO.SAT j]
  else if pg = 0x18 then [LED.MIN_DROP] ++ (List.range 2).flatMap fun i => [LED.NB_SHORT i, LED.NB_SKIP i, LED.NB_LOW i]
  else if pg = 0x1A then [CLR.XF_NACK]
  else []

/-- What an image's silence resets on a page that runs on (R161): its settings, event bits, counts and records. -/
def pageSettings (pg : Nat) : List Fld :=
  ((List.range 960).flatMap fun i => (fieldsAt pg (0x100 + 4 * i)).filter fun f => f.cls = .warm && f.acc ≠ .ro && f.acc ≠ .wo) ++
  pageRecords pg

/-- After a Warm reset the fields of a page that runs on take their reset values before the image writes them, but for the program of an
engine that is Running or Paused (R227). (Log: DEDUCED 132) -/
def pageReset (m : Mod) (pg : Nat) : Mod :=
  let kept := fun (f : Fld) => pg = 0x19 && decide (0x800 ≤ f.off) && decide (m.rd (TOP.STATE ((f.off - 0x800) / 0x200)) % 3 ≠ 0)
  if m.boot.kind = 2 then (pageSettings pg).foldl (fun m f => if kept f then m else m.wr f f.rst) m else m

/-- The outputs of Frame follow their cleared commands. -/
def framesFollow (m : Mod) (q : Nat) : Mod :=
  forN 20 (fun m c => if m.rd (HQ.OWN_EFF q c) = 0 ∧ m.lead q c = c then m.drive q c false else m) m

/-! ### S7 (R448, R161, R165) -/

/-- The milliseconds over which the models decay after Shelf. -/
def shelfMs (m : Mod) (count temp : Nat) : Nat := (m.spanOf count - uncOf (m.spanOf count) (m.deltaT temp)) / 100

/-- The microcode of a quadrant: a running one is kept. -/
def stepQuad (m : Mod) (r : StepRes) (q : Nat) : Mod :=
  let ok := !r.ucodeBad.getLsbD q
  if m.on (HQ.UCODE q) then (if ok then m else (m.wrBit BOOT.UCODE_FAIL q true).ev 0x05 err 0x1006 [sj q])
  else (m.protBack q (m.shelfMs r.span.toNat r.temp.toNat) false).ucodeLoad q (m.bankUcodeVer m.boot.bank) ok

/-- Whether an entry of REG7 addresses a quadrant whose microcode failed. (Log: DEDUCED 101) -/
def reg7Skips (m : Mod) (e : Nat) : Bool :=
  (List.range 4).any fun q => (m.load e 4 - 0x40000000) / 0x1000 = 0x10 + q && m.bit BOOT.UCODE_FAIL q

/-- The entries of REG7 that S7 writes. -/
def reg7Entries (m : Mod) : List Nat :=
  match m.boot.cfgSlot with
  | none => []
  | some b => (m.entries (slotBase b) 1).filter fun e => !m.reg7Skips e

/-- S7: the hedge microcode, then REG7 but for the quadrants that failed. (Log: DEDUCED 101) -/
def stepUcode (m : Mod) (r : StepRes) : Mod :=
  let m := if m.alt then m.factory else m
  let m := forN 4 (fun (m : Mod) q => m.stepQuad r q) m
  let m := (forN 4 (fun (m : Mod) q => m.pageReset (0x10 + q)) m).pageReset 0x15
  let m := m.reg7Entries.foldl regEntry m
  let m := if m.boot.kind = 2 then forN 4 framesFollow m else m
  m.goStep 8

/-! ### S8 (R449) -/

/-- Empty slack rods for the ticks after `t`. -/
def slackInit (m : Mod) (base len t : Nat) : Mod :=
  forN len (fun m j => m.writeRod (base + (t + 1 + j) % len) (slackRod (base + (t + 1 + j) % len) (t + 1 + j) [])) m

/-- A tick table of the image. -/
def tableLoad (m : Mod) (e : Nat) : Mod :=
  let t := m.byte e
  if 1 < t then m
  else
    let m := if t = 0 then m.wr FRM.GEN0 (m.byte (e + 1)) else m.wr FRM.GEN1 (m.byte (e + 1))
    forN 100 (fun m p =>
      (m.wr (FRM.TAB_SA t p) (m.load (e + 4 + 4 * p) 2)).wr (FRM.TAB_SB t p) (m.load (e + 4 + 4 * p + 2) 2)) m

/-- An entry of the image that the alternate form of S8 leaves out: TOP programs, Vinko windows, BRG. -/
def s8Omits (a : Nat) : Bool :=
  let pg := (a - 0x40000000) / 0x1000
  (pg = 0x19 && decide (0x800 ≤ a % 0x1000)) || (pg = 0x3E && decide (0x400 ≤ a % 0x1000)) || pg = 0x3D

/-- The image at `b` is loaded. -/
def imageLoad (m : Mod) (b : Nat) (alt : Bool) : Mod :=
  let m := (m.entries b 0x10).foldl (fun m e => m.writeRod (m.load e 2 % 1024) (m.bytes e 256)) m
  let m := m.slackInit (m.imgField b FRM.SLACK_BASE) (m.imgField b FRM.SLACK_LEN) m.tick
  let m := (m.entries b 0x11).foldl tableLoad m
  let budget := ((m.entries b 0x12).flatMap fun e => (List.range 100).map fun p => (p, m.load (e + 2 * p) 2)).foldl
    (fun l x => SMap.set 0 l x.1 x.2) ([] : SMap Nat)
  let wire := (m.entries b 0x15).map fun e => (m.load e 4 % 2 ^ 30, m.byte (e + 4), m.load (e + 6) 2)
  let m := { m with img := { budget := budget, lanes := (m.entries b 0x13).map m.laneOf, wire := wire,
                             routes := if alt then [] else (m.entries b 0x14).map m.routeOf } }
  let m := (m.entries b 0x16).foldl (fun m e => m.setBytes (objAddr (m.load e 2 % 4096)) (m.bytes (e + 4) 80)) m
  let m := ((m.entries b 2).filter fun e => !alt || !s8Omits (m.load e 4)).foldl reg8Entry m
  if alt then m.defaultWindows else m

/-- The factory defaults of Table 15-3 that S8 sets. -/
def defaultLoad (m : Mod) : Mod :=
  let m := ((m.slackInit (m.rd FRM.SLACK_BASE) (m.rd FRM.SLACK_LEN) m.tick).wr PRM.EN 0).defaultWindows
  forN 12 (fun m n => (m.canBuild n).canMode n 2 false) m

/-- S8: tables and registers. -/
def stepTables (m : Mod) : Mod :=
  let alt := m.alt
  let m := [0x16, 0x18, 0x19, 0x1A].foldl pageReset m
  let m := match m.boot.cfgSlot with
    | some s => m.imageLoad (slotBase s) alt
    | none => m.defaultLoad
  let m := if m.boot.kind = 1 then m.relock else m
  (if m.boot.kind = 0 then m else forN 32 (fun m i => m.rawShow i) (forN 8 (fun m k => m.lsApply k) m)).goStep 9

/-! ### S9 (R450, R365) -/

/-- The REG9 entries of port `p`: its TRX_CTL, and NM_CTL of its engine. (Log: DEDUCED 59) -/
def portEntries (m : Mod) (p : Nat) : List Nat :=
  match m.boot.cfgSlot with
  | none => []
  | some s => (m.entries (slotBase s) 3).filter fun e =>
      let a := m.load e 4
      a = regAddr (portPage p) 0x200 || ((portEngine p).any fun n => a = regAddr 0x3F (NM.HOLD n).off || a = regAddr 0x3F (NM.NM_EN n).off)

/-- One port at S9. -/
def stepPort (skip : Option Nat) (ports : Nat) (m : Mod) (p : Nat) : Mod :=
  let m := m.wr BOOT.S9_PORT p
  if skip = some p ∨ (p < 4 ∧ m.on BOOT.INT_OSC) then m.portOut p
  else
    let m := (m.portEntries p).foldl regEntry m
    let m := if m.boot.defaults then
        m.wr (TRX.REQ (portPage p)) (if p < 2 then 3 else if p < 4 then 0 else if p < 16 then 2 else 1)
      else m
    m.portUp p (ports.testBit p)

/-- The port that the alternate form of S9 leaves out. -/
def s9Skip (m : Mod) : Option Nat := if m.alt then some (m.rd BOOT.S9_PORT) else none

/-- S9 hangs at port `p`, whose settings have been written; of the ports before it `ports` have reached their states (R450). -/
def portsHang (m : Mod) (p ports : Nat) : Mod :=
  if m.boot.step ≠ 9 then m
  else
    let m := (forN p (stepPort m.s9Skip ports) m).wr BOOT.S9_PORT p
    (m.portEntries p).foldl regEntry m

/-- S9: transceivers and PHYs in ascending order, then the first states of the engines. (Log: DEDUCED 99) -/
def stepPorts (m : Mod) (ports : Nat) : Mod :=
  let m := (forN 24 (stepPort m.s9Skip ports) m).wr BOOT.S9_PORT 0x1F
  (forN 22 (fun m n => m.nmFirst n) m).goStep 10

/-! ### S10 (R451, R389, R425, R473, R483) -/

/-- TICK at the start of the Frame (R389). (Log: DEDUCED 77, DEDUCED 100) -/
def startTick (m : Mod) (r : StepRes) : Mod :=
  if m.boot.kind = 0 then m
  else if m.boot.kind = 1 ∨ m.on BOOT.INT_OSC then m.rcSpan r.span.toNat r.temp.toNat
  else m.setSpan r.span.toNat 1 false false

/-- Safe is asserted with every SAFE field 0 (Table 15-3). -/
def defaultSafe (m : Mod) : Mod :=
  let m := forN 4 (fun (m : Mod) q =>
    if m.rd (HQ.UCODE q) = 0 then m
    else
      let m := (m.onQuad q fun x => { x with frozen := [] }).quadSafe q
      let m := forN 20 (fun m c => m.onChan q c fun x => { x with safeSel := 0 }) m
      let m := [2 * q, 2 * q + 1].foldl (fun m k => m.onBr k fun x => { x with safeSel := 0 }) m
      forN 20 (fun m c => if m.lead q c = c ∧ m.rd (HQ.OWN_EFF q c) = 2 then m.ownerChanged q c else m) m) m
  let m := forN 48 (fun m n => m.onSink n fun x => { x with safeSel := 0 }) (m.blockSafe ledW)
  forN 8 (fun m k => (m.onLs k fun x => { x with safeSel := 0 }).lsApply k) (m.blockSafe fioW)

/-- Split mode begins (R415). -/
def splitBegin (m : Mod) : Mod :=
  match m.boot.cfgSlot with
  | some s => if (m.byte (slotBase s + 21)).testBit 0 then (m.wr PAIR.MODE 1).ev 0x09 warn 0x0E08 [] else m
  | none => m

/-- Lockdown of the pages that SYS names (R483). -/
def lockPages (m : Mod) : Mod :=
  forN 64 (fun (m : Mod) pg =>
    if mapped pg ∧ (if pg < 32 then m.bit SYS.LOCKDOWN0 pg else m.bit SYS.LOCKDOWN1 (pg - 32)) then m.wr (COM.LOCKDOWN pg) 1 else m) m

/-- S10 begins: the Frame is told to run; it starts at the next boundary. -/
def frameStart (m : Mod) (r : StepRes) : Mod :=
  let m := (m.splitBegin.closeKeys.lockPages).startTick r
  let m := m.slackInit (m.rd FRM.SLACK_BASE) (m.rd FRM.SLACK_LEN) m.tick
  let m := if m.alt then forN 2 (fun (m : Mod) t => forN 100 (fun (m : Mod) p =>
      (m.wr (FRM.TAB_SA t p) 0x3FF).wr (FRM.TAB_SB t p) 0x3FF) m) m else m
  let m := if m.boot.defaults then m.defaultSafe else m
  let m := ((m.wr FRM.RUN 1).onFrm fun x => { x with startPend := true }).onBoot fun x => { x with counting := true, hb := 0 }
  if m.boot.importDue then m.importSnap.onBoot fun x => { x with importDue := false } else m

/-- A step of the start completes (R441). S10 passes with the first heartbeat. -/
def startStep (m : Mod) (r : StepRes) : Mod :=
  match m.boot.step with
  | 0 => m.stepAon r
  | 1 => m.stepSupply r
  | 2 => m.stepClocks r
  | 3 => m.stepMemory r
  | 4 => m.stepComparator r
  | 5 => m.stepFirmware r
  | 6 => m.stepConfig r
  | 7 => m.stepUcode r
  | 8 => m.stepTables
  | 9 => (m.stepPorts r.ports.toNat).frameStart r
  | 10 => if m.boot.hb = 0 then m else m.onBoot fun x => { x with step := 15 }
  | _ => m

/-- The start is complete (R442): the hundredth consecutive heartbeat has been issued; `ms` since S0. -/
def startComplete (m : Mod) (ms : Nat) : Mod :=
  if ¬ m.boot.counting ∨ m.boot.hb < 100 then m
  else
    let m := ((m.wr BOOT.REACHED 0xF).wr BOOT.ALT_TRY 0xF).inc BOOT.START_CNT
    let m := ((m.sat BOOT.START_MS ms).ev 0x05 info 0x1004 [vl16 (Nat.min ms 65535)]).onPwr fun x => { x with vpodBlocked := false }
    let m := m.onBoot fun x => { x with step := 15, counting := false }
    if m.boot.onTrial then m.probationBegin.onBoot fun x => { x with onTrial := false } else m

end Mod

/-! ### The commands -/

/-- COLD_RESET (R371). -/
def execColdReset (s : State) : Out := s.next Mod.coldReset

/-- SHELF_WAKE (R382): the backbone port and the RC count at the wake. -/
def execShelfWake (p : Fin 2) (atWake : BitVec 40) (s : State) : Out := s.next fun m => m.shelfWake p atWake.toNat

/-- WARM_RESET (R445). -/
def execWarmReset (s : State) : Out := s.next Mod.warmReset

/-- START_STEP_COMPLETE (R441). (Log: DESIGN CHOICE 8) -/
def execStartStepComplete (r : StepRes) (s : State) : Out := s.next fun m => m.startStep r

/-- START_WATCHDOG (R443, R450). -/
def execStartWatchdog (port : Fin 24) (ports : BitVec 24) (s : State) : Out :=
  s.next fun m => if m.boot.step ≤ 10 then (m.portsHang port ports.toNat).stepFail 2 else m

/-- START_COMPLETE (R442). -/
def execStartComplete (ms : BitVec 16) (s : State) : Out := s.next fun m => m.startComplete ms.toNat

end Sys2Proof.Machine
end

