-- ==== Sys2Proof/Machine/PairMem.lean ====
section
/-! DEFINITION. The pair's accesses (R403, R404, R406, R484 to R486): physical memory protection, the access paths of Table 14-4, the
undo, commit and replay logs, the stall for a sleeping domain. -/
namespace Sys2Proof.Machine
open Reg

/-! ### Physical memory protection (Table 14-1) -/

/-- The bytes that region `i` covers: the first and the one past the last; none while it is off. -/
def CoreX.pmpRange (c : CoreX) (i : Nat) : Nat × Nat :=
  let a := SMap.get 0 c.pmpaddr i
  match fld (SMap.get 0 c.pmpcfg i) 4 3 with
  | 1 => (if i = 0 then 0 else SMap.get 0 c.pmpaddr (i - 1) * 4, a * 4)
  | 2 => (a * 4, a * 4 + 4)
  | 3 =>
    let k := a ^^^ (a + 1)
    ((a - (a &&& k)) * 4, (a - (a &&& k) + k + 1) * 4)
  | _ => (0, 0)

/-- What the protection says of an access of `size` bytes, from region `i` on: the lowest region that holds a byte of it decides. -/
def CoreX.pmpFrom (c : CoreX) (user : Bool) (a size perm : Nat) : Nat → Nat → Bool
  | _, 0 => !user
  | i, n + 1 =>
    let r := c.pmpRange i
    if a < r.2 ∧ r.1 < a + size then
      decide (r.1 ≤ a ∧ a + size ≤ r.2) && ((!user && !c.pmpLocked i) || (SMap.get 0 c.pmpcfg i).testBit perm)
    else c.pmpFrom user a size perm (i + 1) n

/-- The protection permits a load (`perm` 0) or a store (1): in the core's mode, or under MPRV in the mode of MPP. -/
def CoreX.pmpAllows (c : CoreX) (a size perm : Nat) : Bool :=
  let user := if c.user then true else fld c.mstatus 17 17 = 1 && fld c.mstatus 12 11 = 0
  c.pmpFrom user a size perm 0 16

/-- The lanes of a word that a load of `size` bytes at `a` returns, sign-extended where asked. -/
def loadLanes (w a size : Nat) (signed : Bool) : Nat :=
  let v := w / 2 ^ (8 * (a % 4)) % 2 ^ (8 * size)
  if signed ∧ v.testBit (8 * size - 1) then v + (2 ^ 32 - 2 ^ (8 * size)) else v

namespace Mod

/-- A trap of an access at `a`. (Log: DESIGN CHOICE 61, DEDUCED 70) -/
def accessTrap (m : Mod) (h : Bool) (cause a : Nat) : Mod := m.trapCore h cause (Config.trapValue cause a)

/-! ### Loads -/

/-- The load completes with `v`: sign-extended into `rd`. -/
def loadDone (m : Mod) (h : Bool) (s : Stall) (v : Nat) : Mod :=
  m.onWorker h fun w => { w with core := w.core.setReg s.rd (loadLanes v s.addr s.size s.signed), stall := none }

/-- The word that a load finds at its target, with the effects of the read (R484, R274): register pages, the object store, memory. -/
def target (m : Mod) (h : Bool) (a : Nat) : Mod × Nat :=
  let w := a - a % 4
  match region a with
  | .page =>
    let pg := (a - 0x40000000) / 0x1000
    if m.pageOos pg (w % 0x1000) then (m, 0) else m.regRead pg (w % 0x1000) (some h)
  | .obj => m.objRead w none (m.worker h).core.mtickcyc
  | _ => (m, m.load w 4)

/-- A load whose data the replay log keeps (Table 14-4). -/
def logged (a : Nat) : Bool := region a = .page || region a = .tile

/-- A replayed read of SLICE takes the slice that it took before. -/
def sliceAgain (m : Mod) (h : Bool) (e : Replay) : Mod :=
  if e.addr = regAddr 0x09 0x12C ∧ e.data.testBit 31 then
    m.onWorker h fun w => { w with cur := w.taken[w.redo]?, redo := w.redo + 1, mark := w.cq.length }
  else m

/-- The load is performed at its target; one that the log keeps needs an entry (R404). `f` follows it. -/
def loadTarget (m : Mod) (h : Bool) (s : Stall) (f : Mod → Mod) : Mod :=
  if logged s.addr ∧ ¬ m.split then
    if 128 ≤ m.pair.replay.length then (m.onWorker h fun w => { w with stall := none }).capCut h 3
    else
      let (m, v) := m.target h s.addr
      let m := m.onPair fun x => { x with replay := x.replay ++ [⟨s.addr, v⟩], rpos := x.replay.length + 1 }
      f (m.loadDone h s v)
  else
    let (m, v) := m.target h s.addr
    f (m.loadDone h s v)

/-- A read of the word at `a` finds an error: `ue`, an uncorrectable one (R420, R421). (Log: DESIGN CHOICE 63) -/
def readEcc (m : Mod) (a : Nat) (ue : Bool) : Mod :=
  match eccMem a with
  | some k => m.eccHit ⟨k, BitVec.ofNat 32 (a - a % 4), ue⟩
  | none => m

/-- A load whose read finds an error: an uncorrectable one is an access fault, after which the runtime ends the slice without
counting it (Table 15-2). (Log: DEDUCED 70) -/
def loadEcc (m : Mod) (h : Bool) (s : Stall) (ecc : Option Bool) (f : Mod → Mod) : Mod :=
  match ecc, eccMem s.addr with
  | some true, some _ => ((m.readEcc s.addr true).trapCore h 5 s.addr).sliceDrop h false
  | some false, some _ => (m.readEcc s.addr false).loadTarget h s f
  | _, _ => m.loadTarget h s f

/-- A load of the pair (R403, R406, R420, R421, R484 to R486). -/
def pairLoad (m : Mod) (h : Bool) (a size : Nat) (signed : Bool) (rd : Nat) (ecc : Option Bool) (r : Ran) : Mod :=
  let s : Stall := ⟨a, size, signed, rd, r.short⟩
  let pg := (a - 0x40000000) / 0x1000
  if a % size ≠ 0 then m.accessTrap h (if region a = .page then 5 else 4) a
  else if ¬ (m.worker h).core.pmpAllows a size 0 then m.accessTrap h 5 a
  else if region a = .none then (m.unmapped a 0).accessTrap h 5 a
  else if logged a ∧ ¬ m.split ∧ m.pair.reexec ∧ m.pair.rpos < m.pair.replay.length then
    match m.pair.replay[m.pair.rpos]? with
    | some e =>
      if e.addr = a then
        (((m.onPair fun x => { x with rpos := x.rpos + 1 }).sliceAgain h e).loadDone h s e.data).retire h r
      else m.distrust 7
    | none => m
  else if region a = .page ∧ m.pageAsleep pg (a % 0x1000) ∧ ¬ m.pageOos pg (a % 0x1000) then
    (m.wakeDom (pageDomain pg)).onWorker h fun w => { w with stall := some s }
  else m.loadEcc h s ecc fun m => m.retire h r

/-- A stalled load completes when its domain is ready; the core goes on after it. -/
def stallEnd (m : Mod) (h : Bool) (d : Nat) : Mod :=
  match (m.worker h).stall with
  | some s =>
    if pageDomain ((s.addr - 0x40000000) / 0x1000) = d then
      m.loadTarget h s fun m => m.onWorker h fun w => { w with core := { w.core with pc := (w.core.pc + if s.short then 2 else 4) % 2 ^ 32 } }
    else m
  | none => m

/-! ### Stores -/

/-- A store to SRAM: the word's old value enters the undo log at its first store of the tick (R404). -/
def sramStore (m : Mod) (h : Bool) (a size v : Nat) (r : Ran) : Mod :=
  let w := a - a % 4
  if m.split ∨ m.pair.undo.any (·.1 = w) then (m.store a size v).retire h r
  else if 512 ≤ m.pair.undo.length then m.capCut h 1
  else ((m.onPair fun x => { x with undo := (w, m.load w 4) :: x.undo }).store a size v).retire h r

/-- A store of the pair (R403, R404, R484, R485, R487). -/
def pairStore (m : Mod) (h : Bool) (a size v : Nat) (r : Ran) : Mod :=
  let g := region a
  if a % size ≠ 0 then m.accessTrap h (if g = .page then 7 else 6) a
  else if g = .page ∧ size < 4 then m.accessTrap h 7 a
  else if ¬ (m.worker h).core.pmpAllows a size 1 then m.accessTrap h 7 a
  else match g with
    | .none => (m.unmapped a 0).accessTrap h 7 a
    | .rom => (m.unmapped a 0).accessTrap h 7 a
    | .flash => (m.unmapped a 0).accessTrap h 7 a
    | .sram => m.sramStore h a size v r
    | .tile =>
      if m.tileOpen (tileRod a) .pair then
        if (m.worker h).cq.length < 256 then (m.queueStore h ⟨a, v, size⟩).retire h r else m.capCut h 2
      else (m.tileRefuse (tileRod a) .pair).accessTrap h 7 a
    | _ => if (m.worker h).cq.length < 256 then (m.queueStore h ⟨a, v, size⟩).retire h r else m.capCut h 2

end Mod

/-- The bytes of an access of width code `k`: 1, 2 or 4. -/
def accessBytes (k : Fin 3) : Nat := [1, 2, 4].getD k 4

/-- PAIR_STORE (R403): `k` the width code, `v` the register's value. -/
def execPairStore (holly : Bool) (a : Word) (k : Fin 3) (v : Word) (r : Ran) (s : State) : Out :=
  s.next fun m => m.instr holly r fun m h => m.pairStore h a.toNat (accessBytes k) v.toNat r

/-- PAIR_LOAD (R403): `ecc`, the error that the read finds, true an uncorrectable one (R420, R421). -/
def execPairLoad (holly : Bool) (a : Word) (k : Fin 3) (signed : Bool) (rd : Fin 32) (ecc : Option Bool) (r : Ran) (s : State) : Out :=
  s.next fun m => m.instr holly r fun m h => m.pairLoad h a.toNat (accessBytes k) signed rd ecc r

/-- SLICE_READ (R418): a load of the SLICE register. -/
def execSliceRead (holly : Bool) (rd : Fin 32) (r : Ran) (s : State) : Out :=
  s.next fun m => m.instr holly r fun m h => m.pairLoad h (Mod.regAddr 0x09 0x12C) 4 false rd none r

end Sys2Proof.Machine
end

