-- ==== Sys2Proof/Machine/Vinko.lean ====
section
/-! DEFINITION. Vinko (R328 to R347): initiators, the checks of a request, its windows, prefetch, far sides, UPDATE transactions, and the
accesses that wait for a domain (R385, R486). -/
namespace Sys2Proof.Machine
open Reg

/-- The bytes that a transaction addresses in its window. -/
def Txn.span (t : Txn) : Nat :=
  if t.op = 1 then t.aux else if t.op = 2 then t.payload.length else if t.op = 3 then t.payload.length / 2 else 0

/-- The opcode is valid for a window type (Tables 11-4 and 11-7). -/
def opFits (op ty : Nat) : Bool :=
  if op = 8 then ty = 1 else if op = 0x10 then ty = 5 else if op = 0xC then true else ty = 0 || ty = 2 || ty = 3 || ty = 4

/-- The request has not the form of Table 11-4: a READ of another length than 4 to 1024 bytes in words, an empty write, a PROMISE
without its descriptor. (Log: DEDUCED 87) -/
def Txn.badForm (t : Txn) : Bool :=
  if t.op = 1 then t.aux < 4 || 1024 < t.aux || t.aux % 4 ≠ 0
  else if t.op = 2 ∨ t.op = 3 then t.payload = [] || 1024 < t.payload.length
  else if t.op = 8 then t.payload.length < 16 || 1024 < t.payload.length || t.payload.length % 4 ≠ 0
  else 1024 < t.payload.length

namespace Mod

/-! ### Initiators (R331, R332) -/

/-- The slot that holds a source address. -/
def initOf (m : Mod) (mac : Nat) : Option Nat :=
  (List.range 16).find? fun k => m.on (VNK.INIT_EN k) && m.rd (VNK.INIT_MAC_LO k) = mac % 2 ^ 32 && m.rd (VNK.INIT_MAC_HI k) = mac / 2 ^ 32

/-- A free slot is taken by a source. (Log: DEDUCED 88) -/
def initLearn (m : Mod) (k mac : Nat) : Mod :=
  let m := ((m.wr (VNK.INIT_MAC_LO k) mac).wr (VNK.INIT_MAC_HI k) (mac / 2 ^ 32)).wr (VNK.INIT_EN k) 1
  (m.wr (VNK.INIT_LEARNED k) 1).onVnk fun x => { x with hist := SMap.set [] x.hist k [], seqOut := SMap.set 0 x.seqOut k 0 }

/-- A request of a source in no slot, with no slot to take. -/
def unknownSource (m : Mod) (mac : Nat) : Mod :=
  let m := m.inc VNK.UNKNOWN_CNT
  if m.vnk.unknownSf then m else (m.onVnk fun x => { x with unknownSf := true }).ev 0x3E info 0x0B0B [sj32 mac]

/-- The slot of a source, taken if need be. -/
def initiator (m : Mod) (mac : Nat) : Mod × Option Nat :=
  match m.initOf mac with
  | some k => (m, some k)
  | none =>
    match (if m.on VNK.LEARN then (List.range 16).find? fun k => !m.on (VNK.INIT_EN k) else none) with
    | some k => (m.initLearn k mac, some k)
    | none => (m.unknownSource mac, none)

/-! ### The checks (R333) -/

/-- The original code of a repeated SEQ (R331). -/
def repeated (m : Mod) (t : Txn) : Option Nat := ((SMap.get [] m.vnk.hist t.slot).find? fun e => e.1 = t.seq).map fun e => e.2.2

/-- The outstanding limit, or the posted buffer, is reached (R332). -/
def full (m : Mod) (t : Txn) : Bool :=
  let n := (m.vnk.open_.filter fun e => e.slot = t.slot && e.posted == t.posted).length
  if t.posted then decide (16 ≤ n) else decide (8 ≤ n)

/-- The window permits the access. -/
def permits (m : Mod) (t : Txn) : Bool :=
  m.bit (VNK.INIT_MASK t.win) t.slot &&
    (if t.op = 1 then m.on (VNK.WIN_RD t.win) else if t.op = 2 ∨ t.op = 3 then m.on (VNK.WIN_WR t.win) else true)

/-- ADDR is out of range: not word aligned or beyond SIZE. The range of an UPDATE is that of its target (Table 16-12). -/
def badAddr (m : Mod) (t : Txn) : Bool :=
  (t.addr + m.rd (VNK.WIN_BASE t.win)) % 4 ≠ 0 || t.addr % 4 ≠ 0 || (t.op ≠ 0x10 && decide (m.rd (VNK.WIN_SIZE t.win) < t.addr + t.span))

/-- The first check that fails, 0 none. (Log: DEDUCED 87) -/
def vnkCheck (m : Mod) (t : Txn) (malformed : Bool) : Nat :=
  if malformed || t.badForm then 5
  else if ¬ opFits t.op (m.rd (VNK.WIN_TYPE t.win)) then 4
  else if (m.repeated t).isSome then 0xA
  else if m.full t then 6
  else if t.op = 0xC then 0
  else if ¬ m.on (VNK.WIN_EN t.win) then 2
  else if ¬ m.permits t then 1
  else if m.badAddr t then 3
  else 0

/-- A request that fails a check is answered (R331 to R333). (Log: DEDUCED 89) -/
def vnkFail (m : Mod) (t : Txn) (code : Nat) : Mod :=
  if t.posted ∧ code = 6 then ((m.inc VNK.POSTED_DROP_CNT).txnNotice t 6 6).ev 0x3E warn 0x0B09 [sj t.slot, vl16 t.seq]
  else m.complete t code (if code = 0xA then (m.repeated t).getD 0 else 0) []

/-! ### Prefetch (R341, R342) -/

/-- The prefetch buffer of an initiator is discarded. (Log: DEDUCED 91) -/
def prefDrop (m : Mod) (slot : Nat) : Mod :=
  match SMap.find? m.vnk.pref slot with
  | none => m
  | some b =>
    let m := m.onVnk fun x => { x with pref := SMap.del x.pref slot }
    match b.words.filter fun e => sideEffect e.1 with
    | [] => m
    | e :: l => (m.inc VNK.PF_SE_CNT).ev 0x3E warn 0x0B08 [sj32 e.1, vl (l.length + 1)]

/-- The words of a READ that the initiator's buffer holds. -/
def prefHit (m : Mod) (t : Txn) (as : List Nat) : Option (List Nat) :=
  match SMap.find? m.vnk.pref t.slot with
  | none => none
  | some b =>
    if b.win = t.win ∧ m.tick ≤ b.tick + m.rd VNK.PF_AGE then
      as.foldr (fun a r => match r, b.words.find? fun e => e.1 = a with
        | some l, some e => some (e.2 :: l)
        | _, _ => none) (some [])
    else none

/-- The words that a READ took leave the buffer. -/
def prefTake (m : Mod) (slot : Nat) (as : List Nat) : Mod :=
  match SMap.find? m.vnk.pref slot with
  | none => m
  | some b =>
    let l := b.words.filter fun e => !as.contains e.1
    m.onVnk fun x => { x with pref := if l = [] then SMap.del x.pref slot else SMap.put x.pref slot { b with words := l } }

/-- A Vinko write reaches window `w`. -/
def prefWrite (m : Mod) (w : Nat) : Mod :=
  forN 16 (fun (m : Mod) k => match SMap.find? m.vnk.pref k with
    | some b => if b.win = w then m.prefDrop k else m
    | none => m) m

/-! ### PAGE windows -/

/-- The word addresses of a transaction. -/
def pageAddrs (m : Mod) (t : Txn) : List Nat :=
  (List.range (t.span / 4)).map fun i => (m.rd (VNK.WIN_BASE t.win) + t.addr + 4 * i) % 2 ^ 32

/-- The domain that an access must wait for (R486). (Log: DEDUCED 92) -/
def sleeper (m : Mod) (a : Nat) : Option Nat :=
  match region a with
  | .page =>
    let pg := (a - 0x40000000) / 0x1000
    if m.pageAsleep pg (a % 0x1000) ∧ ¬ m.pageOos pg (a % 0x1000) then some (pageDomain pg) else none
  | _ => none

/-- A read of a word through a window by initiator `slot`; `none` where it gives no data (R420, R421, R485). -/
def vnkRead (m : Mod) (slot a : Nat) (ecc : Option Bool) : Mod × Option Nat :=
  let m := match ecc with
    | some ue => m.readEcc a ue
    | none => m
  if ecc = some true ∧ (eccMem a).isSome then (m, none)
  else match region a with
  | .none => (m.unmapped a 1, none)
  | .page =>
    let pg := (a - 0x40000000) / 0x1000
    if m.pageOos pg (a % 0x1000) then (m, some 0)
    else
      let r := m.regRead pg (a % 0x1000) none
      (r.1, some r.2)
  | .obj =>
    let r := m.objRead a (some slot) 0
    (r.1, some r.2)
  | _ => (m, some (m.load a 4))

/-- The words of a READ in order; an address that gives no data ends it. -/
def vnkReads (m : Mod) (slot : Nat) (ecc : List (Nat × Bool)) : List Nat → Mod × Option (List Nat)
  | [] => (m, some [])
  | a :: l =>
    let r := m.vnkRead slot a ((ecc.find? fun e => e.1 = a).map (·.2))
    match r.2 with
    | none => (r.1, none)
    | some v =>
      let s := r.1.vnkReads slot ecc l
      (s.1, s.2.map (v :: ·))

/-- The following bytes are read into the initiator's buffer: as far as a read neither waits nor is refused. (Log: DEDUCED 91) -/
def prefetch (m : Mod) (t : Txn) : Mod :=
  let len := [0, 64, 128, 256].getD (m.rd VNK.PF_LEN) 0
  let first := t.addr + t.span
  let as := (List.range (Nat.min len (m.rd (VNK.WIN_SIZE t.win) - first) / 4)).map fun i => (m.rd (VNK.WIN_BASE t.win) + first + 4 * i) % 2 ^ 32
  let as := as.takeWhile fun a => (m.sleeper a).isNone && region a ≠ .none
  if as = [] then m
  else
    let r := m.vnkReads t.slot [] as
    r.1.onVnk fun x => { x with pref := SMap.put x.pref t.slot ⟨t.win, as.zip (r.2.getD []), m.tick⟩ }

/-- READ on a PAGE window. -/
def pageRead (m : Mod) (t : Txn) : Mod :=
  let as := m.pageAddrs t
  match m.prefHit t as with
  | some ws => (m.prefTake t.slot as).complete t 0 0 (ws.flatMap (beBytes 4))
  | none =>
    let r := (m.prefDrop t.slot).vnkReads t.slot t.ecc as
    match r.2 with
    | none => r.1.complete t 0xC 0 []
    | some ws => (if m.on (VNK.RD_PREF t.win) then r.1.prefetch t else r.1).complete t 0 0 (ws.flatMap (beBytes 4))

/-- A write of a word is refused: what the refusal records, and its code. (Log: DEDUCED 90) -/
def wordRefused (m : Mod) (a v mask : Nat) : Option (Mod × Nat) :=
  match region a with
  | .page =>
    let pg := (a - 0x40000000) / 0x1000
    let off := a % 0x1000
    if m.pageOos pg off then some (m, 0xC)
    else match m.vinkoDenied pg off with
      | some m => some (m, 1)
      | none => if m.keyOpen pg = false ∧ rwlTouched pg off mask then some (m.keyReject pg off 1, 0xB) else none
  | .sram => none
  | .aon => none
  | .obj =>
    let r := m.objWrite a (m.load a 4 &&& (0xFFFFFFFF ^^^ mask) ||| v &&& mask) true
    if r.2 then none else some (r.1, 1)
  | .tile => if m.tileOpen (tileRod a) .vinko then none else some (m.tileRefuse (tileRod a) .vinko, 0xC)
  | _ => some (m.unmapped a 1, 0xC)

/-- The first word of a transaction that is refused. (Log: DEDUCED 90) -/
def firstRefused (m : Mod) : List (Nat × Nat × Nat) → Option (Mod × Nat)
  | [] => none
  | (a, v, k) :: l => match m.wordRefused a v k with
    | some r => some r
    | none => m.firstRefused l

/-- One word is written. -/
def vnkWrite (m : Mod) (e : Nat × Nat × Nat) : Mod :=
  let (a, v, k) := e
  let merged := m.load a 4 &&& (0xFFFFFFFF ^^^ k) ||| v &&& k
  match region a with
  | .page => m.wordWrite ((a - 0x40000000) / 0x1000) (a % 0x1000) v k .vinko
  | .obj => (m.objWrite a merged true).1
  | _ => m.store a 4 merged

/-- WRITE and WRITE_M on a PAGE window: when a word is refused, none is written (R482). -/
def pageWrite (m : Mod) (t : Txn) : Mod :=
  let l := (m.pageAddrs t).zip t.writes
  let m := m.prefWrite t.win
  match m.firstRefused l with
  | some (m, code) => m.complete t code 0 []
  | none => (l.foldl vnkWrite m).complete t 0 0 []

/-- A transaction of a PAGE window runs, or waits for the domains that it wakes. -/
def pageRun (m : Mod) (t : Txn) : Mod :=
  let ds := (m.pageAddrs t).filterMap m.sleeper
  if (m.prefHit t (m.pageAddrs t)).isNone ∨ t.op ≠ 1 then
    if ds ≠ [] then ds.foldl wakeDom m else if t.op = 1 then m.pageRead t else m.pageWrite t
  else m.pageRead t

/-! ### Far sides (R343 to R346) -/

/-- The transaction is with its far side. (Log: DEDUCED 92) -/
def farTaken (m : Mod) (t : Txn) : Mod :=
  m.onVnk fun x => { x with open_ := x.open_.map (fun e => if e = t then { t with fwd := true } else e), turn := SMap.set 0 x.turn t.win t.slot }

/-- A transaction of a LIN_DIAG window waits for its header; one outside the window's two parts is denied. -/
def linRun (m : Mod) (t : Txn) : Mod :=
  if (if t.op = 1 then decide (8 ≤ t.addr ∧ t.addr + t.span ≤ 16) else decide (t.addr + t.span ≤ 8)) then m else m.complete t 1 0 []

/-- Session `s` serves a transaction. -/
def tpTaken (m : Mod) (s : Nat) : Bool :=
  m.vnk.open_.any fun e => e.fwd && m.rd (VNK.WIN_TYPE e.win) = 3 && m.rd (VNK.WIN_SEL e.win) % 16 = s && e.op ≠ 1

/-- The word with its masked bits changed. -/
def putMasked (old v k : Nat) : Nat := old &&& (0xFFFFFFFF ^^^ k) ||| v &&& k

/-- The bytes of a message to send are written. -/
def tpFill (m : Mod) (s pos : Nat) (l : List (Nat × Nat)) : Mod :=
  let old := (List.range (4 * l.length)).map fun i => SMap.get 0 m.vnk.tpTx (4096 * s + pos + i)
  let new := (overlay old 0 l).zip (List.range (4 * l.length))
  m.onVnk fun x => { x with tpTx := new.foldl (fun t e => SMap.set 0 t (4096 * s + pos + e.2) e.1) x.tpTx }

/-- The message length is written: the transmission starts, when the session is enabled and serves no other. (Log: DEDUCED 93) -/
def tpStart (m : Mod) (t : Txn) (s len : Nat) : Mod :=
  if len = 0 ∨ 4095 < len then m.complete t 0 0 []
  else if ¬ m.on (BRG.TP_EN s) ∨ m.tpTaken s then m
  else (m.wr (BRG.TP_STATE s) 1).farTaken t

/-- A transaction of a CAN_TP window (Table 11-9). (Log: DEDUCED 93) -/
def tpRun (m : Mod) (t : Txn) : Mod :=
  let s := m.rd (VNK.WIN_SEL t.win) % 16
  let last := t.addr + t.span
  if t.op = 1 then
    if 0x1000 ≤ t.addr ∧ last ≤ 0x2000 then
      m.complete t 0 0 (swapWords ((List.range t.span).map fun i => SMap.get 0 m.vnk.tpRx (4096 * s + (t.addr - 0x1000) + i)))
    else if t.addr = 0x2004 ∧ t.span = 4 then m.farTaken t
    else m.complete t 1 0 []
  else if last ≤ 0x1000 then (m.tpFill s t.addr t.writes).complete t 0 0 []
  else if t.addr = 0x2000 ∧ t.span = 4 then m.tpStart t s ((t.writes.headD (0, 0)).1 &&& (t.writes.headD (0, 0)).2)
  else m.complete t 1 0 []

/-- A transaction of a T1S_VNK window is forwarded, when its node serves no other. -/
def nodeRun (m : Mod) (t : Txn) : Mod :=
  let sel := m.rd (VNK.WIN_SEL t.win)
  if m.vnk.open_.any fun e => e.fwd && m.rd (VNK.WIN_TYPE e.win) = 4 && m.rd (VNK.WIN_SEL e.win) = sel then m
  else
    let n := SMap.get 0 m.vnk.nodeSeq sel
    let m := m.onVnk fun x => { x with nodeSeq := SMap.set 0 x.nodeSeq sel ((n + 1) % 65536) }
    let hdr := vnkHeader false false t.op n (t.win) 0 t.payload.length ((m.rd (VNK.WIN_BASE t.win) + t.addr) % 2 ^ 32) t.aux
    ((m.outPut .node sel n 0 (hdr ++ t.payload)).egressPut (2 + sel / 16) (m.rd ETS.DEF_PCP) (18 + Nat.max 46 (16 + t.payload.length))).farTaken t

/-! ### PROMISE (R335) -/

/-- The request of a PROMISE enters the admission queue. -/
def promiseRun (m : Mod) (t : Txn) (cyc : Nat) : Mod :=
  let w := beWords (t.payload.take 16)
  let w0 := w.getD 0 0
  let w1 := w.getD 1 0
  m.takeReq { cls := fld w0 3 0, notify := (w0).testBit 4, source := t.port, ref := fld w0 31 16, rel := fld w1 15 0,
                target := fld w1 31 16, act0 := w.getD 2 0, act1 := w.getD 3 0, bad := decide (fld w0 7 5 ≠ 0),
                via := .vinko t.slot t.seq t.win, admTick := m.admitTick cyc, beadMask := m.rd (VNK.BEAD_MASK t.win),
                classMask := m.rd (VNK.CLASS_MASK t.win), frame := t.payload.drop 16 }

/-! ### UPDATE (R464, Table 16-11) -/

/-- The response to an operation that gives a result by Table 16-12. -/
def updAnswer (t : Txn) (r : Mod × Nat) : Mod := if r.2 = 1 then r.1.complete t 0 0 [] else r.1.complete t 8 r.2 []

/-- An UPDATE transaction; OPEN is decided at the end of the tick (R465). (Log: DEDUCED 86) -/
def updRun (m : Mod) (t : Txn) : Mod :=
  let op := t.aux / 2 ^ 24
  let tt := fld t.aux 23 16
  if op = 1 then
    if m.upd.opens.any fun o => o.txn = some t then m else m.onUpd fun x => { x with opens := x.opens ++ [⟨t.port, t.slot, some t⟩] }
  else if op = 6 then m.complete t 0 0 m.updStatus
  else if op = 8 then m.updReject.complete t 0 0 []
  else if ¬ m.session then m.complete t 1 0 []
  else if m.rd UPD.HOLDER_SLOT ≠ t.slot then m.complete t 6 m.holderAux []
  else if op = 2 then (m.updErase tt).1.complete t 0 0 []
  else if op = 3 then updAnswer t (m.updWrite tt t.addr (swapWords t.payload))
  else if op = 4 then (m.updVerify tt).1.complete t 0 0 []
  else if op = 5 then updAnswer t (m.updActivate tt (t.aux % 65536))
  else if op = 7 then m.sessionEnd.complete t 0 0 []
  else if op = 9 then updAnswer t (m.updRevoke (t.payload.headD 0) t.sig)
  else m.complete t 4 0 []

/-! ### The engine -/

/-- A transaction that nothing holds back and that no far side has taken runs (R338). -/
def vnkRun (m : Mod) (t : Txn) : Mod :=
  if ¬ m.vnk.open_.contains t ∨ t.fwd ∨ t.op = 8 ∨ m.txnBlocked t then m
  else if (m.farPort t.win).any fun d => !m.awake d then (m.farPort t.win).elim m m.wakeDom
  else match m.rd (VNK.WIN_TYPE t.win) with
    | 0 => m.pageRun t
    | 2 => m.linRun t
    | 3 => m.tpRun t
    | 4 => m.nodeRun t
    | 5 => m.updRun t
    | _ => m

/-- Every open transaction that can run: an initiator's in the order of arrival, the initiators of a window in turn (R338). -/
def vnkServe (m : Mod) : Mod := m.inTurn.foldl vnkRun m

/-- A transaction joins the open ones. -/
def vnkOpen (m : Mod) (t : Txn) : Mod := (m.onVnk fun x => { x with open_ := x.open_ ++ [t] }).openCount t.slot

/-- A transaction that passed the checks. -/
def vnkBegin (m : Mod) (t : Txn) (cyc : Nat) : Mod :=
  if t.op = 0xC then m.complete t 0 0 ((List.range 32).flatMap fun i => beBytes 4 (m.idnWord i))
  else if t.op = 8 then (m.vnkOpen t).promiseRun t cyc
  else (m.vnkOpen t).vnkServe

/-- The intake of a request (R328 to R333): `f` completes the transaction from its header. -/
def vnkIntake (m : Mod) (r : VnkReq) (op : Nat) (payload : List Nat) (cyc : Nat) (f : Txn → Txn) : Mod :=
  if ¬ m.on VNK.EN ∨ 2 ≤ m.pstate ∨ ¬ m.bbTakes r.port then m
  else
    let (m, k) := m.initiator r.mac.toNat
    match k with
    | none => m
    | some slot =>
      let t := f { slot := slot, seq := r.seq.toNat, op := op, win := r.win.toNat % 64, posted := r.posted && (op = 2 || op = 3),
                   addr := r.addr.toNat, aux := r.aux.toNat, payload := payload, tick := m.tick, port := r.port }
      let code := m.vnkCheck t (r.malformed || (r.posted && !t.posted) || decide (64 ≤ r.win.toNat))
      if code = 0 then (m.updHeard slot).vnkBegin t cyc else m.vnkFail t code

/-- An UPDATE operation: AUX carries it, the target and the parameter. -/
def updIntake (m : Mod) (r : VnkReq) (op : Nat) (payload : List Nat) (sig : Bool) : Mod :=
  m.vnkIntake r 0x10 payload 0 fun t => { t with aux := op * 2 ^ 24 + t.aux % 2 ^ 24, sig := sig }

/-- An open or late transaction of a far side by initiator and SEQ. -/
def farTxn (m : Mod) (slot seq : Nat) : Option Txn :=
  (m.vnk.open_ ++ m.vnk.late).find? fun t => t.slot = slot ∧ t.seq = seq ∧ (t.fwd = true ∨ m.rd (VNK.WIN_TYPE t.win) = 2)

/-- The state of a CAN_TP session after a transaction of it: its result, and the message received. (Log: DEDUCED 93) -/
def tpDone (m : Mod) (t : Txn) (result : Nat) (data : List Nat) : Mod :=
  let s := m.rd (VNK.WIN_SEL t.win) % 16
  let m := (m.wr (BRG.TP_STATE s) 0).wr (BRG.TP_RESULT s) result
  if t.op = 1 ∧ result = 0 then
    (m.wr (BRG.RX_LEN s) data.length).onVnk fun x =>
      { x with tpRx := (data.zip (List.range 4096)).foldl (fun a e => SMap.set 0 a (4096 * s + e.2) e.1) x.tpRx }
  else m

/-- A far-side transaction completes (R340): result 0, or the far side's own code. -/
def farComplete (m : Mod) (slot seq result : Nat) (data : List Nat) : Mod :=
  match m.farTxn slot seq with
  | none => m
  | some t =>
    let ty := m.rd (VNK.WIN_TYPE t.win)
    let m := if ty = 3 then m.tpDone t result data else m
    let body := if t.op ≠ 1 ∨ result ≠ 0 then [] else if ty = 3 then beBytes 4 data.length else data.take t.aux
    (m.farDone t (if result = 0 then 0 else (ty - 1) * 256 + result) body).vnkServe

/-- A far side has begun a transaction: its outcome may come late. -/
def farBegun (m : Mod) (t : Txn) : Bool :=
  t.fwd || (m.rd (VNK.WIN_TYPE t.win) = 2 && (t.op = 1 || (List.range 8).any fun p => (m.lin p).diag = some t))

/-- TO × 100 µs from the intake expire for a non-posted transaction (R334). (Log: DEDUCED 92) -/
def vnkTimeout (m : Mod) (slot seq : Nat) : Mod :=
  match m.vnk.open_.find? fun t => t.slot = slot ∧ t.seq = seq ∧ t.posted = false ∧ t.tick + 10 * m.rd (VNK.WIN_TO t.win) ≤ m.tick with
  | none => m
  | some t =>
    let late := m.farBegun t
    let m := m.complete t 7 0 []
    let m := m.onUpd fun x => { x with opens := x.opens.filter fun o => o.txn ≠ some t }
    (if late then m.onVnk fun x => { x with late := x.late ++ [t] } else m).vnkServe

/-- A waking domain is ready (R385, R486): its held entries, then the accesses that waited for it. -/
def domainReady (m : Mod) (d : Nat) : Mod :=
  if ¬ m.bit PWR.DOM_WAKING d then m
  else
    let m := (m.wrBit PWR.DOM_WAKING d false).wrBit PWR.DOM_STAT d true
    let m := if 24 ≤ d ∧ d < 28 ∧ ¬ (m.quad (d - 24)).low then
        ((m.wr (HQ.CP_RDY (d - 24) 0) 1).wr (HQ.CP_RDY (d - 24) 1) 1).updateSupply (d - 24)
      else if d = 28 then m.onWatch 0 fun x => { x with noArm := false }
      else if d = 29 then m.onWatch 1 fun x => { x with noArm := false }
      else m
    let m := if d < 24 then m.trxReady d else m
    (((m.drainWbuf d).stallEnd false d).stallEnd true d).vnkServe

end Mod

/-! ### The commands -/

/-- READ (R329): `ecc`, the errors that its reads find, true an uncorrectable one. -/
def execRead (r : VnkReq) (ecc : List (Word × Bool)) (s : State) : Out :=
  s.next fun m => m.vnkIntake r 1 [] 0 fun t => { t with ecc := ecc.map fun e => (e.1.toNat, e.2) }

/-- WRITE (R329). -/
def execWrite (r : VnkReq) (data : List Word) (s : State) : Out :=
  s.next fun m => m.vnkIntake r 2 (data.flatMap fun v => beBytes 4 v.toNat) 0 id

/-- WRITE_M (R329): value words and mask words. -/
def execWriteM (r : VnkReq) (data : List (Word × Word)) (s : State) : Out :=
  s.next fun m => m.vnkIntake r 3 (data.flatMap fun v => beBytes 4 v.1.toNat ++ beBytes 4 v.2.toNat) 0 id

/-- PROMISE (R335): the descriptor of Table 02-1, the frame of a T1S_TX, the intake cycle. -/
def execPromise (r : VnkReq) (w0 w1 w2 w3 : Word) (frame : List Byte) (cyc : BitVec 11) (s : State) : Out :=
  s.next fun m => m.vnkIntake r 8 ([w0, w1, w2, w3].flatMap (fun v => beBytes 4 v.toNat) ++ frame.map (·.toNat)) cyc.toNat id

/-- IDENTIFY (R453). -/
def execIdentify (r : VnkReq) (s : State) : Out := s.next fun m => m.vnkIntake r 0xC [] 0 id

/-- VINKO_TIMEOUT (R334). -/
def execVinkoTimeout (slot : Fin 16) (seq : BitVec 16) (s : State) : Out := s.next fun m => m.vnkTimeout slot seq.toNat

/-- PREFETCH_EXPIRE (R342): the age of a buffer has passed PF_AGE. -/
def execPrefetchExpire (slot : Fin 16) (s : State) : Out :=
  s.next fun m => if (SMap.find? m.vnk.pref slot).any fun b => decide (b.tick + m.rd VNK.PF_AGE < m.tick) then m.prefDrop slot else m

/-- FAR_COMPLETE (R340): the far side's result, 0 success, and the data that it returned. -/
def execFarComplete (slot : Fin 16) (seq : BitVec 16) (result : Byte) (data : List Byte) (s : State) : Out :=
  s.next fun m => m.farComplete slot seq.toNat result.toNat (data.map (·.toNat))

/-- CAN_TP_SEND (R345): a write of the message length. -/
def execCanTpSend (r : VnkReq) (len : Word) (s : State) : Out :=
  s.next fun m => m.vnkIntake r 2 (beBytes 4 len.toNat) 0 fun t => { t with addr := 0x2000 }

/-- OPEN (R465). -/
def execUpdOpen (r : VnkReq) (s : State) : Out := s.next fun m => m.updIntake r 1 [] false

/-- ERASE (R464). -/
def execErase (r : VnkReq) (s : State) : Out := s.next fun m => m.updIntake r 2 [] false

/-- UPDATE_WRITE (R464). -/
def execUpdateWrite (r : VnkReq) (data : List Word) (s : State) : Out :=
  s.next fun m => m.updIntake r 3 (data.flatMap fun v => beBytes 4 v.toNat) false

/-- VERIFY (R464). -/
def execVerify (r : VnkReq) (s : State) : Out := s.next fun m => m.updIntake r 4 [] false

/-- ACTIVATE (R468). -/
def execActivate (r : VnkReq) (s : State) : Out := s.next fun m => m.updIntake r 5 [] false

/-- STATUS (R464). -/
def execStatus (r : VnkReq) (s : State) : Out := s.next fun m => m.updIntake r 6 [] false

/-- CLOSE (R466). -/
def execClose (r : VnkReq) (s : State) : Out := s.next fun m => m.updIntake r 7 [] false

/-- REJECT (R472). -/
def execReject (r : VnkReq) (s : State) : Out := s.next fun m => m.updIntake r 8 [] false

/-- REVOKE (R460): the slot to revoke, and whether its signature verifies with another usable slot. -/
def execRevoke (r : VnkReq) (slot : Byte) (sig : Bool) (s : State) : Out := s.next fun m => m.updIntake r 9 [slot.toNat] sig

/-- DOMAIN_READY (R385). (Log: DEDUCED 36) -/
def execDomainReady (d : Fin 31) (s : State) : Out := s.next fun m => m.domainReady d

end Sys2Proof.Machine
end

