-- ==== Sys2Proof/Machine/Frame.lean ====
section
/-! DEFINITION. The tick of the Counting Frame (chapter 1): commit assembly, commit freeze, the release of the combined commit at
the tick boundary, the rollback's late release, the frame and superframe boundaries, the loss of vehicle time. -/
namespace Sys2Proof.Machine
open Reg

/-- The output that an effect commands, as admission names targets. -/
def Effect.output : Effect → Option (Nat × Nat)
  | .ch q c _ _ => some (0, 20 * q + c)
  | .mot k _ _ => some (1, k)
  | .ls k _ => some (2, k)
  | .sink n _ => some (3, n)
  | _ => none

/-- The channels that an effect turns on. -/
def Effect.turnsOn : Effect → List (Nat × Nat)
  | .ch q c act _ => if act = 0 ∨ act = 5 then [] else [(q, c)]
  | .mot k mode _ => if mode = 0 then [] else [(k / 2, Mod.brEven k), (k / 2, Mod.brEven k + 1)]
  | _ => []

/-- An effect that requests a diagnostic test. -/
def Effect.isDiag : Effect → Bool
  | .diag _ _ _ => true
  | _ => false

/-- A commit entry that requests a diagnostic test: a store to DIAG_RES of a channel (Table 05-6). -/
def Commit.isDiag (e : Commit) : Bool :=
  let off := e.addr % 0x1000
  decide (0x40010000 ≤ e.addr ∧ e.addr < 0x40014000 ∧ 0x100 ≤ off ∧ off < 0x600) && off % 0x40 / 4 = 0xF

/-- The source that stands for a commit entry of the pair in a conflict. (Log: DESIGN CHOICE 14) -/
def pairSrc : Src := ⟨3, 0x3FF, 0⟩

/-- What the boundary does with a tick's commit (R56). -/
inductive Verdict where
  | release
  | hold
  | drop
deriving DecidableEq, Repr

namespace Mod

/-! ### The merge (R48) -/

/-- The open promises with an action bead at `src`. -/
def numsAt (m : Mod) (src : Src) (t : Nat) : List Nat := (m.prm.open_.filter fun p => p.hasBead src t).map (·.num)

/-- A later effect overwrites an earlier one. (Log: DESIGN CHOICE 14) -/
def conflict (m : Mod) (a b : Src) : Mod := (m.inc FRM.CONFLICT_CNT).ev 0x0A info 0x0109 [sj a.slot, sj a.bead, sj b.slot, sj b.bead]

/-- One effect joins the merged ones. -/
def mergeOne (a : Mod × List Staged) (e : Staged) : Mod × List Staged :=
  match a.2.find? fun x => x.eff.sameTarget e.eff with
  | some x =>
    let nums := a.1.numsAt x.src a.1.tick
    ((a.1.conflict x.src e.src).onFrm fun f => { f with lost := f.lost ++ nums }, a.2.erase x ++ [e])
  | none => (a.1, a.2 ++ [e])

/-- Merge the staged effects in the order SA, SB, SL. -/
def mergeBeads (m : Mod) : Mod :=
  let l := [0, 1, 2].flatMap fun s => m.frm.staged.filter fun e => e.src.slot = s
  let r := l.foldl mergeOne (m, [])
  r.1.onFrm fun x => { x with staged := r.2 }

/-- The targets of a commit entry of the pair, as effects that address them. (Log: DESIGN CHOICE 14) -/
def entryTargets (m : Mod) (e : Commit) : List Effect :=
  let pg := (e.addr - 0x40000000) / 0x1000
  let off := e.addr % 0x1000
  if e.addr < 0x40000000 ∨ 0x40040000 ≤ e.addr then []
  else if 0x10 ≤ pg ∧ pg ≤ 0x13 ∧ 0x100 ≤ off ∧ off < 0x600 then
    let c := (off - 0x100) / 0x40
    let r := (off - 0x100) % 0x40
    if r = 0x08 then [.ch (pg - 0x10) c 0 0] else if r = 0x3C ∧ e.data.testBit 30 then [.diag (pg - 0x10) c 0] else []
  else if pg = 0x15 ∧ 0x100 ≤ off ∧ off < 0x200 then (if (off - 0x100) % 0x20 = 0x0C then [.mot ((off - 0x100) / 0x20) 0 0] else [])
  else if pg = 0x16 ∧ off = 0x320 then ((List.range 8).filter fun k => e.data.testBit (8 + k)).map fun k => .ls k false
  else if pg = 0x18 ∧ 0x100 ≤ off ∧ off < 0x400 then (if off % 0x10 = 4 then [.sink ((off - 0x100) / 0x10) 0] else [])
  else if pg = 0x19 ∧ 0x100 ≤ off ∧ off < 0x200 then
    (if off % 0x40 = 4 ∧ e.data.testBit 31 then [.eng ((off - 0x100) / 0x40) (fld e.data 2 0) (fld e.data 15 8)] else [])
  else if 0x20 ≤ pg ∧ pg < 0x2C ∧ off = 0x140 then (if e.data.testBit 31 then [.txq (pg - 0x20) (fld e.data 11 0)] else [])
  else if off = 0x200 then
    ((List.range 24).filter fun p => portPage p = pg ∧ (m.engineOf p).isNone).map fun p => .trx p 0
  else []

/-- The pair's entries overwrite the bead effects with the same targets; what is left, and the promises whose action was lost. -/
def mergePair (m : Mod) (t : Nat) (l : List Staged) (es : List Commit) : Mod × List Staged × List Nat :=
  (es.flatMap m.entryTargets).foldl (fun a f =>
    match a.2.1.find? fun x => x.eff.sameTarget f with
    | some x => (a.1.conflict x.src pairSrc, a.2.1.erase x, a.2.2 ++ a.1.numsAt x.src t)
    | none => a) (m, l, [])

/-! ### Promises at the release (R86, R90, R91) -/

/-- A promise is breached at the release; `late`, the delay of a rollback's release in 10 ns. (Log: DEDUCED 18) -/
def breachDue (m : Mod) (late : Option Nat) (num cause : Nat) : Mod :=
  match m.openPromise num with
  | none => m
  | some p => match late with
    | none => m.breach p (higherCause p.tent cause)
    | some d => m.breachWith p (higherCause p.tent 9) d false

/-- The delivery of a promise is released. -/
def delivered (m : Mod) (late : Option Nat) (num : Nat) : Mod :=
  if late.isSome then m.breachDue late num 9 else m.promiseReleased num

/-- The cause that the release of an effect gives its promises, 0 none. (Log: DEDUCED 16) -/
def releaseCause (m : Mod) (e : Effect) : Nat :=
  if e.output.any (fun t => m.targetOwner t ≠ 0) then 5
  else if e.turnsOn.any (fun t => m.perms t.1 t.2 ≠ 31) then 6 else 0

/-! ### Frames of the host port (R323, R324, R337) -/

/-- The AVTP frame of talker stream `g` around one ACF message (R323). PRESUMED (IEEE 1722): the header's layout. (Log: PRESUMED 50) -/
def avtpFrame (m : Mod) (g seq : Nat) (body : List Nat) : List Nat :=
  let sid := beBytes 4 (m.rd (BRG.TS_SID_HI g)) ++ beBytes 4 (m.rd (BRG.TS_SID_LO g))
  if m.on (BRG.FMT g) then [0x05, 0x80, seq % 256, 0] ++ sid ++ List.replicate 8 0 ++ beBytes 2 body.length ++ [0, 0] ++ body
  else [0x82] ++ beBytes 2 (0x8000 + body.length) ++ [seq % 256] ++ sid ++ body

/-- A frame of talker stream `g` leaves. -/
def talk (m : Mod) (g : Nat) (body : List Nat) : Mod :=
  let s := SMap.get 0 m.vnk.seqOut (16 + g)
  let f := m.avtpFrame g s body
  (m.onVnk fun x => { x with seqOut := SMap.set 0 x.seqOut (16 + g) ((s + 1) % 256) }).hostSend .acf g s f

/-- An EVENT transaction leaves for initiator slot `k` (R337). (Log: PRESUMED 50) -/
def eventFrame (m : Mod) (k : Nat) (body : List Nat) : Mod :=
  let s := SMap.get 0 m.vnk.seqOut k
  let m := m.onVnk fun x => { x with seqOut := SMap.set 0 x.seqOut k ((s + 1) % 65536) }
  m.hostSend .event k s (vnkHeader false true 0x21 s 0 0 16 0 0 ++ body)

/-! ### The release (R49, R55) -/

/-- An effect reaches its block. -/
def applyEffect (m : Mod) (late : Option Nat) (e : Effect) : Mod :=
  match e with
  | .ch q c act arg => m.chRelease q c act arg
  | .mot k mode duty => m.motRelease k mode duty
  | .ls k on => m.lsCommand k on
  | .sink n duty => m.wr (LED.SINK_DUTY n) duty
  | .eng e op addr => m.engCommand e op addr
  | .c2e g _ body => m.talk g body
  | .e2c _ o f prm => m.moveE2c o f prm
  | .txq n o =>
    let num := SMap.get 0 m.prm.objPrm o
    let m := if late.isSome ∧ (m.openPromise num).any (fun p => p.cls = 3) then m.breachDue late num 9 else m
    m.canEnter n o
  | .acf g body => m.talk g body
  | .trx p t =>
    let f := TRX.REQ (portPage p)
    (m.wr f (f.fix.apply t)).trxRequest p (f.fix.apply t) 2
  | .nmMsg n bytes => m.nmSend n bytes
  | .wake d => m.wakeDom d
  | .pub p id bytes => m.setPub p id bytes
  | .wakeTx p => m.linWakeTx p
  | .lin p id => m.linHeader p id late.isNone
  | .diag q c kind => m.diagRequest q c kind
  | .event k body prm => (m.eventFrame k body).delivered late prm

/-- A merged effect of tick `t` is released: the causes that owner and permit give its promises are noted (R90), and it is released
either way (R49, R89). -/
def releaseStaged (m : Mod) (t : Nat) (late : Option Nat) (e : Staged) : Mod :=
  let c := m.releaseCause e.eff
  let nums := m.numsAt e.src t
  let m := if c = 0 then m else m.blame (fun p => nums.contains p.num) c
  m.applyEffect late e.eff

/-- The numbers of the promises whose action a release makes undeliverable by owner or permit (R90). -/
def undeliverable (m : Mod) (t : Nat) (l : List Staged) : List Nat :=
  ((m.prm.open_.filter fun p => (p.tent = 5 || p.tent = 6) && l.any fun e => p.hasBead e.src t).map (·.num))

/-- Release a combined commit: the bead effects, then the pair's entries in queue order, the diagnostic requests of both after the other
commands, which set the applied state (R175), then the promises whose delivery it is: those of PRM_DONE marks, and the pair's completed slices `kept`.
(Log: DEDUCED 16, DEDUCED 67) -/
def releaseCommit (m : Mod) (h : HeldTick) (es : List Commit) (kept : List Nat) (late : Option Nat) : Mod :=
  let r := m.mergePair h.tick h.staged es
  let beads := fun d => r.2.1.filter fun e => e.eff.isDiag = d
  let pair := fun d => es.filter fun e => e.isDiag = d
  let m := (pair false).foldl commitEntry ((beads false).foldl (fun m e => m.releaseStaged h.tick late e) r.1)
  let m := (pair true).foldl commitEntry ((beads true).foldl (fun m e => m.releaseStaged h.tick late e) m)
  let lost := h.lost ++ r.2.2
  let m := m.blame (fun p => lost.contains p.num) 7
  let m := (m.undeliverable h.tick h.staged ++ lost).foldl (fun m n => m.breachDue late n 7) m
  let nums := h.done.flatMap fun b => (m.prm.open_.filter fun p => p.bead = b).map (·.num)
  (nums ++ kept).foldl (fun m n => m.delivered late n) m

/-! ### Commit assembly and commit freeze (R31) -/

/-- The commit assembly of the present tick; `bad`, the rods whose repair fails its read-back. While the Frame is stopped it does nothing:
R54 and R57 do not say whether the scrubber goes on then. (Log: DEDUCED 13, DESIGN CHOICE 117) -/
def assemble (m : Mod) (bad : List Nat) : Mod :=
  if ¬ m.on FRM.RUNNING ∨ m.frm.assembled then m
  else
    let m := m.restOfBeads.writeLedger
    let r := m.slackOf m.tick
    let m := if (m.slotX 2).loaded then m.writeRod r (slackRod r (m.tick + m.rd FRM.SLACK_LEN) []) else m
    let m := ((m.tileRepairs bad).scrubTile.tileRepairs bad).reloadRequests.mergeBeads
    m.onFrm fun x => { x with assembled := true }

/-- The frequency correction's part of a cycle, this tick's share included, in 10⁻⁶ cycle; none in Free (R28). -/
def freqDue (m : Mod) : Int := if m.rd FRM.SYNC = 0 then 0 else m.frm.freqAcc + 2 * m.frm.freq

/-- The cycle that frequency correction takes in this tick: one once a whole cycle is due (R27). (Log: DESIGN CHOICE 12) -/
def freqCycle (m : Mod) : Int := if 1000000 ≤ m.freqDue then 1 else if m.freqDue ≤ -1000000 then -1 else 0

/-- The length of the tick (R26, R27); of a correction and a slew in the same direction it takes one, the slew where `slewFirst`.
(Log: DESIGN CHOICE 12) -/
def tickAdjust (m : Mod) (slewFirst : Bool) : Mod :=
  let s := m.rd FRM.SYNC
  let slew : Int := if (s = 1 ∨ s = 2) ∧ m.rd FRM.SLEW_LEFT ≠ 0 then (if m.rd FRM.PHASE_ERR < 32768 then 1 else -1) else 0
  let fc := if slewFirst ∧ slew = m.freqCycle then 0 else m.freqCycle
  let served := decide (slew ≠ 0 ∧ slew ≠ fc)
  let d : Int := if served then slew + fc else fc
  let m := if served then m.wr FRM.SLEW_LEFT (m.rd FRM.SLEW_LEFT - 1) else m
  let acc := m.freqDue - fc * 1000000
  m.onFrm fun x => { x with tickLen := (2000 + d).toNat, freqAcc := acc }

/-- The staged image is frozen: what is staged from here on belongs to the next tick. (Log: DEDUCED 13) -/
def freezeImage (m : Mod) (slewFirst : Bool) : Mod :=
  if m.frm.image.isSome then m
  else
    let m := m.mergeBeads.tickAdjust slewFirst
    m.onFrm fun x => { x with image := some ⟨m.tick, x.staged, x.done, x.lost, []⟩, staged := [], done := [], lost := [] }

/-! ### Pair agreement (R56) -/

/-- A live handover runs the ticks without the pair (R469, R470). -/
def noPair (m : Mod) : Bool := m.pstate = 1 || decide (3 ≤ m.upd.phase)

/-- The pair has ended, and in lockstep agreed, the work of the present tick. -/
def pairDone (m : Mod) : Bool :=
  let w := m.pair.w0
  let v := m.pair.w1
  if m.split then decide (w.phase = .ended ∧ w.tick = m.tick ∧ v.phase = .ended ∧ v.tick = m.tick)
  else decide (w.phase = .agreed ∧ w.tick = m.tick)

/-- What becomes of the present tick's commit. (Log: DEDUCED 19) -/
def verdict (m : Mod) : Verdict :=
  if ¬ m.on FRM.RUNNING ∨ m.frm.withhold ∨ m.boot.resetDue ≠ 0 then .drop
  else if m.noPair then .release
  else if m.pair.mism = some m.tick then .hold
  else if m.pairDone then .release else .drop

/-- The pair's entries of the present tick, Yew's before Holly's in split mode. -/
def tickEntries (m : Mod) : List Commit :=
  if m.noPair then [] else if m.split then m.pair.w0.cq ++ m.pair.w1.cq else m.pair.w0.ready

/-- The promises of the slices that the pair has completed in the present tick. -/
def tickKept (m : Mod) : List Nat :=
  if m.noPair then [] else if m.split then m.pair.w0.kept ++ m.pair.w1.kept else m.pair.w0.readyKept

/-- A core whose tick has ended waits for the next tick interrupt; its entries have gone. -/
def workerClose (split : Bool) (w : Worker) : Worker :=
  if w.phase = .agreed ∨ (split ∧ w.phase = .ended) then
    { w with phase := .idle, cq := [], kept := [], ready := [], readyKept := [], mark := 0 } else w

/-- The pair at a boundary: an ended tick closes, and the tick interrupt is raised (R60). (Log: DEDUCED 20) -/
def pairBoundary (m : Mod) (v : Verdict) : Mod :=
  let s := m.split
  let m := if v = .hold then m else m.onPair fun x => { x with w0 := workerClose s x.w0, w1 := workerClose s x.w1 }
  if m.pstate = 0 then m.onPair fun x => { x with w0 := { x.w0 with irq := true }, w1 := { x.w1 with irq := s }, mism := none } else m

/-- The promises whose delivery lies in an image (R91). -/
def imageDues (m : Mod) (h : HeldTick) : List Nat :=
  let marks := h.done.flatMap fun b => (m.prm.open_.filter fun p => p.bead = b).map (·.num)
  let obj := fun o : Nat => (h.staged.findSome? fun e => match e.eff with
    | .e2c _ k _ prm => if k = o then some prm else none
    | _ => none).getD (SMap.get 0 m.prm.objPrm o)
  marks ++ h.lost ++ h.staged.flatMap fun e => match e.eff with
    | .event _ _ prm => [prm]
    | .txq _ o => if (m.openPromise (obj o)).any (fun p => p.cls = 3) then [obj o] else []
    | _ => []

/-! ### Heartbeat (R55) -/

/-- The heartbeat to every quadrant that is awake, the lighting block and the field I/O block. -/
def heartbeat (m : Mod) : Mod :=
  ((forN 4 (fun m q => if m.awake (24 + q) then m.quadHeartbeat q else m) m).blockHeartbeat ledW).blockHeartbeat fioW

/-- A boundary without a heartbeat. -/
def noHeartbeat (m : Mod) : Mod := ((forN 4 (fun m q => m.quadNoHeartbeat q) m).blockNoHeartbeat ledW).blockNoHeartbeat fioW

/-- The Frame owner's latest command of a held channel becomes its Hold state (R452). (Log: DEDUCED 21) -/
def adoptChan (m : Mod) (q c : Nat) : Mod :=
  if (m.rd (HQ.OWN_SET q c)).testBit 1 = false then m
  else
    let h := (m.chan q c).hold
    let act := match h.out with
      | 0 => 0
      | 1 => 1
      | 2 => 2
      | 3 => 3
      | 4 => 4
      | _ => 2
    (m.wr (HQ.ACT q c) act).wr (HQ.ARG q c) h.duty

/-- ADOPT: every held output's Frame command is its Hold state (R452). (Log: DEDUCED 21) -/
def adopt (m : Mod) : Mod :=
  let m := forN 80 (fun (m : Mod) o => m.adoptChan (o / 20) (o % 20)) m
  let m := forN 8 (fun (m : Mod) k =>
    if (m.rd (HQ.OWN_SET (k / 2) (brEven k))).testBit 1 then (m.wr (MOT.MODE k) (m.br k).holdMode).wr (MOT.DUTY k) (m.br k).holdDuty
    else m) m
  let m := forN 48 (fun (m : Mod) n => if (m.sink n).own.testBit 1 then m.wr (LED.SINK_DUTY n) (m.sink n).hold else m) m
  forN 8 (fun (m : Mod) k => if (m.ls k).own.testBit 1 then m.wrBit FIO.LS_VAL k (m.ls k).hold else m) m

/-- The heartbeats of a start (R442): counted, and with the tenth a Hold that preceded a Warm reset ends (R452). -/
def startHeartbeat (m : Mod) (sent : Bool) : Mod :=
  if ¬ m.boot.counting then m
  else if ¬ sent then m.onBoot fun x => { x with hb := 0 }
  else
    let n := m.boot.hb + 1
    let m := m.onBoot fun x => { x with hb := n }
    if n = 10 ∧ m.boot.holdRel then
      (if m.on BOOT.ADOPT then m.adopt else m).holdRelease.onBoot fun x => { x with holdRel := false }
    else m

/-! ### The tick boundary (R55) -/

/-- Table entries of past ticks are done with (R69, R71, R74). -/
def forgetTicks (m : Mod) : Mod :=
  let t := m.tick
  m.onPrm fun x =>
    { x with ledger := x.ledger.filter fun e => decide (t ≤ e.1), cycles := x.cycles.filter fun e => decide (t ≤ e.1),
             egress := x.egress.filter fun e => decide (t ≤ e.1), t1sBooked := x.t1sBooked.filter fun e => decide (2 * t ≤ e.1),
             linSlots := x.linSlots.filter fun b => decide (t ≤ b.tick + 1) }

/-- The commit of the tick just ended, `TICK` advanced, meets its verdict. -/
def commitBoundary (m : Mod) (v : Verdict) (img : HeldTick) (es : List Commit) (kept : List Nat) : Mod :=
  match v with
  | .release => ((m.releaseCommit img es kept none).heartbeat.startHeartbeat true).parkOrder
  | .hold => (m.onFrm fun x => { x with held := some { img with dues := m.imageDues img } }).noHeartbeat.startHeartbeat false
  | .drop => m.noHeartbeat.startHeartbeat false

/-- The sample buffer is copied into the snapshot, and the snapshot before it, with the position unit's, is kept (R47, R203). -/
def snapshotTake (m : Mod) : Mod :=
  let old := forN 256 (fun l i => SMap.set 0 l i (m.rd (FRM.SNAP i))) ([] : SMap Nat)
  let old := forN 12 (fun l i => SMap.set 0 l (256 + i) (m.wordOf 0x15 (snapOff i))) old
  forN 256 (fun (m : Mod) i => m.wr (FRM.SNAP i) (m.rd (FRM.SAMPLE i))) (m.onFrm fun x => { x with snapPrev := old })

/-- What the blocks do once per tick. -/
def blockTick (m : Mod) : Mod :=
  let m := (forN 4 (fun (m : Mod) q => m.dissTick q) m.tieTick)
  (forN 4 (fun (m : Mod) j => m.qdSnap j) m).ledDemand.headroom.nbStart.fioRelease

/-- A start or a stop of the Frame takes effect at a boundary (R57). -/
def runBoundary (m : Mod) : Mod :=
  let m := if m.frm.stopPend then (m.wr FRM.RUNNING 0).onFrm fun x => { x with stopPend := false } else m
  if m.frm.startPend then (m.wr FRM.RUNNING 1).onFrm fun x => { x with startPend := false } else m

/-- The reports that wait for the Frame to run: the wake (R386), the promises lost in a reset (R94). (Log: DEDUCED 26, DEDUCED 74) -/
def dueReports (m : Mod) : Mod :=
  if ¬ m.on FRM.RUNNING then m
  else
    let m : Mod := match m.pwr.wakeEv with
      | some (w, r) => (m.wakeEvent w r).onPwr fun x => { x with wakeEv := none }
      | none => m
    if m.prm.resetReport then (m.ev 0x0B err 0x021B [vl16 (m.rd PRM.RESET_OPEN)]).onPrm fun x => { x with resetReport := false } else m

/-- The power block at a tick boundary: the drain's ticks and the admission that resumes (R93), the domains asked to sleep (R384). -/
def powerTick (m : Mod) : Mod :=
  let m := m.onPwr fun x => { x with drain := if x.phase = 1 then x.drain + 1 else x.drain }
  (if m.pwr.vote = 0 then m else m.changeAccept).admitAgain.sleepTick

/-- The work of the tick that opens: its slices, its request, updates and transactions that waited, its fetch (R40, R62, R418). A
superframe boundary fetches after its table swap (R42). (Log: DEDUCED 11, DEDUCED 17) -/
def tickOpen (m : Mod) : Mod :=
  let m := (m.onFrm fun x => { x with dispNow := x.dispNext, dispNext := [] }).wr FRM.DISPATCH_SUM 0
  let m := m.runBoundary.dueReports.presentReq.updBoundary.vnkServe
  if m.tick % 100000 = 0 then m else m.fetch

/-- The boundary that ends the present tick. The phases of the tick that no command has run are run first.
(Log: DEDUCED 11, DEDUCED 77, DESIGN CHOICE 106) -/
def tickBoundary (m : Mod) (ecc : List EccHit) : Mod :=
  if 2 ≤ m.pstate ∨ m.pwr.phase = 4 then m
  else
    let m := forN 80 (fun (m : Mod) o => m.flushReport (o / 20) (o % 20)) m
    let m := forN 8 (fun (m : Mod) k => m.stallFlush k) m
    let m := (m.assemble []).freezeImage false
    let v := m.verdict
    let img := m.frm.image.getD ⟨m.tick, [], [], [], []⟩
    let es := m.tickEntries
    let kept := m.tickKept
    let m := m.pairBoundary v
    let m := (m.onFrm fun x => { x with tick := x.tick + 1, image := none, fetched := false, assembled := false, slots := [],
                                        tickLen := 2000 }).onVnk fun x => { x with out := [] }
    let m := (m.diagPublish.commitBoundary v img es kept).pairLocks.snapshotTake.blockTick
    (m.eccScrub ecc).powerTick.sendNotices.forgetTicks.switchTick.tickOpen

/-! ### Rollback (R59, R91) -/

/-- The re-executed tick is agreed: its commit is released `delay` × 10 ns into the next tick, without a heartbeat. (Log: DEDUCED 18) -/
def rollbackRelease (m : Mod) (delay : Nat) : Mod :=
  match m.frm.held with
  | none => m
  | some h =>
    if m.pair.reagreed = false ∨ m.frm.withhold ∨ m.boot.resetDue ≠ 0 then m
    else
      let es := m.pair.w0.ready
      let kept := m.pair.w0.readyKept
      let m := m.onPair fun x => { x with reagreed := false, w0 := workerClose false x.w0 }
      let m := (m.onFrm fun x => { x with held := none }).wr FRM.ROLLBACK 0
      let m := forN 4 (fun (m : Mod) j => m.onQd j fun x => { x with carry := 0 }) (m.releaseCommit h es kept (some delay))
      (m.prm.open_.filter fun p => p.cls = 2 ∧ p.deadline = h.tick).foldl (fun m p => m.judge p.num) m

/-! ### Rod reload (R50, R51) -/

/-- The reload of the first rod that waits completes. (Log: DEDUCED 22) -/
def reloadDone (m : Mod) : Mod :=
  match m.frm.reload with
  | [] => m
  | r :: rest =>
    let m := ((m.onFrm fun x => { x with reload := rest }).wr TIL.RELOAD_ROD (rest.headD 0x3FF)).wrB TIL.RELOAD_BUSY (!rest.isEmpty)
    let good : Option (List Nat) := match m.boot.cfgSlot with
      | some s => (m.imgRod (slotBase s) r).filter fun b => rodCheck (m.genOf (m.rd FRM.TAB_ACT)) r 0 false b = 0
      | none => none
    match good with
    | some b => m.writeRod r b
    | none => ((m.wrBit (TIL.OOS (r / 32)) (r % 32) true).wr TIL.OOS_ANY 1).ev 0x0C crit 0x0106 [sj16 r]

/-! ### Frame and superframe boundaries (R17) -/

/-- A frame boundary, or in Park the same time on the oscillator of a quadrant kept awake: the substrate codes of the quadrants, and the bus time that the frames in progress have taken in the frame
just ended. (Log: DEDUCED 17, DEDUCED 69, DESIGN CHOICE 130) -/
def frameBoundary (m : Mod) (t0 t1 t2 t3 : Nat) (busy : List (Nat × Nat × Bool)) : Mod :=
  if m.pstate = 2 then m.parkFrame
  else if m.tick % 100 ≠ 0 ∨ 2 ≤ m.pstate ∨ m.pwr.phase = 4 then m
  else
    let m := ((m.baseplate t0 t1 t2 t3).sakTake 0).sakTake 1 |>.hedgeFrame
    let m := (forN 8 (fun (m : Mod) k => m.rampStep k) m).enginesFrame.scrubFlash
    let m := forN 8 (fun (m : Mod) p => (m.linOccupy p 0).pulseOccupy p) m
    let m := busy.foldl (fun (m : Mod) b => m.envAdd b.1 b.2.1 (if b.2.2 then 1 else 0)) m
    m.onPair fun x => { x with wdt := x.wdt + 1 }

/-- One RC measurement and the mean of the latest eight (R387). -/
def calibrate (m : Mod) (period temp : Nat) : Mod :=
  if ¬ m.on CLK.XTAL_OK then m
  else
    let l := (period :: m.pwr.cal).take 8
    ((m.onPwr fun x => { x with cal := l }).wr AON.CAL_PERIOD (quotient l.sum l.length)).wr AON.CAL_TEMP temp

/-- Notices lost in the superframe are reported (R336). (Log: DEDUCED 96) -/
def lostNotices (m : Mod) : Mod :=
  let n := m.vnk.lostSf
  let m := m.onVnk fun x => { x with lostSf := 0, unknownSf := false }
  if n = 0 then m else m.ev 0x3E warn 0x0B0A [vl16 (Nat.min n 65535)]

/-- The envelope settings that waited for the superframe boundary. -/
def envSettle (m : Mod) : Mod :=
  let l := m.prm.envPend
  l.foldl (fun (m : Mod) e => { m with regs := SMap.set 0 m.regs e.1 e.2 }) (m.onPrm fun x => { x with envPend := [] })

/-- A superframe boundary. (Log: DEDUCED 17) -/
def superframeBoundary (m : Mod) (period temp : Nat) : Mod :=
  if m.tick % 100000 ≠ 0 ∨ 2 ≤ m.pstate ∨ m.pwr.phase = 4 then m
  else
    let m := forN 4 (fun (m : Mod) j => m.qdReport j) m.moduleLimits
    let m := (m.t1sReport 0).t1sReport 1
    let m := ((m.secReport 0).secReport 1).lostNotices.dropReport
    let m := ((m.calibrate period temp).envSettle.wr FRM.TAB_ACT (m.rd FRM.TAB_NEXT)).wr PAIR.SF_RB 0
    let m := if m.rd FRM.SYNC = 3 then m.onFrm fun x => { x with holdSf := x.holdSf + 1 } else m
    m.fetch

/-! ### Vehicle time lost (R28) -/

/-- No offset update for three update intervals. -/
def holdoverEntry (m : Mod) : Mod :=
  if (m.rd FRM.SYNC = 1 ∨ m.rd FRM.SYNC = 2) ∧ m.frm.lastUpd + 3 * m.updateTicks ≤ m.tick then m.syncGo 3 true else m

/-- HOLDOVER_LIM superframes in Holdover, by the superframe boundaries passed in it. (Log: DEDUCED 118) -/
def holdoverExpire (m : Mod) : Mod :=
  if m.rd FRM.SYNC = 3 ∧ m.rd FRM.HOLDOVER_LIM ≤ m.frm.holdSf then m.syncGo 0 true else m

end Mod

/-! ### The commands -/

/-- TICK_BOUNDARY (R55). -/
def execTickBoundary (ecc : List EccHit) (s : State) : Out := s.next fun m => m.tickBoundary ecc

/-- COMMIT_ASSEMBLY (R31). -/
def execCommitAssembly (bad : List (Fin 1024)) (s : State) : Out := s.next fun m => m.assemble (bad.map (·.val))

/-- ROD_RELOAD_DONE (R51). -/
def execRodReloadDone (s : State) : Out := s.next Mod.reloadDone

/-- COMMIT_FREEZE (R27, R31). -/
def execCommitFreeze (slewFirst : Bool) (s : State) : Out :=
  s.next fun m => if 2 ≤ m.pstate then m else (m.assemble []).freezeImage slewFirst

/-- FRAME_BOUNDARY (R17). -/
def execFrameBoundary (t0 t1 t2 t3 : Byte) (busy : List (Fin 22 × Span)) (s : State) : Out :=
  s.next fun m => m.frameBoundary t0.toNat t1.toNat t2.toNat t3.toNat (busy.map fun b => (2 + b.1, b.2.occ.toNat, b.2.sof))

/-- SUPERFRAME_BOUNDARY (R17). -/
def execSuperframeBoundary (period : BitVec 24) (temp : Byte) (s : State) : Out :=
  s.next fun m => m.superframeBoundary period.toNat temp.toNat

/-- HOLDOVER_ENTRY (R28). -/
def execHoldoverEntry (s : State) : Out := s.next Mod.holdoverEntry

/-- HOLDOVER_EXPIRE (R28). -/
def execHoldoverExpire (s : State) : Out := s.next Mod.holdoverExpire

/-- ROLLBACK_RELEASE (R59). -/
def execRollbackRelease (delay : BitVec 16) (s : State) : Out := s.next fun m => m.rollbackRelease delay.toNat

end Sys2Proof.Machine
end

