-- ==== Sys2Proof/Machine/Dispatch.lean ====
section
/-! DEFINITION. The dispatch: one arm for each command, one direct call of its meaning. -/
namespace Sys2Proof.Machine

/-- The effect of a command on everything but the queue. -/
def exec (i : Instr) (s : State) : Host.Outcome State Fault Refusal :=
  match i with
  | .tickBoundary ecc => Sys2Proof.Machine.execTickBoundary ecc s
  | .commitAssembly bad => Sys2Proof.Machine.execCommitAssembly bad s
  | .rodReloadDone => Sys2Proof.Machine.execRodReloadDone s
  | .commitFreeze slewFirst => Sys2Proof.Machine.execCommitFreeze slewFirst s
  | .frameBoundary t0 t1 t2 t3 busy => Sys2Proof.Machine.execFrameBoundary t0 t1 t2 t3 busy s
  | .superframeBoundary period temp => Sys2Proof.Machine.execSuperframeBoundary period temp s
  | .holdoverEntry => Sys2Proof.Machine.execHoldoverEntry s
  | .holdoverExpire => Sys2Proof.Machine.execHoldoverExpire s
  | .seqRunStart w => Sys2Proof.Machine.execSeqRunStart w s
  | .seqRunStop w => Sys2Proof.Machine.execSeqRunStop w s
  | .tabNext t w => Sys2Proof.Machine.execTabNext t w s
  | .tickLoRead => Sys2Proof.Machine.execTickLoRead s
  | .tileWrite copy rod word v w => Sys2Proof.Machine.execTileWrite copy rod word v w s
  | .rollbackRelease delay => Sys2Proof.Machine.execRollbackRelease delay s
  | .nop slot pos ops => Sys2Proof.Machine.execNop slot pos ops s
  | .chSet slot pos ops => Sys2Proof.Machine.execChSet slot pos ops s
  | .bankSet slot pos ops => Sys2Proof.Machine.execBankSet slot pos ops s
  | .motCmd slot pos ops => Sys2Proof.Machine.execMotCmd slot pos ops s
  | .lsSet slot pos ops => Sys2Proof.Machine.execLsSet slot pos ops s
  | .ledSet slot pos ops => Sys2Proof.Machine.execLedSet slot pos ops s
  | .topCtl slot pos ops => Sys2Proof.Machine.execTopCtl slot pos ops s
  | .sampDi slot pos ops => Sys2Proof.Machine.execSampDi slot pos ops s
  | .sampCi slot pos ops => Sys2Proof.Machine.execSampCi slot pos ops s
  | .sampIs slot pos ops => Sys2Proof.Machine.execSampIs slot pos ops s
  | .sampFv slot pos ops => Sys2Proof.Machine.execSampFv slot pos ops s
  | .sampPg slot pos ops => Sys2Proof.Machine.execSampPg slot pos ops s
  | .movC2e slot pos ops ecc => Sys2Proof.Machine.execMovC2e slot pos ops ecc s
  | .movE2c slot pos ops => Sys2Proof.Machine.execMovE2c slot pos ops s
  | .canTxq slot pos ops ecc => Sys2Proof.Machine.execCanTxq slot pos ops ecc s
  | .linHdr slot pos ops => Sys2Proof.Machine.execLinHdr slot pos ops s
  | .nmStep slot pos ops => Sys2Proof.Machine.execNmStep slot pos ops s
  | .dispatch slot pos ops => Sys2Proof.Machine.execDispatch slot pos ops s
  | .prmDone slot pos ops => Sys2Proof.Machine.execPrmDone slot pos ops s
  | .diagReq slot pos ops => Sys2Proof.Machine.execDiagReq slot pos ops s
  | .domWake slot pos ops => Sys2Proof.Machine.execDomWake slot pos ops s
  | .skipIf slot pos ops => Sys2Proof.Machine.execSkipIf slot pos ops s
  | .event slot pos ops => Sys2Proof.Machine.execEvent slot pos ops s
  | .endBead slot pos ops => Sys2Proof.Machine.execEndBead slot pos ops s
  | .reqGo w => Sys2Proof.Machine.execReqGo w s
  | .admissionDecision => Sys2Proof.Machine.execAdmissionDecision s
  | .promiseDeadline num => Sys2Proof.Machine.execPromiseDeadline num s
  | .envIntervalEnd p => Sys2Proof.Machine.execEnvIntervalEnd p s
  | .chCmdWrite q c v w => Sys2Proof.Machine.execChCmdWrite q c v w s
  | .cellStep q c => Sys2Proof.Machine.execCellStep q c s
  | .slewEnd q c => Sys2Proof.Machine.execSlewEnd q c s
  | .pwmPeriodStart q c => Sys2Proof.Machine.execPwmPeriodStart q c s
  | .pwmOnEnd q c => Sys2Proof.Machine.execPwmOnEnd q c s
  | .deadTimeEnd q c => Sys2Proof.Machine.execDeadTimeEnd q c s
  | .senseConversion q c is outV feedV => Sys2Proof.Machine.execSenseConversion q c is outV feedV s
  | .tempConversion q c tj => Sys2Proof.Machine.execTempConversion q c tj s
  | .pairEnWrite q v w => Sys2Proof.Machine.execPairEnWrite q v w s
  | .shortTrip q c => Sys2Proof.Machine.execShortTrip q c s
  | .overcurrentTrip q c => Sys2Proof.Machine.execOvercurrentTrip q c s
  | .peakTimerTrip q c => Sys2Proof.Machine.execPeakTimerTrip q c s
  | .retryPauseEnd q c => Sys2Proof.Machine.execRetryPauseEnd q c s
  | .retryCntReset q c => Sys2Proof.Machine.execRetryCntReset q c s
  | .thermalShutdown q c => Sys2Proof.Machine.execThermalShutdown q c s
  | .thermalRecovery q c => Sys2Proof.Machine.execThermalRecovery q c s
  | .thermCntReset q c => Sys2Proof.Machine.execThermCntReset q c s
  | .latchClr q c => Sys2Proof.Machine.execLatchClr q c s
  | .clampEnd q c e => Sys2Proof.Machine.execClampEnd q c e s
  | .sagBegin q v => Sys2Proof.Machine.execSagBegin q v s
  | .sagEnd q v => Sys2Proof.Machine.execSagEnd q v s
  | .reservoirOff b => Sys2Proof.Machine.execReservoirOff b s
  | .feedBelow2v8 q v => Sys2Proof.Machine.execFeedBelow2v8 q v s
  | .undervoltageOff q v => Sys2Proof.Machine.execUndervoltageOff q v s
  | .overvoltage q v => Sys2Proof.Machine.execOvervoltage q v s
  | .overvoltageRelease q v => Sys2Proof.Machine.execOvervoltageRelease q v s
  | .inrushQueueStart b => Sys2Proof.Machine.execInrushQueueStart b s
  | .inrushWindowEnd q c => Sys2Proof.Machine.execInrushWindowEnd q c s
  | .reverseCurrent q c i1 => Sys2Proof.Machine.execReverseCurrent q c i1 s
  | .reverseCurrentEnd q c => Sys2Proof.Machine.execReverseCurrentEnd q c s
  | .reverseFeed q => Sys2Proof.Machine.execReverseFeed q s
  | .reverseFeedEnd q => Sys2Proof.Machine.execReverseFeedEnd q s
  | .groundLoss q => Sys2Proof.Machine.execGroundLoss q s
  | .groundLossClear q => Sys2Proof.Machine.execGroundLossClear q s
  | .heartbeatSilence b => Sys2Proof.Machine.execHeartbeatSilence b s
  | .safePatternToggle q p => Sys2Proof.Machine.execSafePatternToggle q p s
  | .holdLimit b => Sys2Proof.Machine.execHoldLimit b s
  | .safeRel b => Sys2Proof.Machine.execSafeRel b s
  | .offOl q c => Sys2Proof.Machine.execOffOl q c s
  | .offStb q c => Sys2Proof.Machine.execOffStb q c s
  | .onChk q c => Sys2Proof.Machine.execOnChk q c s
  | .auto q c => Sys2Proof.Machine.execAuto q c s
  | .cancel q c => Sys2Proof.Machine.execCancel q c s
  | .clear q c => Sys2Proof.Machine.execClear q c s
  | .pullDownPhaseEnd q c v => Sys2Proof.Machine.execPullDownPhaseEnd q c v s
  | .pullUpPhaseEnd q c v => Sys2Proof.Machine.execPullUpPhaseEnd q c v s
  | .noMeasTimeout q c => Sys2Proof.Machine.execNoMeasTimeout q c s
  | .chgPop r => Sys2Proof.Machine.execChgPop r s
  | .brEnWrite k v w => Sys2Proof.Machine.execBrEnWrite k v w s
  | .coast k => Sys2Proof.Machine.execCoast k s
  | .fwd k duty => Sys2Proof.Machine.execFwd k duty s
  | .rev k duty => Sys2Proof.Machine.execRev k duty s
  | .brakeLs k => Sys2Proof.Machine.execBrakeLs k s
  | .brakeHs k => Sys2Proof.Machine.execBrakeHs k s
  | .reversalBrakeEnd k => Sys2Proof.Machine.execReversalBrakeEnd k s
  | .chop k => Sys2Proof.Machine.execChop k s
  | .stallMaskEnd k => Sys2Proof.Machine.execStallMaskEnd k s
  | .currentStall k => Sys2Proof.Machine.execCurrentStall k s
  | .hallStall k => Sys2Proof.Machine.execHallStall k s
  | .quadratureTransition j lead cyc => Sys2Proof.Machine.execQuadratureTransition j lead cyc s
  | .illegalTransition j => Sys2Proof.Machine.execIllegalTransition j s
  | .qdPosWrite j v w => Sys2Proof.Machine.execQdPosWrite j v w s
  | .sinkCmdWrite n v w => Sys2Proof.Machine.execSinkCmdWrite n v w s
  | .sinkPeriodStart n => Sys2Proof.Machine.execSinkPeriodStart n s
  | .sinkOnEnd n => Sys2Proof.Machine.execSinkOnEnd n s
  | .sinkMeasure n drop cur => Sys2Proof.Machine.execSinkMeasure n drop cur s
  | .groupOvertemp g => Sys2Proof.Machine.execGroupOvertemp g s
  | .groupResume g => Sys2Proof.Machine.execGroupResume g s
  | .thLatchClr => Sys2Proof.Machine.execThLatchClr s
  | .stop e => Sys2Proof.Machine.execStop e s
  | .start e addr => Sys2Proof.Machine.execStart e addr s
  | .pause e => Sys2Proof.Machine.execPause e s
  | .resume e => Sys2Proof.Machine.execResume e s
  | .flag e addr => Sys2Proof.Machine.execFlag e addr s
  | .wait e n => Sys2Proof.Machine.execWait e n s
  | .lda e k => Sys2Proof.Machine.execLda e k s
  | .ldb e k => Sys2Proof.Machine.execLdb e k s
  | .rmpa e n k => Sys2Proof.Machine.execRmpa e n k s
  | .rmpb e n k => Sys2Proof.Machine.execRmpb e n k s
  | .pset e h v => Sys2Proof.Machine.execPset e h v s
  | .rot e d w => Sys2Proof.Machine.execRot e d w s
  | .shf e i1 d w => Sys2Proof.Machine.execShf e i1 d w s
  | .loop e c a => Sys2Proof.Machine.execLoop e c a s
  | .ldc e c v => Sys2Proof.Machine.execLdc e c v s
  | .jmp e a => Sys2Proof.Machine.execJmp e a s
  | .flagInstruction e f v => Sys2Proof.Machine.execFlagInstruction e f v s
  | .wflg e f v => Sys2Proof.Machine.execWflg e f v s
  | .endInstruction e z => Sys2Proof.Machine.execEndInstruction e z s
  | .rampStep e => Sys2Proof.Machine.execRampStep e s
  | .engineLocalStep => Sys2Proof.Machine.execEngineLocalStep s
  | .progWrite e i1 v w => Sys2Proof.Machine.execProgWrite e i1 v w s
  | .readCycle b => Sys2Proof.Machine.execReadCycle b s
  | .sensorRead b ok data => Sys2Proof.Machine.execSensorRead b ok data s
  | .busStuck b => Sys2Proof.Machine.execBusStuck b s
  | .rawTransfer v => Sys2Proof.Machine.execRawTransfer v s
  | .rawTransferDone nack data => Sys2Proof.Machine.execRawTransferDone nack data s
  | .apply t => Sys2Proof.Machine.execApply t s
  | .neighbourPinShortTest => Sys2Proof.Machine.execNeighbourPinShortTest s
  | .neighbourStep low below above => Sys2Proof.Machine.execNeighbourStep low below above s
  | .rawLevelChange i1 on => Sys2Proof.Machine.execRawLevelChange i1 on s
  | .debounceExpire i1 => Sys2Proof.Machine.execDebounceExpire i1 s
  | .cleaningPulseEnd i1 => Sys2Proof.Machine.execCleaningPulseEnd i1 s
  | .inputOv ch => Sys2Proof.Machine.execInputOv ch s
  | .ciEdge j rising cyc => Sys2Proof.Machine.execCiEdge j rising cyc s
  | .ciWindowEnd j => Sys2Proof.Machine.execCiWindowEnd j s
  | .lsCmdWrite v w => Sys2Proof.Machine.execLsCmdWrite v w s
  | .lsCurrentLimit k => Sys2Proof.Machine.execLsCurrentLimit k s
  | .lsThermal k => Sys2Proof.Machine.execLsThermal k s
  | .lsThermalResume k => Sys2Proof.Machine.execLsThermalResume k s
  | .lsOpenLoad k => Sys2Proof.Machine.execLsOpenLoad k s
  | .diagCmdRead ch => Sys2Proof.Machine.execDiagCmdRead ch s
  | .diagCmdReadClear ch => Sys2Proof.Machine.execDiagCmdReadClear ch s
  | .diagCmdTest ch => Sys2Proof.Machine.execDiagCmdTest ch s
  | .diagAnswer value fail => Sys2Proof.Machine.execDiagAnswer value fail s
  | .parkSenseSample raw => Sys2Proof.Machine.execParkSenseSample raw s
  | .canModeOff n => Sys2Proof.Machine.execCanModeOff n s
  | .canModeNormal n => Sys2Proof.Machine.execCanModeNormal n s
  | .canModeListenOnly n => Sys2Proof.Machine.execCanModeListenOnly n s
  | .build n => Sys2Proof.Machine.execBuild n s
  | .canFrameValid n f cyc sp => Sys2Proof.Machine.execCanFrameValid n f cyc sp s
  | .conditionalClear o v => Sys2Proof.Machine.execConditionalClear o v s
  | .lockTake o r => Sys2Proof.Machine.execLockTake o r s
  | .lockRelease o r => Sys2Proof.Machine.execLockRelease o r s
  | .lockTimeout n => Sys2Proof.Machine.execLockTimeout n s
  | .txqReq n o w => Sys2Proof.Machine.execTxqReq n o w s
  | .canTxSuccess n cyc delay sp => Sys2Proof.Machine.execCanTxSuccess n cyc delay sp s
  | .canError n tx code dataPhase region dom sp ecc => Sys2Proof.Machine.execCanError n tx code dataPhase region dom sp ecc s
  | .boDelayEnd n => Sys2Proof.Machine.execBoDelayEnd n s
  | .busOffRecoveryDone n => Sys2Proof.Machine.execBusOffRecoveryDone n s
  | .restart n => Sys2Proof.Machine.execRestart n s
  | .trxNormal p => Sys2Proof.Machine.execTrxNormal p s
  | .trxListenOnly p => Sys2Proof.Machine.execTrxListenOnly p s
  | .trxStandby p => Sys2Proof.Machine.execTrxStandby p s
  | .trxSleep p => Sys2Proof.Machine.execTrxSleep p s
  | .trxChangeDone p => Sys2Proof.Machine.execTrxChangeDone p s
  | .busWake p => Sys2Proof.Machine.execBusWake p s
  | .txdTimeout p => Sys2Proof.Machine.execTxdTimeout p s
  | .busDominant n => Sys2Proof.Machine.execBusDominant n s
  | .trxOvertemp p => Sys2Proof.Machine.execTrxOvertemp p s
  | .linFrameEnd p res bytes cyc => Sys2Proof.Machine.execLinFrameEnd p res bytes cyc s
  | .wakeTx p => Sys2Proof.Machine.execWakeTx p s
  | .unexplainedDominant p len => Sys2Proof.Machine.execUnexplainedDominant p len s
  | .plcaCycle n us => Sys2Proof.Machine.execPlcaCycle n us s
  | .t1sFrameSent n sp => Sys2Proof.Machine.execT1sFrameSent n sp s
  | .t1sCollision n own => Sys2Proof.Machine.execT1sCollision n own s
  | .foreignBeacon n => Sys2Proof.Machine.execForeignBeacon n s
  | .linkDown n => Sys2Proof.Machine.execLinkDown n s
  | .linkUp n sqi => Sys2Proof.Machine.execLinkUp n sqi s
  | .podlPowerAppear n => Sys2Proof.Machine.execPodlPowerAppear n s
  | .tc10SleepDone n => Sys2Proof.Machine.execTc10SleepDone n s
  | .bbFrameRx n tag host f => Sys2Proof.Machine.execBbFrameRx n tag host f s
  | .mkaSakInstall n sak => Sys2Proof.Machine.execMkaSakInstall n sak s
  | .frerReset mac vlan => Sys2Proof.Machine.execFrerReset mac vlan s
  | .followUp n origin mld cyc => Sys2Proof.Machine.execFollowUp n origin mld cyc s
  | .slaveChangeover => Sys2Proof.Machine.execSlaveChangeover s
  | .syncTx n cyc => Sys2Proof.Machine.execSyncTx n cyc s
  | .acfFrame n sid seq cyc msgs => Sys2Proof.Machine.execAcfFrame n sid seq cyc msgs s
  | .read r ecc => Sys2Proof.Machine.execRead r ecc s
  | .write r data => Sys2Proof.Machine.execWrite r data s
  | .writeM r data => Sys2Proof.Machine.execWriteM r data s
  | .promise r w0 w1 w2 w3 frame cyc => Sys2Proof.Machine.execPromise r w0 w1 w2 w3 frame cyc s
  | .identify r => Sys2Proof.Machine.execIdentify r s
  | .vinkoTimeout slot seq => Sys2Proof.Machine.execVinkoTimeout slot seq s
  | .prefetchExpire slot => Sys2Proof.Machine.execPrefetchExpire slot s
  | .farComplete slot seq result data => Sys2Proof.Machine.execFarComplete slot seq result data s
  | .canTpSend r len => Sys2Proof.Machine.execCanTpSend r len s
  | .updOpen r => Sys2Proof.Machine.execUpdOpen r s
  | .erase r => Sys2Proof.Machine.execErase r s
  | .eraseDone => Sys2Proof.Machine.execEraseDone s
  | .updateWrite r data => Sys2Proof.Machine.execUpdateWrite r data s
  | .verify r => Sys2Proof.Machine.execVerify r s
  | .verifyDone sig => Sys2Proof.Machine.execVerifyDone sig s
  | .activate r => Sys2Proof.Machine.execActivate r s
  | .status r => Sys2Proof.Machine.execStatus r s
  | .close r => Sys2Proof.Machine.execClose r s
  | .reject r => Sys2Proof.Machine.execReject r s
  | .revoke r slot sig => Sys2Proof.Machine.execRevoke r slot sig s
  | .holdWrite n v => Sys2Proof.Machine.execHoldWrite n v s
  | .rptReq n => Sys2Proof.Machine.execRptReq n s
  | .rptTimerExpire n => Sys2Proof.Machine.execRptTimerExpire n s
  | .nmTimerExpire n => Sys2Proof.Machine.execNmTimerExpire n s
  | .pbsTimerExpire n => Sys2Proof.Machine.execPbsTimerExpire n s
  | .fwTimerExpire n => Sys2Proof.Machine.execFwTimerExpire n s
  | .readySleepReport n => Sys2Proof.Machine.execReadySleepReport n s
  | .vpodLoss vpod vbl => Sys2Proof.Machine.execVpodLoss vpod vbl s
  | .vpodReturn vpod vbl => Sys2Proof.Machine.execVpodReturn vpod vbl s
  | .holdupStart vpod vbl => Sys2Proof.Machine.execHoldupStart vpod vbl s
  | .coldReset => Sys2Proof.Machine.execColdReset s
  | .auxLow feed => Sys2Proof.Machine.execAuxLow feed s
  | .auxRecover => Sys2Proof.Machine.execAuxRecover s
  | .requestRun w => Sys2Proof.Machine.execRequestRun w s
  | .requestDoze w => Sys2Proof.Machine.execRequestDoze w s
  | .requestPark w => Sys2Proof.Machine.execRequestPark w s
  | .requestShelf w => Sys2Proof.Machine.execRequestShelf w s
  | .commitPoint => Sys2Proof.Machine.execCommitPoint s
  | .parkStop ok => Sys2Proof.Machine.execParkStop ok s
  | .parkPowerDown => Sys2Proof.Machine.execParkPowerDown s
  | .parkWake atWake atRestart temp ucodeOk aonBad => Sys2Proof.Machine.execParkWake atWake atRestart temp ucodeOk aonBad s
  | .dozeExit => Sys2Proof.Machine.execDozeExit s
  | .shelfWake p atWake => Sys2Proof.Machine.execShelfWake p atWake s
  | .shelfMemoryLoss => Sys2Proof.Machine.execShelfMemoryLoss s
  | .domSleep mask w => Sys2Proof.Machine.execDomSleep mask w s
  | .domainReady d => Sys2Proof.Machine.execDomainReady d s
  | .aonTimerExpire => Sys2Proof.Machine.execAonTimerExpire s
  | .tickInterrupt holly => Sys2Proof.Machine.execTickInterrupt holly s
  | .ecall holly r => Sys2Proof.Machine.execEcall holly r s
  | .ebreak holly r => Sys2Proof.Machine.execEbreak holly r s
  | .wfi holly r => Sys2Proof.Machine.execWfi holly r s
  | .fence holly r => Sys2Proof.Machine.execFence holly r s
  | .fenceI holly r => Sys2Proof.Machine.execFenceI holly r s
  | .pairStore holly a k v r => Sys2Proof.Machine.execPairStore holly a k v r s
  | .pairLoad holly a k signed rd ecc r => Sys2Proof.Machine.execPairLoad holly a k signed rd ecc r s
  | .sliceBudgetException holly => Sys2Proof.Machine.execSliceBudgetException holly s
  | .tickMeterLimit holly => Sys2Proof.Machine.execTickMeterLimit holly s
  | .tickAgreed => Sys2Proof.Machine.execTickAgreed s
  | .mismatch field addr late => Sys2Proof.Machine.execMismatch field addr late s
  | .restoreDone => Sys2Proof.Machine.execRestoreDone s
  | .checkerAlarm parity => Sys2Proof.Machine.execCheckerAlarm parity s
  | .injectionTestDone fail => Sys2Proof.Machine.execInjectionTestDone fail s
  | .warmReset => Sys2Proof.Machine.execWarmReset s
  | .watchdogExpire => Sys2Proof.Machine.execWatchdogExpire s
  | .wdtKick key w => Sys2Proof.Machine.execWdtKick key w s
  | .sliceRead holly rd r => Sys2Proof.Machine.execSliceRead holly rd r s
  | .debugHalt => Sys2Proof.Machine.execDebugHalt s
  | .eventRecord ecc => Sys2Proof.Machine.execEventRecord ecc s
  | .criticalWriteThrough ok => Sys2Proof.Machine.execCriticalWriteThrough ok s
  | .raiseEvent v w => Sys2Proof.Machine.execRaiseEvent v w s
  | .recData0Read => Sys2Proof.Machine.execRecData0Read s
  | .startStepComplete r => Sys2Proof.Machine.execStartStepComplete r s
  | .startWatchdog port ports => Sys2Proof.Machine.execStartWatchdog port ports s
  | .startComplete ms => Sys2Proof.Machine.execStartComplete ms s
  | .otpProgram w => Sys2Proof.Machine.execOtpProgram w s
  | .cakWrite i1 v w => Sys2Proof.Machine.execCakWrite i1 v w s
  | .dbgAuthRead challenge => Sys2Proof.Machine.execDbgAuthRead challenge s
  | .dbgAuthWrite slot ok => Sys2Proof.Machine.execDbgAuthWrite slot ok s
  | .diagnosticSessionControl sub => Sys2Proof.Machine.execDiagnosticSessionControl sub s
  | .ecuReset sub => Sys2Proof.Machine.execEcuReset sub s
  | .readDataByIdentifier did => Sys2Proof.Machine.execReadDataByIdentifier did s
  | .requestSeed seed => Sys2Proof.Machine.execRequestSeed seed s
  | .sendKey slot ok => Sys2Proof.Machine.execSendKey slot ok s
  | .routineControl sub rid opt sig => Sys2Proof.Machine.execRoutineControl sub rid opt sig s
  | .requestDownload format addr size => Sys2Proof.Machine.execRequestDownload format addr size s
  | .transferData counter data => Sys2Proof.Machine.execTransferData counter data s
  | .requestTransferExit => Sys2Proof.Machine.execRequestTransferExit s
  | .testerPresent sub => Sys2Proof.Machine.execTesterPresent sub s
  | .sessionTimeout => Sys2Proof.Machine.execSessionTimeout s
  | .handoverStart => Sys2Proof.Machine.execHandoverStart s
  | .exportDone => Sys2Proof.Machine.execExportDone s
  | .importOk => Sys2Proof.Machine.execImportOk s
  | .importFail => Sys2Proof.Machine.execImportFail s
  | .ctlReject => Sys2Proof.Machine.execCtlReject s
  | .exportTimeout => Sys2Proof.Machine.execExportTimeout s
  | .importTimeout => Sys2Proof.Machine.execImportTimeout s
  | .probationPass => Sys2Proof.Machine.execProbationPass s
  | .keyOpen pg w => Sys2Proof.Machine.execKeyOpen pg w s
  | .keyClose pg v w => Sys2Proof.Machine.execKeyClose pg v w s
  | .lockdown pg cmd w => Sys2Proof.Machine.execLockdown pg cmd w s
  | .softwareReset w => Sys2Proof.Machine.execSoftwareReset w s
  | .registerWrite pg word v mask w => Sys2Proof.Machine.execRegisterWrite pg word v mask w s
  | .feedAbove2v8 q v => Sys2Proof.Machine.execFeedAbove2v8 q v s
  | .chargePumpReady b => Sys2Proof.Machine.execChargePumpReady b s
  | .holdupEnd vpod vbl => Sys2Proof.Machine.execHoldupEnd vpod vbl s
  | .canBusIntegrated n => Sys2Proof.Machine.execCanBusIntegrated n s
  | .t1sFrameRx n f sp => Sys2Proof.Machine.execT1sFrameRx n f sp s
  | .trxOvertempEnd p => Sys2Proof.Machine.execTrxOvertempEnd p s
  | .rcFieldRead pg word reader => Sys2Proof.Machine.execRcFieldRead pg word reader s
  | .csrAccess holly a op src rd r => Sys2Proof.Machine.execCsrAccess holly a op src rd r s
  | .tapInstruction i1 => Sys2Proof.Machine.execTapInstruction i1 s
  | .debugResume => Sys2Proof.Machine.execDebugResume s
  | .otpProgramDone stuck => Sys2Proof.Machine.execOtpProgramDone stuck s

end Sys2Proof.Machine
end

