-- ==== Sys2Proof/Safety.lean ====
section
/-! DEFINITION. What a safe state and a safe run are: the memories and the register file in canonical form, the registers that
show the rest of the state up to date, no stop. -/
namespace Sys2Proof.Machine

/-- The byte memories are in canonical form: addresses strictly rising, no entry equal to what an unlisted byte reads as. -/
def State.memOk (s : State) : Prop := memWf s.mod.mem = true

/-- Every derived register shows what it stands for (R42, R184, R480 and the LVL, COUNT and OPEN registers). -/
def Mod.Settled (m : Mod) : Prop := ∀ p ∈ m.derived, m.rd p.1 = p.2 % 2 ^ p.1.w

/-- The derived registers of a state are up to date. -/
def State.Settled (s : State) : Prop := s.mod.Settled

/-- The registers that only show other parts of the state. -/
def Mod.shown : List Fld :=
  [Reg.SYS.IRQ_SUM0, Reg.SYS.IRQ_SUM1, Reg.FRM.SWAP_PEND, Reg.PRM.OPEN, Reg.PRM.INTAKE, Reg.EVT.COUNT, Reg.DIA.FIFO_LVL, Reg.NM.AWAKE,
    Reg.TS.PLCA_ACT 0, Reg.TS.PLCA_ACT 1, Reg.BRG.LS_LVL 0, Reg.BRG.LS_LVL 1, Reg.BRG.LS_LVL 2, Reg.BRG.LS_LVL 3, Reg.BRG.LS_LVL 4,
    Reg.BRG.LS_LVL 5, Reg.BRG.LS_LVL 6, Reg.BRG.LS_LVL 7]

/-- From `m` to `t` no register changes but those listed and the shown ones. -/
def Mod.KeepsRegs (l : List Fld) (m t : Mod) : Prop := ∀ g : Fld, (∀ f ∈ Mod.shown ++ l, f.key ≠ g.key) → t.rd g = m.rd g

/-- From `m` to `t` no register outside the pages listed changes but the shown ones. -/
def Mod.OnlyPages (l : List Nat) (m t : Mod) : Prop :=
  ∀ g : Fld, g.key / 524288 ∉ l → (∀ f ∈ Mod.shown, f.key ≠ g.key) → t.rd g = m.rd g

/-- The pages of the output blocks, which Hold and Safe act on, and the event log's. -/
def Mod.outPages : List Nat := [0x08, 0x10, 0x11, 0x12, 0x13, 0x14, 0x15, 0x16, 0x18]

/-- From `m` to `t` nothing changes but the registers listed and the shown ones: no byte of memory, no other part of the state. -/
def Mod.OnlyRegs (l : List Fld) (m t : Mod) : Prop := { t with regs := m.regs } = m ∧ m.KeepsRegs l t

/-- The registers in which the raising of an event of page `pg` is counted. -/
def Mod.evtFlds (pg : Nat) : List Fld :=
  [Reg.COM.RAISED pg, Reg.COM.LAST_CODE pg, Reg.EVT.INTAKE_FULL_CNT, Reg.EVT.DROPPED 0, Reg.EVT.DROPPED 1, Reg.EVT.DROPPED 2, Reg.EVT.DROPPED 3]

/-- From `m` to `t` one entry has joined the commit queue of worker 0, and nothing else has changed (R403). -/
def Mod.Queued (a v : Nat) (m t : Mod) : Prop :=
  t.pair.w0 = { m.pair.w0 with cq := m.pair.w0.cq ++ [⟨a, v, 4⟩] } ∧ t.pair.w1 = m.pair.w1 ∧
    { t with pair := m.pair, regs := m.regs } = m ∧ m.KeepsRegs [] t

/-- From `m` to `t` one more event has joined the writer's queue (R429). -/
def Mod.Reported (m t : Mod) (pg cls code : Nat) (l : List Item) : Prop := t.evt.intake = m.evt.intake ++ [m.mkEvt pg cls code l]

/-- The writer's queue has room for `n` more (R429). -/
def Mod.Room (m : Mod) (n : Nat) : Prop := m.evt.intake.length + n ≤ 64

/-- A bead at position `pos` of slot `slot` runs: its tick's rods are fetched, the Frame runs a rod there that holds the position, and no
END and no skip stands before it. -/
def Mod.beadDue (m : Mod) (slot : Fin 3) (pos : Fin 56) : Prop :=
  m.frm.fetched = true ∧ m.on Reg.FRM.RUNNING = true ∧ (m.slotX slot).loaded = true ∧ pos.val < (m.slotX slot).count ∧
    (m.slotX slot).ended = false ∧ (m.slotX slot).next ≤ pos.val

/-- The bead as the source of an effect. -/
def Mod.beadSrc (m : Mod) (slot : Fin 3) (pos : Fin 56) : Src := ⟨slot.val, (m.slotX slot).rod, pos.val⟩

/-- From `m` to `t` the effects `l` have been staged for the commit; registers, memory and outputs are as before. -/
def Mod.Staged (m : Mod) (slot : Fin 3) (pos : Fin 56) (l : List Effect) (t : Mod) : Prop :=
  t.frm.staged = m.frm.staged ++ l.map (fun e => ⟨m.beadSrc slot pos, e⟩) ∧ t.mem = m.mem ∧ t.chans = m.chans ∧ t.prm = m.prm ∧
    m.KeepsRegs [] t

/-- The command `i` at the state `s` answers a next state, the queue left alone, and the block before and after it are as `P` says. -/
def State.Runs (s : State) (i : Instr) (P : Mod → Mod → Prop) : Prop := ∃ t, exec i s = .next t ∧ t.pending = s.pending ∧ P s.mod t.mod

/-- The request `r` of operation `op` as a transaction of slot `slot` in the present tick. -/
def Mod.txnOf (m : Mod) (r : VnkReq) (slot op : Nat) (payload : List Nat) : Txn :=
  { slot := slot, seq := r.seq.toNat, op := op, win := r.win.toNat, posted := false, addr := r.addr.toNat, aux := r.aux.toNat,
    payload := payload, tick := m.tick, port := r.port }

/-- A well-formed, non-posted request of the enabled initiator slot `slot` reaches Vinko over a port that takes frames, and no other
transaction is open or remembered. -/
def Mod.Hears (m : Mod) (r : VnkReq) (slot : Nat) : Prop :=
  m.on Reg.VNK.EN = true ∧ m.pstate < 2 ∧ m.bbTakes r.port = true ∧ m.initOf r.mac.toNat = some slot ∧ r.posted = false ∧ r.malformed = false ∧ r.win.toNat < 64 ∧
    m.vnk.open_ = [] ∧ SMap.get [] m.vnk.hist slot = [] ∧ m.vnk.pref = []

/-- The request's window is enabled, of type `ty`, and lets the slot in to all its types of access. -/
def Mod.Grants (m : Mod) (r : VnkReq) (slot ty : Nat) : Prop :=
  m.rd (Reg.VNK.WIN_TYPE r.win.toNat) = ty ∧ m.on (Reg.VNK.WIN_EN r.win.toNat) = true ∧ m.bit (Reg.VNK.INIT_MASK r.win.toNat) slot = true ∧
    m.on (Reg.VNK.WIN_RD r.win.toNat) = true ∧ m.on (Reg.VNK.WIN_WR r.win.toNat) = true

/-- From `m` to `t` the host port has sent the response to transaction `q` with this code, AUX and payload, and `q` is not open. -/
def Mod.Answers (m : Mod) (q : Txn) (code aux : Nat) (payload : List Nat) (t : Mod) : Prop :=
  t.vnk.out = m.vnk.out ++ [⟨.rsp, q.slot, q.seq, SMap.get 0 m.vnk.rtag (16 + q.slot),
    vnkHeader true false q.op q.seq q.win code payload.length q.addr aux ++ payload,
    (t.outAddr .rsp q.slot).1, (t.outAddr .rsp q.slot).2.1, (t.outAddr .rsp q.slot).2.2⟩] ∧ t.vnk.open_ = m.vnk.open_.erase q

/-- The registers in which a response is counted. -/
def Mod.rspFlds (slot : Nat) : List Fld :=
  [Reg.VNK.INIT_OPEN slot, Reg.BB.TX_OK_CNT 0, Reg.BB.TX_OK_CNT 1, Reg.VNK.BUSY_CNT, Reg.VNK.TIMEOUT_CNT, Reg.VNK.DENIED_CNT]

/-- A step answers a next state. -/
def State.Goes (s : State) : Prop := ∃ t, step s = .next t

/-- A run of `n` steps stops nowhere. -/
def SafeRun (n : Nat) (s : State) : Prop := ∃ t, Host.Core.run Sys2Proof.core n s = .next t

end Sys2Proof.Machine
end

