-- ==== Sys2Proof/WellFormed.lean ====
section
/-! DEFINITION. Well-formed commands: what the operands' types leave open and the spec rules out for an event that can happen. No
meaning leans on it; a command that is not well formed has its effect all the same. -/
namespace Sys2Proof

/-- A cycle of a tick (R26, R31): a tick has at most 2001. -/
def cycleOk (cyc : BitVec 11) : Bool := decide (cyc.toNat ≤ 2000)

/-- The payload lengths of CAN FD (ISO 11898-1), by DLC. -/
def fdLengths : List Nat := [0, 1, 2, 3, 4, 5, 6, 7, 8, 12, 16, 20, 24, 32, 48, 64]

/-- A frame that a CAN bus can carry (R262): an 11-bit identifier unless extended, a payload of its format's lengths. -/
def BusFrame.wf (f : BusFrame) : Bool :=
  (f.ide || decide (f.id.toNat < 2048)) &&
    (if f.xlf then !f.ide && !f.rtr && decide (1 ≤ f.data.length) && decide (f.data.length ≤ 2048)
    else if f.fdf then !f.rtr && decide (f.data.length = fdLengths.getD f.dlc.toNat 64)
    else decide (f.data.length = if f.rtr then 0 else Nat.min 8 f.dlc.toNat))

/-- The payload of an Ethernet frame is at most 1500 bytes. -/
def EthFrame.wf (f : EthFrame) : Bool := decide (f.payload.length ≤ 1500)

/-- A message that an ACF frame can carry. -/
def AcfMsg.wf : AcfMsg → Bool
  | .can _ f => f.wf
  | .lin _ _ bytes => decide (bytes.length ≤ 8)
  | .other => true

/-- The bus time of one frame interval is at most the interval (R83): 100 ticks of at most 2001 cycles. -/
def Span.wf (sp : Span) : Bool := decide (sp.occ.toNat ≤ 200100)

/-- Every row of the table, with the checks on its operands. -/
def Instr.wf (i : Instr) : Bool :=
  match i with
  | .tickBoundary _ => true
  | .commitAssembly _ => true
  | .rodReloadDone => true
  | .commitFreeze _ => true
  | .frameBoundary _ _ _ _ busy => busy.all fun b => b.2.wf
  | .superframeBoundary _ _ => true
  | .holdoverEntry => true
  | .holdoverExpire => true
  | .seqRunStart _ => true
  | .seqRunStop _ => true
  | .tabNext _ _ => true
  | .tickLoRead => true
  | .tileWrite _ _ _ _ _ => true
  | .rollbackRelease _ => true
  | .nop _ _ _ => true
  | .chSet _ _ _ => true
  | .bankSet _ _ _ => true
  | .motCmd _ _ _ => true
  | .lsSet _ _ _ => true
  | .ledSet _ _ _ => true
  | .topCtl _ _ _ => true
  | .sampDi _ _ _ => true
  | .sampCi _ _ _ => true
  | .sampIs _ _ _ => true
  | .sampFv _ _ _ => true
  | .sampPg _ _ _ => true
  | .movC2e _ _ _ _ => true
  | .movE2c _ _ _ => true
  | .canTxq _ _ _ _ => true
  | .linHdr _ _ _ => true
  | .nmStep _ _ _ => true
  | .dispatch _ _ _ => true
  | .prmDone _ _ _ => true
  | .diagReq _ _ _ => true
  | .domWake _ _ _ => true
  | .skipIf _ _ _ => true
  | .event _ _ _ => true
  | .endBead _ _ _ => true
  | .reqGo _ => true
  | .admissionDecision => true
  | .promiseDeadline _ => true
  | .envIntervalEnd _ => true
  | .chCmdWrite _ _ _ _ => true
  | .cellStep _ _ => true
  | .slewEnd _ _ => true
  | .pwmPeriodStart _ _ => true
  | .pwmOnEnd _ _ => true
  | .deadTimeEnd _ _ => true
  | .senseConversion _ _ _ _ _ => true
  | .tempConversion _ _ _ => true
  | .pairEnWrite _ _ _ => true
  | .shortTrip _ _ => true
  | .overcurrentTrip _ _ => true
  | .peakTimerTrip _ _ => true
  | .retryPauseEnd _ _ => true
  | .retryCntReset _ _ => true
  | .thermalShutdown _ _ => true
  | .thermalRecovery _ _ => true
  | .thermCntReset _ _ => true
  | .latchClr _ _ => true
  | .clampEnd _ _ _ => true
  | .sagBegin _ _ => true
  | .sagEnd _ _ => true
  | .reservoirOff _ => true
  | .feedBelow2v8 _ _ => true
  | .undervoltageOff _ _ => true
  | .overvoltage _ _ => true
  | .overvoltageRelease _ _ => true
  | .inrushQueueStart _ => true
  | .inrushWindowEnd _ _ => true
  | .reverseCurrent _ _ _ => true
  | .reverseCurrentEnd _ _ => true
  | .reverseFeed _ => true
  | .reverseFeedEnd _ => true
  | .groundLoss _ => true
  | .groundLossClear _ => true
  | .heartbeatSilence _ => true
  | .safePatternToggle _ _ => true
  | .holdLimit _ => true
  | .safeRel _ => true
  | .offOl _ _ => true
  | .offStb _ _ => true
  | .onChk _ _ => true
  | .auto _ _ => true
  | .cancel _ _ => true
  | .clear _ _ => true
  | .pullDownPhaseEnd _ _ _ => true
  | .pullUpPhaseEnd _ _ _ => true
  | .noMeasTimeout _ _ => true
  | .chgPop _ => true
  | .brEnWrite _ _ _ => true
  | .coast _ => true
  | .fwd _ _ => true
  | .rev _ _ => true
  | .brakeLs _ => true
  | .brakeHs _ => true
  | .reversalBrakeEnd _ => true
  | .chop _ => true
  | .stallMaskEnd _ => true
  | .currentStall _ => true
  | .hallStall _ => true
  | .quadratureTransition _ _ cyc => cycleOk cyc
  | .illegalTransition _ => true
  | .qdPosWrite _ _ _ => true
  | .sinkCmdWrite _ _ _ => true
  | .sinkPeriodStart _ => true
  | .sinkOnEnd _ => true
  | .sinkMeasure _ _ _ => true
  | .groupOvertemp _ => true
  | .groupResume _ => true
  | .thLatchClr => true
  | .stop _ => true
  | .start _ _ => true
  | .pause _ => true
  | .resume _ => true
  | .flag _ _ => true
  | .wait _ _ => true
  | .lda _ _ => true
  | .ldb _ _ => true
  | .rmpa _ _ _ => true
  | .rmpb _ _ _ => true
  | .pset _ _ _ => true
  | .rot _ _ _ => true
  | .shf _ _ _ _ => true
  | .loop _ _ _ => true
  | .ldc _ _ _ => true
  | .jmp _ _ => true
  | .flagInstruction _ _ _ => true
  | .wflg _ _ _ => true
  | .endInstruction _ _ => true
  | .rampStep _ => true
  | .engineLocalStep => true
  | .progWrite _ _ _ _ => true
  | .readCycle _ => true
  | .sensorRead _ _ _ => true
  | .busStuck _ => true
  | .rawTransfer _ => true
  | .rawTransferDone _ _ => true
  | .apply _ => true
  | .neighbourPinShortTest => true
  | .neighbourStep _ _ _ => true
  | .rawLevelChange _ _ => true
  | .debounceExpire _ => true
  | .cleaningPulseEnd _ => true
  | .inputOv _ => true
  | .ciEdge _ _ cyc => cycleOk cyc
  | .ciWindowEnd _ => true
  | .lsCmdWrite _ _ => true
  | .lsCurrentLimit _ => true
  | .lsThermal _ => true
  | .lsThermalResume _ => true
  | .lsOpenLoad _ => true
  | .diagCmdRead _ => true
  | .diagCmdReadClear _ => true
  | .diagCmdTest _ => true
  | .diagAnswer _ _ => true
  | .parkSenseSample _ => true
  | .canModeOff _ => true
  | .canModeNormal _ => true
  | .canModeListenOnly _ => true
  | .build _ => true
  | .canFrameValid n f cyc sp => f.wf && (decide (n.val < 4) || !f.xlf) && cycleOk cyc && sp.wf
  | .conditionalClear _ _ => true
  | .lockTake _ _ => true
  | .lockRelease _ r => cycleOk r.cyc
  | .lockTimeout n => cycleOk n.cyc
  | .txqReq _ _ _ => true
  | .canTxSuccess _ cyc _ sp => cycleOk cyc && sp.wf
  | .canError _ _ _ _ _ _ sp _ => sp.wf
  | .boDelayEnd _ => true
  | .busOffRecoveryDone _ => true
  | .restart _ => true
  | .trxNormal _ => true
  | .trxListenOnly _ => true
  | .trxStandby _ => true
  | .trxSleep _ => true
  | .trxChangeDone _ => true
  | .busWake p => p.sp.wf
  | .txdTimeout _ => true
  | .busDominant _ => true
  | .trxOvertemp _ => true
  | .linFrameEnd _ _ bytes cyc => decide (bytes.bytes.length ≤ 8) && cycleOk cyc
  | .wakeTx _ => true
  | .unexplainedDominant _ len => len.sp.wf
  | .plcaCycle _ _ => true
  | .t1sFrameSent _ sp => sp.wf
  | .t1sCollision _ _ => true
  | .foreignBeacon _ => true
  | .linkDown _ => true
  | .linkUp _ _ => true
  | .podlPowerAppear _ => true
  | .tc10SleepDone _ => true
  | .bbFrameRx _ _ _ f => f.wf
  | .mkaSakInstall _ _ => true
  | .frerReset _ _ => true
  | .followUp _ _ _ cyc => cycleOk cyc
  | .slaveChangeover => true
  | .syncTx _ cyc => cycleOk cyc
  | .acfFrame _ _ _ cyc msgs => cycleOk cyc && msgs.all AcfMsg.wf
  | .read _ _ => true
  | .write _ data => decide (data.length ≤ 1024)
  | .writeM _ data => decide (data.length ≤ 512)
  | .promise _ _ _ _ _ frame cyc => cycleOk cyc && decide (frame.length ≤ 1522)
  | .identify _ => true
  | .vinkoTimeout _ _ => true
  | .prefetchExpire _ => true
  | .farComplete _ _ _ data => decide (data.length ≤ 4096)
  | .canTpSend _ _ => true
  | .updOpen _ => true
  | .erase _ => true
  | .eraseDone => true
  | .updateWrite _ data => decide (data.length ≤ 1024)
  | .verify _ => true
  | .verifyDone _ => true
  | .activate _ => true
  | .status _ => true
  | .close _ => true
  | .reject _ => true
  | .revoke _ _ _ => true
  | .holdWrite _ _ => true
  | .rptReq _ => true
  | .rptTimerExpire _ => true
  | .nmTimerExpire _ => true
  | .pbsTimerExpire _ => true
  | .fwTimerExpire _ => true
  | .readySleepReport _ => true
  | .vpodLoss _ _ => true
  | .vpodReturn _ _ => true
  | .holdupStart _ _ => true
  | .coldReset => true
  | .auxLow _ => true
  | .auxRecover => true
  | .requestRun _ => true
  | .requestDoze _ => true
  | .requestPark _ => true
  | .requestShelf _ => true
  | .commitPoint => true
  | .parkStop _ => true
  | .parkPowerDown => true
  | .parkWake _ _ _ _ _ => true
  | .dozeExit => true
  | .shelfWake _ _ => true
  | .shelfMemoryLoss => true
  | .domSleep _ _ => true
  | .domainReady _ => true
  | .aonTimerExpire => true
  | .tickInterrupt _ => true
  | .ecall _ _ => true
  | .ebreak _ _ => true
  | .wfi _ _ => true
  | .fence _ _ => true
  | .fenceI _ _ => true
  | .pairStore _ _ _ _ _ => true
  | .pairLoad _ _ _ _ _ _ _ => true
  | .sliceBudgetException _ => true
  | .tickMeterLimit _ => true
  | .tickAgreed => true
  | .mismatch _ _ _ => true
  | .restoreDone => true
  | .checkerAlarm _ => true
  | .injectionTestDone _ => true
  | .warmReset => true
  | .watchdogExpire => true
  | .wdtKick _ _ => true
  | .sliceRead _ _ _ => true
  | .debugHalt => true
  | .eventRecord _ => true
  | .criticalWriteThrough _ => true
  | .raiseEvent _ _ => true
  | .recData0Read => true
  | .startStepComplete _ => true
  | .startWatchdog _ _ => true
  | .startComplete _ => true
  | .otpProgram _ => true
  | .cakWrite _ _ _ => true
  | .dbgAuthRead _ => true
  | .dbgAuthWrite _ _ => true
  | .diagnosticSessionControl _ => true
  | .ecuReset _ => true
  | .readDataByIdentifier _ => true
  | .requestSeed _ => true
  | .sendKey _ _ => true
  | .routineControl _ _ _ _ => true
  | .requestDownload _ _ _ => true
  | .transferData _ data => decide (data.length ≤ 1024)
  | .requestTransferExit => true
  | .testerPresent _ => true
  | .sessionTimeout => true
  | .handoverStart => true
  | .exportDone => true
  | .importOk => true
  | .importFail => true
  | .ctlReject => true
  | .exportTimeout => true
  | .importTimeout => true
  | .probationPass => true
  | .keyOpen _ _ => true
  | .keyClose _ _ _ => true
  | .lockdown _ _ _ => true
  | .softwareReset _ => true
  | .registerWrite _ _ _ _ _ => true
  | .feedAbove2v8 _ _ => true
  | .chargePumpReady _ => true
  | .holdupEnd _ _ => true
  | .canBusIntegrated _ => true
  | .t1sFrameRx _ f sp => f.wf && sp.wf
  | .trxOvertempEnd _ => true
  | .rcFieldRead _ _ _ => true
  | .csrAccess _ _ _ _ _ _ => true
  | .tapInstruction _ => true
  | .debugResume => true
  | .otpProgramDone _ => true

end Sys2Proof
end

