-- ==== Sys2Proof/Certificates/Slice0/Obligations.lean ====
section
/-! DEFINITION. The statements about the block, chapter by chapter. `s.Runs i P` says that the command `i` at the state `s` answers a
next state with the queue untouched, and that `P m t` holds of the block `m` before and `t` after. -/
open Sys2Proof Sys2Proof.Machine Sys2Proof.Machine.Reg Sys2Proof.Machine.Mod

/-! ### The step, reset, the shown registers -/

/-- A step runs the command at the front of the queue on the rest of it; with none waiting the block idles (the latter is the
model's choice, log entry 1). -/
def Obligations.StepRunsFrontCommand : Prop :=
  (∀ (i : Instr) (l : List Instr) (s : State), s.pending = i :: l → step s = exec i { s with pending := l }) ∧
  (∀ s : State, s.pending = [] → step s = .next s) ∧
  (∀ (i : Instr) (s : State), ∃ t, exec i s = .next t ∧ t.pending = s.pending)

/-- The registers that show other state are right after reset, and every step leaves them right. The 0 of a field that shows a live
input is the model's choice (log entry 2), and so are the bytes of memory (log entry 4). -/
def Obligations.ResetShowsItsState : Prop :=
  State.reset.Settled ∧ State.reset.memOk ∧ State.reset.pending = [] ∧ State.reset.mod.tick = 0 ∧ State.reset.mod.pstate = 0 ∧
  (∀ f : Fld, State.reset.mod.rd f = f.rst) ∧
  (∀ a, State.reset.mod.byte a = if 0x10000000 ≤ a ∧ a < 0x10A00000 then 0xFF else 0)

/-- Whatever the state, what a step leaves has every shown register up to date: the interrupt summaries, SWAP_PEND, the levels and
counts, NM.AWAKE, PLCA_ACT. -/
def Obligations.StepShowsItsState : Prop :=
  ∀ s t : State, s.pending ≠ [] → step s = .next t → t.Settled

/-! ### Chapters 1 and 17: writes, the Frame's registers -/

/-- A write command of the pair joins the commit queue with its address and word, and changes nothing else before the boundary. -/
def Obligations.PairWritesJoinCommitQueue : Prop :=
  ∀ s : State, s.mod.pair.w0.cq.length < 256 →
  (∀ q c v, s.Runs (.chCmdWrite q c v .pair) (Queued (regAddr (0x10 + q) (0x108 + 0x40 * c)) v.toNat)) ∧
  (∀ n v, s.Runs (.sinkCmdWrite n v .pair) (Queued (regAddr 0x18 (0x104 + 0x10 * n)) v.toNat)) ∧
  (∀ v, s.Runs (.lsCmdWrite v .pair) (Queued (regAddr 0x16 0x320) v.toNat)) ∧
  (∀ j v, s.Runs (.qdPosWrite j v .pair) (Queued (regAddr 0x15 (0x204 + 0x20 * j)) v.toNat)) ∧
  (∀ e i v, s.Runs (.progWrite e i v .pair) (Queued (regAddr 0x19 (0x800 + 0x200 * e + 4 * i)) v.toNat)) ∧
  (∀ v, s.Runs (.raiseEvent v .pair) (Queued (regAddr 0x08 0x150) v.toNat)) ∧
  s.Runs (.reqGo .pair) (Queued (regAddr 0x0B 0x150) 1) ∧
  (∀ k, s.Runs (.wdtKick k .pair) (Queued (regAddr 0x09 0x134) k.toNat)) ∧
  (∀ l, s.Runs (.domSleep l .pair) (Queued (regAddr 0x03 0x114) l.toNat)) ∧
  s.Runs (.softwareReset .pair) (Queued (regAddr 0x00 0x100) 0xD1) ∧
  (∀ (pg : Fin 64) word v, mapped pg = true → s.Runs (.registerWrite pg word v 0xFFFFFFFF#32 .pair) (Queued (regAddr pg (4 * word)) v.toNat)) ∧
  (∀ (copy : Fin 2) (rod : Fin 1024) (word : Fin 64) (v : Word), s.mod.tileOpen rod .pair = true → s.Runs (.tileWrite copy rod word v .pair)
    (Queued (0x22000000 + 0x40000 * copy.val + 256 * rod.val + 4 * word.val) v.toNat))

/-- The write key of a page: opened by 0x4B unless locked down, closed by any other value, closed for good by LOCKDOWN. -/
def Obligations.WriteKeyOpensClosesLocks : Prop :=
  ∀ (s : State) (pg : Fin 64), mapped pg = true →
  s.Runs (.keyOpen pg .vinko) (fun m t =>
    t.rd (COM.KEY pg) = (if m.on (COM.LOCKDOWN pg) then m.rd (COM.KEY pg) else 1) ∧ m.OnlyRegs [COM.KEY pg] t) ∧
  (∀ v, s.Runs (.keyClose pg v .vinko) (fun m t => t.rd (COM.KEY pg) = 0 ∧ m.OnlyRegs [COM.KEY pg] t)) ∧
  (∀ cmd, s.Runs (.lockdown pg cmd .vinko) (fun m t =>
    t.rd (COM.KEY pg) = 0 ∧ t.rd (COM.LOCKDOWN pg) = 1 ∧ m.OnlyRegs [COM.KEY pg, COM.LOCKDOWN pg] t))

/-- SEQ_CTL and TICK_LO through a window: RUN starts and stops the Frame at the next boundary, TAB_NEXT selects, a read of TICK_LO
latches TICK_HI. Other writes of a window that act at once: the tile while the Frame is stopped, OTP_CMD, a word of the CAK, the
reset word, the watchdog's kick, DOM_SLEEP; and those that no window may make, which change nothing but the count of denials. -/
def Obligations.WindowsWriteAtOnce : Prop :=
  (∀ s : State,
  (s.mod.keyOpen 0x0A = true → s.mod.rd FRM.SLACK_BASE + s.mod.rd FRM.SLACK_LEN ≤ 1024 →
    s.Runs (.seqRunStart .vinko) (fun m t => t.rd FRM.RUN = 1 ∧ t.rd FRM.CFG_ERR = 0 ∧ t.frm.startPend = !m.on FRM.RUNNING ∧
      t.frm.stopPend = false ∧ t.mem = m.mem ∧ m.KeepsRegs [FRM.RUN, FRM.CFG_ERR] t)) ∧
  (s.mod.keyOpen 0x0A = true → 1024 < s.mod.rd FRM.SLACK_BASE + s.mod.rd FRM.SLACK_LEN →
    s.Runs (.seqRunStart .vinko) (fun m t => t.rd FRM.CFG_ERR = 1 ∧ m.OnlyRegs [FRM.CFG_ERR] t)) ∧
  (s.mod.keyOpen 0x0A = true →
    s.Runs (.seqRunStop .vinko) (fun m t => t.rd FRM.RUN = 0 ∧ t.frm.stopPend = m.on FRM.RUNNING ∧ t.frm.startPend = false ∧
      t.mem = m.mem ∧ m.KeepsRegs [FRM.RUN] t)) ∧
  (s.mod.keyOpen 0x0A = true → ∀ k,
    s.Runs (.tabNext k .vinko) (fun m t => t.rd FRM.TAB_NEXT = k ∧ m.OnlyRegs [FRM.TAB_NEXT] t)) ∧
  s.Runs .tickLoRead (fun m t => t.rd FRM.TICK_HI = m.tick / 2 ^ 32 % 2 ^ 16 ∧ m.OnlyRegs [FRM.TICK_HI] t)) ∧
  (∀ s : State,
  (s.mod.on FRM.RUNNING = false → ∀ copy rod word v,
    s.Runs (.tileWrite copy rod word v .vinko) (fun m t =>
      (∀ i, i < 4 → t.byte (0x22000000 + 0x40000 * copy.val + 256 * rod.val + 4 * word.val + i) = v.toNat / 256 ^ i % 256) ∧
      (∀ a, (a < 0x22000000 + 0x40000 * copy.val + 256 * rod.val + 4 * word.val ∨
        0x22000000 + 0x40000 * copy.val + 256 * rod.val + 4 * word.val + 4 ≤ a) → t.byte a = m.byte a) ∧ m.KeepsRegs [] t)) ∧
  (s.mod.keyOpen 0x07 = true → s.mod.rd SEC.OTP_BUSY = 0 →
    s.Runs (.otpProgram .vinko) (fun m t => t.rd SEC.OTP_BUSY = 1 ∧ t.rd SEC.OTP_FAIL = 0 ∧
      t.sec.prog = some (m.rd SEC.OTP_ADDR - m.rd SEC.OTP_ADDR % 4, m.rd SEC.OTP_DATA) ∧ t.mem = m.mem ∧ m.KeepsRegs ([SEC.OTP_BUSY, SEC.OTP_FAIL] ++ evtFlds 0x07) t)) ∧
  (s.mod.keyOpen 0x07 = true → ∀ i v,
    s.Runs (.cakWrite i v .vinko) (fun m t => SMap.get 0 t.sec.cak i = v.toNat ∧ t.mem = m.mem ∧ m.KeepsRegs [] t)) ∧
  s.Runs (.softwareReset .vinko) (fun m t => t.boot.resetDue = 1 ∧ t.mem = m.mem ∧ m.OnlyPages outPages t) ∧
  (∀ k, s.Runs (.wdtKick k .vinko) (fun m t => t.pair.wdt = (if k = 0xA5#8 then 0 else m.pair.wdt) ∧ m.KeepsRegs [] t)) ∧
  s.Runs (.reqGo .vinko) (fun m t => t.rd VNK.DENIED_CNT = Nat.min (m.rd VNK.DENIED_CNT + 1) VNK.DENIED_CNT.max ∧
    m.OnlyRegs [VNK.DENIED_CNT] t) ∧
  (∀ v, s.Runs (.raiseEvent v .vinko) (fun m t => t.rd VNK.DENIED_CNT = Nat.min (m.rd VNK.DENIED_CNT + 1) VNK.DENIED_CNT.max ∧
    m.OnlyRegs [VNK.DENIED_CNT] t)))

/-- The access codes of the common words through a window: PAGE_IEN is RW, PAGE_IRQ is W1C, MIN_CLASS is RWL and refused under a
closed key, RAISED is RC; a write to a block that sleeps wakes its domain and changes nothing else. -/
def Obligations.RegisterAccessCodesHold : Prop :=
  ∀ (s : State) (pg : Fin 64), mapped pg = true →
  (∀ v mask, s.Runs (.registerWrite pg 5 v mask .vinko) (fun m t =>
    t.rd (COM.PAGE_IEN pg) = (m.rd (COM.PAGE_IEN pg) &&& (0xFFFFFFFF ^^^ mask.toNat) ||| v.toNat &&& mask.toNat) % 2 ^ 32 ∧
      m.OnlyRegs [COM.PAGE_IEN pg] t)) ∧
  (∀ v mask, s.Runs (.registerWrite pg 4 v mask .vinko) (fun m t =>
    t.rd (COM.PAGE_IRQ pg) = (m.rd (COM.PAGE_IRQ pg) &&& (0xFFFFFFFF ^^^ (v.toNat &&& mask.toNat))) % 2 ^ 32 ∧
      m.OnlyRegs [COM.PAGE_IRQ pg] t)) ∧
  (∀ v, s.Runs (.registerWrite pg 2 v 3#32 .vinko) (fun m t =>
    if m.keyOpen pg = true then t.rd (COM.MIN_CLASS pg) = v.toNat % 4 ∧ m.OnlyRegs [COM.MIN_CLASS pg] t
    else t.rd (COM.MIN_CLASS pg) = m.rd (COM.MIN_CLASS pg) ∧ t.rd SYS.KEY_REJ_PAGE = pg ∧ t.rd SYS.KEY_REJ_OFF = 8 ∧
      t.rd SYS.KEY_REJ_SRC = 1)) ∧
  (∀ rd, s.Runs (.rcFieldRead pg 6 rd) (fun m t => t.rd (COM.RAISED pg) = 0 ∧ m.OnlyRegs [COM.RAISED pg] t)) ∧
  (∀ word v mask, 0x40 ≤ word.val → s.mod.awake (pageDomain pg) = false → s.mod.pageOos pg (4 * word.val) = false →
    s.Runs (.registerWrite pg word v mask .vinko) (fun m t =>
      t.rd PWR.DOM_WAKING = m.rd PWR.DOM_WAKING ||| 2 ^ pageDomain pg ∧ m.OnlyRegs [PWR.DOM_WAKING] t))

/-! ### Chapter 1: beads, the commit, the tick -/

/-- The command beads stage their effects for the commit and touch no output before it. -/
def Obligations.CommandBeadsStageTheirEffects : Prop :=
  ∀ (s : State) (slot : Fin 3) (pos : Fin 56), s.mod.beadDue slot pos →
  (∀ (q : Fin 4) (c : Fin 20) (act : Fin 6) (arg : BitVec 16), s.mod.awake (24 + q) = true →
    s.Runs (.chSet slot pos (BitVec.ofNat 26 (q * 2 ^ 24 + c * 2 ^ 19 + act * 2 ^ 16 + arg.toNat)))
      (fun m t => m.Staged slot pos [.ch q c act arg.toNat] t)) ∧
  (∀ (k : Fin 8) (mode : Fin 5) (duty : BitVec 12), s.mod.awake (24 + k.val / 2) = true → s.mod.awake 29 = true →
    s.Runs (.motCmd slot pos (BitVec.ofNat 26 (k * 2 ^ 23 + mode * 2 ^ 20 + duty.toNat * 2 ^ 8)))
      (fun m t => m.Staged slot pos [.mot k mode duty.toNat] t)) ∧
  (∀ (n : Fin 48) (duty : BitVec 16), s.mod.awake 28 = true →
    s.Runs (.ledSet slot pos (BitVec.ofNat 26 (n * 2 ^ 20 + duty.toNat))) (fun m t => m.Staged slot pos [.sink n duty.toNat] t)) ∧
  (∀ (e : Fin 4) (op : Fin 5) (addr : BitVec 8), s.mod.awake 28 = true →
    s.Runs (.topCtl slot pos (BitVec.ofNat 26 (e * 2 ^ 24 + op * 2 ^ 21 + addr.toNat)))
      (fun m t => m.Staged slot pos [.eng e op addr.toNat] t)) ∧
  (∀ (k : Fin 8) (mask val : BitVec 8), s.mod.awake (24 + k.val / 2) = true →
    s.Runs (.bankSet slot pos (BitVec.ofNat 26 (k * 2 ^ 23 + mask.toNat * 2 ^ 8 + val.toNat))) (fun m t =>
      m.Staged slot pos (((List.range 8).filter fun j => mask.getLsbD j).map fun j =>
        .ch (k / 2) (10 * (k % 2) + j) (if val.getLsbD j then 1 else 0) 0) t)) ∧
  (∀ mask val : BitVec 8, s.mod.awake 29 = true →
    s.Runs (.lsSet slot pos (BitVec.ofNat 26 (mask.toNat * 2 ^ 8 + val.toNat))) (fun m t =>
      m.Staged slot pos (((List.range 8).filter fun j => mask.getLsbD j).map fun j => .ls j (val.getLsbD j)) t)) ∧
  (∀ (p : Fin 8) (id : Fin 64), s.mod.awake (16 + p) = true →
    s.Runs (.linHdr slot pos (BitVec.ofNat 26 (p * 2 ^ 23 + id * 2 ^ 16))) (fun m t => m.Staged slot pos [.lin p id] t)) ∧
  (∀ (q : Fin 4) (c : Fin 20) (kind : Fin 6), s.mod.awake (24 + q) = true →
    s.Runs (.diagReq slot pos (BitVec.ofNat 26 (q * 2 ^ 24 + c * 2 ^ 19 + kind * 2 ^ 16)))
      (fun m t => m.Staged slot pos [.diag q c kind] t)) ∧
  (∀ (n : Fin 12) (o : BitVec 12), s.mod.awake (4 + n) = true →
    s.Runs (.canTxq slot pos (BitVec.ofNat 26 (n * 2 ^ 22 + o.toNat)) none) (fun m t => m.Staged slot pos [.txq n o.toNat] t))

/-- The sampling beads write what they sample to the sample buffer: the inputs of a group with the edges since the last capture, the
counters, the currents of a bank, the feed with its minimum, a page's status. -/
def Obligations.SampleBeadsCapture : Prop :=
  ∀ (s : State) (slot : Fin 3) (pos : Fin 56), s.mod.beadDue slot pos →
  (∀ (g : Fin 4) (i : BitVec 8), s.mod.awake 29 = true →
    s.Runs (.sampDi slot pos (BitVec.ofNat 26 (g * 2 ^ 24 + i.toNat))) (fun m t =>
      t.rd (FRM.SAMPLE i.toNat) = m.rd FIO.DI_FILT / 2 ^ (8 * g.val) % 256 + m.rd FIO.DI_RAW / 2 ^ (8 * g.val) % 256 * 2 ^ 8 +
        m.fio.edges / 2 ^ (8 * g.val) % 256 * 2 ^ 16 ∧
      t.fio.edges / 2 ^ (8 * g.val) % 256 = 0 ∧ t.mem = m.mem ∧ m.KeepsRegs [FRM.SAMPLE i.toNat] t)) ∧
  (∀ (j : Fin 8) (i : BitVec 8), s.mod.awake 29 = true → i.toNat < 255 →
    s.Runs (.sampCi slot pos (BitVec.ofNat 26 (i.toNat * 2 ^ 8 + 2 ^ j.val))) (fun m t =>
      t.rd (FRM.SAMPLE i.toNat) = m.rd (FIO.CI_COUNT j) % 2 ^ 32 ∧ t.mem = m.mem ∧ m.KeepsRegs [FRM.SAMPLE i.toNat] t)) ∧
  (∀ (k : Fin 8) (i : BitVec 8), s.mod.awake (24 + k.val / 2) = true → i.toNat < 252 →
    s.Runs (.sampIs slot pos (BitVec.ofNat 26 (k * 2 ^ 23 + i.toNat))) (fun m t =>
      (∀ j, j < 5 → t.rd (FRM.SAMPLE (i.toNat + j)) = (m.rd (HQ.IS (k.val / 2) (10 * (k.val % 2) + 2 * j)) +
        m.rd (HQ.IS (k.val / 2) (10 * (k.val % 2) + 2 * j + 1)) * 2 ^ 16) % 2 ^ 32) ∧ t.mem = m.mem ∧
      m.KeepsRegs ((List.range 5).map fun j => FRM.SAMPLE (i.toNat + j)) t)) ∧
  (∀ (q : Fin 4) (i : BitVec 8), s.mod.awake (24 + q) = true →
    s.Runs (.sampFv slot pos (BitVec.ofNat 26 (q * 2 ^ 24 + i.toNat))) (fun m t =>
      t.rd (FRM.SAMPLE i.toNat) = (m.rd (HQ.FEED_V q) + Nat.min (m.rd (HQ.FEED_V q)) (m.quad q).sampMin * 2 ^ 16) % 2 ^ 32 ∧
      (t.quad q).sampMin = m.rd (HQ.FEED_V q) ∧ t.mem = m.mem ∧ m.KeepsRegs [FRM.SAMPLE i.toNat] t)) ∧
  (∀ (pg : Fin 64) (i : BitVec 8), mapped pg = true → pg ≠ 0 → i.toNat < 255 →
    s.Runs (.sampPg slot pos (BitVec.ofNat 26 (pg * 2 ^ 18 + i.toNat))) (fun m t =>
      t.rd (FRM.SAMPLE i.toNat) = m.rd (COM.PAGE_IRQ pg) % 2 ^ 32 ∧ t.rd (FRM.SAMPLE (i.toNat + 1)) = m.pageStat pg % 2 ^ 32 ∧
      t.mem = m.mem ∧ m.KeepsRegs [FRM.SAMPLE i.toNat, FRM.SAMPLE (i.toNat + 1)] t))

/-- The sequencing beads: NOP, DISPATCH, PRM_DONE, DOM_WAKE, SKIP_IF, EVENT and END act on the Frame, and on nothing else. -/
def Obligations.SequencingBeadsSteer : Prop :=
  ∀ (s : State) (slot : Fin 3) (pos : Fin 56), s.mod.beadDue slot pos →
  s.Runs (.nop slot pos 0) (fun m t => (t.slotX slot).next = pos + 1 ∧ t.mem = m.mem ∧ t.frm.staged = m.frm.staged ∧ m.KeepsRegs [] t) ∧
  (∀ (task : BitVec 10) (budget : BitVec 11), 1 ≤ budget.toNat → (s.mod.frm.dispNext.map (·.budget)).sum + budget.toNat ≤ 2000 →
    s.Runs (.dispatch slot pos (BitVec.ofNat 26 (task.toNat * 2 ^ 16 + budget.toNat))) (fun m t =>
      (∃ n, t.frm.dispNext = m.frm.dispNext ++ [⟨task.toNat, budget.toNat, n⟩]) ∧
      t.rd FRM.DISPATCH_SUM = (m.frm.dispNext.map (·.budget)).sum + budget.toNat ∧ t.mem = m.mem ∧ m.KeepsRegs [FRM.DISPATCH_SUM] t)) ∧
  (∀ num : BitVec 16, num ≠ 0 →
    s.Runs (.prmDone slot pos (BitVec.ofNat 26 num.toNat)) (fun m t =>
      t.frm.done = m.frm.done ++ [num.toNat] ∧ t.mem = m.mem ∧ t.prm = m.prm ∧ m.KeepsRegs [] t)) ∧
  (∀ d : Fin 30, s.mod.awake d = false →
    s.Runs (.domWake slot pos (BitVec.ofNat 26 d)) (fun m t =>
      (t.rd PWR.DOM_WAKING).testBit d = true ∧ t.mem = m.mem ∧ m.KeepsRegs [PWR.DOM_WAKING] t)) ∧
  (∀ (i : BitVec 8) (bit : Fin 32) (pol : Bool) (n : Fin 56), n.val ≠ 0 → i.toNat < 32 →
    s.Runs (.skipIf slot pos (BitVec.ofNat 26 (i.toNat * 2 ^ 21 + bit * 2 ^ 16 + (if pol then 2 ^ 15 else 0) + n))) (fun m t =>
      (t.slotX slot).next = (if m.bit (FRM.SAMPLE i.toNat) bit = pol then pos.val + 1 else pos.val + 1 + n) ∧ t.mem = m.mem ∧
      m.KeepsRegs [] t)) ∧
  (∀ (cls : Fin 3) (code : BitVec 16), s.mod.Room 1 →
    s.Runs (.event slot pos (BitVec.ofNat 26 (cls * 2 ^ 24 + code.toNat))) (fun m t =>
      m.Reported t 0x0A cls code.toNat [sj16 (m.slotX slot).tag, sj pos] ∧ t.mem = m.mem ∧ m.KeepsRegs (evtFlds 0x0A) t)) ∧
  s.Runs (.endBead slot pos 0) (fun m t => (t.slotX slot).ended = true ∧ t.mem = m.mem ∧ m.KeepsRegs [] t)

/-! ### Chapters 3 to 6 -/

/-- The switching steps of a power channel that follow their command: cells join one by one, a slew ends with all cells on, or with
none and, on a half-bridge that changes switches, the dead time. -/
def Obligations.ChannelTransitionsStep : Prop :=
  ∀ (s : State) (q : Fin 4) (c : Fin 20),
  s.Runs (.cellStep q c) (fun m t =>
    let k := m.cellTurn q c
    t.rd (HQ.CELLS_ON q k) = (if (m.chan q k).tran = .on ∧ m.rd (HQ.CELLS_ON q k) < nCells k then (m.rd (HQ.CELLS_ON q k) + 1) % 2 ^ (HQ.CELLS_ON q k).w
      else m.rd (HQ.CELLS_ON q k)) ∧ m.OnlyRegs [HQ.CELLS_ON q k] t) ∧
  (s.mod.paired q = false → s.mod.cellTurn q c = c.val) ∧
  ((s.mod.chan q c).tran = .on → s.Runs (.slewEnd q c) (fun m t =>
    t.rd (HQ.SLEWING q c) = 0 ∧ t.rd (HQ.CELLS_ON q c) = nCells c ∧ t.chan q c = { m.chan q c with tran := .idle } ∧ t.mem = m.mem ∧
    m.KeepsRegs [HQ.SLEWING q c, HQ.CELLS_ON q c] t)) ∧
  ((s.mod.chan q c).tran = .off → (s.mod.chan q c).next ≠ none → s.Runs (.slewEnd q c) (fun m t =>
    t.rd (HQ.CELLS_ON q c) = 0 ∧ t.chan q c = { m.chan q c with tran := .dead } ∧ t.mem = m.mem ∧ m.KeepsRegs [HQ.CELLS_ON q c] t)) ∧
  ((s.mod.chan q c).tran = .off → (s.mod.chan q c).next = none → s.Runs (.slewEnd q c) (fun m t =>
    t.rd (HQ.CELLS_ON q c) = 0 ∧ t.rd (HQ.SLEWING q c) = 0 ∧ (t.chan q c).tran = .idle ∧ t.mem = m.mem ∧
    m.KeepsRegs [HQ.SLEWING q c, HQ.CELLS_ON q c] t)) ∧
  ((s.mod.chan q c).tran = .dead → (∃ n, (s.mod.chan q c).next = some n ∧ n.out = 5) → (s.mod.chan q c).onPhase = false →
    s.Runs (.deadTimeEnd q c) (fun m t =>
      t.rd (HQ.SLEWING q c) = 1 ∧ t.rd (HQ.CELLS_ON q c) = 1 ∧
      t.chan q c = { m.chan q c with tran := .on, next := none, low := true } ∧ t.mem = m.mem ∧
      m.KeepsRegs [HQ.SLEWING q c, HQ.CELLS_ON q c] t)) ∧
  ((s.mod.chan q c).tran = .dead → (∃ n, (s.mod.chan q c).next = some n ∧ n.out ≠ 5) → s.mod.permitted q c = false →
    s.Runs (.deadTimeEnd q c) (fun m t =>
      t.rd (HQ.SLEWING q c) = 0 ∧ t.chan q c = { m.chan q c with tran := .idle, next := none } ∧ t.mem = m.mem ∧
      m.KeepsRegs [HQ.SLEWING q c] t))

/-- The PWM of a channel that acts alone: at the start of a period the pending change takes effect, a period without an on-time
turning a driven high side off and a half-bridge's low side on; at the end of the on-time the output turns off, a half-bridge going
on to its low side where that fits twice its dead time. Conversions reach the registers: the current, the voltages and the feed's
minimum, the junction with the hottest of its bank; and writes that a window may or may not make of a channel. -/
def Obligations.PwmAndConversionsReachRegisters : Prop :=
  (∀ (s : State) (q : Fin 4) (c : Fin 20), s.mod.bridged q c = false → s.mod.group q c = [c.val] →
  (∀ w : Cmd, (s.mod.chan q c).pend = some w → (s.mod.rd (HQ.OUT q c) = 2 ∨ s.mod.rd (HQ.OUT q c) = 5) → s.mod.permitted q c = true →
    s.mod.onSteps q c w.duty = 0 →
    let x := { ((s.mod.periodCount q c).chan q c).unbook with pend := none, running := true, duty := w.duty, onPhase := false }
    (s.mod.highDriven q c = true → s.Runs (.pwmPeriodStart q c) (fun m t => t.rd (HQ.OUT q c) = w.out % 8 ∧ t.rd (HQ.SLEWING q c) = 1 ∧
      t.chan q c = { x with tran := .off, offAt := m.tick, next := if w.out = 5 then some w else none } ∧ t.mem = m.mem ∧
      m.KeepsRegs [HQ.OUT q c, HQ.SLEWING q c] t)) ∧
    (s.mod.highDriven q c = false → isHB c = false → s.Runs (.pwmPeriodStart q c) (fun m t => t.rd (HQ.OUT q c) = w.out % 8 ∧
      t.chan q c = x ∧ t.mem = m.mem ∧ m.KeepsRegs [HQ.OUT q c] t)) ∧
    (s.mod.highDriven q c = false → isHB c = true → (s.mod.chan q c).low = false → (s.mod.chan q c).tran = .idle →
      s.Runs (.pwmPeriodStart q c) (fun m t =>
        t.rd (HQ.OUT q c) = w.out % 8 ∧ t.rd (HQ.SLEWING q c) = 1 ∧ t.rd (HQ.CELLS_ON q c) = 1 ∧
        t.chan q c = { x with tran := .on, next := none, low := true, wasOn := true } ∧ t.mem = m.mem ∧
        m.KeepsRegs [HQ.OUT q c, HQ.SLEWING q c, HQ.CELLS_ON q c] t))) ∧
  (∀ w : Cmd, (s.mod.chan q c).pend = some w → s.mod.rd (HQ.OUT q c) ≠ 6 → s.mod.permitted q c = true → s.mod.onSteps q c w.duty ≠ 0 →
    (s.mod.chan q c).running = true → (s.mod.chan q c).onPhase = true → (s.mod.chan q c).tran ≠ .off →
    s.Runs (.pwmPeriodStart q c) (fun m t => t.chan q c = { (m.periodCount q c).chan q c with pend := none, duty := w.duty } ∧ t.mem = m.mem ∧
      m.KeepsRegs [] t)) ∧
  ((s.mod.rd (HQ.OUT q c) = 2 ∨ s.mod.rd (HQ.OUT q c) = 5) → (s.mod.chan q c).onPhase = true →
    s.mod.onSteps q c (s.mod.chan q c).duty < 250 * s.mod.pwmTicks q c →
    s.Runs (.pwmOnEnd q c) (fun m t => t.rd (HQ.SLEWING q c) = 1 ∧ (t.chan q c).tran = .off ∧ (t.chan q c).onPhase = false ∧
      (t.chan q c).next = (if m.rd (HQ.OUT q c) = 5 ∧ m.onSteps q c (m.chan q c).duty + 5 * m.rd (HQ.DEAD q c) ≤ 250 * m.pwmTicks q c then
        some { out := 5, duty := (m.chan q c).duty } else none) ∧ t.mem = m.mem ∧
      m.KeepsRegs [HQ.SLEWING q c] t))) ∧
  (∀ (s : State) (q : Fin 4) (c : Fin 20),
  (∀ is outV feedV, isHB c = false → s.Runs (.senseConversion q c is outV feedV) (fun m t =>
    t.rd (HQ.IS q c) = is.toNat ∧ t.rd (HQ.OUT_V q c) = outV.toNat ∧ t.rd (HQ.FEED_V q) = feedV.toNat ∧
    t.rd (HQ.FEED_VMIN q) = Nat.min feedV.toNat (m.rd (HQ.FEED_VMIN q)) % 2 ^ 12 ∧ t.mem = m.mem ∧ m.OnlyPages [0x10 + q, 0x10, 0x08] t)) ∧
  (∀ tj, s.Runs (.tempConversion q c tj) (fun m t =>
    t.rd (HQ.TJ q c) = tj.toNat ∧
    t.rd (HQ.TJ_MAX q (c.val / 10)) = forN 10 (fun a i => Nat.max a (if 10 * (c.val / 10) + i = c then tj.toNat else
      m.rd (HQ.TJ q (10 * (c.val / 10) + i)))) 0 % 2 ^ 8 ∧ m.OnlyRegs [HQ.TJ q c, HQ.TJ_MAX q (c.val / 10)] t)) ∧
  (s.mod.Room 1 → (s.mod.quad q).silent = false → ∀ v, s.Runs (.chCmdWrite q c v .vinko) (fun m t =>
    t.rd (HQ.CMD_REJ_CNT q) = Nat.min (m.rd (HQ.CMD_REJ_CNT q) + 1) (HQ.CMD_REJ_CNT q).max ∧ t.rd (HQ.CMD_REJ_CH q) = c ∧
    t.rd (HQ.CMD_REJ_CAUSE q) = 3 ∧ m.Reported t (0x10 + q) warn 0x0304 [sj q, sj c, sj 3] ∧ t.mem = m.mem ∧ t.chans = m.chans ∧
    m.KeepsRegs ([HQ.CMD_REJ_CNT q, HQ.CMD_REJ_CH q, HQ.CMD_REJ_CAUSE q, VNK.DENIED_CNT] ++ evtFlds (0x10 + q)) t)) ∧
  (s.mod.keyOpen (0x10 + q) = true → (s.mod.quad q).frozen = [] → s.mod.rd (HQ.OUT q 0) = 0 → s.mod.rd (HQ.OUT q 10) = 0 → ∀ v,
    s.Runs (.pairEnWrite q v .vinko) (fun m t => t.rd (HQ.PAIR_EN q) = v.toNat ∧
      (m.rd (HQ.PAIR_EN q) ≠ v.toNat → t.rd (HQ.PAIRED q 0) = v.toNat ∧ t.rd (HQ.PAIRED q 10) = v.toNat ∧ t.rd (HQ.SLAVE q 10) = v.toNat) ∧ t.mem = m.mem ∧ m.OnlyPages [0x10 + q, 0x08] t)))

/-- Trips and thermal events of a channel: the counts, the latch and the permit; the protective off. -/
def Obligations.TripsCountPauseAndLatch : Prop :=
  ∀ (s : State) (q : Fin 4) (c : Fin 20),
  let k := Nat.min (s.mod.rd (HQ.RETRY_CNT q c) + 1) (HQ.RETRY_CNT q c).max
  let trips := fun (m t : Mod) => t.rd (HQ.RETRY_CNT q c) = k ∧
    (if m.rd (HQ.RETRY_N q c) ≤ k then t.rd (HQ.RETRY_L q c) = 1 ∧ t.rd (HQ.PAUSE_LEFT q c) = 0 ∧ (t.chan q c).retryPause = false
     else t.rd (HQ.PAUSE_LEFT q c) = retryPause k ∧ (t.chan q c).retryPause = true ∧ (t.chan q c).pauseEnd = m.tick + 100 * retryPause k) ∧
    t.mem = m.mem ∧ m.OnlyPages [0x10 + q, 0x08] t
  (∀ i : BitVec 17, 1000 * shortTripA c (s.mod.rd (HQ.ISC q (s.mod.master q c))) ≤ i.toNat → s.Runs (.shortTrip q ⟨c, i⟩) trips) ∧
  (∀ i : BitVec 17, i.toNat < 1000 * shortTripA c (s.mod.rd (HQ.ISC q (s.mod.master q c))) →
    s.Runs (.shortTrip q ⟨c, i⟩) (fun m t => m.OnlyRegs [] t)) ∧
  (filterRun (s.mod.rd (HQ.OC_FILT q c)) ≤ (s.mod.chan q c).ocRun → s.Runs (.overcurrentTrip q c) trips) ∧
  (isHB c = true → (s.mod.chan q c).peakDue = true → s.Runs (.peakTimerTrip q c) trips) ∧
  (s.mod.rd (HQ.UCODE q) ≠ 0 → (s.mod.chan q c).retryPause = true → s.Runs (.retryPauseEnd q c) (fun m t =>
    t.rd (HQ.PAUSE_LEFT q c) = 0 ∧ (t.chan q c).retryPause = false ∧ (t.chan q c).own.testBit 0 = true ∧ t.mem = m.mem ∧ m.OnlyPages [0x10 + q, 0x08] t)) ∧
  s.Runs (.retryCntReset q c) (fun m t => t.rd (HQ.RETRY_CNT q c) = 0 ∧ m.OnlyRegs [HQ.RETRY_CNT q c] t) ∧
  s.Runs (.thermCntReset q c) (fun m t => t.rd (HQ.THERM_CNT q c) = 0 ∧ m.OnlyRegs [HQ.THERM_CNT q c] t) ∧
  s.Runs (.thermalShutdown q c) (fun m t =>
    t.rd (HQ.TJ q c) = Nat.max 239 (m.rd (HQ.TJ q c)) % 256 ∧
    t.rd (HQ.THERM_CNT q c) = Nat.min (m.rd (HQ.THERM_CNT q c) + 1) (HQ.THERM_CNT q c).max ∧
    (m.rd (HQ.THERM_M q c) ≤ t.rd (HQ.THERM_CNT q c) → t.rd (HQ.THERM_L q c) = 1) ∧ t.mem = m.mem ∧ m.OnlyPages [0x10 + q, 0x08] t) ∧
  s.Runs (.thermalRecovery q c) (fun m t => t.rd (HQ.TJ q c) = Nat.min 224 (m.rd (HQ.TJ q c)) ∧
    (m.rd (HQ.UCODE q) ≠ 0 → m.rd (HQ.THERM_L q c) = 0 → (t.chan q c).own.testBit 1 = true) ∧ t.mem = m.mem ∧ m.OnlyPages [0x10 + q, 0x08] t) ∧
  s.Runs (.latchClr q c) (fun m t => t.rd (HQ.RETRY_L q c) = 0 ∧ t.rd (HQ.RETRY_CNT q c) = 0 ∧
    (m.rd (HQ.TJ q c) ≤ 224 → t.rd (HQ.THERM_L q c) = 0 ∧ t.rd (HQ.THERM_CNT q c) = 0) ∧
    (m.wireCool q c = true → t.rd (HQ.WIRE_L q c) = 0) ∧ t.mem = m.mem ∧ m.OnlyPages [0x10 + q, 0x08] t)

/-- The feed of a quadrant: sags, undervoltage, overvoltage, the charge pump, the inrush windows, the clamp energy. -/
def Obligations.FeedSupervisionActs : Prop :=
  ∀ (s : State) (q : Fin 4),
  (∀ v, (s.mod.quad q).low = false → s.Runs (.sagBegin q v) (fun m t => t.rd (HQ.SAG q) = 1 ∧ t.rd (HQ.CP_RDY q 0) = 0 ∧
    t.rd (HQ.CP_RDY q 1) = 0 ∧ t.rd (HQ.FEED_V q) = v.toNat ∧ (t.quad q).low = true ∧ (t.quad q).sagStart = m.tick ∧ t.mem = m.mem ∧ m.OnlyPages [0x10 + q, 0x08] t)) ∧
  (∀ v, (s.mod.quad q).low = true → s.Runs (.sagEnd q v) (fun m t => t.rd (HQ.SAG q) = 0 ∧ (t.quad q).low = false ∧
    t.rd (HQ.SAG_LEN q) = Nat.min ((m.tick - (m.quad q).sagStart) / 100) (HQ.SAG_LEN q).max ∧
    t.rd (HQ.SAG_CNT q) = Nat.min (m.rd (HQ.SAG_CNT q) + 1) (HQ.SAG_CNT q).max ∧ t.mem = m.mem ∧ m.OnlyPages [0x10 + q, 0x08] t)) ∧
  (∀ v, s.Runs (.feedBelow2v8 q v) (fun m t => (t.quad q).uvTimer = true ∧ t.rd (HQ.FEED_V q) = v.toNat ∧ t.mem = m.mem ∧ m.OnlyPages [0x10 + q, 0x08] t)) ∧
  (∀ v, s.Runs (.feedAbove2v8 q v) (fun m t => (t.quad q).uvTimer = false ∧ t.rd (HQ.FEED_V q) = v.toNat ∧ t.mem = m.mem ∧
    m.KeepsRegs [HQ.FEED_V q, HQ.FEED_VMIN q] t)) ∧
  (∀ v, (s.mod.quad q).uvTimer = true → s.Runs (.undervoltageOff q v) (fun m t => (t.quad q).uvOff = true ∧ (t.quad q).uvTimer = false ∧
    t.rd (HQ.UV_CNT q) = Nat.min (m.rd (HQ.UV_CNT q) + 1) (HQ.UV_CNT q).max ∧ (∀ c : Fin 20, t.rd (HQ.UV q c) = 1) ∧ t.mem = m.mem ∧ m.OnlyPages [0x10 + q, 0x08] t)) ∧
  (∀ v : BitVec 12, s.mod.ovCode q false ≤ v.toNat → s.Runs (.overvoltage q v) (fun m t => t.rd (HQ.OV q) ≠ 0 ∧ t.rd (HQ.FEED_V q) = v.toNat ∧ t.mem = m.mem ∧ m.OnlyPages [0x10 + q, 0x08] t)) ∧
  (∀ v : BitVec 12, v.toNat < s.mod.ovCode q true → s.Runs (.overvoltageRelease q v) (fun m t => t.rd (HQ.OV q) = 0 ∧ t.rd (HQ.FEED_V q) = v.toNat ∧ t.mem = m.mem ∧ m.OnlyPages [0x10 + q, 0x08] t)) ∧
  (∀ (b : Fin 8) (v : BitVec 12), b.val / 2 = q → s.mod.awake (24 + q) = true → 375 ≤ v.toNat → s.Runs (.chargePumpReady ⟨b, v⟩) (fun m t =>
    t.rd (HQ.CP_RDY q (b.val % 2)) = 1 ∧ t.rd (HQ.FEED_V q) = v.toNat ∧ t.mem = m.mem ∧ m.OnlyPages [0x10 + q, 0x08] t)) ∧
  (∀ b : Fin 8, b.val / 2 = q → (s.mod.quad q).low = true → (s.mod.bank b).resOff = false → s.Runs (.reservoirOff b) (fun m t =>
    (t.bank b).resOff = true ∧ (∀ i : Fin 10, t.rd (HQ.UV q (10 * (b.val % 2) + i)) = 1) ∧ t.mem = m.mem ∧ m.OnlyPages [0x10 + q, 0x08] t))

/-- Windows, clamps, reverse current and feed, ground loss. -/
def Obligations.WindowClampAndReverseEvents : Prop :=
  ∀ (s : State) (q : Fin 4) (c : Fin 20),
  s.Runs (.inrushWindowEnd q c) (fun m t => t.chan q c = { m.chan q c with window := false, claim := 0 } ∧ t.mem = m.mem ∧ m.KeepsRegs [] t) ∧
  (∀ e, isHB c = false → s.Runs (.clampEnd q c e) (fun m t =>
    t.rd (HQ.E_LAST q (m.lead q c)) = Nat.min e.toNat (HQ.E_LAST q c).max ∧
    (t.chan q (m.lead q c)).clampB = (m.chan q (m.lead q c)).clampB + (e.toNat : Rat) ∧ t.mem = m.mem ∧ m.OnlyPages [0x10 + q, 0x08] t)) ∧
  (∀ i : BitVec 12, isHB c = false → s.mod.rd (HQ.REV q c) = 0 → revThreshold c < i.toNat * lsbMA c → s.Runs (.reverseCurrent q c i) (fun m t =>
    t.rd (HQ.REV q c) = 1 ∧ t.rd (HQ.OUT q c) = 6 ∧ t.rd (HQ.CELLS_ON q c) = nCells c ∧ (t.chan q c).revI = i.toNat ∧ t.mem = m.mem ∧ m.OnlyPages [0x10 + q, 0x08] t)) ∧
  (s.mod.rd (HQ.REV q c) = 1 → s.mod.partnerOn q c = false → s.mod.rd (HQ.REV_FEED q) = 1 → s.Runs (.reverseCurrentEnd q c) (fun m t =>
    t.rd (HQ.REV q c) = 0 ∧ (t.chan q c).tied = none ∧ t.mem = m.mem ∧ m.KeepsRegs [HQ.REV q c] t)) ∧
  (s.mod.rd (HQ.REV q c) = 1 → s.mod.partnerOn q c = true → s.Runs (.reverseCurrentEnd q c) (fun m t =>
    (t.chan q c).revEnd = true ∧ t.rd (HQ.REV q c) = 1 ∧ t.mem = m.mem ∧ m.KeepsRegs [] t)) ∧
  s.Runs (.reverseFeed q) (fun m t => t.on (HQ.REV_FEED q) = true ∧ t.mem = m.mem ∧ m.OnlyPages [0x10 + q, 0x08] t) ∧
  s.Runs (.reverseFeedEnd q) (fun m t => t.rd (HQ.REV_FEED q) = 0 ∧ t.mem = m.mem ∧ m.OnlyPages [0x10 + q, 0x08] t) ∧
  s.Runs (.groundLoss q) (fun m t => t.on (HQ.GND_LOSS q) = true ∧ t.mem = m.mem ∧ m.OnlyPages [0x10 + q, 0x08] t) ∧
  s.Runs (.groundLossClear q) (fun m t => t.rd (HQ.GND_LOSS q) = 0 ∧ t.mem = m.mem ∧ m.OnlyPages [0x10 + q, 0x08] t) ∧
  (∀ b : Fin 8, b.val = 2 * q + c / 10 → (s.mod.bank b).queue = [c.val] → (s.mod.rd (HQ.PAUSED0 q) = 0 ∧ s.mod.rd (HQ.PAUSED1 q) = 0) →
    (s.mod.quad q).low = false → s.mod.permitted q c = true → s.mod.rd (HQ.OUT q c) = 1 → s.mod.rd (HQ.INR_WIN q (s.mod.lead q c)) ≠ 0 →
    s.mod.claims q (b.val % 2) + s.mod.claimOf q c ≤ s.mod.inrushBudget q (b.val % 2) →
    s.Runs (.inrushQueueStart b) (fun m t => (t.bank b).queue = [] ∧ (t.chan q c).window = true ∧ (t.chan q c).claim = m.claimOf q c ∧
      t.mem = m.mem ∧ m.OnlyPages [0x10 + q, 0x08] t))

/-- The off- and on-state tests: a request starts its phase, the phases end with the class that the voltage gives, a queued change
is popped by its owner. -/
def Obligations.LoadDiagnosticsRun : Prop :=
  ∀ (s : State) (q : Fin 4) (c : Fin 20),
  (∀ v, (s.mod.chan q c).diag.run = .pullDown → ((s.mod.chan q c).diag.kind ≠ 1 ∨ (s.mod.chan q c).diag.offPhase = true) →
    s.Runs (.pullDownPhaseEnd q c v) (fun m t => t.rd (HQ.OUT_V q c) = v.toNat ∧ (t.chan q c).diag.run = .pullUp ∧
      (t.chan q c).diag.vpd = v.toNat ∧ t.mem = m.mem ∧ m.KeepsRegs [HQ.OUT_V q c] t)) ∧
  (∀ v, (s.mod.chan q c).diag.run = .pullUp → (s.mod.chan q c).diag.offPhase = false → s.mod.rd (HQ.DIAG_BUSY q c) = 1 →
    s.Runs (.pullUpPhaseEnd q c v) (fun m t => t.rd (HQ.OUT_V q c) = v.toNat ∧
      t.rd (HQ.DIAG_CODE q c) = offClass (m.rd (HQ.NET q)) (m.chan q c).diag.vpd v.toNat % 16 ∧ t.rd (HQ.DIAG_BUSY q c) = 0 ∧ t.mem = m.mem ∧ m.OnlyPages [0x10 + q, 0x08] t)) ∧
  ((s.mod.chan q c).diag.run = .onState → s.mod.rd (HQ.DIAG_BUSY q c) = 1 → s.mod.tooFew q c = true → s.Runs (.noMeasTimeout q c) (fun m t =>
    t.rd (HQ.DIAG_CODE q c) = 0xB ∧ t.rd (HQ.DIAG_BUSY q c) = 0 ∧ t.mem = m.mem ∧ m.OnlyPages [0x10 + q, 0x08] t)) ∧
  (∀ w : Writer, s.mod.rd DIA.POP_OWNER = w.code → ∀ g l, s.mod.dia.fifo = g :: l → s.Runs (.chgPop w) (fun m t =>
    t.dia.fifo = l ∧ t.rd DIA.CHG_VALID = 1 ∧ t.rd DIA.CHG_OUT = g.o % 128 ∧ t.rd DIA.CHG_OLD = g.old % 16 ∧ t.rd DIA.CHG_NEW = g.new % 16 ∧
    t.rd DIA.CHG_TICK16 = g.tick16 % 65536 ∧ t.mem = m.mem ∧ m.KeepsRegs [DIA.CHG_OUT, DIA.CHG_VALID, DIA.CHG_OLD, DIA.CHG_NEW, DIA.CHG_TICK16] t)) ∧
  (∀ w : Writer, (s.mod.rd DIA.POP_OWNER ≠ w.code ∨ s.mod.dia.fifo = []) → s.Runs (.chgPop w) (fun m t =>
    t.dia.fifo = m.dia.fifo ∧ t.rd DIA.CHG_VALID = 0 ∧ t.mem = m.mem ∧ m.KeepsRegs [DIA.CHG_VALID] t))

/-- A motor command that is not refused is kept with its duty and ends a stop for stall; with the Frame as owner and no reversal
due, it is the mode applied. The bridges' timers and stalls, and the position unit: each transition counts by one, with its time
stamp and the time since the one before; an illegal one counts as an error; a written position stands. -/
def Obligations.MotorsFollowCommandsAndCount : Prop :=
  (∀ (s : State) (k : Fin 8), s.mod.force (k.val / 2) (MOT.BR_EN k) ≠ 0 →
  let kept := fun (mode duty : Nat) (m t : Mod) => t.rd (MOT.MODE k) = mode ∧ t.rd (MOT.DUTY k) = duty ∧ t.rd (MOT.STOPPED k) = 0 ∧
    (m.brOwnerOf k = 0 → m.rd (MOT.REVERSING k) = 0 → ¬ (mode = 2 ∧ m.rd (MOT.APPLIED k) = 1) → ¬ (mode = 1 ∧ m.rd (MOT.APPLIED k) = 2) →
      t.rd (MOT.APPLIED k) = mode) ∧ t.mem = m.mem ∧ m.OnlyPages [0x10 + k.val / 2, 0x15, 0x08] t
  let free := fun mode : Nat => s.mod.rd (MOT.STOPPED k) = 0 ∨ (s.mod.br k).stallMode ≠ mode
  (free 0 → s.Runs (.coast k) (kept 0 0)) ∧ (∀ d, free 1 → s.Runs (.fwd k d) (kept 1 d.toNat)) ∧
  (∀ d, free 2 → s.Runs (.rev k d) (kept 2 d.toNat)) ∧ (free 3 → s.Runs (.brakeLs k) (kept 3 0)) ∧ (free 4 → s.Runs (.brakeHs k) (kept 4 0))) ∧
  (∀ s : State,
  (∀ k : Fin 8, s.Runs (.stallMaskEnd k) (fun m t => t.rd (MOT.MASKED k) = 0 ∧ m.OnlyRegs [MOT.MASKED k] t)) ∧
  (∀ k : Fin 8, s.mod.rd (MOT.REVERSING k) = 1 → s.mod.brOwnerOf k = 0 → s.Runs (.reversalBrakeEnd k) (fun m t =>
    t.rd (MOT.REVERSING k) = 0 ∧ t.rd (MOT.APPLIED k) = (m.br k).revTo % 8 ∧ t.mem = m.mem ∧ m.OnlyPages [0x10 + k.val / 2, 0x15, 0x08] t)) ∧
  (∀ k : Fin 8, s.mod.force (k.val / 2) (MOT.BR_EN k) ≠ 0 → s.mod.force (k.val / 2) (MOT.ICHOP k) ≠ 0 → s.mod.rd (MOT.APPLIED k) = 1 →
    (s.mod.chan (k.val / 2) (brEven k)).onPhase = true → s.mod.rd (HQ.OUT (k.val / 2) (brEven k)) = 5 →
    s.Runs (.chop k) (fun m t => (t.br k).chopped = true ∧ (t.chan (k.val / 2) (brEven k)).onPhase = false ∧
      (t.chan (k.val / 2) (brEven k)).tran = .off ∧ t.rd (HQ.SLEWING (k.val / 2) (brEven k)) = 1 ∧ t.mem = m.mem ∧
      m.KeepsRegs [HQ.SLEWING (k.val / 2) (brEven k)] t)) ∧
  (∀ k : Fin 8, s.mod.force (k.val / 2) (MOT.BR_EN k) ≠ 0 → (s.mod.br k).stallTick = 0 → s.mod.rd (MOT.APPLIED k) = 1 ∨ s.mod.rd (MOT.APPLIED k) = 2 →
    s.mod.rd (MOT.MASKED k) = 0 →
    (s.mod.force (k.val / 2) (MOT.STALL_I k) ≠ 0 → s.Runs (.currentStall k) (fun m t =>
      t.rd (MOT.STALL_CNT k) = Nat.min (m.rd (MOT.STALL_CNT k) + 1) (MOT.STALL_CNT k).max ∧ t.rd (MOT.CUR_STALL k) = 1 ∧
      t.rd (MOT.HALL_STALL k) = 0 ∧ (m.force (k.val / 2) (MOT.STALL_ACT k) ≠ 0 → t.rd (MOT.STOPPED k) = 1) ∧ t.mem = m.mem ∧ m.OnlyPages [0x10 + k.val / 2, 0x15, 0x08] t)) ∧
    (s.mod.force (k.val / 2) (MOT.QPAIR k) ≠ 0 → s.mod.force (k.val / 2) (MOT.HALL_T k) ≠ 0 → 1024 ≤ s.mod.rd (MOT.DUTY_APPL k) →
      s.Runs (.hallStall k) (fun m t =>
        t.rd (MOT.STALL_CNT k) = Nat.min (m.rd (MOT.STALL_CNT k) + 1) (MOT.STALL_CNT k).max ∧ t.rd (MOT.CUR_STALL k) = 0 ∧
        t.rd (MOT.HALL_STALL k) = 1 ∧ (m.force (k.val / 2) (MOT.STALL_ACT k) ≠ 0 → t.rd (MOT.STOPPED k) = 1) ∧ t.mem = m.mem ∧ m.OnlyPages [0x10 + k.val / 2, 0x15, 0x08] t))) ∧
  (∀ (j : Fin 4) (lead : Bool) (cyc : BitVec 11), s.mod.qdRuns j = true → s.Runs (.quadratureTransition j lead cyc) (fun m t =>
    t.rd (MOT.QD_POS j) = (if lead = m.on (MOT.INV j) then m.rd (MOT.QD_POS j) + 0xFFFFFFFF else m.rd (MOT.QD_POS j) + 1) % 2 ^ 32 ∧
    t.rd (MOT.LAST_TS j) = m.stamp cyc.toNat % 2 ^ 32 ∧ t.rd (MOT.QD_DIR j) = (if lead = m.on (MOT.INV j) then 2 else 1) ∧
    t.rd (MOT.QD_PERIOD j) = (if (m.qd j).hasTs then Nat.min 0xFFFFFFFF (m.stamp cyc.toNat - (m.qd j).lastTs) else 0xFFFFFFFF) ∧ t.mem = m.mem ∧
    m.KeepsRegs [MOT.QD_POS j, MOT.LAST_TS j, MOT.QD_DIR j, MOT.QD_PERIOD j] t)) ∧
  (∀ j : Fin 4, s.mod.qdRuns j = true → s.Runs (.illegalTransition j) (fun m t =>
    t.rd (MOT.ERR_CNT j) = Nat.min (m.rd (MOT.ERR_CNT j) + 1) (MOT.ERR_CNT j).max ∧ t.mem = m.mem ∧ m.KeepsRegs [MOT.ERR_CNT j] t)) ∧
  (∀ j : Fin 4, s.mod.on (MOT.QD_EN j) = false → (∀ lead cyc, s.Runs (.quadratureTransition j lead cyc) (fun m t => m.OnlyRegs [] t)) ∧
    s.Runs (.illegalTransition j) (fun m t => m.OnlyRegs [] t)) ∧
  (∀ (j : Fin 4) (v : Word), s.Runs (.qdPosWrite j v .vinko) (fun m t =>
    t.rd (MOT.QD_POS j) = v.toNat ∧ t.rd (MOT.QD_POS_OK j) = 1 ∧ m.OnlyRegs [MOT.QD_POS j, MOT.QD_POS_OK j] t)) ∧
  (∀ (k : Fin 8) (v : Bool), s.mod.keyOpen 0x15 = true → (s.mod.quad (k.val / 2)).frozen = [] →
    s.mod.rd (HQ.OUT (k.val / 2) (brEven k)) = 0 → s.mod.rd (HQ.OUT (k.val / 2) (brEven k + 1)) = 0 →
    s.Runs (.brEnWrite k v .vinko) (fun m t => t.rd (MOT.BR_EN k) = v.toNat ∧ t.mem = m.mem ∧ m.OnlyPages [0x10 + k.val / 2, 0x15, 0x08] t)))

/-! ### Chapter 1: the phases of a tick, the boundaries -/

/-- The phases of a tick: the assembly, the freeze, the boundary. TICK advances by one at the boundary of a module in Run or Doze,
the tick interrupt is raised in Run, and no phase of the tick that ends is left open. That the interrupt comes while the Frame is
stopped too is the model's reading (log entry 20). -/
def Obligations.TickPhasesAdvance : Prop :=
  ∀ s : State,
  (∀ ecc, s.mod.pstate < 2 → s.mod.pwr.phase ≠ 4 → s.Runs (.tickBoundary ecc) (fun m t =>
    t.tick = m.tick + 1 ∧ t.frm.image = none ∧ (m.pstate = 0 → t.pair.w0.irq = true))) ∧
  (∀ bad, s.mod.rd FRM.RUNNING = 1 → s.mod.frm.assembled = false → s.Runs (.commitAssembly bad) (fun m t =>
    t.frm.assembled = true ∧ t.frm.repairs = [] ∧ t.frm.emptied = [] ∧ t.tick = m.tick)) ∧
  (s.mod.pstate < 2 → s.mod.frm.image = none → ∀ first, s.Runs (.commitFreeze first) (fun m t =>
    (∃ h, t.frm.image = some h ∧ h.tick = m.tick) ∧ t.frm.staged = [] ∧ t.frm.done = [] ∧ t.frm.lost = [] ∧ t.tick = m.tick))

/-- The length of the tick: with nothing to assemble, vehicle time free-running gives no correction; otherwise the stored frequency
correction adds up and lengthens or shortens the tick by a cycle once a whole one is due, kept in Holdover, and a synchronised Frame
slews by one that it still owes. How correction and slew combine is the model's choice (log entry 12). -/
def Obligations.TickLengthIsCorrected : Prop :=
  ∀ (s : State) (first : Bool), s.mod.pstate < 2 → s.mod.rd FRM.RUNNING = 0 → s.mod.frm.image = none → s.mod.frm.staged = [] →
  (s.mod.rd FRM.SYNC = 0 → s.Runs (.commitFreeze first) (fun m t => t.frm.tickLen = 2000 ∧ m.KeepsRegs [] t)) ∧
  ((s.mod.rd FRM.SYNC = 2 ∧ s.mod.rd FRM.SLEW_LEFT = 0) ∨ s.mod.rd FRM.SYNC = 3 → s.Runs (.commitFreeze first) (fun m t =>
    let due := m.frm.freqAcc + 2 * m.frm.freq
    t.frm.tickLen = (if 1000000 ≤ due then 2001 else if due ≤ -1000000 then 1999 else 2000) ∧
    t.frm.freqAcc = due - 1000000 * ((t.frm.tickLen : Int) - 2000) ∧ t.frm.freq = m.frm.freq ∧ m.KeepsRegs [] t)) ∧
  (s.mod.rd FRM.SYNC = 2 → s.mod.rd FRM.SLEW_LEFT ≠ 0 → s.mod.rd FRM.PHASE_ERR < 32768 → s.mod.freqCycle = 0 →
    s.Runs (.commitFreeze first) (fun m t => t.frm.tickLen = 2001 ∧ t.rd FRM.SLEW_LEFT = (m.rd FRM.SLEW_LEFT - 1) % 2 ^ FRM.SLEW_LEFT.w ∧
      m.KeepsRegs [FRM.SLEW_LEFT] t)) ∧
  (s.mod.rd FRM.SYNC = 2 → s.mod.rd FRM.SLEW_LEFT ≠ 0 → 32768 ≤ s.mod.rd FRM.PHASE_ERR → s.mod.freqCycle = 0 →
    s.Runs (.commitFreeze first) (fun m t => t.frm.tickLen = 1999 ∧ t.rd FRM.SLEW_LEFT = (m.rd FRM.SLEW_LEFT - 1) % 2 ^ FRM.SLEW_LEFT.w ∧
      m.KeepsRegs [FRM.SLEW_LEFT] t))

/-- The frame and superframe boundaries: the substrate codes and the watchdog's count; the table swap. Loss of vehicle time. A rod's
reload and a rollback's release. The watchdog's count in Doze is the model's reading (log entry 69), and so is a reload without an
image (log entry 22). -/
def Obligations.BoundariesSwapCountAndRelease : Prop :=
  ∀ s : State,
  (∀ t0 t1 t2 t3 busy, s.mod.tick % 100 = 0 → s.mod.pstate < 2 → s.mod.pwr.phase ≠ 4 →
    s.Runs (.frameBoundary t0 t1 t2 t3 busy) (fun m t => t.tick = m.tick ∧ t.pair.wdt = m.pair.wdt + 1)) ∧
  (∀ period temp, s.mod.tick % 100000 = 0 → s.mod.pstate < 2 → s.mod.pwr.phase ≠ 4 → s.mod.prm.envPend = [] →
    s.Runs (.superframeBoundary period temp) (fun m t => t.tick = m.tick ∧ t.rd FRM.TAB_ACT = m.rd FRM.TAB_NEXT % 2 ∧ t.rd PAIR.SF_RB = 0)) ∧
  (s.mod.rd FRM.SYNC = 1 ∨ s.mod.rd FRM.SYNC = 2 → s.mod.frm.lastUpd + 3 * s.mod.updateTicks ≤ s.mod.tick → s.mod.Room 1 → s.Runs .holdoverEntry (fun m t => t.rd FRM.SYNC = 3 ∧ t.frm.good = 0 ∧
    t.frm.bad = 0 ∧ m.Reported t 0x0A warn 0x0102 [sj 3, vl16 (m.rd FRM.PHASE_ERR)] ∧ t.mem = m.mem ∧
    m.KeepsRegs (FRM.SYNC :: evtFlds 0x0A) t)) ∧
  (s.mod.rd FRM.SYNC = 3 → s.mod.rd FRM.HOLDOVER_LIM ≤ s.mod.frm.holdSf → s.mod.Room 1 → s.Runs .holdoverExpire (fun m t => t.rd FRM.SYNC = 0 ∧
    m.Reported t 0x0A warn 0x0102 [sj 0, vl16 (m.rd FRM.PHASE_ERR)] ∧ t.mem = m.mem ∧ m.KeepsRegs (FRM.SYNC :: evtFlds 0x0A) t)) ∧
  (∀ r l, s.mod.frm.reload = r :: l → s.mod.boot.cfgSlot = none → r < 1024 → s.Runs .rodReloadDone (fun m t => t.frm.reload = l ∧
    t.rd TIL.RELOAD_BUSY = (if l = [] then 0 else 1) ∧ (t.rd (TIL.OOS (r / 32))).testBit (r % 32) = true ∧ t.rd TIL.OOS_ANY = 1 ∧
    t.mem = m.mem ∧ m.OnlyPages [0x0C, 0x08] t)) ∧
  (∀ delay h, s.mod.frm.held = some h → s.mod.pair.reagreed = true → s.mod.frm.withhold = false → s.mod.boot.resetDue = 0 →
    s.Runs (.rollbackRelease delay) (fun m t => t.frm.held = none ∧ t.tick = m.tick))

/-! ### Chapter 2 -/

/-- A promise past its deadline and not held back is breached with the cause its record gives; the admission queue gives up its
head; a disabled unit refuses it with reason 0x0E, a draining one with 0x0B. -/
def Obligations.PromisesAreJudgedAndRequestsDecided : Prop :=
  ∀ s : State,
  (∀ (num : BitVec 16) (p : Promise), s.mod.openPromise num.toNat = some p → p.deadline < s.mod.tick → s.mod.heldBack p = false → p.init = none →
    s.mod.Room 1 → causeOf p < 16 → s.Runs (.promiseDeadline num) (fun m t => t.openPromise num.toNat = none ∧
      t.prm.closed = ({ p with state := 2, cause := causeOf p } :: m.prm.closed).take 256 ∧
      t.rd PRM.BREACH_CNT = Nat.min (m.rd PRM.BREACH_CNT + 1) PRM.BREACH_CNT.max ∧ t.rd PRM.BR_NUM = p.num % 65536 ∧
      t.rd PRM.BR_CAUSE = causeOf p ∧
      m.Reported t 0x0B err (0x0210 + causeOf p) [sj16 p.num, vl16 (p.deadline % 65536)] ∧ t.mem = m.mem ∧ m.OnlyPages [0x0B, 0x08] t)) ∧
  (∀ (num : BitVec 16) (p : Promise), s.mod.openPromise num.toNat = some p → s.mod.tick ≤ p.deadline →
    s.Runs (.promiseDeadline num) (fun m t => t.prm = m.prm ∧ m.OnlyRegs [] t)) ∧
  (∀ r l, s.mod.prm.queue = r :: l → s.mod.rd PRM.EN = 0 → r.via = .pair → s.Runs .admissionDecision (fun m t => t.prm.queue = l ∧
    t.rd PRM.REFUSE_CNT = Nat.min (m.rd PRM.REFUSE_CNT + 1) PRM.REFUSE_CNT.max ∧ t.rd PRM.REF_REASON = 0x0E ∧
    t.rd PRM.ANS_VALID = 1 ∧ t.rd PRM.ANS_ACCEPTED = 0 ∧ t.rd PRM.ANS_CODE = 0x0E ∧ t.prm.open_ = m.prm.open_ ∧ t.mem = m.mem ∧ m.OnlyPages [0x0B] t)) ∧
  (∀ r l, s.mod.prm.queue = r :: l → s.mod.rd PRM.EN = 1 → s.mod.rd PRM.DRAINING = 1 → r.via = .pair → s.Runs .admissionDecision (fun m t =>
    t.prm.queue = l ∧ t.rd PRM.REF_REASON = 0x0B ∧ t.rd PRM.ANS_VALID = 1 ∧ t.rd PRM.ANS_ACCEPTED = 0 ∧ t.rd PRM.ANS_CODE = 0x0B ∧
    t.prm.open_ = m.prm.open_ ∧ t.mem = m.mem ∧ m.OnlyPages [0x0B] t)) ∧
  (∀ p : Fin 22, s.Runs (.envIntervalEnd p) (fun m t =>
    t.rd (PRM.ENV_MEAS_OCC (2 + p)) = Nat.min (SMap.get 0 m.prm.envOcc (2 + p) / 200) (PRM.ENV_MEAS_OCC (2 + p)).max ∧
    t.rd (PRM.ENV_MEAS_FRAMES (2 + p)) = Nat.min (SMap.get 0 m.prm.envFrm (2 + p)) (PRM.ENV_MEAS_FRAMES (2 + p)).max ∧
    SMap.get 0 t.prm.envOcc (2 + p) = 0 ∧ SMap.get 0 t.prm.envFrm (2 + p) = 0 ∧ t.mem = m.mem ∧ m.KeepsRegs [PRM.ENV_MEAS_OCC (2 + p), PRM.ENV_MEAS_FRAMES (2 + p)] t))

/-! ### Chapters 4, 7 and 8: the heartbeat watch; chapter 5: requests -/

/-- An armed watch that meets silence asserts Safe on its block, a Hold past its limit becomes Safe, and SAFE_REL ends Safe after
ten heartbeats and not before. -/
def Obligations.SilenceAndLimitAssertSafe : Prop :=
  ∀ s : State,
  (∀ q : Fin 4, s.mod.rd (HQ.WATCH q) = 1 → s.Runs (.heartbeatSilence (.quadrant q)) (fun m t => t.rd (HQ.WATCH q) = 2 ∧
    t.rd (HQ.SAFE q) ≠ 0 ∧ t.rd (HQ.SILENCE_CNT q) = Nat.min (m.rd (HQ.SILENCE_CNT q) + 1) (HQ.SILENCE_CNT q).max ∧ t.mem = m.mem ∧ m.OnlyPages [0x10 + q, 0x08] t)) ∧
  (s.mod.rd LED.WATCH = 1 → s.Runs (.heartbeatSilence .lighting) (fun m t => t.rd LED.WATCH = 2 ∧ t.rd LED.SAFE ≠ 0 ∧
    t.rd LED.SILENCE_CNT = Nat.min (m.rd LED.SILENCE_CNT + 1) LED.SILENCE_CNT.max ∧ t.mem = m.mem ∧ m.OnlyPages [0x18, 0x08] t)) ∧
  (s.mod.rd FIO.WATCH = 1 → s.Runs (.heartbeatSilence .fieldIo) (fun m t => t.rd FIO.WATCH = 2 ∧ t.rd FIO.SAFE ≠ 0 ∧
    t.rd FIO.SILENCE_CNT = Nat.min (m.rd FIO.SILENCE_CNT + 1) FIO.SILENCE_CNT.max ∧ t.mem = m.mem ∧ m.OnlyPages [0x16, 0x08] t)) ∧
  (∀ q : Fin 4, s.mod.rd (HQ.HOLD q) = 1 → (s.mod.quad q).holdExp = false → s.Runs (.holdLimit (.quadrant q)) (fun m t =>
    t.rd (HQ.SAFE q) ≠ 0 ∧ (t.quad q).holdExp = true ∧
    t.rd (HQ.HOLD_EXP_CNT q) = Nat.min (m.rd (HQ.HOLD_EXP_CNT q) + 1) (HQ.HOLD_EXP_CNT q).max ∧ t.mem = m.mem ∧ m.OnlyPages [0x10 + q, 0x08] t)) ∧
  (∀ q : Fin 4, s.mod.rd (HQ.SAFE q) = 1 → (s.mod.quad q).hbRun < 10 → (s.mod.quad q).silent = false → s.mod.Room 1 →
    s.Runs (.safeRel (.quadrant q)) (fun m t => t.rd (HQ.SAFE q) = 1 ∧
      m.Reported t (0x10 + q) warn 0x0432 [vl (m.quad q).hbRun] ∧ t.mem = m.mem ∧ m.KeepsRegs (evtFlds (0x10 + q)) t)) ∧
  (s.mod.rd LED.SAFE = 1 → 10 ≤ (s.mod.watchX 0).hbRun → s.Runs (.safeRel .lighting) (fun m t => t.rd LED.SAFE = 0 ∧
    t.rd LED.WATCH = (if m.rd LED.HOLD = 0 then 1 else 3) ∧ t.mem = m.mem ∧ m.OnlyPages [0x18] t)) ∧
  (∀ (q : Fin 4) (p : Fin 2), s.mod.rd (HQ.SAFE q) = 1 → s.Runs (.safePatternToggle q p) (fun m t =>
    SMap.get false (t.quad q).patOn p = (!SMap.get false (m.quad q).patOn p) ∧ t.mem = m.mem ∧ m.OnlyPages [0x10 + q, 0x08] t))

/-- A diagnostic request on a channel that acts alone, idle and well supplied: an off-state test starts its pull-down phase on an
output that is off, an on-state check on one that is on; CANCEL ends the test, CLEAR clears the code. -/
def Obligations.DiagnosticRequestsStart : Prop :=
  ∀ (s : State) (q : Fin 4) (c : Fin 20),
  let ready := (s.mod.paired q = false ∨ c ≠ 10) ∧ s.mod.bridged q c = false ∧ s.mod.rd (HQ.DIAG_BUSY q c) = 0 ∧ s.mod.suspended q = false
  let starts := fun (kind : Nat) (run : DiagRun) (m t : Mod) => t.rd (HQ.DIAG_BUSY q c) = 1 ∧ t.rd (HQ.DIAG_KIND q c) = m.rd (HQ.DIAG_KIND q c) ∧
    t.chan q c = { m.chan q c with diag := { run := run, kind := kind } } ∧ t.mem = m.mem ∧
    m.KeepsRegs [HQ.DIAG_BUSY q c, DIA.BUSY_N] t
  (ready → isHB c = false → s.mod.rd (HQ.OUT q c) = 0 → s.Runs (.offOl q c) (starts 0 .pullDown)) ∧
  (ready → isHB c = false → s.mod.rd (HQ.OUT q c) = 0 → s.Runs (.offStb q c) (starts 1 .pullDown)) ∧
  (ready → s.mod.rd (HQ.OUT q c) = 1 → s.Runs (.onChk q c) (starts 2 .onState)) ∧
  (ready → isHB c = false → s.mod.rd (HQ.OUT q c) = 0 → s.Runs (.auto q c) (starts 3 .pullDown)) ∧
  (ready → s.mod.rd (HQ.OUT q c) = 1 → s.Runs (.auto q c) (starts 3 .onState)) ∧
  (s.mod.rd (HQ.DIAG_BUSY q c) = 1 → s.Runs (.cancel q c) (fun m t => t.rd (HQ.DIAG_CODE q c) = 9 ∧ t.rd (HQ.DIAG_BUSY q c) = 0 ∧ t.mem = m.mem ∧ m.KeepsRegs [HQ.DIAG_CODE q c, HQ.DIAG_BUSY q c] t)) ∧
  (s.mod.rd (HQ.DIAG_BUSY q c) = 0 → s.Runs (.clear q c) (fun m t => t.rd (HQ.DIAG_CODE q c) = 0 ∧ t.rd (HQ.DIAG_KIND q c) = 5 ∧ t.mem = m.mem ∧ m.KeepsRegs [HQ.DIAG_CODE q c, HQ.DIAG_KIND q c] t)) ∧
  (s.mod.rd (HQ.DIAG_BUSY q c) = 1 → s.Runs (.offOl q c) (fun m t =>
    t.rd DIA.REQ_REJ_CNT = Nat.min (m.rd DIA.REQ_REJ_CNT + 1) DIA.REQ_REJ_CNT.max ∧ m.OnlyRegs [DIA.REQ_REJ_CNT] t))

/-! ### Chapter 7 -/

/-- The sinks: a period applies the duty that the effective owner gives, the on-phase ends, measurements are shown, a hot group
turns off and counts, a cooled one resumes; a window's SINK_CMD is turned away with a count. -/
def Obligations.SinksFollowTheirOwner : Prop :=
  ∀ s : State,
  (∀ n : Fin 48, s.Runs (.sinkPeriodStart n) (fun m t => t.rd (LED.APPLIED n) = m.sinkWant n % 65536 ∧
    (t.sink n).on = decide (m.ledOn (m.sinkWant n) ≠ 0) ∧ t.mem = m.mem ∧ m.KeepsRegs [LED.APPLIED n] t)) ∧
  (∀ n : Fin 48, s.mod.ledOn (s.mod.rd (LED.APPLIED n)) < s.mod.ledTicks * 2000 → s.Runs (.sinkOnEnd n) (fun m t => t.sink n = { m.sink n with on := false } ∧
    t.mem = m.mem ∧ m.KeepsRegs [] t)) ∧
  (∀ n : Fin 48, s.mod.ledTicks * 2000 ≤ s.mod.ledOn (s.mod.rd (LED.APPLIED n)) → s.Runs (.sinkOnEnd n) (fun m t => m.OnlyRegs [] t)) ∧
  (∀ (n : Fin 48) drop cur, (s.mod.sink n).on = true → 400 ≤ s.mod.ledOn (s.mod.rd (LED.APPLIED n)) → 4 ≤ drop.toNat →
    s.Runs (.sinkMeasure n drop cur) (fun m t => t.rd (LED.DROP n) = drop.toNat ∧ (t.sink n).openRun = 0 ∧
      (t.sink n).clearRun = Nat.min 4 ((m.sink n).clearRun + 1) ∧ t.mem = m.mem ∧ m.KeepsRegs [LED.DROP n, LED.OPEN n] t)) ∧
  (∀ (g : Fin 6) (c : BitVec 8), 150 ≤ c.toNat → s.mod.bit LED.GROUP_OT g = false → s.Runs (.groupOvertemp ⟨g, c⟩) (fun m t => (t.rd LED.GROUP_OT).testBit g = true ∧
    SMap.get 0 t.led.trips g = SMap.get 0 m.led.trips g + 1 ∧ t.mem = m.mem ∧ m.OnlyPages [0x18, 0x08] t)) ∧
  (∀ (g : Fin 6) (c : BitVec 8), c.toNat < 150 → s.Runs (.groupOvertemp ⟨g, c⟩) (fun m t =>
    (135 < c.toNat → t.led.warm.testBit g = true) ∧ t.mem = m.mem ∧ m.KeepsRegs [] t)) ∧
  (∀ g : Fin 6, s.Runs (.groupResume g) (fun m t => (t.rd LED.GROUP_OT).testBit g = false ∧
    t.led.warm.testBit g = false ∧ t.mem = m.mem ∧ m.KeepsRegs [LED.GROUP_OT] t)) ∧
  s.Runs .thLatchClr (fun m t => t.led.trips = [] ∧
    (∀ g : Fin 6, t.bit LED.LATCHED g = (m.bit LED.LATCHED g && m.led.warm.testBit g)) ∧ t.mem = m.mem ∧ m.OnlyPages [0x18] t) ∧
  (∀ n v, s.Runs (.sinkCmdWrite n v .vinko) (fun m t => t.rd LED.VNK_REJ_CNT = Nat.min (m.rd LED.VNK_REJ_CNT + 1) LED.VNK_REJ_CNT.max ∧
    t.rd VNK.DENIED_CNT = Nat.min (m.rd VNK.DENIED_CNT + 1) VNK.DENIED_CNT.max ∧ m.OnlyRegs [LED.VNK_REJ_CNT, VNK.DENIED_CNT] t))

/-- The engine commands: STOP, which leaves a faulted engine as it is, START at an address inside the program or beyond it, PAUSE,
RESUME, FLAG; a program word is written only while its engine is stopped or faulted. Each instruction of a running engine that
neither waits nor ramps has the effect of its row. -/
def Obligations.EnginesActAndCompute : Prop :=
  (∀ (s : State) (e : Fin 4),
  (s.mod.rd (TOP.STATE e) = 3 → s.Runs (.stop e) (fun m t => m.OnlyRegs [] t)) ∧
  (s.mod.rd (TOP.STATE e) ≠ 3 → s.Runs (.stop e) (fun m t => t.rd (TOP.STATE e) = 0 ∧ t.rd (TOP.IA e) = 0 ∧ t.rd (TOP.IB e) = 0 ∧ (t.eng e).ramp = none ∧
    (t.eng e).wait = 0 ∧ t.mem = m.mem ∧ m.KeepsRegs [TOP.STATE e, TOP.IA e, TOP.IB e] t)) ∧
  (∀ a, a.toNat < s.mod.rd (TOP.LEN e) → s.Runs (.start e a) (fun m t => t.rd (TOP.STATE e) = 1 ∧ t.rd (TOP.PC e) = a.toNat ∧
    (t.eng e).pc = a.toNat ∧ (t.eng e).ramp = none ∧ (t.eng e).wait = 0 ∧ t.rd (TOP.FCAUSE e) = 0 ∧
    t.rd (TOP.P e) = 0 ∧ t.rd (TOP.IA e) = 0 ∧ t.rd (TOP.IB e) = 0 ∧ t.rd (TOP.C e) = 0 ∧ t.mem = m.mem ∧
    m.KeepsRegs [TOP.STATE e, TOP.PC e, TOP.FCAUSE e, TOP.P e, TOP.IA e, TOP.IB e, TOP.C e] t)) ∧
  (∀ a, s.mod.rd (TOP.LEN e) ≤ a.toNat → s.Runs (.start e a) (fun m t => t.rd (TOP.STATE e) = 3 ∧ t.rd (TOP.FCAUSE e) = 4 ∧
    t.rd TOP.FAULT_CNT = Nat.min (m.rd TOP.FAULT_CNT + 1) TOP.FAULT_CNT.max ∧ t.mem = m.mem ∧ m.OnlyPages [0x19, 0x08] t)) ∧
  s.Runs (.pause e) (fun m t => t.rd (TOP.STATE e) = (if m.rd (TOP.STATE e) = 1 then 2 else m.rd (TOP.STATE e)) ∧ m.OnlyRegs [TOP.STATE e] t) ∧
  s.Runs (.resume e) (fun m t => t.rd (TOP.STATE e) = (if m.rd (TOP.STATE e) = 2 then 1 else m.rd (TOP.STATE e)) ∧ m.OnlyRegs [TOP.STATE e] t) ∧
  (∀ a, s.Runs (.flag e a) (fun m t => t.top.flagPend = m.top.flagPend ++ [(a.toNat % 4, a.getLsbD 2)] ∧ t.mem = m.mem ∧ m.KeepsRegs [] t)) ∧
  (∀ w : BitVec 26, w.toNat &&& 0x1FFF00 = 0 → 5 ≤ fld w.toNat 23 21 → (decodeBead (0x06 * 2 ^ 26 + w.toNat)).toOption = none) ∧
  (∀ i v, s.mod.keyOpen 0x19 = true → s.Runs (.progWrite e i v .vinko) (fun m t =>
    if m.rd (TOP.STATE e) = 0 ∨ m.rd (TOP.STATE e) = 3 then t.rd (TOP.PROG e i) = v.toNat ∧ m.OnlyRegs [TOP.PROG e i] t
    else t.rd TOP.PROG_REJ_CNT = Nat.min (m.rd TOP.PROG_REJ_CNT + 1) TOP.PROG_REJ_CNT.max ∧ m.OnlyRegs [TOP.PROG_REJ_CNT] t))) ∧
  (∀ (s : State) (e : Fin 4), s.mod.rd (TOP.STATE e) = 1 → (s.mod.eng e).wait = 0 → (s.mod.eng e).ramp = none →
  let next := (s.mod.eng e).pc + 1
  let moves := fun (f : Fld) (v pc : Nat) (m t : Mod) => t.rd f = v ∧ (t.eng e).pc = pc ∧ t.rd (TOP.PC e) = pc % 256 ∧ t.mem = m.mem ∧
    m.KeepsRegs [f, TOP.PC e] t
  let count := fun c v : Nat => s.mod.rd (TOP.C e) - s.mod.counter e c * 2 ^ (8 * c) + v * 2 ^ (8 * c)
  (∀ n, s.Runs (.wait e n) (fun m t => t.eng e = { m.eng e with wait := Nat.max n.toNat 1 } ∧ t.mem = m.mem ∧ m.KeepsRegs [] t)) ∧
  (∀ k, s.Runs (.lda e k) (moves (TOP.IA e) (s.mod.level e k % 65536) next)) ∧
  (∀ k, s.Runs (.ldb e k) (moves (TOP.IB e) (s.mod.level e k % 65536) next)) ∧
  (∀ n k, n ≠ 0 → s.Runs (.rmpa e n k) (fun m t => (t.eng e).ramp = some ⟨false, m.rd (TOP.IA e), m.level e k, n.toNat, 0, m.rd (TOP.RSTEP e)⟩ ∧
    t.mem = m.mem ∧ m.KeepsRegs [] t)) ∧
  (∀ k, s.Runs (.rmpa e 0 k) (moves (TOP.IA e) (s.mod.level e k % 65536) next)) ∧
  (∀ n k, n ≠ 0 → s.Runs (.rmpb e n k) (fun m t => (t.eng e).ramp = some ⟨true, m.rd (TOP.IB e), m.level e k, n.toNat, 0, m.rd (TOP.RSTEP e)⟩ ∧
    t.mem = m.mem ∧ m.KeepsRegs [] t)) ∧
  (∀ v, s.Runs (.pset e true v) (moves (TOP.P e) (s.mod.rd (TOP.P e) % 256 + v.toNat * 256) next)) ∧
  (∀ v, s.Runs (.pset e false v) (moves (TOP.P e) ((s.mod.rd (TOP.P e) / 256 * 256 + v.toNat) % 65536) next)) ∧
  (∀ d w, s.Runs (.rot e d w) (moves (TOP.P e)
    (movePattern (s.mod.rd (TOP.P e)) w d ((s.mod.rd (TOP.P e)).testBit (if d then 0 else w.val)) % 65536) next)) ∧
  (∀ i d w, s.Runs (.shf e i d w) (moves (TOP.P e) (movePattern (s.mod.rd (TOP.P e)) w d i % 65536) next)) ∧
  (∀ c a, s.Runs (.loop e c a) (moves (TOP.C e) (count c ((s.mod.counter e c + 255) % 256) % 2 ^ 32)
    (if s.mod.counter e c = 1 then next else a.toNat))) ∧
  (∀ c v, s.Runs (.ldc e c v) (moves (TOP.C e) (count c v.toNat % 2 ^ 32) next)) ∧
  (∀ a, s.Runs (.jmp e a) (fun m t => (t.eng e).pc = a.toNat ∧ t.rd (TOP.PC e) = a.toNat ∧ t.mem = m.mem ∧ m.KeepsRegs [TOP.PC e] t)) ∧
  (∀ f v, s.Runs (.flagInstruction e f v) (fun m t => t.top.flagPend = m.top.flagPend ++ [(f.val, v)] ∧ (t.eng e).pc = next ∧ t.mem = m.mem ∧
    m.KeepsRegs [TOP.PC e] t)) ∧
  (∀ f v, s.Runs (.wflg e f v) (fun m t => (t.eng e).pc = (if m.bit TOP.FLAGS f = v then next else (m.eng e).pc) ∧ t.mem = m.mem ∧
    m.KeepsRegs [TOP.PC e] t)) ∧
  (∀ z, s.Runs (.endInstruction e z) (fun m t => t.rd (TOP.STATE e) = 0 ∧ (z = true → t.rd (TOP.IA e) = 0 ∧ t.rd (TOP.IB e) = 0) ∧ t.mem = m.mem ∧
    m.KeepsRegs (TOP.STATE e :: (if z then [TOP.IA e, TOP.IB e] else [])) t)))

/-- A step of a running ramp, and the engines' local step; the colour sensors' reads and raw transfers; the neighbour-pin test. A
target is taken into force when the matrix can be inverted and every count is in range, and is refused with its cause when not. -/
def Obligations.RampsSensorsAndColourTargets : Prop :=
  (∀ s : State,
  (∀ (e : Fin 4) (r : Ramp), s.mod.rd (TOP.STATE e) = 1 → (s.mod.eng e).ramp = some r → r.isB = false → r.i0 ≤ r.target → r.j + 1 < r.n →
    s.Runs (.rampStep e) (fun m t => t.rd (TOP.IA e) = (r.i0 + (r.target - r.i0) * (r.j + 1) / r.n) % 65536 ∧
      (t.eng e).ramp = some { r with j := r.j + 1, left := m.rd (TOP.RSTEP e) } ∧ t.mem = m.mem ∧ m.KeepsRegs [TOP.IA e] t)) ∧
  (∀ (e : Fin 4) (r : Ramp), s.mod.rd (TOP.STATE e) = 1 → (s.mod.eng e).ramp = some r → r.isB = true → r.i0 ≤ r.target → 0 < r.n → r.j + 1 = r.n →
    s.Runs (.rampStep e) (fun m t => t.rd (TOP.IB e) = r.target % 65536 ∧ (t.eng e).ramp = none ∧ (t.eng e).pc = (m.eng e).pc + 1 ∧ t.mem = m.mem ∧
      m.KeepsRegs [TOP.IB e, TOP.PC e] t)) ∧
  ((∀ t own, s.mod.top.last = some (t, own) → t + (if own then 98 else 102) ≤ s.mod.tick) →
    s.Runs .engineLocalStep (fun m t => t.top.last = some (m.tick, true) ∧ t.top.flagPend = [] ∧ t.mem = m.mem ∧ m.OnlyPages [0x19, 0x08] t)) ∧
  (∀ t own, s.mod.top.last = some (t, own) → s.mod.tick < t + (if own then 98 else 102) →
    s.Runs .engineLocalStep (fun m t => m.OnlyRegs [] t)) ∧
  (∀ b : Fin 2, s.mod.rd (CLR.BUS_EN b) = 1 → s.mod.tick % (100 * s.mod.rd CLR.PERIOD) = 0 → s.mod.ledRuns = true → s.mod.cyc b = [] → s.Runs (.readCycle b) (fun m t =>
    t.cyc b = (List.range 16).filter (fun i => m.on (CLR.TRI_EN i) && decide (m.rd (CLR.TRI_BUS i) = b)) ∧ t.mem = m.mem ∧ m.KeepsRegs [] t)) ∧
  (∀ b : Fin 2, s.mod.rd (CLR.BUS_EN b) = 1 → s.mod.tick % (100 * s.mod.rd CLR.PERIOD) = 0 → s.mod.ledRuns = true → s.mod.cyc b ≠ [] → s.Runs (.readCycle b) (fun m t =>
    t.rd CLR.OVERRUN_CNT = Nat.min (m.rd CLR.OVERRUN_CNT + 1) CLR.OVERRUN_CNT.max ∧ m.OnlyRegs [CLR.OVERRUN_CNT] t)) ∧
  (∀ (b : Fin 2) i l (data : BitVec 64), s.mod.cyc b = i :: l → i < 16 → s.mod.rd (CLR.TRI_STATE i) = 0 → s.Runs (.sensorRead b true data) (fun m t =>
    t.cyc b = l ∧ t.rd (CLR.FAILS i) = 0 ∧ t.rd (CLR.MEAS i 0) = m.answerCount i data.toNat 0 + m.answerCount i data.toNat 1 * 65536 ∧
    t.rd (CLR.MEAS i 1) = m.answerCount i data.toNat 2 + m.answerCount i data.toNat 3 * 65536 ∧ t.mem = m.mem ∧
    m.KeepsRegs [CLR.FAILS i, CLR.MEAS i 0, CLR.MEAS i 1] t)) ∧
  (∀ (b : Fin 2) i l, s.mod.cyc b = i :: l → i < 16 → s.Runs (.busStuck ⟨b, true⟩) (fun m t => t.cyc b = l ∧
    t.rd CLR.RECOV_CNT = Nat.min (m.rd CLR.RECOV_CNT + 1) CLR.RECOV_CNT.max ∧
    t.rd (CLR.FAILS i) = Nat.min (m.rd (CLR.FAILS i) + 1) (CLR.FAILS i).max ∧ t.mem = m.mem ∧ m.OnlyPages [0x1A, 0x08] t)) ∧
  (∀ b : Fin 2, s.mod.rd CLR.XF_BUSY = 1 → s.mod.rd CLR.XF_BUS = b.val → s.Runs (.busStuck ⟨b, false⟩) (fun m t => t.clr = m.clr ∧
    t.rd CLR.RECOV_CNT = Nat.min (m.rd CLR.RECOV_CNT + 1) CLR.RECOV_CNT.max ∧ (∀ i : Fin 16, t.rd (CLR.FAILS i) = m.rd (CLR.FAILS i)) ∧
    t.mem = m.mem ∧ m.OnlyPages [0x1A, 0x08] t)) ∧
  (∀ v : Word, s.mod.rd CLR.XF_BUSY = 0 → s.Runs (.rawTransfer v) (fun m t => t.rd CLR.XF_BUSY = (if v.getLsbD 31 then 1 else 0) ∧
    t.rd CLR.XF_BUS = v.toNat % 2 ∧ t.rd CLR.XF_ADDR = v.toNat / 2 % 128 ∧ t.rd CLR.WLEN = v.toNat / 256 % 32 ∧ t.rd CLR.RLEN = v.toNat / 65536 % 32 ∧
    m.OnlyRegs [CLR.XF_BUSY, CLR.XF_BUS, CLR.XF_ADDR, CLR.WLEN, CLR.RLEN] t)) ∧
  (∀ v, s.mod.rd CLR.XF_BUSY = 1 → s.Runs (.rawTransfer v) (fun m t => m.OnlyRegs [] t)) ∧
  (∀ data, s.mod.rd CLR.XF_BUSY = 1 → s.Runs (.rawTransferDone true data) (fun m t => t.rd CLR.XF_BUSY = 0 ∧ t.rd CLR.XF_NACK = 1 ∧
    m.OnlyRegs [CLR.XF_BUSY, CLR.XF_NACK] t)) ∧
  (∀ data : BitVec 128, s.mod.rd CLR.XF_BUSY = 1 → s.mod.rd CLR.RLEN = 4 → s.mod.rd (CLR.XF_DATA 0) < 2 ^ 32 → s.Runs (.rawTransferDone false data) (fun m t =>
    t.rd CLR.XF_BUSY = 0 ∧ t.rd CLR.XF_NACK = 0 ∧ t.rd (CLR.XF_DATA 0) = data.toNat % 2 ^ 32 ∧ m.OnlyRegs [CLR.XF_BUSY, CLR.XF_NACK, CLR.XF_DATA 0] t))) ∧
  (∀ (s : State) (i : Fin 16),
  (16777216 ≤ (s.mod.matDet i).natAbs → s.mod.rd (CLR.Y i) ≠ 0 → (∀ k, k < 3 → 1 ≤ s.mod.targetCount i k ∧ s.mod.targetCount i k ≤ 65535) →
    s.Runs (.apply i) (fun m t => t.rd (CLR.TRI_STATE i) = 1 ∧ (∀ k, k < 3 → (t.stOf i k : Int) = m.targetCount i k) ∧ t.mem = m.mem ∧ m.OnlyPages [0x1A, 0x08] t)) ∧
  ((s.mod.matDet i).natAbs < 16777216 → s.Runs (.apply i) (fun m t =>
    t.rd (CLR.TRI_STATE i) = (if m.rd (CLR.TRI_STATE i) = 1 ∨ m.rd (CLR.TRI_STATE i) = 2 then m.rd (CLR.TRI_STATE i) else 3) ∧
    (∀ k, k < 3 → t.stOf i k = m.stOf i k) ∧ t.mem = m.mem ∧ m.OnlyPages [0x1A, 0x08] t)))

/-! ### Chapter 8 -/

/-- Switch inputs: the raw level follows the contact, the filtered state follows it at once without debounce and after it otherwise
with its edge recorded, a cleaning pulse ends and the lowest waiting input is served, an overvoltage is latched. The neighbour-pin
test. Counting inputs: an edge that counts adds one and takes the time stamp; a window publishes the mean period of its edges
rounded to the nearest, or is stale without one. -/
def Obligations.InputsFilterAndMeasure : Prop :=
  (∀ s : State,
  (∀ (i : Fin 32) on, s.mod.pstate < 2 → s.mod.rd (FIO.DEB i) ≠ 0 → s.Runs (.rawLevelChange i on) (fun m t =>
    (t.rd FIO.DI_RAW).testBit i = (on != m.on (FIO.INV i)) ∧ t.fio.level.testBit i = on ∧ t.mem = m.mem ∧ m.KeepsRegs [FIO.DI_RAW] t)) ∧
  (∀ (i : Fin 32) on, 2 ≤ s.mod.pstate → s.Runs (.rawLevelChange i on) (fun m t => m.OnlyRegs [] t)) ∧
  (∀ (i : Fin 32) on, s.mod.pstate < 2 → s.mod.rd (FIO.DEB i) = 0 → s.Runs (.rawLevelChange i on) (fun m t =>
    (t.rd FIO.DI_RAW).testBit i = (on != m.on (FIO.INV i)) ∧ (t.rd FIO.DI_FILT).testBit i = (on != m.on (FIO.INV i)) ∧ t.mem = m.mem ∧ m.OnlyPages [0x16, 0x08] t)) ∧
  (∀ i : Fin 32, s.mod.pstate < 2 → s.mod.bit FIO.DI_FILT i ≠ s.mod.bit FIO.DI_RAW i → s.Runs (.debounceExpire i) (fun m t =>
    t.bit FIO.DI_FILT i = m.bit FIO.DI_RAW i ∧ t.bit FIO.DI_EDGE i = true ∧ t.fio.edges.testBit i = true ∧ t.mem = m.mem ∧
    m.KeepsRegs [FIO.DI_FILT, FIO.DI_EDGE, FIO.CLEAN_DEFER_CNT, COM.PAGE_IRQ 0x16] t)) ∧
  (∀ i : Fin 32, s.mod.fio.cleaning.contains i.val = true → s.Runs (.cleaningPulseEnd i) (fun m t =>
    t.fio.cleaning = m.fio.cleaning.filter (· ≠ i.val) ++ m.fio.waiting.min?.toList ∧ t.mem = m.mem ∧ m.KeepsRegs [] t)) ∧
  (∀ ch : Fin 40, s.Runs (.inputOv ⟨ch, false⟩) (fun m t => t.fio.ovNow.testBit ch = false ∧ t.fio.ov = m.fio.ov ∧ t.mem = m.mem ∧
    m.KeepsRegs [] t)) ∧
  (∀ ch : Fin 40, s.Runs (.inputOv ⟨ch, true⟩) (fun m t => t.fio.ovNow.testBit ch = true ∧ t.fio.ov.testBit ch = true ∧ t.rd FIO.FAULT ≠ 0 ∧ t.mem = m.mem ∧ m.OnlyPages [0x16, 0x08] t)) ∧
  (s.mod.rd LED.NB_BUSY = 0 → s.Runs .neighbourPinShortTest (fun m t => t.led.nbPend = true ∧ t.mem = m.mem ∧ m.KeepsRegs [] t)) ∧
  (∀ low, s.mod.rd LED.NB_BUSY = 1 → s.mod.led.nbNext = 47 → s.mod.led.nbSkip = false → s.Runs (.neighbourStep low false false) (fun m t =>
    t.rd LED.NB_BUSY = 0 ∧ (low = true → (t.rd (LED.NB_LOW 1)).testBit 23 = true) ∧ m.OnlyRegs [LED.NB_BUSY, LED.NB_LOW 1] t)) ∧
  (∀ low below above, s.mod.rd LED.NB_BUSY = 1 → s.mod.led.nbNext = 47 → s.mod.led.nbSkip = true →
    s.Runs (.neighbourStep low below above) (fun m t => t.rd LED.NB_BUSY = 0 ∧ (t.rd (LED.NB_SKIP 1)).testBit 23 = true ∧
      m.OnlyRegs [LED.NB_BUSY, LED.NB_SKIP 1] t))) ∧
  (∀ (s : State) (j : Fin 8),
  (∀ rising cyc, s.mod.pstate < 2 → s.mod.rd (FIO.CI_EN j) = 1 → (s.mod.rd (FIO.EDGE j) = 2 ∨ (s.mod.rd (FIO.EDGE j) = 0 ∧ rising = true)) →
    s.Runs (.ciEdge j rising cyc) (fun m t => t.rd (FIO.CI_COUNT j) = (m.rd (FIO.CI_COUNT j) + 1) % 2 ^ 32 ∧
      t.ci j = { m.ci j with k := (m.ci j).k + 1, last := m.stamp cyc.toNat } ∧ t.mem = m.mem ∧ m.KeepsRegs [FIO.CI_COUNT j] t)) ∧
  (s.mod.rd (FIO.CI_EN j) = 1 → s.mod.tick % (100 * s.mod.rd (FIO.GATE j)) = 0 → (s.mod.ci j).k = 0 → s.Runs (.ciWindowEnd j) (fun m t =>
    t.rd (FIO.CI_PERIOD j) = 0xFFFFFFFF ∧ t.rd (FIO.STALE j) = 1 ∧ t.rd (FIO.NWIN j) = 0 ∧ t.mem = m.mem ∧
    m.KeepsRegs [FIO.CI_PERIOD j, FIO.STALE j, FIO.NWIN j, FIO.SAT j] t)) ∧
  (s.mod.tick % (100 * s.mod.rd (FIO.GATE j)) ≠ 0 → s.Runs (.ciWindowEnd j) (fun m t => m.OnlyRegs [] t)) ∧
  (∀ r, s.mod.rd (FIO.CI_EN j) = 1 → s.mod.tick % (100 * s.mod.rd (FIO.GATE j)) = 0 → (s.mod.ci j).k ≠ 0 → (s.mod.ci j).ref = some r →
    (32 * ((s.mod.ci j).last - r) + (s.mod.ci j).k) / (2 * (s.mod.ci j).k) ≤ 0xFFFFFFFE → s.Runs (.ciWindowEnd j) (fun m t =>
    t.rd (FIO.CI_PERIOD j) = (32 * ((m.ci j).last - r) + (m.ci j).k) / (2 * (m.ci j).k) ∧ t.rd (FIO.STALE j) = 0 ∧ t.rd (FIO.SAT j) = 0 ∧
    t.ci j = { m.ci j with k := 0, ref := some (m.ci j).last } ∧ t.mem = m.mem ∧
    m.KeepsRegs [FIO.CI_PERIOD j, FIO.STALE j, FIO.NWIN j, FIO.SAT j] t)))

/-- Low-side outputs: overcurrent locks the output off, a hot one is off until it has cooled, an open load is latched while off;
each sets the fault bit; the window's LS_CMD is turned away with a count. The diagnostic command of the field I/O block: released
once at a time, a second is counted, the answer fills the result. -/
def Obligations.LowSideLatchesAndDiagnosticAnswers : Prop :=
  (∀ s : State,
  (∀ k : Fin 8, s.mod.bit FIO.LS_OUT k = true → s.Runs (.lsCurrentLimit k) (fun m t => t.bit FIO.LS_LOCK k = true ∧ t.bit FIO.LS_OUT k = false ∧
    t.fio.oc.testBit (40 + k) = true ∧ t.rd FIO.FAULT ≠ 0 ∧ t.mem = m.mem ∧ m.OnlyPages [0x16, 0x08] t)) ∧
  (∀ k : Fin 8, s.Runs (.lsThermal k) (fun m t => (t.ls k).hot = true ∧ t.bit FIO.LS_OUT k = false ∧ t.fio.th.testBit (40 + k) = true ∧
    t.rd FIO.FAULT ≠ 0 ∧ t.mem = m.mem ∧ m.OnlyPages [0x16, 0x08] t)) ∧
  (∀ k : Fin 8, s.Runs (.lsThermalResume k) (fun m t => (t.ls k).hot = false ∧ (effOf (m.ls k).own = 0 → m.bit FIO.LS_LOCK k = false →
    t.bit FIO.LS_OUT k = m.bit FIO.LS_VAL k) ∧ t.mem = m.mem ∧ m.KeepsRegs [FIO.LS_OUT, FIO.LS_OWN] t)) ∧
  (∀ k : Fin 8, s.mod.rd (FIO.OL_EN k) = 1 → s.mod.bit FIO.LS_OUT k = false → (∀ q, q < 4 → s.mod.rd (HQ.SAG q) = 0) →
    s.Runs (.lsOpenLoad ⟨k, true⟩) (fun m t => t.fio.ol.testBit (40 + k) = true ∧ t.fio.olNow.testBit k = true ∧ t.rd FIO.FAULT ≠ 0 ∧ t.mem = m.mem ∧ m.OnlyPages [0x16, 0x08] t)) ∧
  (∀ k : Fin 8, s.Runs (.lsOpenLoad ⟨k, false⟩) (fun m t => t.fio.olNow.testBit k = false ∧ t.fio.ol = m.fio.ol ∧ t.mem = m.mem ∧
    m.KeepsRegs [] t)) ∧
  (∀ v, s.Runs (.lsCmdWrite v .vinko) (fun m t => t.rd FIO.VNK_REJ_CNT = Nat.min (m.rd FIO.VNK_REJ_CNT + 1) FIO.VNK_REJ_CNT.max ∧
    t.rd VNK.DENIED_CNT = Nat.min (m.rd VNK.DENIED_CNT + 1) VNK.DENIED_CNT.max ∧ m.OnlyRegs [FIO.VNK_REJ_CNT, VNK.DENIED_CNT] t))) ∧
  (∀ (s : State) (ch : Fin 64),
  let sent := fun (kind : Nat) (m t : Mod) =>
    if m.rd FIO.DIAG_BUSY = 0 then
      t.rd FIO.DIAG_BUSY = 1 ∧ t.rd FIO.RES_VALID = 0 ∧ t.rd FIO.DIAG_CH = ch ∧ t.rd FIO.DIAG_KIND = kind ∧ t.fio.diagRun = some (ch.val, kind) ∧ t.fio.diagDue = m.tick + 100 ∧
      t.mem = m.mem ∧ m.KeepsRegs [FIO.DIAG_BUSY, FIO.RES_VALID, FIO.DIAG_CH, FIO.DIAG_KIND] t
    else t.rd FIO.DIAG_REJ_CNT = Nat.min (m.rd FIO.DIAG_REJ_CNT + 1) FIO.DIAG_REJ_CNT.max ∧ m.OnlyRegs [FIO.DIAG_REJ_CNT] t
  s.Runs (.diagCmdRead ch) (sent 0) ∧ s.Runs (.diagCmdReadClear ch) (sent 1) ∧ s.Runs (.diagCmdTest ch) (sent 2) ∧
  (∀ v fail, s.mod.fio.diagRun = some (ch.val, 0) → s.mod.fio.diagDue ≤ s.mod.tick → s.Runs (.diagAnswer v fail) (fun m t => t.rd FIO.DIAG_BUSY = 0 ∧ t.rd FIO.RES_VALID = 1 ∧
    t.rd FIO.RES_CH = ch ∧ t.rd FIO.RES_KIND = 0 ∧ t.rd FIO.RES_VALUE = v.toNat ∧
    t.rd FIO.RES_CAUSE = (if 48 ≤ ch.val then 64 else m.causeBits ch false) ∧ t.fio.diagRun = none ∧ t.mem = m.mem ∧ m.OnlyPages [0x16, 0x08] t)))

/-! ### Chapter 9 -/

/-- MODE of a controller that sends nothing: refused with CFG_ERR where the timing or the build does not stand; OFF clears the
counts, the queue and what waits; NORMAL and LISTEN_ONLY from OFF enter integration. BUILD with no enabled object succeeds. -/
def Obligations.CanModesTakeEffect : Prop :=
  ∀ (s : State) (n : Fin 12),
  (∀ busy, s.mod.rd (CAN.MODE n) = 1 → (s.mod.can n).sending = none → (busy = true → s.mod.canLive n = false) → s.Runs (.canModeOff ⟨n, busy⟩) (fun m t => t.rd (CAN.MODE n) = 0 ∧ t.rd (CAN.TEC n) = 0 ∧
    t.rd (CAN.REC n) = 0 ∧ t.rd (CAN.RP n) = 0 ∧ t.rd (CAN.ERRST n) = 3 ∧ t.rd (CAN.RECOV n) = 0 ∧ t.rd (CAN.TXQ_LVL n) = 0 ∧
    t.rd (CAN.CFG_ERR n) = 0 ∧ (t.can n).queue = [] ∧ (t.can n).monitor = false ∧
    m.KeepsRegs [CAN.MODE n, CAN.TEC n, CAN.REC n, CAN.RP n, CAN.ERRST n, CAN.RECOV n, CAN.TXQ_LVL n, CAN.CFG_ERR n] t)) ∧
  (s.mod.rd (CAN.MODE n) = 1 → (s.mod.can n).sending ≠ none ∨ s.mod.canLive n = true → s.Runs (.canModeOff ⟨n, true⟩) (fun m t =>
    (t.can n).modePend = some 0 ∧ t.rd (CAN.CFG_ERR n) = 0 ∧ t.mem = m.mem ∧ m.KeepsRegs [CAN.CFG_ERR n] t)) ∧
  (∀ busy, s.mod.rd (CAN.MODE n) = 0 → s.mod.canCfgOk n = true → (s.mod.can n).sending = none →
    s.Runs (.canModeNormal ⟨n, busy⟩) (fun m t => t.rd (CAN.MODE n) = 1 ∧ t.rd (CAN.ERRST n) = 3 ∧ t.rd (CAN.CFG_ERR n) = 0 ∧
      m.OnlyRegs [CAN.MODE n, CAN.ERRST n, CAN.CFG_ERR n] t) ∧
    s.Runs (.canModeListenOnly ⟨n, busy⟩) (fun m t => t.rd (CAN.MODE n) = 2 ∧ t.rd (CAN.ERRST n) = 3 ∧ t.rd (CAN.CFG_ERR n) = 0 ∧
      m.OnlyRegs [CAN.MODE n, CAN.ERRST n, CAN.CFG_ERR n] t)) ∧
  (∀ busy, s.mod.canCfgOk n = false → s.Runs (.canModeNormal ⟨n, busy⟩) (fun m t => t.rd (CAN.CFG_ERR n) = 1 ∧ m.OnlyRegs [CAN.CFG_ERR n] t) ∧
    s.Runs (.canModeListenOnly ⟨n, busy⟩) (fun m t => t.rd (CAN.CFG_ERR n) = 1 ∧ m.OnlyRegs [CAN.CFG_ERR n] t)) ∧
  (s.mod.rd (CAN.MODE n) = 0 → (s.mod.enabledObjs n).length ≤ 1 → s.Runs (.build n) (fun m t => t.rd (CAN.BUILT n) = 1 ∧ t.rd (CAN.DUP n) = 0 ∧
    (t.can n).index = (m.enabledObjs n).map (fun o => (objKey (if m.objTx o then 1 else 0) (m.objIde o) (m.objId o), o)) ∧ t.mem = m.mem ∧
    m.KeepsRegs [CAN.BUILT n, CAN.DUP n] t))

/-- A valid classic frame that matches no object and has no default object is counted and stored nowhere; one that matches an
unlocked object is stored there with its identifier, length, NEW and time stamp. -/
def Obligations.ReceivedFramesAreStored : Prop :=
  ∀ (s : State) (n : Fin 12) (f : BusFrame) (cyc : BitVec 11) (sp : Span), f.fdf = false → f.xlf = false → s.mod.canLive n = true →
  (s.mod.can n).deferred = [] → (s.mod.can n).modePend = none → s.mod.rd (CAN.RP n) = 0 → s.mod.rd (CAN.TEC n) ≤ 127 →
  (((s.mod.can n).index.find? fun e => e.1 = objKey 0 f.ide f.id.toNat) = none → s.mod.rd (CAN.DEF_OBJ n) = 0xFFF →
    s.Runs (.canFrameValid n f cyc sp) (fun m t => t.rd (CAN.UNMATCH_CNT n) = Nat.min (m.rd (CAN.UNMATCH_CNT n) + 1) (CAN.UNMATCH_CNT n).max ∧
      t.rd (CAN.ACK_RUN n) = 0 ∧ t.mem = m.mem ∧ m.OnlyPages [0x20 + n, 0x08] t)) ∧
  (∀ (o : Fin 4096) (k : Nat), ((s.mod.can n).index.find? fun e => e.1 = objKey 0 f.ide f.id.toNat) = some (k, o.val) → (s.mod.can n).lock = none →
    s.mod.objXl o = false → s.mod.objBit o 18 = false → f.wf = true → s.mod.img.routes = [] →
    s.Runs (.canFrameValid n f cyc sp) (fun m t => t.objBit o 18 = true ∧ fld (t.objWord o 2) 11 0 = f.data.length ∧
      t.objSeq o = (m.objSeq o + 1) % 16 ∧ t.objWord o 3 = m.stamp cyc.toNat % 2 ^ 32 ∧
      t.rd (CAN.RX_OK_CNT n) = Nat.min (m.rd (CAN.RX_OK_CNT n) + 1) (CAN.RX_OK_CNT n).max ∧
      (∀ a, (a < Machine.objAddr o ∨ Machine.objAddr o + 80 ≤ a) → t.byte a = m.byte a) ∧ m.OnlyPages [0x20 + n, 0x08] t))

/-- Conditional clears and locks: NEW and LOST clear only under the sequence number read; a lock is taken once, and released by its
holder or broken at its timeout, in bytes 8 to 11 of its object alone. -/
def Obligations.ClearsAndLocksTouchOneWord : Prop :=
  ∀ (s : State) (o : BitVec 12), s.mod.objTx o.toNat = false → s.mod.objCtrl o.toNat < 12 →
  let n := s.mod.objCtrl o.toNat
  let only := fun (m t : Mod) => ∀ a, (a < Machine.objAddr o.toNat + 8 ∨ Machine.objAddr o.toNat + 12 ≤ a) → t.byte a = m.byte a
  (∀ v : Word, fld v.toNat 25 22 = s.mod.objSeq o.toNat → s.Runs (.conditionalClear o ⟨v, .vinko⟩) (fun m t =>
    (v.getLsbD 18 = true → t.objBit o.toNat 18 = false) ∧ (v.getLsbD 19 = true → t.objBit o.toNat 19 = false) ∧ only m t ∧ m.KeepsRegs [] t)) ∧
  (∀ v : Word, fld v.toNat 25 22 ≠ s.mod.objSeq o.toNat → s.Runs (.conditionalClear o ⟨v, .vinko⟩) (fun m t => m.OnlyRegs [] t)) ∧
  (∀ v : Word, s.mod.pair.w0.cq.length < 256 → s.Runs (.conditionalClear o ⟨v, .pair⟩) (Queued (Machine.objAddr o.toNat + 8) v.toNat)) ∧
  (∀ r : Option (Fin 16), s.mod.rd (CAN.LOCK_MODE n) = 1 → (s.mod.can n).lock = none → s.Runs (.lockTake o r) (fun m t =>
    t.rd (CAN.LOCK_OBJ n) = o.toNat ∧ t.objBit o.toNat 20 = true ∧ (∃ l, (t.can n).lock = some l ∧ l.obj = o.toNat ∧ l.reader = r.map (·.val)) ∧
    only m t ∧ m.KeepsRegs [CAN.LOCK_OBJ n] t)) ∧
  (∀ (r : Option (Fin 16)) cyc l, (s.mod.can n).lock = some l → l.obj = o.toNat → l.reader = r.map (·.val) → (s.mod.can n).shadow = none →
    s.Runs (.lockRelease o ⟨r, cyc⟩) (fun m t => (t.can n).lock = none ∧ t.rd (CAN.LOCK_OBJ n) = 0xFFF ∧ t.objBit o.toNat 18 = false ∧
      t.objBit o.toNat 20 = false ∧ only m t ∧ m.KeepsRegs [CAN.LOCK_OBJ n] t)) ∧
  (∀ (k : Fin 12) cyc l, k.val = n → (s.mod.can n).lock = some l → l.obj = o.toNat → l.reader ≠ none → (s.mod.can n).shadow = none → s.mod.Room 1 →
    s.Runs (.lockTimeout ⟨k, cyc⟩) (fun m t => (t.can n).lock = none ∧ t.rd (CAN.LOCK_OBJ n) = 0xFFF ∧
      t.rd (CAN.LOCK_BROKEN_CNT n) = Nat.min (m.rd (CAN.LOCK_BROKEN_CNT n) + 1) (CAN.LOCK_BROKEN_CNT n).max ∧
      t.objBit o.toNat 20 = false ∧ m.Reported t (0x20 + n) info 0x090B [sj n, sj16 o.toNat] ∧ only m t ∧ m.OnlyPages [0x20 + n, 0x08] t))

/-- Transmission and its errors: an object enters the queue with PEND set, a success takes it out and counts, an error counts and
moves the error counts by the rule of ISO 11898-1; bus-off ends by RESTART and recovery, integration by eleven recessive bits; an
uncorrectable read of the object being sent takes its entry out. The steps of TEC and REC are presumed (log entry 44). -/
def Obligations.TransmissionAndErrorConfinement : Prop :=
  ∀ (s : State) (n : Fin 12),
  (∀ o : BitVec 12, s.mod.objTx o.toNat = true → s.mod.objEn o.toNat = true → s.mod.objCtrl o.toNat = n → s.mod.rd (CAN.MODE n) = 1 →
    s.mod.rd (CAN.ERRST n) = 3 → s.mod.rd (TRX.STATE (0x20 + n)) = 3 → (s.mod.can n).queue = [] → s.mod.openPromise (SMap.get 0 s.mod.prm.objPrm o.toNat) = none →
    s.Runs (.txqReq n o .vinko) (fun m t => (t.can n).queue = [(o.toNat, 0)] ∧ t.rd (CAN.TXQ_LVL n) = 1 ∧ t.objBit o.toNat 21 = true ∧
      (∀ a, (a < Machine.objAddr o.toNat + 8 ∨ Machine.objAddr o.toNat + 12 ≤ a) → t.byte a = m.byte a) ∧ m.KeepsRegs [CAN.TXQ_LVL n] t)) ∧
  (∀ o : BitVec 12, s.mod.objTx o.toNat = false → s.Runs (.txqReq n o .vinko) (fun m t =>
    t.rd OBJ.BAD_WRITE_CNT = Nat.min (m.rd OBJ.BAD_WRITE_CNT + 1) OBJ.BAD_WRITE_CNT.max ∧ t.rd OBJ.BAD_OBJ = o.toNat ∧ t.rd OBJ.CAUSE = 3 ∧
    m.OnlyRegs [OBJ.BAD_WRITE_CNT, OBJ.BAD_OBJ, OBJ.CAUSE] t)) ∧
  (∀ (o : Fin 4096) cyc delay sp, (s.mod.can n).sending = some o.val → (s.mod.can n).queue = [(o.val, 0)] → (s.mod.can n).deferred = [] →
    (s.mod.can n).modePend = none → s.mod.txOk (4 + n) = true → SMap.get 0 s.mod.prm.objPrm o = 0 → s.mod.rd (CAN.TEC n) ≤ 127 → s.mod.rd (CAN.RP n) = 0 →
    s.mod.rd (CAN.ERRST n) = 0 → s.Runs (.canTxSuccess n cyc delay sp) (fun m t => (t.can n).sending = none ∧ (t.can n).queue = [] ∧
      t.rd (CAN.TXQ_LVL n) = 0 ∧ t.rd (CAN.TX_OK_CNT n) = Nat.min (m.rd (CAN.TX_OK_CNT n) + 1) (CAN.TX_OK_CNT n).max ∧
      t.rd (CAN.TEC n) = m.rd (CAN.TEC n) - 1 ∧ t.objBit o 21 = false ∧ t.objBit o 18 = false ∧ t.objWord o 3 = m.stamp cyc.toNat % 2 ^ 32 ∧
      (∀ a, (a < Machine.objAddr o + 8 ∨ Machine.objAddr o + 16 ≤ a) → t.byte a = m.byte a) ∧ m.OnlyPages [0x20 + n, 0x08] t)) ∧
  (∀ (o : Fin 4096) tx code dp region dom flags delay sp (w : Fin 20), (s.mod.can n).sending = some o.val → (s.mod.can n).queue = [(o.val, 0)] →
    (s.mod.can n).deferred = [] → (s.mod.can n).modePend = none → SMap.get 0 s.mod.prm.objPrm o = 0 →
    s.Runs (.canError n tx code dp region ⟨dom, flags, delay⟩ sp (some (w, true))) (fun m t => (t.can n).sending = none ∧ (t.can n).queue = [] ∧
      t.rd (CAN.TXQ_LVL n) = 0 ∧ t.rd (CAN.ABORT_CNT n) = Nat.min (m.rd (CAN.ABORT_CNT n) + 1) (CAN.ABORT_CNT n).max ∧
      t.objBit o 21 = false ∧ t.rd EVT.UE_CNT = Nat.min (m.rd EVT.UE_CNT + 1) EVT.UE_CNT.max ∧ t.rd EVT.ECC_ADDR = Machine.objAddr o + 4 * w ∧
      (∀ a, (a < Machine.objAddr o + 8 ∨ Machine.objAddr o + 12 ≤ a) → t.byte a = m.byte a) ∧ m.OnlyPages [0x20 + n, 0x08] t)) ∧
  (∀ code dp region dom delay sp, s.mod.rd (CAN.MODE n) = 1 → s.mod.rd (CAN.ERRST n) = 0 → (s.mod.can n).deferred = [] → (s.mod.can n).modePend = none →
    s.mod.rd (CAN.TEC n) ≤ 127 → s.mod.rd (CAN.RP n) = 0 → s.mod.rd (CAN.REC n) ≤ 100 → s.Runs (.canError n false code dp region ⟨dom, 0, delay⟩ sp none) (fun m t =>
      t.rd (CAN.ERRF_CNT n) = Nat.min (m.rd (CAN.ERRF_CNT n) + 1) (CAN.ERRF_CNT n).max ∧ t.rd (CAN.LEC n) = code.val + 1 ∧
      t.rd (CAN.LEC_DATA n) = (if dp then 1 else 0) ∧ t.rd (CAN.REC n) = m.rd (CAN.REC n) + (if dom then 9 else 1) ∧ t.mem = m.mem ∧ m.OnlyPages [0x20 + n, 0x08] t)) ∧
  (s.mod.rd (CAN.RECOV n) = 1 → s.mod.rd (CAN.ERRST n) = 2 → s.Runs (.boDelayEnd n) (fun m t => (t.can n).monitor = true ∧ t.mem = m.mem ∧
    m.KeepsRegs [] t)) ∧
  (s.mod.rd (CAN.RECOV n) = 1 → (s.mod.can n).monitor = true → s.mod.Room 1 → s.Runs (.busOffRecoveryDone n) (fun m t => t.rd (CAN.RECOV n) = 0 ∧
    t.rd (CAN.ERRST n) = 0 ∧ t.rd (CAN.TEC n) = 0 ∧ t.rd (CAN.REC n) = 0 ∧ t.rd (CAN.RP n) = 0 ∧ (t.can n).monitor = false ∧
    m.Reported t (0x20 + n) info 0x0902 [sj n, vl16 (m.rd (CAN.BO_CNT n))] ∧ t.mem = m.mem ∧
    m.KeepsRegs ([CAN.RECOV n, CAN.ERRST n, CAN.TEC n, CAN.REC n, CAN.RP n] ++ evtFlds (0x20 + n)) t)) ∧
  (s.mod.rd (CAN.ERRST n) = 2 → s.mod.rd (CAN.BO_AUTO n) = 0 → s.mod.rd (CAN.RECOV n) = 0 → s.Runs (.restart n) (fun m t =>
    t.rd (CAN.RECOV n) = 1 ∧ (t.can n).monitor = true ∧ t.mem = m.mem ∧ m.KeepsRegs [CAN.RECOV n] t)) ∧
  (s.mod.rd (CAN.MODE n) ≠ 0 → s.mod.rd (CAN.ERRST n) = 3 → 2 ≤ s.mod.rd (TRX.STATE (0x20 + n)) → s.Runs (.canBusIntegrated n) (fun m t =>
    t.rd (CAN.ERRST n) = 0 ∧ t.mem = m.mem ∧ m.KeepsRegs [CAN.ERRST n] t))

/-! ### Transceivers (chapters 9 to 11) -/

/-- A write of TRX_CTL.REQ to a port in service that no engine owns is kept as its port admits it and starts the change, the first
cell of it being BUSY; one to a port that an enabled engine owns only counts. A change of a transceiver completes in its target
state; a wake of a sleeping one is recorded; its faults are shown, counted and, for heat, disable it until it has cooled. -/
def Obligations.TransceiversChangeAndWake : Prop :=
  (∀ (s : State) (p : Fin 24), s.mod.portOos p = false →
  let pg := portPage p
  let asks := fun (k : Nat) (m t : Mod) =>
    let v := (TRX.REQ pg).fix.apply k
    t.rd (TRX.REQ pg) = v ∧ (m.rd (TRX.STATE pg) ≠ v → t.rd (TRX.BUSY pg) = 1 ∧ (t.trx p).target = some v) ∧ t.mem = m.mem
  (s.mod.engineOf p = none → s.mod.rd (TRX.BUSY pg) = 0 → s.mod.awake p = true →
    s.Runs (.trxNormal p) (asks 3) ∧ s.Runs (.trxListenOnly p) (asks 2) ∧ s.Runs (.trxStandby p) (asks 1) ∧ s.Runs (.trxSleep p) (asks 0)) ∧
  (s.mod.engineOf p ≠ none →
    let counts := fun m t : Mod => t.rd NM.REQ_REJ_CNT = Nat.min (m.rd NM.REQ_REJ_CNT + 1) NM.REQ_REJ_CNT.max ∧ m.OnlyRegs [NM.REQ_REJ_CNT] t
    s.Runs (.trxNormal p) counts ∧ s.Runs (.trxListenOnly p) counts ∧ s.Runs (.trxStandby p) counts ∧ s.Runs (.trxSleep p) counts)) ∧
  (∀ s : State,
  (∀ (p : Fin 24) k, (s.mod.trx p).target = some k → (s.mod.trx p).queued = none → (s.mod.trx p).latched = false → s.mod.engineOf p = none → k < 4 → (k = 0 → p.val < 2 → s.mod.rd (BB.LINK p) = 0) → 3 ≤ k ∨ p.val < 4 ∨ 16 ≤ p.val →
    s.Runs (.trxChangeDone p) (fun m t => t.rd (TRX.STATE (portPage p)) = k ∧ t.rd (TRX.BUSY (portPage p)) = 0 ∧
      t.rd (TRX.VCC_ON (portPage p)) = (if k = 0 then 0 else 1) ∧ (t.trx p).target = none ∧ t.mem = m.mem ∧ m.OnlyPages [portPage p] t)) ∧
  (∀ p : Fin 24, s.mod.rd (TRX.WAKE_EN (portPage p)) = 1 → s.mod.engineOf p = none → (s.mod.trx p).target = none →
    s.mod.rd (TRX.STATE (portPage p)) ≤ 1 → ∀ sp, s.Runs (.busWake ⟨p, sp⟩) (fun m t => t.rd (TRX.WAKE (portPage p)) = 1 ∧ t.rd (TRX.KIND (portPage p)) = 1 ∧
      t.rd (TRX.WAKE_TICK (portPage p)) = m.tick % 2 ^ (TRX.WAKE_TICK (portPage p)).w ∧
      t.rd (TRX.WAKE_CNT (portPage p)) = Nat.min (m.rd (TRX.WAKE_CNT (portPage p)) + 1) (TRX.WAKE_CNT (portPage p)).max ∧
      t.pwr.marks.testBit p = true ∧ t.mem = m.mem ∧ m.OnlyPages [portPage p, 0x08] t)) ∧
  (∀ p : Fin 20, s.mod.Room 1 →
    let pg := portPage (4 + p)
    let code := if p.val < 12 then 0x090A else 0x0A04
    let sub := if p.val < 12 then p.val else 4 + p.val
    s.Runs (.txdTimeout ⟨p, true⟩) (fun m t => t.rd (TRX.TXD_TO pg) = 1 ∧ t.txOk (4 + p) = false ∧ t.rd (TRX.TRX_FAULT_CNT pg) = Nat.min (m.rd (TRX.TRX_FAULT_CNT pg) + 1) (TRX.TRX_FAULT_CNT pg).max ∧
      m.Reported t pg warn code [sj sub, vl 1] ∧ t.mem = m.mem ∧ m.KeepsRegs ([TRX.TXD_TO pg, TRX.TRX_FAULT_CNT pg, COM.PAGE_IRQ pg] ++ evtFlds pg) t) ∧
    s.Runs (.trxOvertemp p) (fun m t => t.rd (TRX.OT pg) = 1 ∧ (t.trx (4 + p)).hot = true ∧ m.Reported t pg warn code [sj sub, vl 4] ∧ t.mem = m.mem ∧
      m.KeepsRegs ([TRX.OT pg, TRX.TRX_FAULT_CNT pg, COM.PAGE_IRQ pg] ++ evtFlds pg) t) ∧
    (12 ≤ p.val ∨ s.mod.rd (TRX.STATE pg) = 3 → s.mod.rd PWR.AUX_LOW = 0 → (s.mod.nm p).held = none →
      s.Runs (.trxOvertempEnd p) (fun m t => (t.trx (4 + p)).hot = false ∧ t.mem = m.mem ∧ m.KeepsRegs [] t) ∧
      s.Runs (.txdTimeout ⟨p, false⟩) (fun m t => (t.trx (4 + p)).stuck = false ∧ t.mem = m.mem ∧ m.KeepsRegs [] t))) ∧
  (∀ n : Fin 12, s.mod.Room 1 → s.Runs (.busDominant n) (fun m t => t.rd (TRX.BUS_DOM (0x20 + n)) = 1 ∧
    m.Reported t (0x20 + n) warn 0x090A [sj n, vl 2] ∧ t.mem = m.mem ∧
    m.KeepsRegs ([TRX.BUS_DOM (0x20 + n), TRX.TRX_FAULT_CNT (0x20 + n), COM.PAGE_IRQ (0x20 + n)] ++ evtFlds (0x20 + n)) t)))

/-! ### LIN and 10BASE-T1S (chapter 10), network management (chapter 12) -/

/-- A LIN response ends, judged by its checksum where it is complete: a subscriber's good response is stored and marked NEW, any
other end is counted and named; a wake-up signal occupies its cluster; a dominant phase that no node explains is recorded and
reported. -/
def Obligations.LinFramesEnd : Prop :=
  ∀ (s : State) (p : Fin 8),
  (∀ (id : Fin 64) (res : Fin 6) (bytes : List Byte) (chk : Byte) (cyc : BitVec 11), (s.mod.lin p).cur = some id.val → (s.mod.lin p).diag = none → id ≠ 0x3D →
    SMap.get 0 (s.mod.lin p).pubPrm id = 0 → s.mod.img.routes = [] → s.mod.Room 1 →
    s.Runs (.linFrameEnd p res ⟨bytes, chk⟩ cyc) (fun m t =>
      let k := m.linResult p id (res + 1) (bytes.map (·.toNat)) chk.toNat
      t.rd (LIN.BUSY p) = 0 ∧ t.rd (LIN.LAST_RES p) = k ∧ t.rd (LIN.RES p id) = k ∧ t.rd (LIN.TICK16 p id) = m.tick % 2 ^ 16 ∧
      (t.lin p).cur = none ∧ t.mem = m.mem ∧
      (if k = 1 then t.rd (LIN.OK_CNT p) = Nat.min (m.rd (LIN.OK_CNT p) + 1) (LIN.OK_CNT p).max
        else t.rd (LIN.ERR_CNT p) = Nat.min (m.rd (LIN.ERR_CNT p) + 1) (LIN.ERR_CNT p).max ∧
          m.Reported t (0x30 + p) info 0x0A01 [sj (16 + p), sj id, vl k]) ∧
      (if m.rd (LIN.DIR p id) = 2 ∧ k = 1 then
        let old := leBytes 4 (m.rd (LIN.SUB p id 0)) ++ leBytes 4 (m.rd (LIN.SUB p id 1))
        let b := (bytes.map (·.toNat)).take (m.rd (LIN.FT_LEN p id)) ++ old.drop (m.rd (LIN.FT_LEN p id))
        t.rd (LIN.SUB p id 0) = leNum (b.take 4) ∧ t.rd (LIN.SUB p id 1) = leNum ((b.drop 4).take 4) ∧ t.rd (LIN.NEW p id) = 1 ∧
          (t.rd (LIN.LOST p id) = if m.on (LIN.NEW p id) then 1 else m.rd (LIN.LOST p id))
        else t.rd (LIN.SUB p id 0) = m.rd (LIN.SUB p id 0) ∧ t.rd (LIN.SUB p id 1) = m.rd (LIN.SUB p id 1) ∧
          t.rd (LIN.NEW p id) = m.rd (LIN.NEW p id)) ∧
      m.KeepsRegs ([LIN.BUSY p, LIN.LAST_RES p, LIN.RES p id, LIN.TICK16 p id, LIN.OK_CNT p, LIN.ERR_CNT p, LIN.SUB p id 0, LIN.SUB p id 1,
        LIN.NEW p id, LIN.LOST p id, LIN.LOST_CNT p, LIN.SEQ p id] ++ evtFlds (0x30 + p)) t)) ∧
  s.Runs (.wakeTx p) (fun m t => t.mem = m.mem ∧
    (if m.rd (TRX.STATE (0x30 + p)) = 3 ∧ (m.lin p).cur = none then
      ((m.lin p).pulse = none → (t.lin p).pulse = some (m.stamp 0, m.stamp 0 + m.rd (LIN.WAKE_LEN p) * 10000)) ∧ m.KeepsRegs [] t
    else t.rd (LIN.HDR_SKIP_CNT p) = Nat.min (m.rd (LIN.HDR_SKIP_CNT p) + 1) (LIN.HDR_SKIP_CNT p).max ∧ m.OnlyRegs [LIN.HDR_SKIP_CNT p] t)) ∧
  (∀ (len : BitVec 9) sp, s.mod.Room 1 → s.Runs (.unexplainedDominant p ⟨len, sp⟩) (fun m t =>
    if 25 ≤ len.toNat ∧ len.toNat ≤ 500 ∧ m.rd (TRX.STATE (0x30 + p)) = 3 ∧ m.on (TRX.WAKE_EN (0x30 + p)) = true ∧ (m.lin p).cur = none then
      t.rd (TRX.KIND (0x30 + p)) = 1 ∧ t.rd (TRX.WAKE_TICK (0x30 + p)) = m.tick % 2 ^ (TRX.WAKE_TICK (0x30 + p)).w ∧
        m.Reported t (0x30 + p) info 0x0A03 [sj (16 + p), vl len.toNat] ∧ t.mem = m.mem ∧
        m.KeepsRegs ([TRX.KIND (0x30 + p), TRX.WAKE_TICK (0x30 + p)] ++ evtFlds (0x30 + p)) t
    else t.mem = m.mem ∧ m.KeepsRegs [] t))

/-- The T1S ports: the cycle's longest time, the module's opportunity serving the promise queue first, collisions, a foreign beacon,
a received frame. -/
def Obligations.T1sSegmentsServeAndCount : Prop :=
  ∀ (s : State) (n : Fin 2),
  (∀ us : BitVec 16, s.Runs (.plcaCycle n us) (fun m t =>
    if m.plcaSends n = true then t.rd (TS.CYC_MAX n) = Nat.max (m.rd (TS.CYC_MAX n)) us.toNat % 2 ^ 16 ∧ (t.tseg n).burst = 0 ∧ t.mem = m.mem ∧
      m.KeepsRegs [TS.CYC_MAX n] t
    else m.OnlyRegs [] t)) ∧
  (∀ (sp : Span) num f rest, s.mod.plcaSends n = true → s.mod.t1sLets n = true → (s.mod.tseg n).burst ≤ s.mod.rd (TS.MAX_BC n) →
    (s.mod.tseg n).pq = (num, f) :: rest → s.mod.openPromise num = none → s.mod.prm.late = [] →
    s.Runs (.t1sFrameSent n sp) (fun m t => (t.tseg n).pq = rest ∧ t.rd (TS.PQ_LVL n) = rest.length % 2 ^ (TS.PQ_LVL n).w ∧
      (t.tseg n).burst = (m.tseg n).burst + 1 ∧ t.rd (TS.TX_OK_CNT n) = Nat.min (m.rd (TS.TX_OK_CNT n) + 1) (TS.TX_OK_CNT n).max ∧
      t.mem = m.mem ∧ m.KeepsRegs [TS.PQ_LVL n, TS.TX_OK_CNT n] t)) ∧
  (∀ own, s.mod.plcaSends n = false → s.Runs (.t1sCollision n own) (fun m t => m.OnlyRegs [] t) ∧
    s.Runs (.foreignBeacon n) (fun m t => m.OnlyRegs [] t)) ∧
  (∀ own, s.mod.plcaSends n = true → s.Runs (.t1sCollision n own) (fun m t => t.rd (TS.COL_CNT n) = Nat.min (m.rd (TS.COL_CNT n) + 1) (TS.COL_CNT n).max ∧
    (t.tseg n).pq = (m.tseg n).pq ∧ (t.tseg n).colSf = (m.tseg n).colSf + (if own then 0 else 1) ∧ t.mem = m.mem ∧
    m.KeepsRegs [TS.COL_CNT n] t)) ∧
  (s.mod.plcaSends n = true → s.mod.Room 1 → s.Runs (.foreignBeacon n) (fun m t => t.rd (TS.DUP_COORD n) = 1 ∧
    t.rd (TS.BEACON_FOREIGN_CNT n) = Nat.min (m.rd (TS.BEACON_FOREIGN_CNT n) + 1) (TS.BEACON_FOREIGN_CNT n).max ∧
    m.Reported t (0x38 + n) err 0x0A10 [sj (2 + n)] ∧ t.mem = m.mem ∧
    m.KeepsRegs ([TS.DUP_COORD n, TS.BEACON_FOREIGN_CNT n] ++ evtFlds (0x38 + n)) t)) ∧
  (∀ (f : EthFrame) sp, s.Runs (.t1sFrameRx n f sp) (fun m t => t.mem = m.mem ∧
    (if m.rd (TRX.STATE (0x38 + n)) = 3 ∧ (m.trx (2 + n)).target = none then t.rd (TS.RX_OK_CNT n) = Nat.min (m.rd (TS.RX_OK_CNT n) + 1) (TS.RX_OK_CNT n).max ∧
      m.KeepsRegs (TS.RX_OK_CNT n :: (List.range 4).flatMap fun e => (List.range 8).map fun q => ETS.DROP_CNT e q) t
    else m.OnlyRegs [] t)))

/-- The ends of an engine's timers: Repeat Message goes on to Normal or Ready Sleep, Ready Sleep to Prepare Bus-Sleep, Prepare
Bus-Sleep to Bus Sleep, a wake that no traffic bears out is a false wake; a timer of a state that the engine is not in does nothing.
HOLD and the repeat request are latched for the engine's next step, and the step in Normal without HOLD goes to Ready Sleep. -/
def Obligations.NetworkTimersAndRequests : Prop :=
  (∀ (s : State) (n : Fin 22), s.mod.on (NM.NM_EN n) = true → s.mod.portOos (enginePort n) = false →
  ((s.mod.nm n).timer ≤ 1 → s.Runs (.rptTimerExpire n) (fun m t => if m.rd (NM.STATE n) = 2 then t.rd (NM.STATE n) = (if m.on (NM.HOLD n) then 3 else 4) ∧
      t.mem = m.mem ∧ m.KeepsRegs [NM.STATE n, NM.RS_TIME n] t else m.OnlyRegs [] t)) ∧
  ((s.mod.nm n).timer ≤ 1 → (s.mod.nm n).lRpt = false → (s.mod.nm n).lNmRpt = false → (s.mod.nm n).lNm = false → s.mod.rd (NM.HOLD n) = 0 →
    s.Runs (.nmTimerExpire n) (fun m t => if m.rd (NM.STATE n) = 4 then t.rd (NM.STATE n) = 5 ∧ (t.nm n).timer = m.rd (NM.PBS_T n) ∧
      t.mem = m.mem ∧ m.KeepsRegs ([NM.STATE n, NM.RS_TIME n] ++ evtFlds 0x3F) t else m.OnlyRegs [] t)) ∧
  ((s.mod.nm n).timer ≤ 1 → Mod.nmActivity (s.mod.nm n) (s.mod.on (NM.HOLD n)) = 0 → (s.mod.nm n).goSleep = false → s.Runs (.pbsTimerExpire n) (fun m t =>
    if m.rd (NM.STATE n) = 5 then t.rd (NM.STATE n) = 0 ∧ (t.nm n).entry = true ∧
      ⟨Mod.nmSrc, .trx (enginePort n) (if m.on (NM.SLEEP_TRX n) then 1 else 0)⟩ ∈ t.frm.staged ∧ (12 ≤ n.val → t.mem = m.mem) ∧
      m.KeepsRegs ([NM.STATE n] ++ if n.val < 12 then [CAN.TXQ_LVL n] else []) t else m.OnlyRegs [] t)) ∧
  ((s.mod.nm n).timer ≤ 1 → (s.mod.nm n).lValid = false → s.mod.rd (NM.HOLD n) = 0 → s.mod.Room 2 → s.Runs (.fwTimerExpire n) (fun m t =>
    if m.rd (NM.STATE n) = 1 then t.rd (NM.STATE n) = 0 ∧ t.rd (NM.FW_RUN n) = Nat.min (m.rd (NM.FW_RUN n) + 1) (NM.FW_RUN n).max ∧
      t.rd (NM.FALSE_WAKE_CNT n) = Nat.min (m.rd (NM.FALSE_WAKE_CNT n) + 1) (NM.FALSE_WAKE_CNT n).max ∧
      m.mkEvt 0x3F info 0x0C03 [sj n, vl (t.rd (NM.FW_RUN n))] ∈ t.evt.intake else m.OnlyRegs [] t)) ∧
  (1 < (s.mod.nm n).timer → s.Runs (.rptTimerExpire n) (fun m t => m.OnlyRegs [] t) ∧ s.Runs (.nmTimerExpire n) (fun m t => m.OnlyRegs [] t) ∧
    s.Runs (.pbsTimerExpire n) (fun m t => m.OnlyRegs [] t) ∧ s.Runs (.fwTimerExpire n) (fun m t => m.OnlyRegs [] t)) ∧
  (s.mod.on (NM.RS_REPORT n) = true → (s.mod.nm n).rsDone = false → (s.mod.nm n).lNm = false → s.mod.rd (NM.STATE n) = 4 →
    (s.mod.nm n).rsMs + 1 = s.mod.rd (NM.RS_REPORT n) * 1000 → (2 ≤ (s.mod.nm n).timer) → (s.mod.nm n).lRpt = false → (s.mod.nm n).lNmRpt = false →
    s.mod.rd (NM.HOLD n) = 0 → (s.mod.nm n).wakeTx = false → s.mod.Room 1 → s.Runs (.readySleepReport n) (fun m t =>
      m.Reported t 0x3F info 0x0C06 [sj n, vl (m.rd (NM.AWAKE_BY n)), vl16 (Nat.min (m.rd (NM.RS_REPORT n) * 10) (NM.RS_TIME n).max)] ∧ t.mem = m.mem ∧ m.OnlyPages [0x3F, 0x08] t))) ∧
  (∀ (s : State) (n : Fin 22),
  (∀ v, s.Runs (.holdWrite n v) (fun m t => t.rd (NM.HOLD n) = (if v then 1 else 0) ∧ ((t.nm n).lHold = if v then true else (m.nm n).lHold) ∧
    t.mem = m.mem ∧ m.KeepsRegs [NM.HOLD n] t)) ∧
  s.Runs (.rptReq n) (fun m t => (if m.rd (NM.STATE n) = 3 ∨ m.rd (NM.STATE n) = 4 then (t.nm n).lRpt = true else t.nm n = m.nm n) ∧
    t.mem = m.mem ∧ m.KeepsRegs [] t) ∧
  (∀ (slot : Fin 3) (pos : Fin 56), s.mod.beadDue slot pos → s.mod.on (NM.NM_EN n) = true → s.mod.portOos (enginePort n) = false →
    (s.mod.nm n).lRpt = false → (s.mod.nm n).lNmRpt = false → s.mod.rd (NM.STATE n) = 3 →
    s.Runs (.nmStep slot pos (BitVec.ofNat 26 (n * 2 ^ 21))) (fun m t => t.rd (NM.STATE n) = (if m.on (NM.HOLD n) then 3 else 4) ∧
      t.mem = m.mem ∧ m.KeepsRegs [NM.STATE n, NM.RS_TIME n] t)))

/-- The beads between the buses and the backbone: MOV_C2E takes the object's frame for stream `t` and clears NEW, MOV_E2C takes the
head of an ingress queue unless its object still waits to be sent; an object that reads uncorrectable gives nothing. The layout of
the message is presumed (log entry 50). -/
def Obligations.MoveBeadsCarryObjects : Prop :=
  ∀ (s : State) (slot : Fin 3) (pos : Fin 56), s.mod.beadDue slot pos → ∀ (k : Fin 8) (o : BitVec 12),
  (∀ f ts, s.mod.c2eFrame o.toNat = some (f, ts) → s.Runs (.movC2e slot pos (BitVec.ofNat 26 (k * 2 ^ 23 + o.toNat)) none) (fun m t =>
    t.frm.staged = m.frm.staged ++ [⟨m.beadSrc slot pos, .c2e k o.toNat (acfCan (m.objCtrl o.toNat) f (m.vehicleNs ts))⟩] ∧
    t.objBit o.toNat 18 = false ∧ m.KeepsRegs [] t ∧
    (∀ a, (a < Machine.objAddr o.toNat + 8 ∨ Machine.objAddr o.toNat + 12 ≤ a) → t.byte a = m.byte a))) ∧
  (∀ w : Fin 20, s.mod.prm.open_ = [] → s.Runs (.movC2e slot pos (BitVec.ofNat 26 (k * 2 ^ 23 + o.toNat)) (some (w, true))) (fun m t =>
    t.frm.staged = m.frm.staged ∧ t.objBit o.toNat 18 = false ∧ t.rd EVT.UE_CNT = Nat.min (m.rd EVT.UE_CNT + 1) EVT.UE_CNT.max ∧
    t.rd EVT.ECC_ADDR = Machine.objAddr o.toNat + 4 * w ∧ t.rd EVT.ECC_MEM = 1 ∧ t.rd EVT.ECC_UE = 1 ∧ m.OnlyPages [0x08] t ∧
    (∀ a, (a < Machine.objAddr o.toNat + 8 ∨ Machine.objAddr o.toNat + 12 ≤ a) → t.byte a = m.byte a))) ∧
  (∀ x rest, SMap.get [] s.mod.prm.ingress k = x :: rest → s.Runs (.movE2c slot pos (BitVec.ofNat 26 (k * 2 ^ 23 + o.toNat))) (fun m t =>
    t.mem = m.mem ∧ (if m.objBit o.toNat 21 = true then
      t.rd (CAN.E2C_BUSY_CNT (m.objCtrl o.toNat)) = Nat.min (m.rd (CAN.E2C_BUSY_CNT (m.objCtrl o.toNat)) + 1) (CAN.E2C_BUSY_CNT (m.objCtrl o.toNat)).max ∧
      t.frm.staged = m.frm.staged ∧ m.KeepsRegs [CAN.E2C_BUSY_CNT (m.objCtrl o.toNat)] t
    else t.frm.staged = m.frm.staged ++ [⟨m.beadSrc slot pos, .e2c k o.toNat x.frame x.prm⟩] ∧ SMap.get [] t.prm.ingress k = rest ∧ m.KeepsRegs [] t)))

/-! ### The backbone (chapter 11) -/

/-- Links, MACsec associations and recovery functions: a link that falls or returns is counted and reported, an agreed SAK opens a
fresh association at the frame boundary, a reset recovery function takes any next frame, the PHY is down after the TC10 handshake.
-/
def Obligations.BackboneLinksChange : Prop :=
  ∀ (s : State) (n : Fin 2),
  (s.mod.rd (BB.LINK n) = 1 → s.mod.Room 1 → s.Runs (.linkDown n) (fun m t => t.rd (BB.LINK n) = 0 ∧
      t.rd (BB.LINK_DOWN_CNT n) = Nat.min (m.rd (BB.LINK_DOWN_CNT n) + 1) (BB.LINK_DOWN_CNT n).max ∧ m.Reported t (0x3A + n) warn 0x0B01 [sj n] ∧
      t.mem = m.mem ∧ m.KeepsRegs ([BB.LINK n, BB.LINK_DOWN_CNT n] ++ evtFlds (0x3A + n)) t)) ∧
  (s.mod.rd (BB.LINK n) = 0 → s.Runs (.linkDown n) (fun m t => m.OnlyRegs [] t)) ∧
  (∀ q : BitVec 3, s.mod.on (BB.EN n) = true → s.mod.rd (BB.LINK n) = 0 → s.mod.phyPowered n = true → s.mod.Room 1 → s.Runs (.linkUp n q) (fun m t => t.rd (BB.LINK n) = 1 ∧ t.rd (BB.SQI n) = q.toNat ∧
      m.Reported t (0x3A + n) info 0x0B02 [sj n, vl (m.rd (BB.SPEED n))] ∧ t.mem = m.mem ∧
      m.KeepsRegs ([BB.LINK n, BB.SQI n] ++ evtFlds (0x3A + n)) t)) ∧
  (s.mod.rd (TRX.WAKE_EN (0x3A + n)) = 1 → (s.mod.trx n).target = none → s.mod.rd (TRX.STATE (0x3A + n)) ≤ 1 →
    s.Runs (.podlPowerAppear n) (fun m t => t.rd (TRX.WAKE (0x3A + n)) = 1 ∧ t.rd (TRX.PODL_WAKE (0x3A + n)) = 1 ∧ t.rd (TRX.KIND (0x3A + n)) = 1 ∧
      t.rd (TRX.WAKE_TICK (0x3A + n)) = m.tick % 2 ^ (TRX.WAKE_TICK (0x3A + n)).w ∧
      t.rd (TRX.WAKE_CNT (0x3A + n)) = Nat.min (m.rd (TRX.WAKE_CNT (0x3A + n)) + 1) (TRX.WAKE_CNT (0x3A + n)).max ∧
      t.pwr.marks.testBit n = true ∧ t.mem = m.mem ∧ m.OnlyPages [0x3A + n, 0x08] t)) ∧
  ((s.mod.trx n).target = some 0 → (s.mod.trx n).queued = none → (s.mod.trx n).latched = false → s.mod.Room 1 → s.Runs (.tc10SleepDone n) (fun m t =>
    t.rd (BB.LINK n) = 0 ∧ (m.rd (BB.LINK n) ≠ 0 → t.rd (BB.LINK_DOWN_CNT n) = Nat.min (m.rd (BB.LINK_DOWN_CNT n) + 1) (BB.LINK_DOWN_CNT n).max ∧
      m.Reported t (0x3A + n) warn 0x0B01 [sj n]) ∧ t.rd (TRX.STATE (0x3A + n)) = 0 ∧ t.rd (TRX.BUSY (0x3A + n)) = 0 ∧ t.rd (TRX.VCC_ON (0x3A + n)) = 0 ∧
    (t.trx n).target = none ∧ t.mem = m.mem ∧
    m.KeepsRegs ([BB.LINK n, BB.LINK_DOWN_CNT n, TRX.STATE (0x3A + n), TRX.BUSY (0x3A + n), TRX.VCC_ON (0x3A + n)] ++ evtFlds (0x3A + n)) t)) ∧
  (∀ sak : BitVec 128, s.Runs (.mkaSakInstall n sak) (fun m t => (t.bb n).saNext = some sak.toNat ∧ (t.bb n).sa = (m.bb n).sa ∧ t.mem = m.mem ∧
    m.KeepsRegs [] t)) ∧
  (∀ (sak : BitVec 128) t0 t1 t2 t3 busy, (s.mod.bb n).saNext = some sak.toNat → s.mod.tick % 100 = 0 → s.mod.pstate < 2 → s.mod.pwr.phase ≠ 4 →
    s.Runs (.frameBoundary t0 t1 t2 t3 busy) (fun _ t => t.rd (BB.SAK_OK n) = 1 ∧ (t.bb n).sa.sak = sak.toNat ∧ (t.bb n).saNext = none)) ∧
  (∀ (mac : BitVec 48) (vlan : BitVec 12), (∀ y ∈ s.mod.ets.frer, ¬ (y.mac = mac.toNat ∧ y.vlan = vlan.toNat)) →
    s.Runs (.frerReset mac vlan) (fun m t => m.OnlyRegs [] t)) ∧
  (∀ (mac : BitVec 48) (vlan : BitVec 12) x rest, s.mod.ets.frer = x :: rest → x.mac = mac.toNat → x.vlan = vlan.toNat → s.mod.Room 1 →
    s.Runs (.frerReset mac vlan) (fun m t => t.ets.frer = rest ∧ t.rd (ETS.RECOV 5) = Nat.min (m.rd (ETS.RECOV 5) + 1) (ETS.RECOV 5).max ∧
      m.Reported t 0x3C info 0x0B04 [sj 0] ∧ t.mem = m.mem ∧ m.KeepsRegs ([ETS.RECOV 5] ++ evtFlds 0x3C) t))

/-- A frame received on a backbone port with MACsec on passes only under a verifying tag with a packet number inside the replay
window; what fails is counted by its reason and goes no further. The form of the window check is presumed (log entry 51). -/
def Obligations.BackboneFramesPassMacsec : Prop :=
  ∀ (s : State) (n : Fin 2) (f : EthFrame) (tag : Option SecTag), s.mod.on (BB.EN n) = true → s.mod.on (BB.LINK n) = true →
  s.mod.awake n = true → s.mod.rd (TRX.WAKE_EN (0x3A + n)) = 0 →
  (s.mod.rd (BB.SEC_EN n) = 0 → f.rtag = none → s.Runs (.bbFrameRx n tag true f) (fun m t =>
    t.rd (BB.RX_OK_CNT n) = Nat.min (m.rd (BB.RX_OK_CNT n) + 1) (BB.RX_OK_CNT n).max ∧
    t.rd ETS.TAGLESS_CNT = Nat.min (m.rd ETS.TAGLESS_CNT + 1) ETS.TAGLESS_CNT.max ∧ m.OnlyRegs [BB.RX_OK_CNT n, ETS.TAGLESS_CNT] t)) ∧
  (s.mod.on (BB.SEC_EN n) = true → s.mod.on (BB.SAK_OK n) = true → tag = none → f.etype.toNat ≠ 0x88F7 → f.etype.toNat ≠ 0x888E → ∀ host,
    s.Runs (.bbFrameRx n tag host f) (fun m t => t.rd (BB.UNTAGGED_CNT n) = Nat.min (m.rd (BB.UNTAGGED_CNT n) + 1) (BB.UNTAGGED_CNT n).max ∧
      (t.bb n).dropSf = (m.bb n).dropSf + 1 ∧ t.mem = m.mem ∧ m.KeepsRegs ([BB.UNTAGGED_CNT n] ++ evtFlds (0x3A + n)) t)) ∧
  (∀ g, s.mod.on (BB.SEC_EN n) = true → s.mod.on (BB.SAK_OK n) = true → tag = some g → f.rtag = none →
    s.Runs (.bbFrameRx n tag true f) (fun m t => t.mem = m.mem ∧
      (if g.verifies = false then t.rd (BB.ICV_FAIL_CNT n) = Nat.min (m.rd (BB.ICV_FAIL_CNT n) + 1) (BB.ICV_FAIL_CNT n).max ∧
          (t.bb n).dropSf = (m.bb n).dropSf + 1 ∧ m.KeepsRegs ([BB.ICV_FAIL_CNT n] ++ evtFlds (0x3A + n)) t
       else if g.pn.toNat + m.rd (BB.REPLAY_WIN n) ≤ (m.bb n).sa.rxPn then
          t.rd (BB.REPLAY_CNT n) = Nat.min (m.rd (BB.REPLAY_CNT n) + 1) (BB.REPLAY_CNT n).max ∧ (t.bb n).dropSf = (m.bb n).dropSf + 1 ∧
          m.KeepsRegs ([BB.REPLAY_CNT n] ++ evtFlds (0x3A + n)) t
       else t.rd (BB.RX_OK_CNT n) = Nat.min (m.rd (BB.RX_OK_CNT n) + 1) (BB.RX_OK_CNT n).max ∧
          (t.bb n).sa.rxPn = Nat.max (m.bb n).sa.rxPn g.pn.toNat ∧ m.KeepsRegs [BB.RX_OK_CNT n, ETS.TAGLESS_CNT] t)))

/-- Vehicle time and ACF: a Follow_Up moves the link delay alone but on the slave port, where the offset and the synchronisation
follow; the slave port changes over; Sync leaves for the egress queues; a frame of no listener, or a message of no known kind, only
counts. The lengths of Sync and Follow_Up are presumed (log entry 52). -/
def Obligations.VehicleTimeAndAcfFrames : Prop :=
  ∀ (s : State) (n : Fin 2),
  (∀ (dom : Byte) (origin : BitVec 64) (mld : Word) cyc, s.mod.rd PTP.DOMAIN ≠ dom.toNat ∨ s.mod.bbHears n = false →
    s.Runs (.followUp ⟨n, dom⟩ origin mld cyc) (fun m t => m.OnlyRegs [] t)) ∧
  (∀ (dom : Byte) (origin : BitVec 64) (mld : Word) cyc, s.mod.on PTP.EN = true → s.mod.rd PTP.DOMAIN = dom.toNat → s.mod.bbHears n = true →
    s.mod.rd PTP.SLAVE ≠ n → s.Runs (.followUp ⟨n, dom⟩ origin mld cyc) (fun m t =>
    t.rd (PTP.MLD n) = mld.toNat % 2 ^ (PTP.MLD n).w ∧ t.missed n = decide (m.tick + 3 * m.updateTicks ≤ m.tick) ∧ t.mem = m.mem ∧
      m.KeepsRegs [PTP.MLD n] t)) ∧
  (∀ (dom : Byte) (origin : BitVec 64) (mld : Word) cyc, s.mod.on PTP.EN = true → s.mod.rd PTP.DOMAIN = dom.toNat → s.mod.bbHears n = true → s.mod.rd PTP.SLAVE = n → s.mod.rd FRM.SYNC = 0 → s.mod.ets.epochSet = false →
    s.mod.Room 1 → s.Runs (.followUp ⟨n, dom⟩ origin mld cyc) (fun m t =>
      t.rd PTP.OFFSET = signedField 32 ((m.epoch + m.tick * 10000 + cyc.toNat * 5 : Nat) - (origin.toNat + mld.toNat : Nat)) ∧ t.rd FRM.SYNC = 1 ∧
      m.Reported t 0x0A info 0x0101 [sj 1] ∧ t.mem = m.mem ∧
      m.KeepsRegs ([PTP.MLD n, PTP.OFFSET, FRM.PHASE_ERR, FRM.SLEW_LEFT, FRM.SYNC] ++ evtFlds 0x0A) t)) ∧
  (s.mod.on PTP.EN = true → s.mod.on PTP.STANDBY = true → s.mod.rd PTP.SLAVE ≤ 1 → s.mod.missed (s.mod.rd PTP.SLAVE) = true →
    s.mod.missed (1 - s.mod.rd PTP.SLAVE) = false → s.mod.Room 1 → s.Runs .slaveChangeover (fun m t =>
    t.rd PTP.SLAVE = 1 - m.rd PTP.SLAVE ∧ t.rd PTP.PORT_SW_CNT = Nat.min (m.rd PTP.PORT_SW_CNT + 1) PTP.PORT_SW_CNT.max ∧
    m.Reported t 0x0D warn 0x0B05 [sj (1 - m.rd PTP.SLAVE)] ∧ t.mem = m.mem ∧
    m.KeepsRegs ([PTP.SLAVE, PTP.PORT_SW_CNT] ++ evtFlds 0x0D) t)) ∧
  (∀ cyc, s.mod.on PTP.EN = true → s.mod.bit PTP.TS_MASTER n = true → s.mod.rd (TRX.STATE (0x38 + n)) = 3 → (∀ q, SMap.get [] s.mod.ets.queues (8 * (2 + n) + q) = []) →
    s.Runs (.syncTx n cyc) (fun m t => SMap.get [] t.ets.queues (8 * (2 + n) + m.rd ETS.DEF_PCP) = [64, 94] ∧ t.mem = m.mem ∧ m.KeepsRegs [] t)) ∧
  (∀ sid seq cyc msgs, s.mod.bbTakes n = true → s.mod.pstate < 2 → s.mod.listener (BitVec.toNat sid) = none → s.Runs (.acfFrame n sid seq cyc msgs) (fun m t =>
    t.rd BRG.ACF_BAD_CNT = Nat.min (m.rd BRG.ACF_BAD_CNT + 1) BRG.ACF_BAD_CNT.max ∧ m.OnlyRegs [BRG.ACF_BAD_CNT] t)) ∧
  (∀ i sid seq cyc, s.mod.bbTakes n = true → s.mod.pstate < 2 → s.mod.listener (BitVec.toNat sid) = some i → s.Runs (.acfFrame n sid seq cyc [.other]) (fun m t =>
    t.rd BRG.ACF_RX_CNT = Nat.min (m.rd BRG.ACF_RX_CNT + 1) BRG.ACF_RX_CNT.max ∧
    t.rd BRG.ACF_BAD_CNT = Nat.min (m.rd BRG.ACF_BAD_CNT + 1) BRG.ACF_BAD_CNT.max ∧ m.OnlyRegs [BRG.ACF_RX_CNT, BRG.ACF_BAD_CNT] t))

/-! ### Vinko (chapter 11) -/

/-- The checks of a READ in their order: form, opcode, window, permission, address; the first that fails gives the response's code.
-/
def Obligations.VinkoChecksInOrder : Prop :=
  ∀ (s : State) (r : VnkReq) (k : Fin 16), s.mod.Hears r k →
  let q := s.mod.txnOf r k 1 []
  let w := r.win.toNat
  let base := s.mod.rd (VNK.WIN_BASE w)
  let replies := fun code => s.Runs (.read r []) (fun m t => m.Answers q code 0 [] t ∧ t.mem = m.mem ∧ m.KeepsRegs (rspFlds k) t)
  if q.aux < 4 ∨ 1024 < q.aux ∨ q.aux % 4 ≠ 0 then replies 5
  else if s.mod.rd (VNK.WIN_TYPE w) = 1 ∨ 5 ≤ s.mod.rd (VNK.WIN_TYPE w) then replies 4
  else if s.mod.rd (VNK.WIN_EN w) = 0 then replies 2
  else if s.mod.bit (VNK.INIT_MASK w) k = false ∨ s.mod.rd (VNK.WIN_RD w) = 0 then replies 1
  else if (q.addr + base) % 4 ≠ 0 ∨ q.addr % 4 ≠ 0 ∨ s.mod.rd (VNK.WIN_SIZE w) < q.addr + q.aux then replies 3
  else True

/-- IDENTIFY answers the 32 words of the identification; one word of SRAM is read, written and written under a mask through a window
that lets the initiator in, and no other byte changes. -/
def Obligations.VinkoReadsAndWritesWords : Prop :=
  ∀ (s : State) (r : VnkReq) (k : Fin 16), s.mod.Hears r k →
  s.Runs (.identify r) (fun m t => m.Answers (m.txnOf r k 0xC []) 0 0 ((List.range 32).flatMap fun i => beBytes 4 (m.idnWord i)) t ∧
    t.mem = m.mem ∧ m.KeepsRegs (rspFlds k) t) ∧
  (s.mod.Grants r k 0 → r.addr.toNat % 4 = 0 → r.addr.toNat + 4 ≤ s.mod.rd (VNK.WIN_SIZE r.win.toNat) → s.mod.rd (VNK.RD_PREF r.win.toNat) = 0 →
    let a := (s.mod.rd (VNK.WIN_BASE r.win.toNat) + r.addr.toNat) % 2 ^ 32
    s.mod.rd (VNK.WIN_BASE r.win.toNat) % 4 = 0 → Mod.region a = .sram →
    (r.aux = 4 → s.Runs (.read r []) (fun m t => m.Answers (m.txnOf r k 1 []) 0 0 (beBytes 4 (m.load a 4)) t ∧ t.mem = m.mem ∧
      m.KeepsRegs (rspFlds k) t)) ∧
    (∀ v : Word, s.Runs (.write r [v]) (fun m t => m.Answers (m.txnOf r k 2 (beBytes 4 v.toNat)) 0 0 [] t ∧ t.load a 4 = v.toNat ∧
      (∀ b, (b < a ∨ a + 4 ≤ b) → t.byte b = m.byte b) ∧ m.KeepsRegs (rspFlds k) t)) ∧
    (∀ v mask : Word, s.Runs (.writeM r [(v, mask)]) (fun m t => m.Answers (m.txnOf r k 3 (beBytes 4 v.toNat ++ beBytes 4 mask.toNat)) 0 0 [] t ∧
      t.load a 4 = (m.load a 4 &&& (0xFFFFFFFF ^^^ mask.toNat) ||| v.toNat &&& mask.toNat) ∧
      (∀ b, (b < a ∨ a + 4 ≤ b) → t.byte b = m.byte b) ∧ m.KeepsRegs (rspFlds k) t)))

/-- A PROMISE enters the admission queue of 32 and its transaction stays open; the timeout of an open transaction answers TIMEOUT; a
prefetch buffer that ages out is discarded, the loss of words with a read effect reported. -/
def Obligations.VinkoPromisesTimeoutsPrefetch : Prop :=
  ∀ s : State,
  (∀ (r : VnkReq) (k : Fin 16) (w0 w1 w2 w3 : Word) cyc, s.mod.Hears r k → s.mod.Grants r k 1 → s.mod.prm.queue.length < 32 →
    r.addr.toNat % 4 = 0 → s.mod.rd (VNK.WIN_BASE r.win.toNat) % 4 = 0 → r.addr.toNat ≤ s.mod.rd (VNK.WIN_SIZE r.win.toNat) →
    s.Runs (.promise r w0 w1 w2 w3 [] cyc) (fun m t =>
      (∃ e, t.prm.queue = m.prm.queue ++ [e] ∧ e.cls = w0.toNat % 16 ∧ e.notify = w0.getLsbD 4 ∧ e.ref = w0.toNat / 2 ^ 16 ∧
        e.rel = w1.toNat % 2 ^ 16 ∧ e.target = w1.toNat / 2 ^ 16 ∧ e.act0 = w2.toNat ∧ e.act1 = w3.toNat ∧ e.via = .vinko k r.seq.toNat r.win.toNat ∧
        e.admTick = (if cyc.toNat < 1536 then m.tick else m.tick + 1)) ∧
      t.vnk.open_ = [m.txnOf r k 8 ([w0, w1, w2, w3].flatMap fun v => beBytes 4 v.toNat)] ∧ t.rd (VNK.INIT_OPEN k) = 1 ∧ t.vnk.out = m.vnk.out ∧
      t.mem = m.mem ∧ m.KeepsRegs [VNK.INIT_OPEN k] t)) ∧
  (∀ (k : Fin 16) (seq : BitVec 16) q, s.mod.vnk.open_ = [q] → q.slot = k → q.seq = seq.toNat → q.posted = false → q.fwd = false →
    q.tick + 10 * s.mod.rd (VNK.WIN_TO q.win) ≤ s.mod.tick → s.mod.rd (VNK.WIN_TYPE q.win) ≠ 2 → s.Runs (.vinkoTimeout k seq) (fun m t => m.Answers q 7 0 [] t ∧
      t.rd VNK.TIMEOUT_CNT = Nat.min (m.rd VNK.TIMEOUT_CNT + 1) VNK.TIMEOUT_CNT.max ∧ t.vnk.late = m.vnk.late ∧ t.mem = m.mem ∧
      m.KeepsRegs (rspFlds k) t)) ∧
  (∀ (k : Fin 16) b, SMap.find? s.mod.vnk.pref k = some b → b.tick + s.mod.rd VNK.PF_AGE < s.mod.tick → s.mod.Room 1 → s.Runs (.prefetchExpire k) (fun m t =>
    t.vnk.pref = SMap.del m.vnk.pref k ∧ t.mem = m.mem ∧
    (match b.words.filter fun e => sideEffect e.1 with
      | [] => m.KeepsRegs [] t
      | e :: l => t.rd VNK.PF_SE_CNT = Nat.min (m.rd VNK.PF_SE_CNT + 1) VNK.PF_SE_CNT.max ∧
        m.Reported t 0x3E warn 0x0B08 [sj32 e.1, vl (l.length + 1)] ∧ m.KeepsRegs ([VNK.PF_SE_CNT] ++ evtFlds 0x3E) t)))

/-- Far sides: a T1S node's outcome becomes the response, its code as AUX where it failed; a write of the message length starts a
CAN_TP session and leaves the transaction open. -/
def Obligations.VinkoFarSidesAnswer : Prop :=
  ∀ (s : State) (r : VnkReq) (k : Fin 16),
  (∀ (seq : BitVec 16) (result : Byte) (data : List Byte) q, s.mod.vnk.open_ = [q] → q.slot = k → q.seq = seq.toNat → q.posted = false →
    q.fwd = true → s.mod.rd (VNK.WIN_TYPE q.win) = 4 → q.op = 1 → s.mod.vnk.late = [] →
    s.Runs (.farComplete k seq result data) (fun m t => m.Answers q (if result = 0 then 0 else 8) (if result = 0 then 0 else 768 + result.toNat)
      (if result = 0 then (data.map (·.toNat)).take q.aux else []) t ∧ t.mem = m.mem ∧ m.KeepsRegs (rspFlds k) t)) ∧
  (∀ len : Word, s.mod.Hears r k → s.mod.Grants r k 3 → s.mod.rd (VNK.WIN_BASE r.win.toNat) % 4 = 0 →
    0x2004 ≤ s.mod.rd (VNK.WIN_SIZE r.win.toNat) → 1 ≤ len.toNat → len.toNat ≤ 4095 →
    let n := s.mod.rd (VNK.WIN_SEL r.win.toNat) % 16
    s.mod.on (BRG.TP_EN n) = true → s.mod.awake (4 + s.mod.rd (BRG.TP_CTRL n)) = true →
    s.Runs (.canTpSend r len) (fun m t => t.rd (BRG.TP_STATE n) = 1 ∧ t.vnk.out = m.vnk.out ∧
      t.vnk.open_ = [{ m.txnOf r k 2 (beBytes 4 len.toNat) with addr := 0x2000, fwd := true }] ∧ t.mem = m.mem ∧
      m.KeepsRegs [BRG.TP_STATE n, VNK.INIT_OPEN k] t))

/-! ### Power (chapter 13) -/

/-- The logic supply: a loss of VPOD passes to a usable VBL, is the hold-up otherwise; a return goes back to VPOD; the auxiliary
supply's low is raised once. -/
def Obligations.SuppliesAreSelected : Prop :=
  ∀ (s : State),
  (∀ vpod vbl : BitVec 12,
    let seen := fun t : Mod => t.rd PWR.VPOD_V = vpod.toNat ∧ t.rd PWR.VBL_V = vbl.toNat ∧ t.mem = s.mod.mem
    let change := fun (m t : Mod) (src : Nat) => t.rd PWR.SRC = src ∧ t.rd PWR.CHG_CNT = Nat.min (m.rd PWR.CHG_CNT + 1) PWR.CHG_CNT.max ∧
      m.Reported t 0x03 info 0x0D01 [sj src, vl16 vpod.toNat, vl16 vbl.toNat] ∧
      m.KeepsRegs ([PWR.VPOD_V, PWR.VBL_V, PWR.SRC, PWR.CHG_CNT] ++ evtFlds 0x03) t
    let flds := [PWR.VPOD_V, PWR.VBL_V, PWR.SRC, PWR.VBL_LOW]
    (s.mod.Room 1 → s.Runs (.vpodLoss vpod vbl) (fun m t => seen t ∧
      (if m.rd PWR.SRC ≠ 1 ∨ 8500 ≤ 16 * vpod.toNat then m.OnlyRegs [PWR.VPOD_V, PWR.VBL_V] t
       else if 188 ≤ vbl.toNat then change m t 2
       else t.rd PWR.SRC = 0 ∧ t.rd PWR.VBL_LOW = 1 ∧ m.OnlyRegs flds t))) ∧
    (s.mod.Room 1 → s.mod.pwr.vpodBlocked = false → s.Runs (.vpodReturn vpod vbl) (fun m t => seen t ∧
      (if 16 * vpod.toNat < 9000 then m.OnlyRegs [PWR.VPOD_V, PWR.VBL_V] t
       else if m.rd PWR.SRC = 2 then change m t 1 else t.rd PWR.SRC = 1 ∧ t.rd PWR.VBL_LOW = 0 ∧ m.OnlyRegs flds t))) ∧
    s.Runs (.holdupStart vpod vbl) (fun m t => seen t ∧
      (if 16 * vpod.toNat < 8500 ∧ vbl.toNat < 188 then t.rd PWR.SRC = 0 ∧ t.rd PWR.VBL_LOW = 1 ∧ m.OnlyRegs flds t
       else m.OnlyRegs [PWR.VPOD_V, PWR.VBL_V] t)) ∧
    s.Runs (.holdupEnd vpod vbl) (fun m t => seen t ∧
      (if m.on PWR.VBL_LOW = true ∧ (188 ≤ vbl.toNat ∨ (m.pwr.vpodBlocked = false ∧ 8500 ≤ 16 * vpod.toNat)) then t.rd PWR.SRC = (if 188 ≤ vbl.toNat then 2 else 1) ∧ t.rd PWR.VBL_LOW = 0 ∧ m.OnlyRegs flds t
       else m.OnlyRegs [PWR.VPOD_V, PWR.VBL_V] t))) ∧
  (∀ feed : BitVec 12, s.mod.Room 1 → (∀ n, n < 12 → (s.mod.can n).sending = none) →
    s.Runs (.auxLow feed) (fun m t => if m.on PWR.AUX_LOW = true ∨ 4500 ≤ Mod.auxOut feed.toNat then m.OnlyRegs [] t else
    t.rd PWR.AUX_LOW = 1 ∧ m.Reported t 0x03 warn 0x0D06 [vl16 feed.toNat] ∧ t.mem = m.mem ∧ m.KeepsRegs ([PWR.AUX_LOW] ++ evtFlds 0x03) t)) ∧
  s.Runs .auxRecover (fun m t => t.rd PWR.AUX_LOW = 0 ∧ (m.rd PWR.AUX_LOW = 0 → m.OnlyRegs [] t))

/-- A request for a power state: from Run it names the target where no block votes against it, and is accepted one tick after its
release, and is refused, recorded and reported where one does; in Run a request for Run is dropped and counted, in Doze it is a
wake; during a change another target waits. A request of the pair joins its commit queue. -/
def Obligations.PowerRequestsAreVoted : Prop :=
  ∀ (s : State),
  let go := fun (k : Nat) (P : Mod → Mod → Prop) =>
    (k = 1 → s.Runs (.requestDoze .vinko) P) ∧ (k = 2 → s.Runs (.requestPark .vinko) P) ∧ (k = 3 → s.Runs (.requestShelf .vinko) P)
  (∀ k, 1 ≤ k → k ≤ 3 → s.mod.pstate = 0 → s.mod.rd PWR.CHANGING = 0 → s.mod.pwr.vote = 0 → s.mod.Room 1 → go k (fun m t =>
    match m.votes k with
    | [] => t.rd PWR.CUR_TGT = k ∧ t.pwr.vote = 1 ∧ t.mem = m.mem ∧ m.KeepsRegs [PWR.CUR_TGT] t
    | v :: _ => t.rd PWR.CHANGING = 0 ∧ t.rd PWR.STATE = 0 ∧ t.rd PWR.REF_TARGET = k ∧ t.rd PWR.REF_ABORT = 0 ∧
        t.rd PWR.REF_DOM = v.code % 2 ^ PWR.REF_DOM.w ∧ t.rd PWR.REF_PAGE = v.page % 2 ^ PWR.REF_PAGE.w ∧
        t.rd PWR.REF_REASON = v.reason % 2 ^ PWR.REF_REASON.w ∧ m.Reported t 0x03 info 0x0D02 [vl k, sj v.code, sj v.page, sj v.reason] ∧
        t.pwr = m.pwr ∧ t.mem = m.mem)) ∧
  (∀ ecc, s.mod.pwr.vote = 1 → s.mod.pstate < 2 → s.mod.rd PWR.CUR_TGT ≤ 3 → s.mod.pwr.phase = 0 → s.Runs (.tickBoundary ecc) (fun m t =>
    t.rd PWR.CHANGING = 1 ∧ t.rd PRM.DRAINING = 1 ∧ t.pwr.phase = 1 ∧ t.pwr.vote = 0 ∧ t.rd PWR.CUR_TGT = m.rd PWR.CUR_TGT)) ∧
  (s.mod.rd PWR.CHANGING = 0 → s.mod.pwr.vote = 0 → s.mod.pstate = 0 → s.Runs (.requestRun .vinko) (fun m t =>
    t.rd PWR.DROP_CNT = Nat.min (m.rd PWR.DROP_CNT + 1) PWR.DROP_CNT.max ∧ m.OnlyRegs [PWR.DROP_CNT] t)) ∧
  (s.mod.rd PWR.CHANGING = 0 → s.mod.pwr.vote = 0 → s.mod.pstate = 1 → s.mod.pwr.wake = none → s.Runs (.requestRun .vinko) (fun m t =>
    t.pwr.wake = some ⟨0x22, 5, 1⟩ ∧ t.mem = m.mem ∧ m.KeepsRegs [] t)) ∧
  (∀ k, 1 ≤ k → k ≤ 3 → s.mod.rd PWR.CHANGING = 1 → s.mod.rd PWR.PEND = 0 → go k (fun m t =>
    if k = m.rd PWR.CUR_TGT then m.OnlyRegs [] t else t.rd PWR.PEND = 1 ∧ t.rd PWR.PEND_TGT = k ∧ t.pwr.pendBy = 1 ∧ t.mem = m.mem ∧
      m.KeepsRegs [PWR.PEND, PWR.PEND_TGT] t)) ∧
  (s.mod.pair.w0.cq.length < 256 → s.Runs (.requestRun .pair) (fun m t => m.Queued (Mod.regAddr 0x03 0x100) (2 ^ 31) t) ∧
    s.Runs (.requestDoze .pair) (fun m t => m.Queued (Mod.regAddr 0x03 0x100) (1 + 2 ^ 31) t) ∧
    s.Runs (.requestPark .pair) (fun m t => m.Queued (Mod.regAddr 0x03 0x100) (2 + 2 ^ 31) t) ∧
    s.Runs (.requestShelf .pair) (fun m t => m.Queued (Mod.regAddr 0x03 0x100) (3 + 2 ^ 31) t))

/-- A change goes on: at its commit point Doze begins at once and Park or Shelf go on to their order, the stop writes TICK_ENTRY,
the power-down enters the state. Outside their phase the commands do nothing. -/
def Obligations.PowerStatesAreEntered : Prop :=
  ∀ (s : State),
  (s.mod.pwr.phase ≠ 1 → s.Runs .commitPoint (fun m t => m.OnlyRegs [] t)) ∧
  (s.mod.pwr.phase = 1 → s.mod.prm.open_ = [] → s.mod.votes (s.mod.rd PWR.CUR_TGT) = [] → s.mod.pwr.latch = none → s.mod.rd PWR.PEND = 0 →
    s.Runs .commitPoint (fun m t => t.mem = m.mem ∧ (if m.rd PWR.CUR_TGT = 1 then t.rd PWR.STATE = 1 ∧ t.rd PWR.CHANGING = 0 ∧
      t.rd PRM.DRAINING = 0 ∧ t.awake 30 = false ∧ t.pwr.phase = 0 ∧
      m.KeepsRegs [PWR.STATE, PWR.CHANGING, PRM.DRAINING, PWR.DOM_STAT, AON.LATCHED, PWR.PEND] t
      else t.pwr.phase = 2 ∧ m.KeepsRegs [] t))) ∧
  (s.mod.pwr.phase ≠ 3 → ∀ ok, s.Runs (.parkStop ok) (fun m t => m.OnlyRegs [] t)) ∧
  (s.mod.pwr.phase = 3 → s.mod.rd (TRX.BUSY 0x3A) = 0 → s.mod.rd (TRX.BUSY 0x3B) = 0 → ∀ ok, s.Runs (.parkStop ok) (fun m t =>
    t.rd FRM.RUN = 0 ∧ t.rd FRM.RUNNING = 0 ∧ t.rd AON.TICK_ENTRY_LO = m.tick % 2 ^ 32 ∧ (m.tick < 2 ^ 48 → t.tickEntry = m.tick) ∧ t.pwr.phase = 4 ∧
    t.tick = m.tick ∧ (∀ a, (a < 0x10940000 ∨ 0x109E0000 ≤ a) → t.byte a = m.byte a) ∧
    m.KeepsRegs [FRM.RUN, FRM.RUNNING, AON.TICK_ENTRY_LO, AON.TICK_ENTRY_HI, EVT.ARCH_AREA, EVT.ARCH_CNT, EVT.ARCH_FAIL_CNT] t)) ∧
  (s.mod.pwr.phase ≠ 4 → s.Runs .parkPowerDown (fun m t => m.OnlyRegs [] t)) ∧
  (s.mod.pwr.phase = 4 → s.mod.pwr.latch = none → s.mod.rd PWR.PEND = 0 → s.Runs .parkPowerDown (fun m t =>
    t.rd PWR.STATE = m.rd PWR.CUR_TGT % 2 ^ PWR.STATE.w ∧ t.rd PWR.DOM_WAKING = 0 ∧ t.rd CLK.XTAL_OK = 0 ∧ t.rd CLK.PLL_PAIR = 0 ∧ t.rd CLK.PLL_SEQ = 0 ∧
    t.rd PWR.CHANGING = 0 ∧ t.pwr.phase = 0 ∧ (m.rd PWR.CUR_TGT = 3 → t.rd PWR.DOM_STAT = 0) ∧ t.mem = m.mem ∧ m.OnlyPages [0x02, 0x03] t)) ∧
  (s.Runs .shelfMemoryLoss (fun m t => (t.pwr.memLost = if m.pstate = 3 ∧ m.rd PWR.SRC ≠ 1 then true else m.pwr.memLost) ∧ t.mem = m.mem ∧
    m.KeepsRegs [] t)) ∧
  (∀ (d : Fin 30) (mask : Word), mask.toNat = 2 ^ d.val → s.mod.awake d = true → s.mod.maySleep d = true → s.Runs (.domSleep mask .vinko) (fun m t =>
    t.pwr.sleepReq.testBit d = true ∧ t.mem = m.mem ∧ m.KeepsRegs [] t))

/-- A wake ends its state: sensed inputs and the AON timer wake the module, Doze ends with the pair awake, Park with the recorded
wake, the span and the TICK counted on from the entry, Shelf in a start at S0, or a Cold reset where the memory was lost; a waking
domain is ready. TICK after the exit is the model's reading (log entry 77). -/
def Obligations.WakesEndPowerStates : Prop :=
  ∀ (s : State),
  let first := fun (w : Wake) (m t : Mod) => t.pwr.wake = some w ∧ t.mem = m.mem ∧ m.KeepsRegs [] t
  (s.mod.on AON.TIMER = true → s.mod.rd PWR.CHANGING = 0 → s.mod.pwr.wake = none →
    (s.mod.pstate = 1 ∧ s.mod.pwr.since + s.mod.rd AON.TIMER * 100000 ≤ s.mod.tick) ∨ s.mod.pstate = 2 →
    s.Runs .aonTimerExpire (first ⟨0x21, 4, 0⟩)) ∧
  (∀ (raw : Word) (i : Fin 32), s.mod.rd PWR.CHANGING = 0 → s.mod.pwr.wake = none → s.mod.pstate = 2 → s.mod.on (FIO.PARK_EN i) = true →
    (∀ j : Fin 32, raw.getLsbD j = (s.mod.fio.parkRef.testBit j ^^ s.mod.on (FIO.INV j) ^^ decide (i = j))) → (∀ j, SMap.get 0 s.mod.fio.parkRun j ≤ 200) → s.mod.rd FIO.CONF ≤ SMap.get 0 s.mod.fio.parkRun i →
    s.Runs (.parkSenseSample raw) (first ⟨0x20, 3, i⟩)) ∧
  (∀ w, s.mod.pstate = 1 → s.mod.pwr.wake = some w → s.mod.on FRM.RUNNING = true → s.mod.Room 1 → s.Runs .dozeExit (fun m t =>
    t.rd PWR.STATE = 0 ∧ t.awake 30 = true ∧ t.rd AON.WAKE_SRC = w.src % 2 ^ AON.WAKE_SRC.w ∧ t.rd AON.WAKE_KIND = w.kind % 2 ^ AON.WAKE_KIND.w ∧
    t.rd AON.WAKE_TICK_LO = m.tick % 2 ^ 32 ∧ t.rd AON.WAKE_CNT = Nat.min (m.rd AON.WAKE_CNT + 1) AON.WAKE_CNT.max ∧ t.pwr.wake = none ∧
    m.Reported t 0x04 info 0x0D05 [sj w.src, sj w.kind, vl w.detail, vl (if m.pwr.replay then 1 else 0)] ∧ t.mem = m.mem ∧ m.OnlyPages [0x03, 0x04, 0x08] t)) ∧
  (∀ w c0 c temp ok, s.mod.pstate = 2 → s.mod.pwr.wake = some w → (∀ q, (s.mod.quad q).saved = false) → s.Runs (.parkWake c0 c temp ok 0) (fun m t =>
    let span := m.spanOf (BitVec.toNat c)
    t.rd PWR.STATE = 0 ∧ t.rd PWR.DOM_STAT = 0xCF000000 ∧ t.rd AON.WAKE_SRC = w.src % 2 ^ AON.WAKE_SRC.w ∧
    t.rd AON.WAKE_TICK_LO = (m.tickEntry + m.spanOf (BitVec.toNat c0)) % 2 ^ 32 ∧ t.rd AON.SPAN_LO = span % 2 ^ 32 ∧ t.rd AON.EST = 1 ∧
    t.rd AON.UNC = Nat.min (Mod.uncOf span (m.deltaT (BitVec.toNat temp))) AON.UNC.max ∧ t.tick = (m.tickEntry + span) % 2 ^ 48 ∧
    t.rd FRM.SYNC = 0 ∧ t.rd FRM.RUN = 1 ∧ t.rd CLK.XTAL_OK = 1 ∧ t.pwr.wake = none)) ∧
  (∀ (p : Fin 2) at_, s.mod.pstate = 3 → s.mod.pwr.memLost = true → s.Runs (.shelfWake p at_) (fun m t =>
    t.boot = {} ∧ t.chans = [] ∧ t.pwr = {} ∧ t.frm = {} ∧ t.rd PWR.STATE = PWR.STATE.rst ∧
    (∀ a, 0x10000000 ≤ a → a < 0x10A00000 → t.byte a = m.byte a))) ∧
  (∀ (p : Fin 2) at_ w, s.mod.pstate = 3 → s.mod.pwr.memLost = false → s.mod.pwr.wake = some w → s.Runs (.shelfWake p at_) (fun m t =>
    t.rd PWR.STATE = 0 ∧ t.boot.step = 0 ∧ t.boot.kind = 1 ∧ t.rd AON.WAKE_SRC = w.src % 2 ^ AON.WAKE_SRC.w ∧ t.prm.open_ = [] ∧ t.pair = {} ∧
    (∀ a, 0x10000000 ≤ a → a < 0x10A00000 → t.byte a = m.byte a))) ∧
  (∀ d : Fin 31, s.mod.bit PWR.DOM_WAKING d = true → SMap.get [] s.mod.pwr.wbuf d = [] → s.mod.pair.w0.stall = none → s.mod.pair.w1.stall = none →
    s.mod.vnk.open_ = [] → s.Runs (.domainReady d) (fun m t => t.awake d = true ∧ t.bit PWR.DOM_WAKING d = false ∧ t.mem = m.mem ∧ m.OnlyPages [0x03, 0x10, 0x11, 0x12, 0x13] t))

/-! ### The pair (chapter 14) -/

/-- An instruction of a core that may execute: ECALL, EBREAK and what is illegal trap into Machine mode, FENCE and FENCE.I complete,
WFI ends the work of a tick, a CSR is read into `rd` and written; registers of the block and memory are untouched, but for the
record of a fetch at an unmapped address before it. The trap's steps are presumed (log entry 60), its value is free (log entry 61).
-/
def Obligations.CoreInstructionsExecute : Prop :=
  ∀ (s : State) (holly : Bool) (r : Ran), let h := s.mod.pick holly
  let w := s.mod.worker h
  let c := w.core.run r
  s.mod.coreRuns h = true →
  (∀ pc a, r.trap = some (.fetch pc a false) → Mod.region a.toNat = .none → s.mod.Room 1 → s.Runs (.fence holly r) (fun m t =>
    (t.worker h).core = c.after r ∧ t.rd SYS.UNMAP_ADDR = a.toNat ∧ t.rd SYS.UNMAP_CNT = Nat.min (m.rd SYS.UNMAP_CNT + 1) SYS.UNMAP_CNT.max ∧
    m.Reported t 0 err 0x1102 [sj32 a.toNat, sj 0] ∧ t.mem = m.mem ∧ m.OnlyPages [0x00, 0x08] t)) ∧ (
  s.mod.early h r = s.mod →
  let does := fun (i : Instr) (f : Worker → Worker) => s.Runs i (fun m t => t.worker h = f { w with core := c } ∧
    (m.split = false → t.pair.w1.core = t.pair.w0.core) ∧ t.mem = m.mem ∧ m.KeepsRegs [] t)
  does (.fence holly r) (fun w => { w with core := c.after r }) ∧
  does (.fenceI holly r) (fun w => { w with core := (c.spend 7).after r }) ∧
  does (.ebreak holly r) (fun w => { w with core := c.trap 3 (Config.trapValue 3 r.pc.toNat) }) ∧
  does (.ecall holly r) (fun w =>
    if c.user then { w with core := c.trap 8 0, cur := none, kept := w.kept ++ (w.cur.map (·.prm)).toList.filter (· ≠ 0) }
    else { w with core := c.trap 11 0 }) ∧
  does (.wfi holly r) (fun w => if c.user then { w with core := c.trap 2 (Config.trapValue 2 r.pc.toNat) }
    else if w.phase = .work then { w with core := c.after r, phase := .ended, cur := none } else { w with core := c.after r }) ∧
  (∀ (a : BitVec 12) (rd : Fin 32), does (.csrAccess holly a .rs none rd r) (fun w =>
    match (if c.user = true ∧ fld a.toNat 9 8 ≠ 0 then none else c.csr (if h then 1 else 0) (s.mod.workTick h) w.irq a.toNat) with
    | some v => { w with core := (c.setReg rd v).after r }
    | none => { w with core := c.trap 2 (Config.trapValue 2 r.pc.toNat) })) ∧
  (∀ (a : BitVec 12) (v : Word) (rd : Fin 32), does (.csrAccess holly a .rw (some v) rd r) (fun w =>
    match (if (c.user = true ∧ fld a.toNat 9 8 ≠ 0) ∨ fld a.toNat 11 10 = 3 then none
      else c.csr (if h then 1 else 0) (s.mod.workTick h) w.irq a.toNat) with
    | some old => { w with core := ((c.setCsr a.toNat v.toNat).setReg rd old).after r }
    | none => { w with core := c.trap 2 (Config.trapValue 2 r.pc.toNat) })))

/-- Accesses of a core in lockstep that its protection permits: a store to SRAM is performed at once and its word's old value kept
for the undo log, a store of a word to a register page joins the commit queue, a load of SRAM reads it, a read of SLICE takes the
next slice; a misaligned access traps and touches nothing. The trap's steps are presumed (log entry 60), its value is free (log
entry 61). -/
def Obligations.CoreAccessesAreLogged : Prop :=
  ∀ (s : State) (holly : Bool) (a : Word) (k : Fin 3) (r : Ran), s.mod.coreRuns false = true → s.mod.split = false →
  s.mod.early false r = s.mod →
  let c := s.mod.pair.w0.core.run r
  let n := accessBytes k
  (∀ v : Word, a.toNat % n ≠ 0 → Mod.region a.toNat = .sram → s.Runs (.pairStore holly a k v r) (fun m t =>
    t.pair.w0.core = c.trap 6 (Config.trapValue 6 a.toNat) ∧ t.mem = m.mem ∧ t.pair.undo = m.pair.undo ∧ m.KeepsRegs [] t)) ∧
  (∀ signed rd, a.toNat % n ≠ 0 → Mod.region a.toNat = .sram → s.Runs (.pairLoad holly a k signed rd none r) (fun m t =>
    t.pair.w0.core = c.trap 4 (Config.trapValue 4 a.toNat) ∧ t.mem = m.mem ∧ m.KeepsRegs [] t)) ∧
  (∀ v : Word, a.toNat % n = 0 → Mod.region a.toNat = .sram → c.pmpAllows a.toNat n 1 = true → s.mod.pair.undo.length < 512 →
    s.Runs (.pairStore holly a k v r) (fun m t => t.load a.toNat n = v.toNat % 2 ^ (8 * n) ∧ t.pair.w0.core = c.after r ∧
      (∀ b, (b < a.toNat ∨ a.toNat + n ≤ b) → t.byte b = m.byte b) ∧
      (t.pair.undo = if m.pair.undo.any (fun e => e.1 = a.toNat - a.toNat % 4) then m.pair.undo
        else (a.toNat - a.toNat % 4, m.load (a.toNat - a.toNat % 4) 4) :: m.pair.undo) ∧ m.KeepsRegs [] t)) ∧
  (∀ v : Word, n = 4 → a.toNat % 4 = 0 → Mod.region a.toNat = .page → c.pmpAllows a.toNat 4 1 = true → s.mod.pair.w0.cq.length < 256 →
    s.Runs (.pairStore holly a k v r) (fun m t => t.pair.w0.cq = m.pair.w0.cq ++ [⟨a.toNat, v.toNat, 4⟩] ∧ t.pair.w0.core = c.after r ∧
      t.mem = m.mem ∧ m.KeepsRegs [] t)) ∧
  (∀ signed rd, a.toNat % n = 0 → Mod.region a.toNat = .sram → c.pmpAllows a.toNat n 0 = true → s.Runs (.pairLoad holly a k signed rd none r)
    (fun m t => t.pair.w0.core = (c.setReg rd (loadLanes (m.load (a.toNat - a.toNat % 4) 4) a.toNat n signed)).after r ∧ t.mem = m.mem ∧
      m.KeepsRegs [] t)) ∧
  (∀ (rd : Fin 32) x rest, c.pmpAllows (Mod.regAddr 0x09 0x12C) 4 0 = true → s.mod.pair.reexec = false → s.mod.pair.replay.length < 128 →
    s.mod.pair.w0.slices = x :: rest → s.mod.awake 30 = true →
    s.Runs (.sliceRead holly rd r) (fun m t => t.pair.w0.slices = rest ∧ t.pair.w0.cur = some x ∧ t.pair.w0.mark = m.pair.w0.cq.length ∧
      t.pair.replay.length = m.pair.replay.length + 1 ∧
      t.pair.w0.core = (c.setReg rd (x.task % 2 ^ 10 + x.budget % 2 ^ 11 * 2 ^ 16 + 2 ^ 31)).after r ∧ t.mem = m.mem ∧
      m.KeepsRegs [PAIR.SLICE_TASK, PAIR.SLICE_BUDGET, PAIR.SLICE_VALID] t))

/-- The work of a tick in lockstep: the tick interrupt takes the checkpoint and the tick's slices, the slice-budget exception and
the meter end a running slice with its entries discarded, agreement hands the entries to the boundary. -/
def Obligations.PairWorksTickByTick : Prop :=
  ∀ (s : State) (holly : Bool), s.mod.split = false → s.mod.pairUp = true →
  (s.mod.pair.w0.irq = true → s.mod.pair.w0.phase = .idle → s.mod.pair.reagreed = false → s.mod.rd PAIR.CHK_BUSY = 0 →
    s.Runs (.tickInterrupt holly) (fun m t => t.pair.check = m.pair.w0.core ∧ t.pair.w0.phase = .work ∧ t.pair.w0.tick = m.tick ∧
      t.pair.w0.irq = false ∧ t.pair.w0.slices = m.frm.dispNow ∧ t.frm.dispNow = [] ∧ t.pair.w0.cur = none ∧
      t.pair.w0.core = { m.pair.w0.core.trap 0x8000000B 0 with mtickcyc := 0 } ∧ t.pair.w1.core = t.pair.w0.core ∧ t.mem = m.mem ∧
      m.KeepsRegs [] t)) ∧
  (∀ x, s.mod.pair.w0.phase = .work → s.mod.pair.w0.cur = some x → s.mod.Room 1 →
    let cut := fun m t : Mod => t.pair.w0.cur = none ∧ t.pair.w0.cq = m.pair.w0.cq.take m.pair.w0.mark ∧
      t.rd PAIR.BUDGET_CNT = Nat.min (m.rd PAIR.BUDGET_CNT + 1) PAIR.BUDGET_CNT.max ∧ m.Reported t 0x09 warn 0x0E05 [sj16 x.task] ∧
      t.pair.w0.core.mcause = 24 ∧ t.pair.w0.core.mslice = 0 ∧ t.mem = m.mem ∧ m.KeepsRegs ([PAIR.BUDGET_CNT] ++ evtFlds 0x09) t
    (s.mod.pair.w0.core.mslice ≠ 0 → s.Runs (.sliceBudgetException holly) cut) ∧
    s.Runs (.tickMeterLimit holly) (fun m t => cut m t ∧ t.pair.w0.phase = .ended ∧ t.pair.w0.slices = [] ∧
      t.pair.w0.core.mtickcyc = 2040 ∧ t.pair.sig = t.pair.w0.core.signature ∧ m.OnlyPages [0x09, 0x08] t)) ∧
  (s.mod.pair.w0.phase = .ended → s.Runs .tickAgreed (fun m t => t.pair.w0.phase = .agreed ∧ t.pair.w0.ready = m.pair.w0.cq ∧
    t.pair.w0.readyKept = m.pair.w0.kept ∧ t.pair.w0.cq = [] ∧ t.pair.undo = [] ∧ t.pair.replay = [] ∧ t.pair.reagreed = m.pair.reexec ∧
    t.pair.reexec = false ∧ t.mem = m.mem ∧ m.KeepsRegs [PAIR.UNDO_MAX, PAIR.CQ_MAX, PAIR.REPLAY_MAX, PAIR.WINDOW] t))

/-- Faults of the pair in lockstep: a first mismatch opens the rollback window and is reported, one inside the window, or a failed
injection test, makes the pair untrusted under Safe; a restore brings the checkpoint back; an alarm has the injection test run; an
expired watchdog asks for a reset under Hold. -/
def Obligations.PairFaultsAreHandled : Prop :=
  ∀ (s : State), s.mod.split = false → s.mod.pairUp = true → s.mod.Room 2 →
  (∀ (field : Fin 4) (addr : Word), s.mod.rd PAIR.CHK_BUSY = 0 → s.mod.pair.w0.phase = .work → s.mod.rd PAIR.WINDOW = 0 → s.mod.rd PAIR.RB_LIM = 0 →
    s.Runs (.mismatch field addr 0) (fun m t => t.rd PAIR.WINDOW = 1 ∧ t.pair.w0.phase = .restore ∧ t.pair.mism = some m.pair.w0.tick ∧
      t.rd PAIR.ROLLBACK_CNT = Nat.min (m.rd PAIR.ROLLBACK_CNT + 1) PAIR.ROLLBACK_CNT.max ∧ t.rd PAIR.LAST_ADDR = addr.toNat ∧ t.rd FRM.ROLLBACK = 1 ∧
      t.rd PAIR.FAULT_CAUSE = (if field = 3 then 2 else 1) ∧ t.rd PAIR.FAULT_FIELD = field ∧
      m.Reported t 0x09 warn 0x0E01 [sj field, sj (if field = 3 then 2 else 1)] ∧ t.mem = m.mem ∧ t.chans = m.chans ∧ m.OnlyPages [0x09, 0x0A, 0x08] t)) ∧
  (∀ (field : Fin 4) (addr : Word), s.mod.rd PAIR.CHK_BUSY = 0 → s.mod.pair.w0.phase = .work → s.mod.rd PAIR.WINDOW = 1 → s.mod.pair.untrusted = false →
    s.Runs (.mismatch field addr 0) (fun m t => t.pair.untrusted = true ∧ t.boot.resetDue = 2 ∧ t.rd PAIR.FAULT_CAUSE = 4 ∧
      t.rd FRM.SAFE_ORDER = 1 ∧ t.frm.withhold = true ∧ t.frm.staged = [] ∧ t.mem = m.mem ∧ m.OnlyPages ([0x09, 0x0A] ++ outPages) t)) ∧
  (s.mod.rd PAIR.CHK_BUSY = 0 → s.mod.pair.w0.phase = .restore → s.mod.pair.undo = [] → s.Runs .restoreDone (fun m t =>
    t.pair.w0.core = { m.pair.check.trap 0x8000000B 0 with mtickcyc := 0 } ∧ t.pair.w1.core = t.pair.w0.core ∧ t.pair.w0.phase = .work ∧
    t.pair.reexec = true ∧ t.pair.rpos = 0 ∧ t.pair.w0.cq = [] ∧ t.mem = m.mem ∧ m.KeepsRegs [] t)) ∧
  (∀ e, s.mod.rd PAIR.CHK_BUSY = 0 → s.mod.pair.w0.phase = .restore → s.mod.pair.undo = [e] → s.Runs .restoreDone (fun m t =>
    t.load e.1 4 = e.2 % 2 ^ 32 ∧ (∀ b, (b < e.1 ∨ e.1 + 4 ≤ b) → t.byte b = m.byte b) ∧ t.pair.undo = [] ∧ m.KeepsRegs [] t)) ∧
  (∀ parity, s.mod.rd PAIR.CHK_BUSY = 0 → s.mod.rd PAIR.WINDOW = 0 → s.Runs (.checkerAlarm parity) (fun m t => t.rd PAIR.CHK_BUSY = 1 ∧
    t.pair.alarmSrc = (if parity then 2 else 1) ∧ (m.pair.w0.phase = .work → t.pair.w0.phase = .alarm) ∧ t.mem = m.mem ∧
    m.KeepsRegs [PAIR.CHK_BUSY] t)) ∧
  (s.mod.rd PAIR.CHK_BUSY = 1 → s.mod.pair.alarmWork = false → s.Runs (.injectionTestDone none) (fun m t => t.rd PAIR.CHK_BUSY = 0 ∧
    t.rd PAIR.INJ_RESULT = 1 ∧ t.rd PAIR.ALARM_CNT = Nat.min (m.rd PAIR.ALARM_CNT + 1) PAIR.ALARM_CNT.max ∧ t.rd PAIR.FAULT_CAUSE = 3 ∧
    m.Reported t 0x09 warn 0x0E03 [sj m.pair.alarmSrc] ∧ t.mem = m.mem ∧ m.OnlyPages [0x09, 0x08] t)) ∧
  (∀ f p, s.mod.rd PAIR.CHK_BUSY = 1 → s.mod.pair.untrusted = false → s.Runs (.injectionTestDone (some (f, p))) (fun m t =>
    t.rd PAIR.CHK_BUSY = 0 ∧ t.rd PAIR.INJ_RESULT = 2 ∧ t.rd PAIR.INJ_FIELD = f ∧ t.rd PAIR.INJ_PATTERN = p ∧ t.pair.untrusted = true ∧
    t.rd PAIR.FAULT_CAUSE = 5 ∧ t.boot.resetDue = 2 ∧ t.mem = m.mem ∧ m.OnlyPages ([0x09, 0x0A] ++ outPages) t)) ∧
  (1 ≤ s.mod.rd PAIR.WDT_PERIOD → s.mod.rd PAIR.WDT_PERIOD ≤ s.mod.pair.wdt → s.Runs .watchdogExpire (fun m t => t.boot.resetDue = 1 ∧ t.pair.wdt = 0 ∧
    t.rd PAIR.FAULT_CAUSE = 8 ∧ m.mkEvt 0x09 err 0x0E07 [vl16 (m.rd PAIR.WDT_PERIOD)] ∈ t.evt.intake ∧ t.mem = m.mem ∧ m.OnlyPages (0x09 :: outPages) t))

/-! ### The event log, resets, the start, keys and the test port (chapters 15 and 16) -/

/-- The writer takes its queue's head: below the level it is counted as filtered, otherwise it is stored in the lowest free slot
under the next sequence number, or coalesced; a Critical record is written through to the archive; a read of REC_DATA0 latches the
record selected; an uncorrectable read of the log memory is recorded. -/
def Obligations.EventWriterStoresAndArchives : Prop :=
  ∀ (s : State),
  (s.mod.evt.intake = [] → s.Runs (.eventRecord none) (fun m t => m.OnlyRegs [] t)) ∧
  (∀ k : BitVec 12, s.mod.Room 1 → s.Runs (.eventRecord (some (k, true))) (fun m t => t.rd EVT.ECC_ADDR = 4 * k.toNat ∧ t.rd EVT.ECC_MEM = 2 ∧
    t.rd EVT.ECC_UE = 1 ∧ t.rd EVT.UE_CNT = Nat.min (m.rd EVT.UE_CNT + 1) EVT.UE_CNT.max ∧
    t.rd EVT.BAD_SLOT_CNT = (if (SMap.find? m.evt.log (k.toNat / 4)).isSome then Nat.min (m.rd EVT.BAD_SLOT_CNT + 1) EVT.BAD_SLOT_CNT.max
      else m.rd EVT.BAD_SLOT_CNT) ∧ t.mem = m.mem ∧ m.OnlyPages [0x08] t)) ∧
  (∀ e rest, s.mod.evt.intake = e :: rest → e.body.cls < s.mod.rd EVT.MIN_CLASS → s.Runs (.eventRecord none) (fun m t =>
    t.evt.intake = rest ∧ t.rd (EVT.FILTERED e.body.cls) = Nat.min (m.rd (EVT.FILTERED e.body.cls) + 1) (EVT.FILTERED e.body.cls).max ∧
    t.evt.log = m.evt.log ∧ t.mem = m.mem ∧ m.KeepsRegs [EVT.FILTERED e.body.cls] t)) ∧
  (∀ e rest i, s.mod.evt.intake = e :: rest → s.mod.rd EVT.MIN_CLASS ≤ e.body.cls → s.mod.rd (COM.MIN_CLASS e.body.page) = 0 →
    SMap.find? s.mod.evt.latest e.body.page = none → s.mod.freeSlot = some i → s.Runs (.eventRecord none) (fun m t =>
      t.evt.intake = rest ∧ SMap.find? t.evt.log i = some { e.body with seq := m.rd EVT.NEXT_SEQ } ∧ SMap.find? t.evt.latest e.body.page = some i ∧
      t.rd EVT.NEXT_SEQ = (m.rd EVT.NEXT_SEQ + 1) % 4096 ∧ t.rd EVT.LATEST = i % 2 ^ EVT.LATEST.w ∧ t.mem = m.mem ∧
      m.KeepsRegs [EVT.NEXT_SEQ, EVT.LATEST] t)) ∧
  (∀ e rest i r, s.mod.evt.intake = e :: rest → s.mod.rd EVT.MIN_CLASS ≤ e.body.cls → s.mod.rd (COM.MIN_CLASS e.body.page) = 0 →
    SMap.find? s.mod.evt.latest e.body.page = some i → SMap.find? s.mod.evt.log i = some r → r.page = e.body.page → r.cls = e.body.cls →
    r.code = e.body.code → r.rep < 255 → r.detail &&& e.keyMask = e.body.detail &&& e.keyMask → s.Runs (.eventRecord none) (fun m t =>
      t.evt.intake = rest ∧ SMap.find? t.evt.log i = some { r with rep := r.rep + 1, detail := e.body.detail } ∧ t.mem = m.mem ∧ m.KeepsRegs [] t)) ∧
  (∀ r rest, s.mod.evt.crit = r :: rest → s.Runs (.criticalWriteThrough false) (fun m t => t.evt.crit = rest ∧
    t.rd EVT.ARCH_FAIL_CNT = Nat.min (m.rd EVT.ARCH_FAIL_CNT + 1) EVT.ARCH_FAIL_CNT.max ∧ t.mem = m.mem ∧ m.KeepsRegs [EVT.ARCH_FAIL_CNT] t)) ∧
  (∀ r rest, s.mod.evt.crit = r :: rest → s.mod.rd EVT.CRIT_POS < 8192 → s.Runs (.criticalWriteThrough true) (fun m t =>
    let a := critBase + 16 * m.rd EVT.CRIT_POS
    t.evt.crit = rest ∧ t.bytes a 16 = r.bytes ∧ t.bytes (a + 16) 12 = r.bytes.take 12 ∧ t.load (a + 28) 4 = crc32c r.bytes ∧
    t.rd EVT.CRIT_POS = (m.rd EVT.CRIT_POS + 2) % 8192 ∧ (∀ b, (b < a ∨ a + 32 ≤ b) → t.byte b = m.byte b) ∧ m.KeepsRegs [EVT.CRIT_POS] t)) ∧
  s.Runs .recData0Read (fun m t =>
    let w := ((SMap.find? m.evt.log (m.rd EVT.REC_SEL)).map EvtRec.words).getD [0, 0, 0, 0]
    (∀ i : Fin 4, t.rd (EVT.REC_DATA i) = w.getD i 0 % 2 ^ 32) ∧ m.OnlyRegs ((List.range 4).map EVT.REC_DATA) t)

/-- Resets: a Cold reset leaves flash, OTP and the reset values; a Warm reset outside a start leaves memory and TICK, counts the
promises that were open, stops the Frame and begins a start, with Hold kept where software or the watchdog asked for it. The value
of a blank byte is the model's choice (log entry 4). -/
def Obligations.ResetsKeepWhatTheyMust : Prop :=
  ∀ (s : State),
  s.Runs .coldReset (fun m t => (∀ a, 0x10000000 ≤ a → a < 0x10A00000 → t.byte a = m.byte a) ∧
    (∀ a, ¬ (0x10000000 ≤ a ∧ a < 0x10A00000) → t.byte a = (blankByte a).toNat) ∧ t.sec.otp = m.sec.otp ∧ t.boot = {} ∧ t.chans = [] ∧
    t.frm = {} ∧ t.pair = {} ∧ (∀ g : Fld, (∀ f ∈ shown, f.key ≠ g.key) → g.page ≠ 7 → g.key ≠ PAIR.SPLIT_DIS.key → t.rd g = g.rst)) ∧
  (s.mod.boot.step = 15 → s.mod.boot.counting = false → s.mod.probationLost = false → s.Runs .warmReset (fun m t =>
    t.mem = m.mem ∧ t.tick = m.tick ∧ t.boot.step = 0 ∧ t.boot.kind = 2 ∧ t.rd BOOT.WARM = 1 ∧ t.rd PRM.RESET_OPEN = m.prm.open_.length % 2 ^ PRM.RESET_OPEN.w ∧
    t.prm.open_ = [] ∧ t.pair = {} ∧ t.vnk = {} ∧ t.rd PWR.STATE = 0 ∧ t.rd PAIR.MODE = 0 ∧ t.rd AON.TICK_ENTRY_LO = m.tick % 2 ^ 32 ∧
    t.boot.holdRel = (decide (m.boot.resetDue = 1) || m.boot.holdRel || decide (3 ≤ m.upd.phase)) ∧ t.rd FRM.RUNNING = FRM.RUNNING.rst))

/-- The start: a step that passes leads to the next, one that fails asks for a reset and leaves its number; the watchdog fails the
running step; the hundredth heartbeat after S10 completes the start. -/
def Obligations.StartStepsAdvanceOrFail : Prop :=
  ∀ (s : State) (r : StepRes), s.mod.boot.altStep = 15 →
  (s.mod.boot.step = 1 → s.mod.boot.kind ≠ 2 → r.src ≠ 0 → s.Runs (.startStepComplete r) (fun m t => t.boot.step = 2 ∧ t.rd BOOT.REACHED = 2 ∧
    t.rd PWR.SRC = r.src ∧ t.rd PWR.VBL_LOW = 0 ∧ t.mem = m.mem ∧ m.KeepsRegs [BOOT.REACHED, PWR.SRC, PWR.VBL_LOW] t)) ∧
  (s.mod.boot.step = 2 → r.pass = true → s.Runs (.startStepComplete r) (fun m t => t.boot.step = 3 ∧ t.rd BOOT.REACHED = 3 ∧
    t.rd CLK.XTAL_OK = 1 ∧ t.rd CLK.PLL_PAIR = 1 ∧ t.rd CLK.PLL_SEQ = 1 ∧ t.mem = m.mem ∧
    m.KeepsRegs [BOOT.REACHED, CLK.XTAL_OK, CLK.PLL_PAIR, CLK.PLL_SEQ] t)) ∧
  (s.mod.boot.step = 3 → s.mod.boot.kind = 0 → r.pass = true → s.Runs (.startStepComplete r) (fun m t => t.boot.step = 4 ∧
    (∀ a, 0x20000000 ≤ a → a < 0x20200000 → t.byte a = 0) ∧ (∀ a, a < 0x20000000 ∨ 0x22080000 ≤ a → t.byte a = m.byte a) ∧
    m.KeepsRegs [BOOT.REACHED] t)) ∧
  (s.mod.boot.step = 4 → r.inj = none → s.Runs (.startStepComplete r) (fun m t => t.boot.step = 5 ∧ t.rd PAIR.INJ_RESULT = 1 ∧ t.mem = m.mem ∧ m.OnlyPages [0x05, 0x09] t)) ∧
  (s.mod.boot.step = 10 → 1 ≤ s.mod.boot.hb → s.Runs (.startStepComplete r) (fun m t => t.boot.step = 15 ∧ t.mem = m.mem ∧ m.KeepsRegs [] t)) ∧
  (s.mod.Room 1 → s.mod.boot.step ≤ 10 → s.mod.boot.resetDue = 0 →
    let fails := fun (cause : Nat) (m t : Mod) => t.boot.step = 15 ∧ t.boot.resetDue = 3 ∧ t.rd BOOT.LAST_FAIL = m.boot.step ∧
      t.rd BOOT.FAIL_CNT = Nat.min (m.rd BOOT.FAIL_CNT + 1) BOOT.FAIL_CNT.max ∧ m.Reported t 0x05 err 0x1001 [sj m.boot.step, sj cause] ∧
      t.mem = m.mem ∧ m.KeepsRegs ([BOOT.REACHED, BOOT.LAST_FAIL, BOOT.FAIL_CNT] ++ evtFlds 0x05) t
    (s.mod.boot.step ≠ 9 → ∀ p l, s.Runs (.startWatchdog p l) (fails 2)) ∧ (s.mod.boot.step = 2 → r.pass = false → s.Runs (.startStepComplete r) (fails 1))) ∧
  (∀ (p : Fin 24) (l : BitVec 24), s.mod.boot.step = 9 → s.mod.boot.resetDue = 0 → s.Runs (.startWatchdog p l) (fun _ t => t.rd BOOT.S9_PORT = p ∧
    t.rd BOOT.LAST_FAIL = 9 ∧ t.rd BOOT.REACHED = 9 ∧ t.boot.step = 15 ∧ t.boot.resetDue = 3)) ∧
  (∀ ms : BitVec 16, s.mod.boot.counting = true → 100 ≤ s.mod.boot.hb → s.mod.boot.onTrial = false → s.mod.Room 1 →
    s.Runs (.startComplete ms) (fun m t => t.rd BOOT.REACHED = 0xF ∧ t.rd BOOT.ALT_TRY = 0xF ∧ t.rd BOOT.START_MS = ms.toNat ∧
      t.rd BOOT.START_CNT = Nat.min (m.rd BOOT.START_CNT + 1) BOOT.START_CNT.max ∧ m.Reported t 0x05 info 0x1004 [vl16 ms.toNat] ∧
      t.boot.counting = false ∧ t.boot.step = 15 ∧ t.mem = m.mem ∧
      m.KeepsRegs ([BOOT.REACHED, BOOT.ALT_TRY, BOOT.START_MS, BOOT.START_CNT] ++ evtFlds 0x05) t))

/-- OTP, debug and the test port: a program command sets bits and clears none; a verified signature under a usable key opens debug
for one challenge; a locked port takes only BYPASS and IDCODE; an open one halts and resumes the pair. What a locked test port makes
of other instructions is presumed (log entry 80). -/
def Obligations.KeysOpenDebug : Prop :=
  ∀ (s : State),
  (∀ c : BitVec 128, s.Runs (.dbgAuthRead c) (fun m t => t.sec.challenge = some (beBytes 16 c.toNat) ∧ t.mem = m.mem ∧ m.KeepsRegs [] t)) ∧
  (∀ (k : Fin 4), s.mod.sec.challenge.isSome = true → s.mod.keyUsable k = true → s.mod.Room 1 → s.Runs (.dbgAuthWrite k true) (fun m t =>
    t.rd SEC.DEBUG_OPEN = 1 ∧ t.sec.challenge = none ∧ m.Reported t 0x07 crit 0x1015 [] ∧ t.mem = m.mem ∧
    m.KeepsRegs ([SEC.DEBUG_OPEN] ++ evtFlds 0x07) t)) ∧
  (∀ k ok, s.mod.sec.challenge = none ∨ ok = false → s.Runs (.dbgAuthWrite k ok) (fun m t => m.OnlyRegs [] t)) ∧
  (∀ i : Fin 4, s.Runs (.tapInstruction i) (fun m t =>
    (t.sec.tap = if m.rd SEC.DEBUG_LOCK ≠ 0 ∧ m.rd SEC.DEBUG_OPEN = 0 ∧ 2 ≤ i.val then 0 else i) ∧ t.mem = m.mem ∧ m.KeepsRegs [] t)) ∧
  (∀ (stuck : Word) a v, s.mod.sec.prog = some (a, v) → v < 2 ^ 32 → a ≠ 0x100 → a ≠ 0x104 → a ≠ 0x108 → s.Runs (.otpProgramDone stuck) (fun m t =>
    let w := m.otpWord a ||| v &&& (0xFFFFFFFF ^^^ stuck.toNat)
    t.sec.prog = none ∧ t.otpWord a = w ∧ t.rd SEC.OTP_BUSY = 0 ∧ (t.rd SEC.OTP_FAIL = if w &&& v = v then 0 else 1) ∧ t.mem = m.mem ∧ m.OnlyPages [0x07, 0x09] t)) ∧
  (s.mod.rd SEC.DEBUG_LOCK = 0 ∨ s.mod.rd SEC.DEBUG_OPEN = 1 →
    s.Runs .debugHalt (fun m t => t.pair = { m.pair with debug := true } ∧ t.mem = m.mem ∧ m.KeepsRegs [] t) ∧
    s.Runs .debugResume (fun m t => t.pair = { m.pair with debug := false } ∧ t.mem = m.mem ∧ m.KeepsRegs [] t)) ∧
  (s.mod.rd SEC.DEBUG_LOCK = 1 → s.mod.rd SEC.DEBUG_OPEN = 0 → s.Runs .debugHalt (fun m t => m.OnlyRegs [] t))

/-! ### Updates, ISO 14229-1, handover (chapter 16) -/

/-- UPDATE transactions of the session's holder: OPEN waits for the end of its tick, STATUS answers the state, ERASE, WRITE, VERIFY
and ACTIVATE act on the inactive target, REVOKE on a key, REJECT on a probation, CLOSE ends the session; without a session they are
denied. The order of the checks of ACTIVATE is the model's reading (log entry 78). -/
def Obligations.UpdateTransactionsAct : Prop :=
  ∀ (s : State) (r : VnkReq) (k : Fin 16), s.mod.Hears r k → s.mod.Grants r k 5 → r.addr.toNat % 4 = 0 →
  s.mod.rd (VNK.WIN_BASE r.win.toNat) % 4 = 0 →
  let q := fun (op : Nat) (payload : List Nat) => { s.mod.txnOf r k 0x10 payload with aux := op * 2 ^ 24 + r.aux.toNat % 2 ^ 24 }
  let tt := fld r.aux.toNat 23 16
  (s.mod.upd.opens = [] → s.Runs (.updOpen r) (fun m t => t.upd.opens = [⟨r.port, k, some (q 1 [])⟩] ∧ t.vnk.open_ = [q 1 []] ∧
    t.vnk.out = m.vnk.out ∧ t.mem = m.mem ∧ m.KeepsRegs [VNK.INIT_OPEN k] t)) ∧
  s.Runs (.status r) (fun m t => m.Answers (q 6 []) 0 0 m.updStatus t ∧ t.mem = m.mem ∧ m.KeepsRegs (rspFlds k) t) ∧
  s.Runs (.reject r) (fun m t => m.Answers (q 8 []) 0 0 [] t ∧ (t.upd.failed = if m.on UPD.PROBATION then true else m.upd.failed) ∧ t.mem = m.mem ∧
    m.KeepsRegs (rspFlds k) t) ∧
  (s.mod.rd UPD.HOLDER_PORT = 0xFF → s.Runs (.erase r) (fun m t => m.Answers (q 2 []) 1 0 [] t ∧ t.mem = m.mem ∧ m.KeepsRegs (rspFlds k) t)) ∧
  (s.mod.rd UPD.HOLDER_PORT ≠ 0xFF → s.mod.rd UPD.HOLDER_SLOT = k → s.mod.rd UPD.PROBATION = 0 → s.mod.upd.phase = 0 → tt ≤ 1 →
    let x := s.mod.inactive tt
    s.Runs (.erase r) (fun m t => m.Answers (q 2 []) 0 0 [] t ∧ t.rd UPD.STATE = 2 ∧ t.rd UPD.TARGET = x % 2 ^ UPD.TARGET.w ∧ t.rd UPD.BLOCKS = 0 ∧
      t.upd.erasing = some x ∧ t.upd.erased = false ∧ t.mem = m.mem ∧ m.KeepsRegs ([UPD.STATE, UPD.TARGET, UPD.BLOCKS, UPD.NEW_VER] ++ rspFlds k) t) ∧
    (∀ v : Word, s.mod.upd.erased = true → s.mod.upd.erasing = none → s.mod.rd UPD.STATE = 3 ∨ s.mod.rd UPD.STATE = 4 → s.mod.rd UPD.TARGET = x →
      r.addr.toNat + 4 ≤ targetSize x → (∀ i, i < 4 → s.mod.byte (targetBase x + r.addr.toNat + i) = 0xFF) →
      s.Runs (.updateWrite r [v]) (fun m t => m.Answers (q 3 (beBytes 4 v.toNat)) 0 0 [] t ∧ t.load (targetBase x + r.addr.toNat) 4 = v.toNat ∧
        t.rd UPD.STATE = 4 ∧ t.rd UPD.RESULT = 1 ∧
        (∀ a, (a < targetBase x + r.addr.toNat ∨ targetBase x + r.addr.toNat + 4 ≤ a) → t.byte a = m.byte a) ∧
        m.KeepsRegs ([UPD.STATE, UPD.RESULT, UPD.BLOCKS] ++ rspFlds k) t)) ∧
    s.Runs (.verify r) (fun m t => m.Answers (q 4 []) 0 0 [] t ∧ t.rd UPD.STATE = 5 ∧ t.rd UPD.TARGET = x % 2 ^ UPD.TARGET.w ∧ t.upd.verified = false ∧
      t.mem = m.mem ∧ m.KeepsRegs ([UPD.STATE, UPD.TARGET, UPD.BLOCKS] ++ rspFlds k) t) ∧
    (s.mod.upd.verified = true → s.mod.rd UPD.TARGET = x → s.mod.rd PWR.CHANGING = 0 → tt = 0 → r.aux.toNat % 2 ^ 16 = 0 →
      s.Runs (.activate r) (fun m t => m.Answers (q 5 []) 0 0 [] t ∧ t.rd UPD.STATE = 7 ∧ t.rd UPD.RESULT = 1 ∧ t.upd.phase = 1 ∧
        t.upd.bTick = m.handoverTick ∧ t.mem = m.mem ∧ m.KeepsRegs ([UPD.STATE, UPD.RESULT] ++ rspFlds k) t)) ∧
    s.Runs (.close r) (fun m t => m.Answers (q 7 []) 0 0 [] t ∧ t.rd UPD.HOLDER_PORT = 0xFF ∧ t.rd UPD.HOLDER_SLOT = 0xFF ∧ t.rd UPD.STATE = 0 ∧
      t.mem = m.mem ∧ m.KeepsRegs ([UPD.HOLDER_PORT, UPD.HOLDER_SLOT, UPD.STATE] ++ rspFlds k) t) ∧
    (∀ (a b : Fin 4), b ≠ a → s.mod.keyUsable b = true → s.mod.Room 1 → s.Runs (.revoke r (BitVec.ofNat 8 a) true) (fun m t =>
      m.Answers { q 9 [a.val] with sig := true } 0 0 [] t ∧ t.rd UPD.RESULT = 1 ∧ t.keyUsable a = false ∧
      m.Reported t 0x07 warn 0x1014 [sj a] ∧ t.mem = m.mem ∧ m.OnlyPages [0x06, 0x07, 0x08, 0x3A, 0x3B, 0x3E] t)))

/-- ACTIVATE is refused with result 0x18 for a target that is not verified, with 0x17 during a power-state change and with 0x16
during a probation; nothing of it happens. The order of the checks is the model's reading (log entry 78). -/
def Obligations.ActivateRefusalsCarryResults : Prop :=
  ∀ (s : State) (r : VnkReq) (k : Fin 16), s.mod.Hears r k → s.mod.Grants r k 5 → r.addr.toNat % 4 = 0 →
  s.mod.rd (VNK.WIN_BASE r.win.toNat) % 4 = 0 → s.mod.rd UPD.HOLDER_PORT ≠ 0xFF → s.mod.rd UPD.HOLDER_SLOT = k →
  let tt := fld r.aux.toNat 23 16
  tt ≤ 1 →
  let q := { s.mod.txnOf r k 0x10 [] with aux := 5 * 2 ^ 24 + r.aux.toNat % 2 ^ 24 }
  let verified := s.mod.upd.verified = true ∧ s.mod.rd UPD.TARGET = s.mod.inactive tt
  let refused := fun (res : Nat) (m t : Mod) => m.Answers q 8 res [] t ∧ t.rd UPD.RESULT = res ∧ t.upd = { m.upd with lastTick := m.tick } ∧ t.boot = m.boot ∧
    t.mem = m.mem ∧ m.KeepsRegs (UPD.RESULT :: rspFlds k) t
  (¬ verified → s.Runs (.activate r) (refused 0x18)) ∧
  (verified → s.mod.rd PWR.CHANGING = 1 → s.Runs (.activate r) (refused 0x17)) ∧
  (verified → s.mod.rd PWR.CHANGING = 0 → s.mod.rd UPD.PROBATION = 1 → s.Runs (.activate r) (refused 0x16))

/-- An erase, its session open or ended, and a verification complete, a session times out. The live handover by its phases: the
export begins at boundary B, the pair restarts in the new image, an import accepted or failed, each timeout, a rejected and a passed
probation; in another phase a command does nothing. -/
def Obligations.UpdateJobsAndHandoverPhases : Prop :=
  (∀ (s : State),
  (s.mod.upd.erasing = none → s.Runs .eraseDone (fun m t => m.OnlyRegs [] t)) ∧
  (∀ x : Fin 4, s.mod.upd.erasing = some x.val → s.Runs .eraseDone (fun m t => t.upd.erasing = none ∧
    (if m.rd UPD.STATE = 2 then t.rd UPD.STATE = 3 ∧ t.rd UPD.RESULT = 1 ∧ t.upd.erased = true else t.upd.erased = m.upd.erased) ∧
    (∀ a, targetBase x ≤ a → a < targetBase x + targetSize x → t.byte a = (blankByte a).toNat) ∧
    (∀ a, (a < targetBase x ∨ targetBase x + targetSize x ≤ a) → t.byte a = m.byte a) ∧
    m.KeepsRegs (if m.rd UPD.STATE = 2 then [UPD.STATE, UPD.RESULT] else []) t)) ∧
  (∀ sig, s.Runs (.verifyDone sig) (fun m t => t.mem = m.mem ∧ (m.rd UPD.STATE ≠ 5 → m.OnlyRegs [] t) ∧
    (m.rd UPD.STATE = 5 → m.rd UPD.TARGET < 2 →
      let r := m.fwResult (m.rd UPD.TARGET) sig
      if r.1 = 1 then t.rd UPD.STATE = 6 ∧ t.rd UPD.RESULT = 1 ∧ t.upd.verified = true ∧ t.rd UPD.NEW_VER = m.fwVer (m.rd UPD.TARGET)
      else t.rd UPD.STATE = 9 ∧ t.rd UPD.RESULT = r.1 % 2 ^ UPD.RESULT.w ∧ t.upd.verified = m.upd.verified))) ∧
  (s.mod.Room 1 → s.Runs .sessionTimeout (fun m t => t.mem = m.mem ∧ (if m.rd UPD.HOLDER_PORT = 0xFF ∨ m.tick < m.upd.lastTick + 100000 * m.rd UPD.IDLE_TO then m.OnlyRegs [] t
    else t.rd UPD.HOLDER_PORT = 0xFF ∧ t.rd UPD.HOLDER_SLOT = 0xFF ∧ t.rd UPD.RESULT = 0x1D ∧
      m.Reported t 0x06 warn 0x100B [sj (m.rd UPD.HOLDER_PORT)] ∧
      m.KeepsRegs ([UPD.HOLDER_PORT, UPD.HOLDER_SLOT, UPD.STATE, UPD.RESULT] ++ evtFlds 0x06) t)))) ∧
  (∀ (s : State),
  (s.mod.upd.phase = 2 → s.mod.upd.bTick ≤ s.mod.tick → s.Runs .handoverStart (fun m t => t.upd.phase = 3 ∧ t.rd UPD.REGION_OK = 1 ∧
    t.upd.ctl = 0 ∧ t.upd.bTick = m.upd.bTick ∧ t.mem = m.mem ∧ m.OnlyPages (0x06 :: outPages) t)) ∧
  (s.mod.upd.phase = 3 → s.Runs .exportDone (fun m t => t.upd.phase = 4 ∧ t.boot.bank = m.rd UPD.TARGET ∧ t.boot.prevBank = m.boot.bank ∧
    t.pair.w0 = { core := { pc := m.fwEntry (m.rd UPD.TARGET) } } ∧ t.pair.w1 = t.pair.w0 ∧ t.mem = m.mem ∧ m.KeepsRegs [] t) ∧
    (s.mod.upd.bTick + 60 ≤ s.mod.tick → s.Runs .exportTimeout (fun m t => t.upd.phase = 6 ∧ t.rd UPD.RESULT = 0x1A ∧ t.rd UPD.STATE = 9 ∧ t.mem = m.mem ∧
      m.KeepsRegs [UPD.RESULT, UPD.STATE] t)) ∧
    (s.mod.tick < s.mod.upd.bTick + 60 → s.Runs .exportTimeout (fun m t => m.OnlyRegs [] t))) ∧
  (s.mod.upd.phase = 4 →
    let fails := fun m t : Mod => t.upd.fallback = 0x1B ∧ t.rd UPD.RESULT = 0x1B ∧ t.rd UPD.STATE = 9 ∧ t.mem = m.mem ∧
      m.KeepsRegs [UPD.RESULT, UPD.STATE] t
    s.Runs .importOk (fun m t => t.upd.phase = 5 ∧ t.mem = m.mem ∧ m.KeepsRegs [] t) ∧ s.Runs .importFail fails ∧
    (s.mod.upd.bTick + 190 ≤ s.mod.tick → s.Runs .importTimeout fails) ∧
    (s.mod.tick < s.mod.upd.bTick + 190 → s.Runs .importTimeout (fun m t => m.OnlyRegs [] t))) ∧
  (s.mod.upd.phase = 7 → s.Runs .importOk (fun m t => t.upd.phase = 0 ∧ t.rd UPD.HANDOVER = 0 ∧ t.rd PRM.DRAINING = 0 ∧ t.mem = m.mem ∧ m.KeepsRegs [UPD.HANDOVER, PRM.DRAINING] t) ∧
    s.Runs .importFail (fun m t => t.boot.resetDue = 1 ∧ t.mem = m.mem ∧ m.KeepsRegs [] t)) ∧
  s.Runs .ctlReject (fun m t => (t.upd.failed = if m.on UPD.PROBATION then true else m.upd.failed) ∧ t.mem = m.mem ∧ m.KeepsRegs [] t) ∧
  (s.mod.on UPD.PROBATION = true → s.mod.upd.failed = false → s.mod.upd.probTick + 1000000 ≤ s.mod.tick → s.mod.Room 1 → s.Runs .probationPass (fun m t => t.rd UPD.PROBATION = 0 ∧
    t.rd UPD.PROB_LEFT = 0 ∧ t.rd UPD.RESULT = 1 ∧ t.rd BOOT.ACT_BANK = m.boot.bank % 2 ^ BOOT.ACT_BANK.w ∧ t.boot.prevBank = m.boot.bank ∧
    t.boot.onTrial = false ∧ m.Reported t 0x06 info 0x1010 [vl32 (m.rd UPD.NEW_VER)] ∧ t.mem = m.mem ∧ m.OnlyPages [0x05, 0x06, 0x07, 0x08] t)) ∧
  (s.mod.upd.phase = 0 → s.mod.rd UPD.PROBATION = 0 →
    let same := fun m t : Mod => m.OnlyRegs [] t
    s.Runs .handoverStart same ∧ s.Runs .exportDone same ∧ s.Runs .exportTimeout same ∧ s.Runs .importOk same ∧ s.Runs .importFail same ∧
      s.Runs .importTimeout same ∧ s.Runs .ctlReject same ∧ s.Runs .probationPass same))

/-- ISO 14229-1 on the service port: sessions, identification, seed and key, the routines and the download of the holder, each with
its positive response; a source that does not hold the session is refused securityAccessDenied, and every request while another
source holds it busyRepeatRequest. The response codes are presumed (log entry 81), the session timing is free (log entry 82). -/
def Obligations.DiagnosticServicesAnswer : Prop :=
  ∀ (s : State), s.mod.rd UPD.SVC_CTRL < 12 →
  let replies := fun (l : List Nat) (m t : Mod) => t.uds.rsp = l ∧ t.mem = m.mem
  (s.mod.svcOther = true → ∀ (b : Byte) (did : BitVec 16) (seed : BitVec 128),
    s.Runs (.diagnosticSessionControl b) (fun m t => replies [0x7F, 0x10, 0x21] m t ∧ t.uds.prog = m.uds.prog ∧ m.KeepsRegs [] t) ∧
    s.Runs (.ecuReset b) (fun m t => replies [0x7F, 0x11, 0x21] m t ∧ t.boot = m.boot ∧ m.KeepsRegs [] t) ∧
    s.Runs (.readDataByIdentifier did) (fun m t => replies [0x7F, 0x22, 0x21] m t ∧ m.KeepsRegs [] t) ∧
    s.Runs (.requestSeed seed) (fun m t => replies [0x7F, 0x27, 0x21] m t ∧ t.uds.seed = m.uds.seed ∧ m.KeepsRegs [] t) ∧
    s.Runs (.testerPresent b) (fun m t => replies [0x7F, 0x3E, 0x21] m t ∧ t.upd = m.upd ∧ m.KeepsRegs [] t)) ∧
  (s.mod.svcOther = false → s.Runs (.diagnosticSessionControl 2) (fun m t => replies ([0x50, 2] ++ beBytes 4 Config.udsTiming) m t ∧ t.uds.prog = true ∧ m.KeepsRegs [] t)) ∧
  (s.mod.svcOther = false → s.mod.svcHolds = false → s.Runs (.diagnosticSessionControl 1) (fun m t => replies ([0x50, 1] ++ beBytes 4 Config.udsTiming) m t ∧ t.uds.prog = false ∧
    m.KeepsRegs [] t)) ∧
  (s.mod.svcOther = false → s.Runs (.ecuReset 1) (fun m t => replies [0x51, 1] m t ∧ t.boot.resetDue ≠ 0 ∧ m.OnlyPages outPages t) ∧
    s.Runs (.readDataByIdentifier 0xFD10) (fun m t => replies [0x62, 0xFD, 0x10, m.rd UPD.HOLDER_PORT, m.rd UPD.HOLDER_SLOT] m t ∧ m.KeepsRegs [] t)) ∧
  (∀ seed : BitVec 128, s.mod.svcOther = false → s.mod.uds.prog = true → s.Runs (.requestSeed seed) (fun m t =>
    replies ([0x67, 0x11] ++ beBytes 16 seed.toNat) m t ∧ t.uds.seed = some (beBytes 16 seed.toNat) ∧ m.KeepsRegs [] t)) ∧
  (∀ k : Fin 4, s.mod.uds.seed.isSome = true → s.mod.keyUsable k = true → s.Runs (.sendKey k true) (fun m t =>
    t.upd.opens = m.upd.opens ++ [⟨4 + m.rd UPD.SVC_CTRL, 0xFF, none⟩] ∧ t.uds.seed = none ∧ t.mem = m.mem ∧ m.KeepsRegs [] t)) ∧
  (s.mod.svcOther = false → s.Runs (.testerPresent 0) (fun m t => replies [0x7E, 0] m t ∧
    (m.svcHolds = true → t.upd.lastTick = m.tick) ∧ m.KeepsRegs [] t)) ∧
  (s.mod.svcOther = false → s.mod.svcHolds = false → s.Runs .requestTransferExit (fun m t => replies [0x7F, 0x37, 0x33] m t ∧ m.KeepsRegs [] t)) ∧
  (s.mod.session = true → s.mod.svcHolds = true → s.mod.rd UPD.PROBATION = 0 → s.mod.upd.phase = 0 →
    s.Runs (.routineControl 1 0xFF00 [0] false) (fun m t => replies [0x71, 1, 0xFF, 0] m t ∧ t.rd UPD.STATE = 2 ∧
      t.rd UPD.TARGET = (1 - m.rd BOOT.ACT_BANK) % 2 ^ UPD.TARGET.w ∧ m.KeepsRegs [UPD.STATE, UPD.TARGET, UPD.BLOCKS, UPD.NEW_VER] t) ∧
    (∀ size : Word, size ≠ 0 → s.Runs (.requestDownload 0x44 (BitVec.ofNat 32 (targetBase (s.mod.inactive 0))) size) (fun m t =>
      replies [0x74, 0x20, 0x04, 0x02] m t ∧ t.uds.download = some (0, 1) ∧ m.KeepsRegs [] t)) ∧
    (∀ (b : Byte) pos c, s.mod.uds.download = some (pos, c) → pos < 0x400000 → c < 256 → s.mod.upd.erased = true → s.mod.rd UPD.STATE = 4 →
      s.mod.rd UPD.TARGET = s.mod.inactive 0 → s.mod.byte (targetBase (s.mod.inactive 0) + pos) = 0xFF → s.mod.rd BOOT.ACT_BANK ≤ 1 →
      s.Runs (.transferData (BitVec.ofNat 8 c) [b]) (fun m t => t.uds.rsp = [0x76, c] ∧ t.uds.download = some (pos + 1, (c + 1) % 256) ∧
        t.byte (targetBase (m.inactive 0) + pos) = b.toNat ∧
        (∀ a, a ≠ targetBase (m.inactive 0) + pos → t.byte a = m.byte a) ∧ m.KeepsRegs [UPD.STATE, UPD.RESULT, UPD.BLOCKS] t)) ∧
    (s.mod.uds.download.isSome = true → s.Runs .requestTransferExit (fun m t => replies [0x77] m t ∧ t.uds.download = none ∧ m.KeepsRegs [] t)))
end

