-- ==== Sys2Proof/Laws/Cells.lean ====
section
/-! SUPPORT. The sparse map: a read after a write, and that a write keeps the canonical form. -/
namespace Sys2Proof

variable {α : Type}

@[simp] theorem SMap.find?_nil (k : Nat) : SMap.find? ([] : SMap α) k = none := rfl

theorem SMap.find?_cons (k : Nat) (v : α) (m : SMap α) (q : Nat) :
    SMap.find? ((k, v) :: m) q = if k = q then some v else SMap.find? m q := rfl

theorem SMap.find?_put_same (m : SMap α) (k : Nat) (v : α) : SMap.find? (SMap.put m k v) k = some v := by
  induction m with
  | nil => simp [SMap.put, SMap.find?]
  | cons e m ih =>
    obtain ⟨j, w⟩ := e
    simp only [SMap.put]
    split
    · simp [SMap.find?]
    · split
      · simp [SMap.find?]
      · rename_i h
        simp [SMap.find?, Ne.symm h, ih]

theorem SMap.find?_put_other (m : SMap α) (k j : Nat) (v : α) (h : k ≠ j) : SMap.find? (SMap.put m k v) j = SMap.find? m j := by
  induction m with
  | nil => simp [SMap.put, SMap.find?, h]
  | cons e m ih =>
    obtain ⟨i, w⟩ := e
    simp only [SMap.put]
    split
    · simp [SMap.find?, h]
    · split
      · rename_i hk
        subst hk
        simp [SMap.find?, h]
      · simp [SMap.find?, ih]

theorem SMap.find?_del_same (m : SMap α) (k : Nat) : SMap.find? (SMap.del m k) k = none := by
  induction m with
  | nil => rfl
  | cons e m ih =>
    obtain ⟨j, w⟩ := e
    by_cases h : j = k
    · simpa [SMap.del, h] using ih
    · simpa [SMap.del, SMap.find?, h] using ih

theorem SMap.find?_del_other (m : SMap α) (k j : Nat) (h : k ≠ j) : SMap.find? (SMap.del m k) j = SMap.find? m j := by
  induction m with
  | nil => rfl
  | cons e m ih =>
    obtain ⟨i, w⟩ := e
    by_cases hk : i = k
    · subst hk
      simpa [SMap.del, SMap.find?, h] using ih
    · by_cases hj : i = j
      · simp [SMap.del, SMap.find?, hj, Ne.symm h]
      · simpa [SMap.del, SMap.find?, hk, hj] using ih

/-- A read after a write to the same key gives the value written. -/
@[simp] theorem SMap.get_set_same [DecidableEq α] (d : α) (m : SMap α) (k : Nat) (v : α) : SMap.get d (SMap.set d m k v) k = v := by
  unfold SMap.set SMap.get
  split
  · simp [SMap.find?_del_same, *]
  · simp [SMap.find?_put_same]

/-- A write leaves every other key alone, whatever default the reader uses. -/
theorem SMap.get_set_other [DecidableEq α] (d e : α) (m : SMap α) (k j : Nat) (v : α) (h : k ≠ j) :
    SMap.get e (SMap.set d m k v) j = SMap.get e m j := by
  unfold SMap.set SMap.get
  split
  · rw [SMap.find?_del_other _ _ _ h]
  · rw [SMap.find?_put_other _ _ _ _ h]

theorem SMap.mem_put (m : SMap α) (k : Nat) (v : α) (e : Nat × α) (h : e ∈ SMap.put m k v) : e = (k, v) ∨ e ∈ m := by
  induction m with
  | nil => simpa [SMap.put] using h
  | cons x m ih =>
    obtain ⟨j, w⟩ := x
    simp only [SMap.put] at h
    split at h
    · simpa using h
    · split at h
      · rcases List.mem_cons.1 h with h | h
        · exact .inl h
        · exact .inr (List.mem_cons_of_mem _ h)
      · rcases List.mem_cons.1 h with h | h
        · exact .inr (by simp [h])
        · rcases ih h with h | h
          · exact .inl h
          · exact .inr (List.mem_cons_of_mem _ h)

theorem SMap.pairwise_put (m : SMap α) (k : Nat) (v : α) (h : (m.map (·.1)).Pairwise (· < ·)) :
    ((SMap.put m k v).map (·.1)).Pairwise (· < ·) := by
  induction m with
  | nil => simp [SMap.put]
  | cons e m ih =>
    obtain ⟨j, w⟩ := e
    simp only [List.map_cons, List.pairwise_cons] at h
    simp only [SMap.put]
    split
    · rename_i hk
      simp only [List.map_cons, List.pairwise_cons]
      refine ⟨?_, h.1, h.2⟩
      intro a ha
      rcases List.mem_cons.1 ha with ha | ha
      · omega
      · have := h.1 a ha
        omega
    · split
      · rename_i hk
        simp only [List.map_cons, List.pairwise_cons]
        exact ⟨fun a ha => hk ▸ h.1 a ha, h.2⟩
      · rename_i h1 h2
        simp only [List.map_cons, List.pairwise_cons]
        refine ⟨?_, ih h.2⟩
        intro a ha
        obtain ⟨x, hx, rfl⟩ := List.mem_map.1 ha
        rcases SMap.mem_put _ _ _ _ hx with rfl | hx
        · show j < k
          omega
        · exact h.1 _ (List.mem_map_of_mem hx)

/-- A write keeps the canonical form. -/
theorem SMap.wf_set [DecidableEq α] (d : α) (m : SMap α) (k : Nat) (v : α) (h : SMap.wf d m = true) : SMap.wf d (SMap.set d m k v) = true := by
  simp only [SMap.wf, Bool.and_eq_true, decide_eq_true_eq, List.all_eq_true] at *
  obtain ⟨hp, ha⟩ := h
  unfold SMap.set
  split
  · refine ⟨?_, fun x hx => ha x ((List.mem_filter.1 hx).1)⟩
    exact hp.sublist (List.Sublist.map _ List.filter_sublist)
  · rename_i hv
    refine ⟨SMap.pairwise_put _ _ _ hp, fun x hx => ?_⟩
    rcases SMap.mem_put _ _ _ _ hx with rfl | hx
    · simpa using hv
    · exact ha x hx

end Sys2Proof
end

