-- ==== Sys2Proof/Laws/State.lean ====
section
/-! SUPPORT. What each update of the block leaves alone: one lemma for each part of the state and each update. -/
namespace Sys2Proof.Machine.Mod

@[simp] theorem wr_mem (m : Mod) (f : Fld) (v : Nat) : (m.wr f v).mem = m.mem := rfl
@[simp] theorem wr_evt (m : Mod) (f : Fld) (v : Nat) : (m.wr f v).evt = m.evt := rfl
@[simp] theorem wr_frm (m : Mod) (f : Fld) (v : Nat) : (m.wr f v).frm = m.frm := rfl
@[simp] theorem wr_prm (m : Mod) (f : Fld) (v : Nat) : (m.wr f v).prm = m.prm := rfl
@[simp] theorem wr_chans (m : Mod) (f : Fld) (v : Nat) : (m.wr f v).chans = m.chans := rfl
@[simp] theorem wr_banks (m : Mod) (f : Fld) (v : Nat) : (m.wr f v).banks = m.banks := rfl
@[simp] theorem wr_quads (m : Mod) (f : Fld) (v : Nat) : (m.wr f v).quads = m.quads := rfl
@[simp] theorem wr_dia (m : Mod) (f : Fld) (v : Nat) : (m.wr f v).dia = m.dia := rfl
@[simp] theorem wr_brs (m : Mod) (f : Fld) (v : Nat) : (m.wr f v).brs = m.brs := rfl
@[simp] theorem wr_qds (m : Mod) (f : Fld) (v : Nat) : (m.wr f v).qds = m.qds := rfl
@[simp] theorem wr_pair (m : Mod) (f : Fld) (v : Nat) : (m.wr f v).pair = m.pair := rfl
@[simp] theorem wr_watches (m : Mod) (f : Fld) (v : Nat) : (m.wr f v).watches = m.watches := rfl
@[simp] theorem wr_sinks (m : Mod) (f : Fld) (v : Nat) : (m.wr f v).sinks = m.sinks := rfl
@[simp] theorem wr_led (m : Mod) (f : Fld) (v : Nat) : (m.wr f v).led = m.led := rfl
@[simp] theorem wr_engs (m : Mod) (f : Fld) (v : Nat) : (m.wr f v).engs = m.engs := rfl
@[simp] theorem wr_top (m : Mod) (f : Fld) (v : Nat) : (m.wr f v).top = m.top := rfl
@[simp] theorem wr_clr (m : Mod) (f : Fld) (v : Nat) : (m.wr f v).clr = m.clr := rfl
@[simp] theorem wr_lss (m : Mod) (f : Fld) (v : Nat) : (m.wr f v).lss = m.lss := rfl
@[simp] theorem wr_cis (m : Mod) (f : Fld) (v : Nat) : (m.wr f v).cis = m.cis := rfl
@[simp] theorem wr_fio (m : Mod) (f : Fld) (v : Nat) : (m.wr f v).fio = m.fio := rfl
@[simp] theorem wr_img (m : Mod) (f : Fld) (v : Nat) : (m.wr f v).img = m.img := rfl
@[simp] theorem wr_cans (m : Mod) (f : Fld) (v : Nat) : (m.wr f v).cans = m.cans := rfl
@[simp] theorem wr_trxs (m : Mod) (f : Fld) (v : Nat) : (m.wr f v).trxs = m.trxs := rfl
@[simp] theorem wr_lins (m : Mod) (f : Fld) (v : Nat) : (m.wr f v).lins = m.lins := rfl
@[simp] theorem wr_t1s (m : Mod) (f : Fld) (v : Nat) : (m.wr f v).t1s = m.t1s := rfl
@[simp] theorem wr_nms (m : Mod) (f : Fld) (v : Nat) : (m.wr f v).nms = m.nms := rfl
@[simp] theorem wr_vnk (m : Mod) (f : Fld) (v : Nat) : (m.wr f v).vnk = m.vnk := rfl
@[simp] theorem wr_bbs (m : Mod) (f : Fld) (v : Nat) : (m.wr f v).bbs = m.bbs := rfl
@[simp] theorem wr_ets (m : Mod) (f : Fld) (v : Nat) : (m.wr f v).ets = m.ets := rfl
@[simp] theorem wr_pwr (m : Mod) (f : Fld) (v : Nat) : (m.wr f v).pwr = m.pwr := rfl
@[simp] theorem wr_boot (m : Mod) (f : Fld) (v : Nat) : (m.wr f v).boot = m.boot := rfl
@[simp] theorem wr_sec (m : Mod) (f : Fld) (v : Nat) : (m.wr f v).sec = m.sec := rfl
@[simp] theorem wr_uds (m : Mod) (f : Fld) (v : Nat) : (m.wr f v).uds = m.uds := rfl
@[simp] theorem wr_upd (m : Mod) (f : Fld) (v : Nat) : (m.wr f v).upd = m.upd := rfl
@[simp] theorem wr_poolUsed (m : Mod) (f : Fld) (v : Nat) : (m.wr f v).poolUsed = m.poolUsed := rfl

@[simp] theorem wrB_mem (m : Mod) (f : Fld) (v : Bool) : (m.wrB f v).mem = m.mem := rfl
@[simp] theorem wrB_evt (m : Mod) (f : Fld) (v : Bool) : (m.wrB f v).evt = m.evt := rfl
@[simp] theorem wrB_frm (m : Mod) (f : Fld) (v : Bool) : (m.wrB f v).frm = m.frm := rfl
@[simp] theorem wrB_prm (m : Mod) (f : Fld) (v : Bool) : (m.wrB f v).prm = m.prm := rfl
@[simp] theorem wrB_chans (m : Mod) (f : Fld) (v : Bool) : (m.wrB f v).chans = m.chans := rfl
@[simp] theorem wrB_banks (m : Mod) (f : Fld) (v : Bool) : (m.wrB f v).banks = m.banks := rfl
@[simp] theorem wrB_quads (m : Mod) (f : Fld) (v : Bool) : (m.wrB f v).quads = m.quads := rfl
@[simp] theorem wrB_dia (m : Mod) (f : Fld) (v : Bool) : (m.wrB f v).dia = m.dia := rfl
@[simp] theorem wrB_brs (m : Mod) (f : Fld) (v : Bool) : (m.wrB f v).brs = m.brs := rfl
@[simp] theorem wrB_qds (m : Mod) (f : Fld) (v : Bool) : (m.wrB f v).qds = m.qds := rfl
@[simp] theorem wrB_pair (m : Mod) (f : Fld) (v : Bool) : (m.wrB f v).pair = m.pair := rfl
@[simp] theorem wrB_watches (m : Mod) (f : Fld) (v : Bool) : (m.wrB f v).watches = m.watches := rfl
@[simp] theorem wrB_sinks (m : Mod) (f : Fld) (v : Bool) : (m.wrB f v).sinks = m.sinks := rfl
@[simp] theorem wrB_led (m : Mod) (f : Fld) (v : Bool) : (m.wrB f v).led = m.led := rfl
@[simp] theorem wrB_engs (m : Mod) (f : Fld) (v : Bool) : (m.wrB f v).engs = m.engs := rfl
@[simp] theorem wrB_top (m : Mod) (f : Fld) (v : Bool) : (m.wrB f v).top = m.top := rfl
@[simp] theorem wrB_clr (m : Mod) (f : Fld) (v : Bool) : (m.wrB f v).clr = m.clr := rfl
@[simp] theorem wrB_lss (m : Mod) (f : Fld) (v : Bool) : (m.wrB f v).lss = m.lss := rfl
@[simp] theorem wrB_cis (m : Mod) (f : Fld) (v : Bool) : (m.wrB f v).cis = m.cis := rfl
@[simp] theorem wrB_fio (m : Mod) (f : Fld) (v : Bool) : (m.wrB f v).fio = m.fio := rfl
@[simp] theorem wrB_img (m : Mod) (f : Fld) (v : Bool) : (m.wrB f v).img = m.img := rfl
@[simp] theorem wrB_cans (m : Mod) (f : Fld) (v : Bool) : (m.wrB f v).cans = m.cans := rfl
@[simp] theorem wrB_trxs (m : Mod) (f : Fld) (v : Bool) : (m.wrB f v).trxs = m.trxs := rfl
@[simp] theorem wrB_lins (m : Mod) (f : Fld) (v : Bool) : (m.wrB f v).lins = m.lins := rfl
@[simp] theorem wrB_t1s (m : Mod) (f : Fld) (v : Bool) : (m.wrB f v).t1s = m.t1s := rfl
@[simp] theorem wrB_nms (m : Mod) (f : Fld) (v : Bool) : (m.wrB f v).nms = m.nms := rfl
@[simp] theorem wrB_vnk (m : Mod) (f : Fld) (v : Bool) : (m.wrB f v).vnk = m.vnk := rfl
@[simp] theorem wrB_bbs (m : Mod) (f : Fld) (v : Bool) : (m.wrB f v).bbs = m.bbs := rfl
@[simp] theorem wrB_ets (m : Mod) (f : Fld) (v : Bool) : (m.wrB f v).ets = m.ets := rfl
@[simp] theorem wrB_pwr (m : Mod) (f : Fld) (v : Bool) : (m.wrB f v).pwr = m.pwr := rfl
@[simp] theorem wrB_boot (m : Mod) (f : Fld) (v : Bool) : (m.wrB f v).boot = m.boot := rfl
@[simp] theorem wrB_sec (m : Mod) (f : Fld) (v : Bool) : (m.wrB f v).sec = m.sec := rfl
@[simp] theorem wrB_uds (m : Mod) (f : Fld) (v : Bool) : (m.wrB f v).uds = m.uds := rfl
@[simp] theorem wrB_upd (m : Mod) (f : Fld) (v : Bool) : (m.wrB f v).upd = m.upd := rfl
@[simp] theorem wrB_poolUsed (m : Mod) (f : Fld) (v : Bool) : (m.wrB f v).poolUsed = m.poolUsed := rfl

@[simp] theorem add_mem (m : Mod) (f : Fld) (v : Nat) : (m.add f v).mem = m.mem := rfl
@[simp] theorem add_evt (m : Mod) (f : Fld) (v : Nat) : (m.add f v).evt = m.evt := rfl
@[simp] theorem add_frm (m : Mod) (f : Fld) (v : Nat) : (m.add f v).frm = m.frm := rfl
@[simp] theorem add_prm (m : Mod) (f : Fld) (v : Nat) : (m.add f v).prm = m.prm := rfl
@[simp] theorem add_chans (m : Mod) (f : Fld) (v : Nat) : (m.add f v).chans = m.chans := rfl
@[simp] theorem add_banks (m : Mod) (f : Fld) (v : Nat) : (m.add f v).banks = m.banks := rfl
@[simp] theorem add_quads (m : Mod) (f : Fld) (v : Nat) : (m.add f v).quads = m.quads := rfl
@[simp] theorem add_dia (m : Mod) (f : Fld) (v : Nat) : (m.add f v).dia = m.dia := rfl
@[simp] theorem add_brs (m : Mod) (f : Fld) (v : Nat) : (m.add f v).brs = m.brs := rfl
@[simp] theorem add_qds (m : Mod) (f : Fld) (v : Nat) : (m.add f v).qds = m.qds := rfl
@[simp] theorem add_pair (m : Mod) (f : Fld) (v : Nat) : (m.add f v).pair = m.pair := rfl
@[simp] theorem add_watches (m : Mod) (f : Fld) (v : Nat) : (m.add f v).watches = m.watches := rfl
@[simp] theorem add_sinks (m : Mod) (f : Fld) (v : Nat) : (m.add f v).sinks = m.sinks := rfl
@[simp] theorem add_led (m : Mod) (f : Fld) (v : Nat) : (m.add f v).led = m.led := rfl
@[simp] theorem add_engs (m : Mod) (f : Fld) (v : Nat) : (m.add f v).engs = m.engs := rfl
@[simp] theorem add_top (m : Mod) (f : Fld) (v : Nat) : (m.add f v).top = m.top := rfl
@[simp] theorem add_clr (m : Mod) (f : Fld) (v : Nat) : (m.add f v).clr = m.clr := rfl
@[simp] theorem add_lss (m : Mod) (f : Fld) (v : Nat) : (m.add f v).lss = m.lss := rfl
@[simp] theorem add_cis (m : Mod) (f : Fld) (v : Nat) : (m.add f v).cis = m.cis := rfl
@[simp] theorem add_fio (m : Mod) (f : Fld) (v : Nat) : (m.add f v).fio = m.fio := rfl
@[simp] theorem add_img (m : Mod) (f : Fld) (v : Nat) : (m.add f v).img = m.img := rfl
@[simp] theorem add_cans (m : Mod) (f : Fld) (v : Nat) : (m.add f v).cans = m.cans := rfl
@[simp] theorem add_trxs (m : Mod) (f : Fld) (v : Nat) : (m.add f v).trxs = m.trxs := rfl
@[simp] theorem add_lins (m : Mod) (f : Fld) (v : Nat) : (m.add f v).lins = m.lins := rfl
@[simp] theorem add_t1s (m : Mod) (f : Fld) (v : Nat) : (m.add f v).t1s = m.t1s := rfl
@[simp] theorem add_nms (m : Mod) (f : Fld) (v : Nat) : (m.add f v).nms = m.nms := rfl
@[simp] theorem add_vnk (m : Mod) (f : Fld) (v : Nat) : (m.add f v).vnk = m.vnk := rfl
@[simp] theorem add_bbs (m : Mod) (f : Fld) (v : Nat) : (m.add f v).bbs = m.bbs := rfl
@[simp] theorem add_ets (m : Mod) (f : Fld) (v : Nat) : (m.add f v).ets = m.ets := rfl
@[simp] theorem add_pwr (m : Mod) (f : Fld) (v : Nat) : (m.add f v).pwr = m.pwr := rfl
@[simp] theorem add_boot (m : Mod) (f : Fld) (v : Nat) : (m.add f v).boot = m.boot := rfl
@[simp] theorem add_sec (m : Mod) (f : Fld) (v : Nat) : (m.add f v).sec = m.sec := rfl
@[simp] theorem add_uds (m : Mod) (f : Fld) (v : Nat) : (m.add f v).uds = m.uds := rfl
@[simp] theorem add_upd (m : Mod) (f : Fld) (v : Nat) : (m.add f v).upd = m.upd := rfl
@[simp] theorem add_poolUsed (m : Mod) (f : Fld) (v : Nat) : (m.add f v).poolUsed = m.poolUsed := rfl

@[simp] theorem inc_mem (m : Mod) (f : Fld) : (m.inc f).mem = m.mem := rfl
@[simp] theorem inc_evt (m : Mod) (f : Fld) : (m.inc f).evt = m.evt := rfl
@[simp] theorem inc_frm (m : Mod) (f : Fld) : (m.inc f).frm = m.frm := rfl
@[simp] theorem inc_prm (m : Mod) (f : Fld) : (m.inc f).prm = m.prm := rfl
@[simp] theorem inc_chans (m : Mod) (f : Fld) : (m.inc f).chans = m.chans := rfl
@[simp] theorem inc_banks (m : Mod) (f : Fld) : (m.inc f).banks = m.banks := rfl
@[simp] theorem inc_quads (m : Mod) (f : Fld) : (m.inc f).quads = m.quads := rfl
@[simp] theorem inc_dia (m : Mod) (f : Fld) : (m.inc f).dia = m.dia := rfl
@[simp] theorem inc_brs (m : Mod) (f : Fld) : (m.inc f).brs = m.brs := rfl
@[simp] theorem inc_qds (m : Mod) (f : Fld) : (m.inc f).qds = m.qds := rfl
@[simp] theorem inc_pair (m : Mod) (f : Fld) : (m.inc f).pair = m.pair := rfl
@[simp] theorem inc_watches (m : Mod) (f : Fld) : (m.inc f).watches = m.watches := rfl
@[simp] theorem inc_sinks (m : Mod) (f : Fld) : (m.inc f).sinks = m.sinks := rfl
@[simp] theorem inc_led (m : Mod) (f : Fld) : (m.inc f).led = m.led := rfl
@[simp] theorem inc_engs (m : Mod) (f : Fld) : (m.inc f).engs = m.engs := rfl
@[simp] theorem inc_top (m : Mod) (f : Fld) : (m.inc f).top = m.top := rfl
@[simp] theorem inc_clr (m : Mod) (f : Fld) : (m.inc f).clr = m.clr := rfl
@[simp] theorem inc_lss (m : Mod) (f : Fld) : (m.inc f).lss = m.lss := rfl
@[simp] theorem inc_cis (m : Mod) (f : Fld) : (m.inc f).cis = m.cis := rfl
@[simp] theorem inc_fio (m : Mod) (f : Fld) : (m.inc f).fio = m.fio := rfl
@[simp] theorem inc_img (m : Mod) (f : Fld) : (m.inc f).img = m.img := rfl
@[simp] theorem inc_cans (m : Mod) (f : Fld) : (m.inc f).cans = m.cans := rfl
@[simp] theorem inc_trxs (m : Mod) (f : Fld) : (m.inc f).trxs = m.trxs := rfl
@[simp] theorem inc_lins (m : Mod) (f : Fld) : (m.inc f).lins = m.lins := rfl
@[simp] theorem inc_t1s (m : Mod) (f : Fld) : (m.inc f).t1s = m.t1s := rfl
@[simp] theorem inc_nms (m : Mod) (f : Fld) : (m.inc f).nms = m.nms := rfl
@[simp] theorem inc_vnk (m : Mod) (f : Fld) : (m.inc f).vnk = m.vnk := rfl
@[simp] theorem inc_bbs (m : Mod) (f : Fld) : (m.inc f).bbs = m.bbs := rfl
@[simp] theorem inc_ets (m : Mod) (f : Fld) : (m.inc f).ets = m.ets := rfl
@[simp] theorem inc_pwr (m : Mod) (f : Fld) : (m.inc f).pwr = m.pwr := rfl
@[simp] theorem inc_boot (m : Mod) (f : Fld) : (m.inc f).boot = m.boot := rfl
@[simp] theorem inc_sec (m : Mod) (f : Fld) : (m.inc f).sec = m.sec := rfl
@[simp] theorem inc_uds (m : Mod) (f : Fld) : (m.inc f).uds = m.uds := rfl
@[simp] theorem inc_upd (m : Mod) (f : Fld) : (m.inc f).upd = m.upd := rfl
@[simp] theorem inc_poolUsed (m : Mod) (f : Fld) : (m.inc f).poolUsed = m.poolUsed := rfl

@[simp] theorem sat_mem (m : Mod) (f : Fld) (v : Nat) : (m.sat f v).mem = m.mem := rfl
@[simp] theorem sat_evt (m : Mod) (f : Fld) (v : Nat) : (m.sat f v).evt = m.evt := rfl
@[simp] theorem sat_frm (m : Mod) (f : Fld) (v : Nat) : (m.sat f v).frm = m.frm := rfl
@[simp] theorem sat_prm (m : Mod) (f : Fld) (v : Nat) : (m.sat f v).prm = m.prm := rfl
@[simp] theorem sat_chans (m : Mod) (f : Fld) (v : Nat) : (m.sat f v).chans = m.chans := rfl
@[simp] theorem sat_banks (m : Mod) (f : Fld) (v : Nat) : (m.sat f v).banks = m.banks := rfl
@[simp] theorem sat_quads (m : Mod) (f : Fld) (v : Nat) : (m.sat f v).quads = m.quads := rfl
@[simp] theorem sat_dia (m : Mod) (f : Fld) (v : Nat) : (m.sat f v).dia = m.dia := rfl
@[simp] theorem sat_brs (m : Mod) (f : Fld) (v : Nat) : (m.sat f v).brs = m.brs := rfl
@[simp] theorem sat_qds (m : Mod) (f : Fld) (v : Nat) : (m.sat f v).qds = m.qds := rfl
@[simp] theorem sat_pair (m : Mod) (f : Fld) (v : Nat) : (m.sat f v).pair = m.pair := rfl
@[simp] theorem sat_watches (m : Mod) (f : Fld) (v : Nat) : (m.sat f v).watches = m.watches := rfl
@[simp] theorem sat_sinks (m : Mod) (f : Fld) (v : Nat) : (m.sat f v).sinks = m.sinks := rfl
@[simp] theorem sat_led (m : Mod) (f : Fld) (v : Nat) : (m.sat f v).led = m.led := rfl
@[simp] theorem sat_engs (m : Mod) (f : Fld) (v : Nat) : (m.sat f v).engs = m.engs := rfl
@[simp] theorem sat_top (m : Mod) (f : Fld) (v : Nat) : (m.sat f v).top = m.top := rfl
@[simp] theorem sat_clr (m : Mod) (f : Fld) (v : Nat) : (m.sat f v).clr = m.clr := rfl
@[simp] theorem sat_lss (m : Mod) (f : Fld) (v : Nat) : (m.sat f v).lss = m.lss := rfl
@[simp] theorem sat_cis (m : Mod) (f : Fld) (v : Nat) : (m.sat f v).cis = m.cis := rfl
@[simp] theorem sat_fio (m : Mod) (f : Fld) (v : Nat) : (m.sat f v).fio = m.fio := rfl
@[simp] theorem sat_img (m : Mod) (f : Fld) (v : Nat) : (m.sat f v).img = m.img := rfl
@[simp] theorem sat_cans (m : Mod) (f : Fld) (v : Nat) : (m.sat f v).cans = m.cans := rfl
@[simp] theorem sat_trxs (m : Mod) (f : Fld) (v : Nat) : (m.sat f v).trxs = m.trxs := rfl
@[simp] theorem sat_lins (m : Mod) (f : Fld) (v : Nat) : (m.sat f v).lins = m.lins := rfl
@[simp] theorem sat_t1s (m : Mod) (f : Fld) (v : Nat) : (m.sat f v).t1s = m.t1s := rfl
@[simp] theorem sat_nms (m : Mod) (f : Fld) (v : Nat) : (m.sat f v).nms = m.nms := rfl
@[simp] theorem sat_vnk (m : Mod) (f : Fld) (v : Nat) : (m.sat f v).vnk = m.vnk := rfl
@[simp] theorem sat_bbs (m : Mod) (f : Fld) (v : Nat) : (m.sat f v).bbs = m.bbs := rfl
@[simp] theorem sat_ets (m : Mod) (f : Fld) (v : Nat) : (m.sat f v).ets = m.ets := rfl
@[simp] theorem sat_pwr (m : Mod) (f : Fld) (v : Nat) : (m.sat f v).pwr = m.pwr := rfl
@[simp] theorem sat_boot (m : Mod) (f : Fld) (v : Nat) : (m.sat f v).boot = m.boot := rfl
@[simp] theorem sat_sec (m : Mod) (f : Fld) (v : Nat) : (m.sat f v).sec = m.sec := rfl
@[simp] theorem sat_uds (m : Mod) (f : Fld) (v : Nat) : (m.sat f v).uds = m.uds := rfl
@[simp] theorem sat_upd (m : Mod) (f : Fld) (v : Nat) : (m.sat f v).upd = m.upd := rfl
@[simp] theorem sat_poolUsed (m : Mod) (f : Fld) (v : Nat) : (m.sat f v).poolUsed = m.poolUsed := rfl

@[simp] theorem setByte_regs (m : Mod) (a v : Nat) : (m.setByte a v).regs = m.regs := rfl
@[simp] theorem setByte_evt (m : Mod) (a v : Nat) : (m.setByte a v).evt = m.evt := rfl
@[simp] theorem setByte_frm (m : Mod) (a v : Nat) : (m.setByte a v).frm = m.frm := rfl
@[simp] theorem setByte_prm (m : Mod) (a v : Nat) : (m.setByte a v).prm = m.prm := rfl
@[simp] theorem setByte_chans (m : Mod) (a v : Nat) : (m.setByte a v).chans = m.chans := rfl
@[simp] theorem setByte_banks (m : Mod) (a v : Nat) : (m.setByte a v).banks = m.banks := rfl
@[simp] theorem setByte_quads (m : Mod) (a v : Nat) : (m.setByte a v).quads = m.quads := rfl
@[simp] theorem setByte_dia (m : Mod) (a v : Nat) : (m.setByte a v).dia = m.dia := rfl
@[simp] theorem setByte_brs (m : Mod) (a v : Nat) : (m.setByte a v).brs = m.brs := rfl
@[simp] theorem setByte_qds (m : Mod) (a v : Nat) : (m.setByte a v).qds = m.qds := rfl
@[simp] theorem setByte_pair (m : Mod) (a v : Nat) : (m.setByte a v).pair = m.pair := rfl
@[simp] theorem setByte_watches (m : Mod) (a v : Nat) : (m.setByte a v).watches = m.watches := rfl
@[simp] theorem setByte_sinks (m : Mod) (a v : Nat) : (m.setByte a v).sinks = m.sinks := rfl
@[simp] theorem setByte_led (m : Mod) (a v : Nat) : (m.setByte a v).led = m.led := rfl
@[simp] theorem setByte_engs (m : Mod) (a v : Nat) : (m.setByte a v).engs = m.engs := rfl
@[simp] theorem setByte_top (m : Mod) (a v : Nat) : (m.setByte a v).top = m.top := rfl
@[simp] theorem setByte_clr (m : Mod) (a v : Nat) : (m.setByte a v).clr = m.clr := rfl
@[simp] theorem setByte_lss (m : Mod) (a v : Nat) : (m.setByte a v).lss = m.lss := rfl
@[simp] theorem setByte_cis (m : Mod) (a v : Nat) : (m.setByte a v).cis = m.cis := rfl
@[simp] theorem setByte_fio (m : Mod) (a v : Nat) : (m.setByte a v).fio = m.fio := rfl
@[simp] theorem setByte_img (m : Mod) (a v : Nat) : (m.setByte a v).img = m.img := rfl
@[simp] theorem setByte_cans (m : Mod) (a v : Nat) : (m.setByte a v).cans = m.cans := rfl
@[simp] theorem setByte_trxs (m : Mod) (a v : Nat) : (m.setByte a v).trxs = m.trxs := rfl
@[simp] theorem setByte_lins (m : Mod) (a v : Nat) : (m.setByte a v).lins = m.lins := rfl
@[simp] theorem setByte_t1s (m : Mod) (a v : Nat) : (m.setByte a v).t1s = m.t1s := rfl
@[simp] theorem setByte_nms (m : Mod) (a v : Nat) : (m.setByte a v).nms = m.nms := rfl
@[simp] theorem setByte_vnk (m : Mod) (a v : Nat) : (m.setByte a v).vnk = m.vnk := rfl
@[simp] theorem setByte_bbs (m : Mod) (a v : Nat) : (m.setByte a v).bbs = m.bbs := rfl
@[simp] theorem setByte_ets (m : Mod) (a v : Nat) : (m.setByte a v).ets = m.ets := rfl
@[simp] theorem setByte_pwr (m : Mod) (a v : Nat) : (m.setByte a v).pwr = m.pwr := rfl
@[simp] theorem setByte_boot (m : Mod) (a v : Nat) : (m.setByte a v).boot = m.boot := rfl
@[simp] theorem setByte_sec (m : Mod) (a v : Nat) : (m.setByte a v).sec = m.sec := rfl
@[simp] theorem setByte_uds (m : Mod) (a v : Nat) : (m.setByte a v).uds = m.uds := rfl
@[simp] theorem setByte_upd (m : Mod) (a v : Nat) : (m.setByte a v).upd = m.upd := rfl
@[simp] theorem setByte_poolUsed (m : Mod) (a v : Nat) : (m.setByte a v).poolUsed = m.poolUsed := rfl

@[simp] theorem onEvt_regs (m : Mod) (f : EvtX → EvtX) : (m.onEvt f).regs = m.regs := rfl
@[simp] theorem onEvt_mem (m : Mod) (f : EvtX → EvtX) : (m.onEvt f).mem = m.mem := rfl
@[simp] theorem onEvt_frm (m : Mod) (f : EvtX → EvtX) : (m.onEvt f).frm = m.frm := rfl
@[simp] theorem onEvt_prm (m : Mod) (f : EvtX → EvtX) : (m.onEvt f).prm = m.prm := rfl
@[simp] theorem onEvt_chans (m : Mod) (f : EvtX → EvtX) : (m.onEvt f).chans = m.chans := rfl
@[simp] theorem onEvt_banks (m : Mod) (f : EvtX → EvtX) : (m.onEvt f).banks = m.banks := rfl
@[simp] theorem onEvt_quads (m : Mod) (f : EvtX → EvtX) : (m.onEvt f).quads = m.quads := rfl
@[simp] theorem onEvt_dia (m : Mod) (f : EvtX → EvtX) : (m.onEvt f).dia = m.dia := rfl
@[simp] theorem onEvt_brs (m : Mod) (f : EvtX → EvtX) : (m.onEvt f).brs = m.brs := rfl
@[simp] theorem onEvt_qds (m : Mod) (f : EvtX → EvtX) : (m.onEvt f).qds = m.qds := rfl
@[simp] theorem onEvt_pair (m : Mod) (f : EvtX → EvtX) : (m.onEvt f).pair = m.pair := rfl
@[simp] theorem onEvt_watches (m : Mod) (f : EvtX → EvtX) : (m.onEvt f).watches = m.watches := rfl
@[simp] theorem onEvt_sinks (m : Mod) (f : EvtX → EvtX) : (m.onEvt f).sinks = m.sinks := rfl
@[simp] theorem onEvt_led (m : Mod) (f : EvtX → EvtX) : (m.onEvt f).led = m.led := rfl
@[simp] theorem onEvt_engs (m : Mod) (f : EvtX → EvtX) : (m.onEvt f).engs = m.engs := rfl
@[simp] theorem onEvt_top (m : Mod) (f : EvtX → EvtX) : (m.onEvt f).top = m.top := rfl
@[simp] theorem onEvt_clr (m : Mod) (f : EvtX → EvtX) : (m.onEvt f).clr = m.clr := rfl
@[simp] theorem onEvt_lss (m : Mod) (f : EvtX → EvtX) : (m.onEvt f).lss = m.lss := rfl
@[simp] theorem onEvt_cis (m : Mod) (f : EvtX → EvtX) : (m.onEvt f).cis = m.cis := rfl
@[simp] theorem onEvt_fio (m : Mod) (f : EvtX → EvtX) : (m.onEvt f).fio = m.fio := rfl
@[simp] theorem onEvt_img (m : Mod) (f : EvtX → EvtX) : (m.onEvt f).img = m.img := rfl
@[simp] theorem onEvt_cans (m : Mod) (f : EvtX → EvtX) : (m.onEvt f).cans = m.cans := rfl
@[simp] theorem onEvt_trxs (m : Mod) (f : EvtX → EvtX) : (m.onEvt f).trxs = m.trxs := rfl
@[simp] theorem onEvt_lins (m : Mod) (f : EvtX → EvtX) : (m.onEvt f).lins = m.lins := rfl
@[simp] theorem onEvt_t1s (m : Mod) (f : EvtX → EvtX) : (m.onEvt f).t1s = m.t1s := rfl
@[simp] theorem onEvt_nms (m : Mod) (f : EvtX → EvtX) : (m.onEvt f).nms = m.nms := rfl
@[simp] theorem onEvt_vnk (m : Mod) (f : EvtX → EvtX) : (m.onEvt f).vnk = m.vnk := rfl
@[simp] theorem onEvt_bbs (m : Mod) (f : EvtX → EvtX) : (m.onEvt f).bbs = m.bbs := rfl
@[simp] theorem onEvt_ets (m : Mod) (f : EvtX → EvtX) : (m.onEvt f).ets = m.ets := rfl
@[simp] theorem onEvt_pwr (m : Mod) (f : EvtX → EvtX) : (m.onEvt f).pwr = m.pwr := rfl
@[simp] theorem onEvt_boot (m : Mod) (f : EvtX → EvtX) : (m.onEvt f).boot = m.boot := rfl
@[simp] theorem onEvt_sec (m : Mod) (f : EvtX → EvtX) : (m.onEvt f).sec = m.sec := rfl
@[simp] theorem onEvt_uds (m : Mod) (f : EvtX → EvtX) : (m.onEvt f).uds = m.uds := rfl
@[simp] theorem onEvt_upd (m : Mod) (f : EvtX → EvtX) : (m.onEvt f).upd = m.upd := rfl
@[simp] theorem onEvt_poolUsed (m : Mod) (f : EvtX → EvtX) : (m.onEvt f).poolUsed = m.poolUsed := rfl
@[simp] theorem onEvt_evt (m : Mod) (f : EvtX → EvtX) : (m.onEvt f).evt = f m.evt := rfl

@[simp] theorem onFrm_regs (m : Mod) (f : FrmX → FrmX) : (m.onFrm f).regs = m.regs := rfl
@[simp] theorem onFrm_mem (m : Mod) (f : FrmX → FrmX) : (m.onFrm f).mem = m.mem := rfl
@[simp] theorem onFrm_evt (m : Mod) (f : FrmX → FrmX) : (m.onFrm f).evt = m.evt := rfl
@[simp] theorem onFrm_prm (m : Mod) (f : FrmX → FrmX) : (m.onFrm f).prm = m.prm := rfl
@[simp] theorem onFrm_chans (m : Mod) (f : FrmX → FrmX) : (m.onFrm f).chans = m.chans := rfl
@[simp] theorem onFrm_banks (m : Mod) (f : FrmX → FrmX) : (m.onFrm f).banks = m.banks := rfl
@[simp] theorem onFrm_quads (m : Mod) (f : FrmX → FrmX) : (m.onFrm f).quads = m.quads := rfl
@[simp] theorem onFrm_dia (m : Mod) (f : FrmX → FrmX) : (m.onFrm f).dia = m.dia := rfl
@[simp] theorem onFrm_brs (m : Mod) (f : FrmX → FrmX) : (m.onFrm f).brs = m.brs := rfl
@[simp] theorem onFrm_qds (m : Mod) (f : FrmX → FrmX) : (m.onFrm f).qds = m.qds := rfl
@[simp] theorem onFrm_pair (m : Mod) (f : FrmX → FrmX) : (m.onFrm f).pair = m.pair := rfl
@[simp] theorem onFrm_watches (m : Mod) (f : FrmX → FrmX) : (m.onFrm f).watches = m.watches := rfl
@[simp] theorem onFrm_sinks (m : Mod) (f : FrmX → FrmX) : (m.onFrm f).sinks = m.sinks := rfl
@[simp] theorem onFrm_led (m : Mod) (f : FrmX → FrmX) : (m.onFrm f).led = m.led := rfl
@[simp] theorem onFrm_engs (m : Mod) (f : FrmX → FrmX) : (m.onFrm f).engs = m.engs := rfl
@[simp] theorem onFrm_top (m : Mod) (f : FrmX → FrmX) : (m.onFrm f).top = m.top := rfl
@[simp] theorem onFrm_clr (m : Mod) (f : FrmX → FrmX) : (m.onFrm f).clr = m.clr := rfl
@[simp] theorem onFrm_lss (m : Mod) (f : FrmX → FrmX) : (m.onFrm f).lss = m.lss := rfl
@[simp] theorem onFrm_cis (m : Mod) (f : FrmX → FrmX) : (m.onFrm f).cis = m.cis := rfl
@[simp] theorem onFrm_fio (m : Mod) (f : FrmX → FrmX) : (m.onFrm f).fio = m.fio := rfl
@[simp] theorem onFrm_img (m : Mod) (f : FrmX → FrmX) : (m.onFrm f).img = m.img := rfl
@[simp] theorem onFrm_cans (m : Mod) (f : FrmX → FrmX) : (m.onFrm f).cans = m.cans := rfl
@[simp] theorem onFrm_trxs (m : Mod) (f : FrmX → FrmX) : (m.onFrm f).trxs = m.trxs := rfl
@[simp] theorem onFrm_lins (m : Mod) (f : FrmX → FrmX) : (m.onFrm f).lins = m.lins := rfl
@[simp] theorem onFrm_t1s (m : Mod) (f : FrmX → FrmX) : (m.onFrm f).t1s = m.t1s := rfl
@[simp] theorem onFrm_nms (m : Mod) (f : FrmX → FrmX) : (m.onFrm f).nms = m.nms := rfl
@[simp] theorem onFrm_vnk (m : Mod) (f : FrmX → FrmX) : (m.onFrm f).vnk = m.vnk := rfl
@[simp] theorem onFrm_bbs (m : Mod) (f : FrmX → FrmX) : (m.onFrm f).bbs = m.bbs := rfl
@[simp] theorem onFrm_ets (m : Mod) (f : FrmX → FrmX) : (m.onFrm f).ets = m.ets := rfl
@[simp] theorem onFrm_pwr (m : Mod) (f : FrmX → FrmX) : (m.onFrm f).pwr = m.pwr := rfl
@[simp] theorem onFrm_boot (m : Mod) (f : FrmX → FrmX) : (m.onFrm f).boot = m.boot := rfl
@[simp] theorem onFrm_sec (m : Mod) (f : FrmX → FrmX) : (m.onFrm f).sec = m.sec := rfl
@[simp] theorem onFrm_uds (m : Mod) (f : FrmX → FrmX) : (m.onFrm f).uds = m.uds := rfl
@[simp] theorem onFrm_upd (m : Mod) (f : FrmX → FrmX) : (m.onFrm f).upd = m.upd := rfl
@[simp] theorem onFrm_poolUsed (m : Mod) (f : FrmX → FrmX) : (m.onFrm f).poolUsed = m.poolUsed := rfl
@[simp] theorem onFrm_frm (m : Mod) (f : FrmX → FrmX) : (m.onFrm f).frm = f m.frm := rfl

@[simp] theorem onPrm_regs (m : Mod) (f : PrmX → PrmX) : (m.onPrm f).regs = m.regs := rfl
@[simp] theorem onPrm_mem (m : Mod) (f : PrmX → PrmX) : (m.onPrm f).mem = m.mem := rfl
@[simp] theorem onPrm_evt (m : Mod) (f : PrmX → PrmX) : (m.onPrm f).evt = m.evt := rfl
@[simp] theorem onPrm_frm (m : Mod) (f : PrmX → PrmX) : (m.onPrm f).frm = m.frm := rfl
@[simp] theorem onPrm_chans (m : Mod) (f : PrmX → PrmX) : (m.onPrm f).chans = m.chans := rfl
@[simp] theorem onPrm_banks (m : Mod) (f : PrmX → PrmX) : (m.onPrm f).banks = m.banks := rfl
@[simp] theorem onPrm_quads (m : Mod) (f : PrmX → PrmX) : (m.onPrm f).quads = m.quads := rfl
@[simp] theorem onPrm_dia (m : Mod) (f : PrmX → PrmX) : (m.onPrm f).dia = m.dia := rfl
@[simp] theorem onPrm_brs (m : Mod) (f : PrmX → PrmX) : (m.onPrm f).brs = m.brs := rfl
@[simp] theorem onPrm_qds (m : Mod) (f : PrmX → PrmX) : (m.onPrm f).qds = m.qds := rfl
@[simp] theorem onPrm_pair (m : Mod) (f : PrmX → PrmX) : (m.onPrm f).pair = m.pair := rfl
@[simp] theorem onPrm_watches (m : Mod) (f : PrmX → PrmX) : (m.onPrm f).watches = m.watches := rfl
@[simp] theorem onPrm_sinks (m : Mod) (f : PrmX → PrmX) : (m.onPrm f).sinks = m.sinks := rfl
@[simp] theorem onPrm_led (m : Mod) (f : PrmX → PrmX) : (m.onPrm f).led = m.led := rfl
@[simp] theorem onPrm_engs (m : Mod) (f : PrmX → PrmX) : (m.onPrm f).engs = m.engs := rfl
@[simp] theorem onPrm_top (m : Mod) (f : PrmX → PrmX) : (m.onPrm f).top = m.top := rfl
@[simp] theorem onPrm_clr (m : Mod) (f : PrmX → PrmX) : (m.onPrm f).clr = m.clr := rfl
@[simp] theorem onPrm_lss (m : Mod) (f : PrmX → PrmX) : (m.onPrm f).lss = m.lss := rfl
@[simp] theorem onPrm_cis (m : Mod) (f : PrmX → PrmX) : (m.onPrm f).cis = m.cis := rfl
@[simp] theorem onPrm_fio (m : Mod) (f : PrmX → PrmX) : (m.onPrm f).fio = m.fio := rfl
@[simp] theorem onPrm_img (m : Mod) (f : PrmX → PrmX) : (m.onPrm f).img = m.img := rfl
@[simp] theorem onPrm_cans (m : Mod) (f : PrmX → PrmX) : (m.onPrm f).cans = m.cans := rfl
@[simp] theorem onPrm_trxs (m : Mod) (f : PrmX → PrmX) : (m.onPrm f).trxs = m.trxs := rfl
@[simp] theorem onPrm_lins (m : Mod) (f : PrmX → PrmX) : (m.onPrm f).lins = m.lins := rfl
@[simp] theorem onPrm_t1s (m : Mod) (f : PrmX → PrmX) : (m.onPrm f).t1s = m.t1s := rfl
@[simp] theorem onPrm_nms (m : Mod) (f : PrmX → PrmX) : (m.onPrm f).nms = m.nms := rfl
@[simp] theorem onPrm_vnk (m : Mod) (f : PrmX → PrmX) : (m.onPrm f).vnk = m.vnk := rfl
@[simp] theorem onPrm_bbs (m : Mod) (f : PrmX → PrmX) : (m.onPrm f).bbs = m.bbs := rfl
@[simp] theorem onPrm_ets (m : Mod) (f : PrmX → PrmX) : (m.onPrm f).ets = m.ets := rfl
@[simp] theorem onPrm_pwr (m : Mod) (f : PrmX → PrmX) : (m.onPrm f).pwr = m.pwr := rfl
@[simp] theorem onPrm_boot (m : Mod) (f : PrmX → PrmX) : (m.onPrm f).boot = m.boot := rfl
@[simp] theorem onPrm_sec (m : Mod) (f : PrmX → PrmX) : (m.onPrm f).sec = m.sec := rfl
@[simp] theorem onPrm_uds (m : Mod) (f : PrmX → PrmX) : (m.onPrm f).uds = m.uds := rfl
@[simp] theorem onPrm_upd (m : Mod) (f : PrmX → PrmX) : (m.onPrm f).upd = m.upd := rfl
@[simp] theorem onPrm_poolUsed (m : Mod) (f : PrmX → PrmX) : (m.onPrm f).poolUsed = m.poolUsed := rfl
@[simp] theorem onPrm_prm (m : Mod) (f : PrmX → PrmX) : (m.onPrm f).prm = f m.prm := rfl

@[simp] theorem onVnk_regs (m : Mod) (f : VnkX → VnkX) : (m.onVnk f).regs = m.regs := rfl
@[simp] theorem onVnk_mem (m : Mod) (f : VnkX → VnkX) : (m.onVnk f).mem = m.mem := rfl
@[simp] theorem onVnk_evt (m : Mod) (f : VnkX → VnkX) : (m.onVnk f).evt = m.evt := rfl
@[simp] theorem onVnk_frm (m : Mod) (f : VnkX → VnkX) : (m.onVnk f).frm = m.frm := rfl
@[simp] theorem onVnk_prm (m : Mod) (f : VnkX → VnkX) : (m.onVnk f).prm = m.prm := rfl
@[simp] theorem onVnk_chans (m : Mod) (f : VnkX → VnkX) : (m.onVnk f).chans = m.chans := rfl
@[simp] theorem onVnk_banks (m : Mod) (f : VnkX → VnkX) : (m.onVnk f).banks = m.banks := rfl
@[simp] theorem onVnk_quads (m : Mod) (f : VnkX → VnkX) : (m.onVnk f).quads = m.quads := rfl
@[simp] theorem onVnk_dia (m : Mod) (f : VnkX → VnkX) : (m.onVnk f).dia = m.dia := rfl
@[simp] theorem onVnk_brs (m : Mod) (f : VnkX → VnkX) : (m.onVnk f).brs = m.brs := rfl
@[simp] theorem onVnk_qds (m : Mod) (f : VnkX → VnkX) : (m.onVnk f).qds = m.qds := rfl
@[simp] theorem onVnk_pair (m : Mod) (f : VnkX → VnkX) : (m.onVnk f).pair = m.pair := rfl
@[simp] theorem onVnk_watches (m : Mod) (f : VnkX → VnkX) : (m.onVnk f).watches = m.watches := rfl
@[simp] theorem onVnk_sinks (m : Mod) (f : VnkX → VnkX) : (m.onVnk f).sinks = m.sinks := rfl
@[simp] theorem onVnk_led (m : Mod) (f : VnkX → VnkX) : (m.onVnk f).led = m.led := rfl
@[simp] theorem onVnk_engs (m : Mod) (f : VnkX → VnkX) : (m.onVnk f).engs = m.engs := rfl
@[simp] theorem onVnk_top (m : Mod) (f : VnkX → VnkX) : (m.onVnk f).top = m.top := rfl
@[simp] theorem onVnk_clr (m : Mod) (f : VnkX → VnkX) : (m.onVnk f).clr = m.clr := rfl
@[simp] theorem onVnk_lss (m : Mod) (f : VnkX → VnkX) : (m.onVnk f).lss = m.lss := rfl
@[simp] theorem onVnk_cis (m : Mod) (f : VnkX → VnkX) : (m.onVnk f).cis = m.cis := rfl
@[simp] theorem onVnk_fio (m : Mod) (f : VnkX → VnkX) : (m.onVnk f).fio = m.fio := rfl
@[simp] theorem onVnk_img (m : Mod) (f : VnkX → VnkX) : (m.onVnk f).img = m.img := rfl
@[simp] theorem onVnk_cans (m : Mod) (f : VnkX → VnkX) : (m.onVnk f).cans = m.cans := rfl
@[simp] theorem onVnk_trxs (m : Mod) (f : VnkX → VnkX) : (m.onVnk f).trxs = m.trxs := rfl
@[simp] theorem onVnk_lins (m : Mod) (f : VnkX → VnkX) : (m.onVnk f).lins = m.lins := rfl
@[simp] theorem onVnk_t1s (m : Mod) (f : VnkX → VnkX) : (m.onVnk f).t1s = m.t1s := rfl
@[simp] theorem onVnk_nms (m : Mod) (f : VnkX → VnkX) : (m.onVnk f).nms = m.nms := rfl
@[simp] theorem onVnk_bbs (m : Mod) (f : VnkX → VnkX) : (m.onVnk f).bbs = m.bbs := rfl
@[simp] theorem onVnk_ets (m : Mod) (f : VnkX → VnkX) : (m.onVnk f).ets = m.ets := rfl
@[simp] theorem onVnk_pwr (m : Mod) (f : VnkX → VnkX) : (m.onVnk f).pwr = m.pwr := rfl
@[simp] theorem onVnk_boot (m : Mod) (f : VnkX → VnkX) : (m.onVnk f).boot = m.boot := rfl
@[simp] theorem onVnk_sec (m : Mod) (f : VnkX → VnkX) : (m.onVnk f).sec = m.sec := rfl
@[simp] theorem onVnk_uds (m : Mod) (f : VnkX → VnkX) : (m.onVnk f).uds = m.uds := rfl
@[simp] theorem onVnk_upd (m : Mod) (f : VnkX → VnkX) : (m.onVnk f).upd = m.upd := rfl
@[simp] theorem onVnk_poolUsed (m : Mod) (f : VnkX → VnkX) : (m.onVnk f).poolUsed = m.poolUsed := rfl
@[simp] theorem onVnk_vnk (m : Mod) (f : VnkX → VnkX) : (m.onVnk f).vnk = f m.vnk := rfl

@[simp] theorem onPwr_regs (m : Mod) (f : PwrX → PwrX) : (m.onPwr f).regs = m.regs := rfl
@[simp] theorem onPwr_mem (m : Mod) (f : PwrX → PwrX) : (m.onPwr f).mem = m.mem := rfl
@[simp] theorem onPwr_evt (m : Mod) (f : PwrX → PwrX) : (m.onPwr f).evt = m.evt := rfl
@[simp] theorem onPwr_frm (m : Mod) (f : PwrX → PwrX) : (m.onPwr f).frm = m.frm := rfl
@[simp] theorem onPwr_prm (m : Mod) (f : PwrX → PwrX) : (m.onPwr f).prm = m.prm := rfl
@[simp] theorem onPwr_chans (m : Mod) (f : PwrX → PwrX) : (m.onPwr f).chans = m.chans := rfl
@[simp] theorem onPwr_banks (m : Mod) (f : PwrX → PwrX) : (m.onPwr f).banks = m.banks := rfl
@[simp] theorem onPwr_quads (m : Mod) (f : PwrX → PwrX) : (m.onPwr f).quads = m.quads := rfl
@[simp] theorem onPwr_dia (m : Mod) (f : PwrX → PwrX) : (m.onPwr f).dia = m.dia := rfl
@[simp] theorem onPwr_brs (m : Mod) (f : PwrX → PwrX) : (m.onPwr f).brs = m.brs := rfl
@[simp] theorem onPwr_qds (m : Mod) (f : PwrX → PwrX) : (m.onPwr f).qds = m.qds := rfl
@[simp] theorem onPwr_pair (m : Mod) (f : PwrX → PwrX) : (m.onPwr f).pair = m.pair := rfl
@[simp] theorem onPwr_watches (m : Mod) (f : PwrX → PwrX) : (m.onPwr f).watches = m.watches := rfl
@[simp] theorem onPwr_sinks (m : Mod) (f : PwrX → PwrX) : (m.onPwr f).sinks = m.sinks := rfl
@[simp] theorem onPwr_led (m : Mod) (f : PwrX → PwrX) : (m.onPwr f).led = m.led := rfl
@[simp] theorem onPwr_engs (m : Mod) (f : PwrX → PwrX) : (m.onPwr f).engs = m.engs := rfl
@[simp] theorem onPwr_top (m : Mod) (f : PwrX → PwrX) : (m.onPwr f).top = m.top := rfl
@[simp] theorem onPwr_clr (m : Mod) (f : PwrX → PwrX) : (m.onPwr f).clr = m.clr := rfl
@[simp] theorem onPwr_lss (m : Mod) (f : PwrX → PwrX) : (m.onPwr f).lss = m.lss := rfl
@[simp] theorem onPwr_cis (m : Mod) (f : PwrX → PwrX) : (m.onPwr f).cis = m.cis := rfl
@[simp] theorem onPwr_fio (m : Mod) (f : PwrX → PwrX) : (m.onPwr f).fio = m.fio := rfl
@[simp] theorem onPwr_img (m : Mod) (f : PwrX → PwrX) : (m.onPwr f).img = m.img := rfl
@[simp] theorem onPwr_cans (m : Mod) (f : PwrX → PwrX) : (m.onPwr f).cans = m.cans := rfl
@[simp] theorem onPwr_trxs (m : Mod) (f : PwrX → PwrX) : (m.onPwr f).trxs = m.trxs := rfl
@[simp] theorem onPwr_lins (m : Mod) (f : PwrX → PwrX) : (m.onPwr f).lins = m.lins := rfl
@[simp] theorem onPwr_t1s (m : Mod) (f : PwrX → PwrX) : (m.onPwr f).t1s = m.t1s := rfl
@[simp] theorem onPwr_nms (m : Mod) (f : PwrX → PwrX) : (m.onPwr f).nms = m.nms := rfl
@[simp] theorem onPwr_vnk (m : Mod) (f : PwrX → PwrX) : (m.onPwr f).vnk = m.vnk := rfl
@[simp] theorem onPwr_bbs (m : Mod) (f : PwrX → PwrX) : (m.onPwr f).bbs = m.bbs := rfl
@[simp] theorem onPwr_ets (m : Mod) (f : PwrX → PwrX) : (m.onPwr f).ets = m.ets := rfl
@[simp] theorem onPwr_boot (m : Mod) (f : PwrX → PwrX) : (m.onPwr f).boot = m.boot := rfl
@[simp] theorem onPwr_sec (m : Mod) (f : PwrX → PwrX) : (m.onPwr f).sec = m.sec := rfl
@[simp] theorem onPwr_uds (m : Mod) (f : PwrX → PwrX) : (m.onPwr f).uds = m.uds := rfl
@[simp] theorem onPwr_upd (m : Mod) (f : PwrX → PwrX) : (m.onPwr f).upd = m.upd := rfl
@[simp] theorem onPwr_poolUsed (m : Mod) (f : PwrX → PwrX) : (m.onPwr f).poolUsed = m.poolUsed := rfl
@[simp] theorem onPwr_pwr (m : Mod) (f : PwrX → PwrX) : (m.onPwr f).pwr = f m.pwr := rfl

@[simp] theorem onPair_regs (m : Mod) (f : PairX → PairX) : (m.onPair f).regs = m.regs := rfl
@[simp] theorem onPair_mem (m : Mod) (f : PairX → PairX) : (m.onPair f).mem = m.mem := rfl
@[simp] theorem onPair_evt (m : Mod) (f : PairX → PairX) : (m.onPair f).evt = m.evt := rfl
@[simp] theorem onPair_frm (m : Mod) (f : PairX → PairX) : (m.onPair f).frm = m.frm := rfl
@[simp] theorem onPair_prm (m : Mod) (f : PairX → PairX) : (m.onPair f).prm = m.prm := rfl
@[simp] theorem onPair_chans (m : Mod) (f : PairX → PairX) : (m.onPair f).chans = m.chans := rfl
@[simp] theorem onPair_banks (m : Mod) (f : PairX → PairX) : (m.onPair f).banks = m.banks := rfl
@[simp] theorem onPair_quads (m : Mod) (f : PairX → PairX) : (m.onPair f).quads = m.quads := rfl
@[simp] theorem onPair_dia (m : Mod) (f : PairX → PairX) : (m.onPair f).dia = m.dia := rfl
@[simp] theorem onPair_brs (m : Mod) (f : PairX → PairX) : (m.onPair f).brs = m.brs := rfl
@[simp] theorem onPair_qds (m : Mod) (f : PairX → PairX) : (m.onPair f).qds = m.qds := rfl
@[simp] theorem onPair_watches (m : Mod) (f : PairX → PairX) : (m.onPair f).watches = m.watches := rfl
@[simp] theorem onPair_sinks (m : Mod) (f : PairX → PairX) : (m.onPair f).sinks = m.sinks := rfl
@[simp] theorem onPair_led (m : Mod) (f : PairX → PairX) : (m.onPair f).led = m.led := rfl
@[simp] theorem onPair_engs (m : Mod) (f : PairX → PairX) : (m.onPair f).engs = m.engs := rfl
@[simp] theorem onPair_top (m : Mod) (f : PairX → PairX) : (m.onPair f).top = m.top := rfl
@[simp] theorem onPair_clr (m : Mod) (f : PairX → PairX) : (m.onPair f).clr = m.clr := rfl
@[simp] theorem onPair_lss (m : Mod) (f : PairX → PairX) : (m.onPair f).lss = m.lss := rfl
@[simp] theorem onPair_cis (m : Mod) (f : PairX → PairX) : (m.onPair f).cis = m.cis := rfl
@[simp] theorem onPair_fio (m : Mod) (f : PairX → PairX) : (m.onPair f).fio = m.fio := rfl
@[simp] theorem onPair_img (m : Mod) (f : PairX → PairX) : (m.onPair f).img = m.img := rfl
@[simp] theorem onPair_cans (m : Mod) (f : PairX → PairX) : (m.onPair f).cans = m.cans := rfl
@[simp] theorem onPair_trxs (m : Mod) (f : PairX → PairX) : (m.onPair f).trxs = m.trxs := rfl
@[simp] theorem onPair_lins (m : Mod) (f : PairX → PairX) : (m.onPair f).lins = m.lins := rfl
@[simp] theorem onPair_t1s (m : Mod) (f : PairX → PairX) : (m.onPair f).t1s = m.t1s := rfl
@[simp] theorem onPair_nms (m : Mod) (f : PairX → PairX) : (m.onPair f).nms = m.nms := rfl
@[simp] theorem onPair_vnk (m : Mod) (f : PairX → PairX) : (m.onPair f).vnk = m.vnk := rfl
@[simp] theorem onPair_bbs (m : Mod) (f : PairX → PairX) : (m.onPair f).bbs = m.bbs := rfl
@[simp] theorem onPair_ets (m : Mod) (f : PairX → PairX) : (m.onPair f).ets = m.ets := rfl
@[simp] theorem onPair_pwr (m : Mod) (f : PairX → PairX) : (m.onPair f).pwr = m.pwr := rfl
@[simp] theorem onPair_boot (m : Mod) (f : PairX → PairX) : (m.onPair f).boot = m.boot := rfl
@[simp] theorem onPair_sec (m : Mod) (f : PairX → PairX) : (m.onPair f).sec = m.sec := rfl
@[simp] theorem onPair_uds (m : Mod) (f : PairX → PairX) : (m.onPair f).uds = m.uds := rfl
@[simp] theorem onPair_upd (m : Mod) (f : PairX → PairX) : (m.onPair f).upd = m.upd := rfl
@[simp] theorem onPair_poolUsed (m : Mod) (f : PairX → PairX) : (m.onPair f).poolUsed = m.poolUsed := rfl
@[simp] theorem onPair_pair (m : Mod) (f : PairX → PairX) : (m.onPair f).pair = f m.pair := rfl

@[simp] theorem onWorker_regs (m : Mod) (h : Bool) (f : Worker → Worker) : (m.onWorker h f).regs = m.regs := rfl
@[simp] theorem onWorker_mem (m : Mod) (h : Bool) (f : Worker → Worker) : (m.onWorker h f).mem = m.mem := rfl
@[simp] theorem onWorker_evt (m : Mod) (h : Bool) (f : Worker → Worker) : (m.onWorker h f).evt = m.evt := rfl
@[simp] theorem onWorker_frm (m : Mod) (h : Bool) (f : Worker → Worker) : (m.onWorker h f).frm = m.frm := rfl
@[simp] theorem onWorker_prm (m : Mod) (h : Bool) (f : Worker → Worker) : (m.onWorker h f).prm = m.prm := rfl
@[simp] theorem onWorker_chans (m : Mod) (h : Bool) (f : Worker → Worker) : (m.onWorker h f).chans = m.chans := rfl
@[simp] theorem onWorker_banks (m : Mod) (h : Bool) (f : Worker → Worker) : (m.onWorker h f).banks = m.banks := rfl
@[simp] theorem onWorker_quads (m : Mod) (h : Bool) (f : Worker → Worker) : (m.onWorker h f).quads = m.quads := rfl
@[simp] theorem onWorker_dia (m : Mod) (h : Bool) (f : Worker → Worker) : (m.onWorker h f).dia = m.dia := rfl
@[simp] theorem onWorker_brs (m : Mod) (h : Bool) (f : Worker → Worker) : (m.onWorker h f).brs = m.brs := rfl
@[simp] theorem onWorker_qds (m : Mod) (h : Bool) (f : Worker → Worker) : (m.onWorker h f).qds = m.qds := rfl
@[simp] theorem onWorker_watches (m : Mod) (h : Bool) (f : Worker → Worker) : (m.onWorker h f).watches = m.watches := rfl
@[simp] theorem onWorker_sinks (m : Mod) (h : Bool) (f : Worker → Worker) : (m.onWorker h f).sinks = m.sinks := rfl
@[simp] theorem onWorker_led (m : Mod) (h : Bool) (f : Worker → Worker) : (m.onWorker h f).led = m.led := rfl
@[simp] theorem onWorker_engs (m : Mod) (h : Bool) (f : Worker → Worker) : (m.onWorker h f).engs = m.engs := rfl
@[simp] theorem onWorker_top (m : Mod) (h : Bool) (f : Worker → Worker) : (m.onWorker h f).top = m.top := rfl
@[simp] theorem onWorker_clr (m : Mod) (h : Bool) (f : Worker → Worker) : (m.onWorker h f).clr = m.clr := rfl
@[simp] theorem onWorker_lss (m : Mod) (h : Bool) (f : Worker → Worker) : (m.onWorker h f).lss = m.lss := rfl
@[simp] theorem onWorker_cis (m : Mod) (h : Bool) (f : Worker → Worker) : (m.onWorker h f).cis = m.cis := rfl
@[simp] theorem onWorker_fio (m : Mod) (h : Bool) (f : Worker → Worker) : (m.onWorker h f).fio = m.fio := rfl
@[simp] theorem onWorker_img (m : Mod) (h : Bool) (f : Worker → Worker) : (m.onWorker h f).img = m.img := rfl
@[simp] theorem onWorker_cans (m : Mod) (h : Bool) (f : Worker → Worker) : (m.onWorker h f).cans = m.cans := rfl
@[simp] theorem onWorker_trxs (m : Mod) (h : Bool) (f : Worker → Worker) : (m.onWorker h f).trxs = m.trxs := rfl
@[simp] theorem onWorker_lins (m : Mod) (h : Bool) (f : Worker → Worker) : (m.onWorker h f).lins = m.lins := rfl
@[simp] theorem onWorker_t1s (m : Mod) (h : Bool) (f : Worker → Worker) : (m.onWorker h f).t1s = m.t1s := rfl
@[simp] theorem onWorker_nms (m : Mod) (h : Bool) (f : Worker → Worker) : (m.onWorker h f).nms = m.nms := rfl
@[simp] theorem onWorker_vnk (m : Mod) (h : Bool) (f : Worker → Worker) : (m.onWorker h f).vnk = m.vnk := rfl
@[simp] theorem onWorker_bbs (m : Mod) (h : Bool) (f : Worker → Worker) : (m.onWorker h f).bbs = m.bbs := rfl
@[simp] theorem onWorker_ets (m : Mod) (h : Bool) (f : Worker → Worker) : (m.onWorker h f).ets = m.ets := rfl
@[simp] theorem onWorker_pwr (m : Mod) (h : Bool) (f : Worker → Worker) : (m.onWorker h f).pwr = m.pwr := rfl
@[simp] theorem onWorker_boot (m : Mod) (h : Bool) (f : Worker → Worker) : (m.onWorker h f).boot = m.boot := rfl
@[simp] theorem onWorker_sec (m : Mod) (h : Bool) (f : Worker → Worker) : (m.onWorker h f).sec = m.sec := rfl
@[simp] theorem onWorker_uds (m : Mod) (h : Bool) (f : Worker → Worker) : (m.onWorker h f).uds = m.uds := rfl
@[simp] theorem onWorker_upd (m : Mod) (h : Bool) (f : Worker → Worker) : (m.onWorker h f).upd = m.upd := rfl
@[simp] theorem onWorker_poolUsed (m : Mod) (h : Bool) (f : Worker → Worker) : (m.onWorker h f).poolUsed = m.poolUsed := rfl

@[simp] theorem onBoot_regs (m : Mod) (f : BootX → BootX) : (m.onBoot f).regs = m.regs := rfl
@[simp] theorem onBoot_mem (m : Mod) (f : BootX → BootX) : (m.onBoot f).mem = m.mem := rfl
@[simp] theorem onBoot_evt (m : Mod) (f : BootX → BootX) : (m.onBoot f).evt = m.evt := rfl
@[simp] theorem onBoot_frm (m : Mod) (f : BootX → BootX) : (m.onBoot f).frm = m.frm := rfl
@[simp] theorem onBoot_prm (m : Mod) (f : BootX → BootX) : (m.onBoot f).prm = m.prm := rfl
@[simp] theorem onBoot_chans (m : Mod) (f : BootX → BootX) : (m.onBoot f).chans = m.chans := rfl
@[simp] theorem onBoot_banks (m : Mod) (f : BootX → BootX) : (m.onBoot f).banks = m.banks := rfl
@[simp] theorem onBoot_quads (m : Mod) (f : BootX → BootX) : (m.onBoot f).quads = m.quads := rfl
@[simp] theorem onBoot_dia (m : Mod) (f : BootX → BootX) : (m.onBoot f).dia = m.dia := rfl
@[simp] theorem onBoot_brs (m : Mod) (f : BootX → BootX) : (m.onBoot f).brs = m.brs := rfl
@[simp] theorem onBoot_qds (m : Mod) (f : BootX → BootX) : (m.onBoot f).qds = m.qds := rfl
@[simp] theorem onBoot_pair (m : Mod) (f : BootX → BootX) : (m.onBoot f).pair = m.pair := rfl
@[simp] theorem onBoot_watches (m : Mod) (f : BootX → BootX) : (m.onBoot f).watches = m.watches := rfl
@[simp] theorem onBoot_sinks (m : Mod) (f : BootX → BootX) : (m.onBoot f).sinks = m.sinks := rfl
@[simp] theorem onBoot_led (m : Mod) (f : BootX → BootX) : (m.onBoot f).led = m.led := rfl
@[simp] theorem onBoot_engs (m : Mod) (f : BootX → BootX) : (m.onBoot f).engs = m.engs := rfl
@[simp] theorem onBoot_top (m : Mod) (f : BootX → BootX) : (m.onBoot f).top = m.top := rfl
@[simp] theorem onBoot_clr (m : Mod) (f : BootX → BootX) : (m.onBoot f).clr = m.clr := rfl
@[simp] theorem onBoot_lss (m : Mod) (f : BootX → BootX) : (m.onBoot f).lss = m.lss := rfl
@[simp] theorem onBoot_cis (m : Mod) (f : BootX → BootX) : (m.onBoot f).cis = m.cis := rfl
@[simp] theorem onBoot_fio (m : Mod) (f : BootX → BootX) : (m.onBoot f).fio = m.fio := rfl
@[simp] theorem onBoot_img (m : Mod) (f : BootX → BootX) : (m.onBoot f).img = m.img := rfl
@[simp] theorem onBoot_cans (m : Mod) (f : BootX → BootX) : (m.onBoot f).cans = m.cans := rfl
@[simp] theorem onBoot_trxs (m : Mod) (f : BootX → BootX) : (m.onBoot f).trxs = m.trxs := rfl
@[simp] theorem onBoot_lins (m : Mod) (f : BootX → BootX) : (m.onBoot f).lins = m.lins := rfl
@[simp] theorem onBoot_t1s (m : Mod) (f : BootX → BootX) : (m.onBoot f).t1s = m.t1s := rfl
@[simp] theorem onBoot_nms (m : Mod) (f : BootX → BootX) : (m.onBoot f).nms = m.nms := rfl
@[simp] theorem onBoot_vnk (m : Mod) (f : BootX → BootX) : (m.onBoot f).vnk = m.vnk := rfl
@[simp] theorem onBoot_bbs (m : Mod) (f : BootX → BootX) : (m.onBoot f).bbs = m.bbs := rfl
@[simp] theorem onBoot_ets (m : Mod) (f : BootX → BootX) : (m.onBoot f).ets = m.ets := rfl
@[simp] theorem onBoot_pwr (m : Mod) (f : BootX → BootX) : (m.onBoot f).pwr = m.pwr := rfl
@[simp] theorem onBoot_sec (m : Mod) (f : BootX → BootX) : (m.onBoot f).sec = m.sec := rfl
@[simp] theorem onBoot_uds (m : Mod) (f : BootX → BootX) : (m.onBoot f).uds = m.uds := rfl
@[simp] theorem onBoot_upd (m : Mod) (f : BootX → BootX) : (m.onBoot f).upd = m.upd := rfl
@[simp] theorem onBoot_poolUsed (m : Mod) (f : BootX → BootX) : (m.onBoot f).poolUsed = m.poolUsed := rfl
@[simp] theorem onBoot_boot (m : Mod) (f : BootX → BootX) : (m.onBoot f).boot = f m.boot := rfl

@[simp] theorem onUpd_regs (m : Mod) (f : UpdX → UpdX) : (m.onUpd f).regs = m.regs := rfl
@[simp] theorem onUpd_mem (m : Mod) (f : UpdX → UpdX) : (m.onUpd f).mem = m.mem := rfl
@[simp] theorem onUpd_evt (m : Mod) (f : UpdX → UpdX) : (m.onUpd f).evt = m.evt := rfl
@[simp] theorem onUpd_frm (m : Mod) (f : UpdX → UpdX) : (m.onUpd f).frm = m.frm := rfl
@[simp] theorem onUpd_prm (m : Mod) (f : UpdX → UpdX) : (m.onUpd f).prm = m.prm := rfl
@[simp] theorem onUpd_chans (m : Mod) (f : UpdX → UpdX) : (m.onUpd f).chans = m.chans := rfl
@[simp] theorem onUpd_banks (m : Mod) (f : UpdX → UpdX) : (m.onUpd f).banks = m.banks := rfl
@[simp] theorem onUpd_quads (m : Mod) (f : UpdX → UpdX) : (m.onUpd f).quads = m.quads := rfl
@[simp] theorem onUpd_dia (m : Mod) (f : UpdX → UpdX) : (m.onUpd f).dia = m.dia := rfl
@[simp] theorem onUpd_brs (m : Mod) (f : UpdX → UpdX) : (m.onUpd f).brs = m.brs := rfl
@[simp] theorem onUpd_qds (m : Mod) (f : UpdX → UpdX) : (m.onUpd f).qds = m.qds := rfl
@[simp] theorem onUpd_pair (m : Mod) (f : UpdX → UpdX) : (m.onUpd f).pair = m.pair := rfl
@[simp] theorem onUpd_watches (m : Mod) (f : UpdX → UpdX) : (m.onUpd f).watches = m.watches := rfl
@[simp] theorem onUpd_sinks (m : Mod) (f : UpdX → UpdX) : (m.onUpd f).sinks = m.sinks := rfl
@[simp] theorem onUpd_led (m : Mod) (f : UpdX → UpdX) : (m.onUpd f).led = m.led := rfl
@[simp] theorem onUpd_engs (m : Mod) (f : UpdX → UpdX) : (m.onUpd f).engs = m.engs := rfl
@[simp] theorem onUpd_top (m : Mod) (f : UpdX → UpdX) : (m.onUpd f).top = m.top := rfl
@[simp] theorem onUpd_clr (m : Mod) (f : UpdX → UpdX) : (m.onUpd f).clr = m.clr := rfl
@[simp] theorem onUpd_lss (m : Mod) (f : UpdX → UpdX) : (m.onUpd f).lss = m.lss := rfl
@[simp] theorem onUpd_cis (m : Mod) (f : UpdX → UpdX) : (m.onUpd f).cis = m.cis := rfl
@[simp] theorem onUpd_fio (m : Mod) (f : UpdX → UpdX) : (m.onUpd f).fio = m.fio := rfl
@[simp] theorem onUpd_img (m : Mod) (f : UpdX → UpdX) : (m.onUpd f).img = m.img := rfl
@[simp] theorem onUpd_cans (m : Mod) (f : UpdX → UpdX) : (m.onUpd f).cans = m.cans := rfl
@[simp] theorem onUpd_trxs (m : Mod) (f : UpdX → UpdX) : (m.onUpd f).trxs = m.trxs := rfl
@[simp] theorem onUpd_lins (m : Mod) (f : UpdX → UpdX) : (m.onUpd f).lins = m.lins := rfl
@[simp] theorem onUpd_t1s (m : Mod) (f : UpdX → UpdX) : (m.onUpd f).t1s = m.t1s := rfl
@[simp] theorem onUpd_nms (m : Mod) (f : UpdX → UpdX) : (m.onUpd f).nms = m.nms := rfl
@[simp] theorem onUpd_vnk (m : Mod) (f : UpdX → UpdX) : (m.onUpd f).vnk = m.vnk := rfl
@[simp] theorem onUpd_bbs (m : Mod) (f : UpdX → UpdX) : (m.onUpd f).bbs = m.bbs := rfl
@[simp] theorem onUpd_ets (m : Mod) (f : UpdX → UpdX) : (m.onUpd f).ets = m.ets := rfl
@[simp] theorem onUpd_pwr (m : Mod) (f : UpdX → UpdX) : (m.onUpd f).pwr = m.pwr := rfl
@[simp] theorem onUpd_boot (m : Mod) (f : UpdX → UpdX) : (m.onUpd f).boot = m.boot := rfl
@[simp] theorem onUpd_sec (m : Mod) (f : UpdX → UpdX) : (m.onUpd f).sec = m.sec := rfl
@[simp] theorem onUpd_uds (m : Mod) (f : UpdX → UpdX) : (m.onUpd f).uds = m.uds := rfl
@[simp] theorem onUpd_poolUsed (m : Mod) (f : UpdX → UpdX) : (m.onUpd f).poolUsed = m.poolUsed := rfl
@[simp] theorem onUpd_upd (m : Mod) (f : UpdX → UpdX) : (m.onUpd f).upd = f m.upd := rfl

@[simp] theorem onUds_regs (m : Mod) (f : UdsX → UdsX) : (m.onUds f).regs = m.regs := rfl
@[simp] theorem onUds_mem (m : Mod) (f : UdsX → UdsX) : (m.onUds f).mem = m.mem := rfl
@[simp] theorem onUds_evt (m : Mod) (f : UdsX → UdsX) : (m.onUds f).evt = m.evt := rfl
@[simp] theorem onUds_frm (m : Mod) (f : UdsX → UdsX) : (m.onUds f).frm = m.frm := rfl
@[simp] theorem onUds_prm (m : Mod) (f : UdsX → UdsX) : (m.onUds f).prm = m.prm := rfl
@[simp] theorem onUds_chans (m : Mod) (f : UdsX → UdsX) : (m.onUds f).chans = m.chans := rfl
@[simp] theorem onUds_banks (m : Mod) (f : UdsX → UdsX) : (m.onUds f).banks = m.banks := rfl
@[simp] theorem onUds_quads (m : Mod) (f : UdsX → UdsX) : (m.onUds f).quads = m.quads := rfl
@[simp] theorem onUds_dia (m : Mod) (f : UdsX → UdsX) : (m.onUds f).dia = m.dia := rfl
@[simp] theorem onUds_brs (m : Mod) (f : UdsX → UdsX) : (m.onUds f).brs = m.brs := rfl
@[simp] theorem onUds_qds (m : Mod) (f : UdsX → UdsX) : (m.onUds f).qds = m.qds := rfl
@[simp] theorem onUds_pair (m : Mod) (f : UdsX → UdsX) : (m.onUds f).pair = m.pair := rfl
@[simp] theorem onUds_watches (m : Mod) (f : UdsX → UdsX) : (m.onUds f).watches = m.watches := rfl
@[simp] theorem onUds_sinks (m : Mod) (f : UdsX → UdsX) : (m.onUds f).sinks = m.sinks := rfl
@[simp] theorem onUds_led (m : Mod) (f : UdsX → UdsX) : (m.onUds f).led = m.led := rfl
@[simp] theorem onUds_engs (m : Mod) (f : UdsX → UdsX) : (m.onUds f).engs = m.engs := rfl
@[simp] theorem onUds_top (m : Mod) (f : UdsX → UdsX) : (m.onUds f).top = m.top := rfl
@[simp] theorem onUds_clr (m : Mod) (f : UdsX → UdsX) : (m.onUds f).clr = m.clr := rfl
@[simp] theorem onUds_lss (m : Mod) (f : UdsX → UdsX) : (m.onUds f).lss = m.lss := rfl
@[simp] theorem onUds_cis (m : Mod) (f : UdsX → UdsX) : (m.onUds f).cis = m.cis := rfl
@[simp] theorem onUds_fio (m : Mod) (f : UdsX → UdsX) : (m.onUds f).fio = m.fio := rfl
@[simp] theorem onUds_img (m : Mod) (f : UdsX → UdsX) : (m.onUds f).img = m.img := rfl
@[simp] theorem onUds_cans (m : Mod) (f : UdsX → UdsX) : (m.onUds f).cans = m.cans := rfl
@[simp] theorem onUds_trxs (m : Mod) (f : UdsX → UdsX) : (m.onUds f).trxs = m.trxs := rfl
@[simp] theorem onUds_lins (m : Mod) (f : UdsX → UdsX) : (m.onUds f).lins = m.lins := rfl
@[simp] theorem onUds_t1s (m : Mod) (f : UdsX → UdsX) : (m.onUds f).t1s = m.t1s := rfl
@[simp] theorem onUds_nms (m : Mod) (f : UdsX → UdsX) : (m.onUds f).nms = m.nms := rfl
@[simp] theorem onUds_vnk (m : Mod) (f : UdsX → UdsX) : (m.onUds f).vnk = m.vnk := rfl
@[simp] theorem onUds_bbs (m : Mod) (f : UdsX → UdsX) : (m.onUds f).bbs = m.bbs := rfl
@[simp] theorem onUds_ets (m : Mod) (f : UdsX → UdsX) : (m.onUds f).ets = m.ets := rfl
@[simp] theorem onUds_pwr (m : Mod) (f : UdsX → UdsX) : (m.onUds f).pwr = m.pwr := rfl
@[simp] theorem onUds_boot (m : Mod) (f : UdsX → UdsX) : (m.onUds f).boot = m.boot := rfl
@[simp] theorem onUds_sec (m : Mod) (f : UdsX → UdsX) : (m.onUds f).sec = m.sec := rfl
@[simp] theorem onUds_upd (m : Mod) (f : UdsX → UdsX) : (m.onUds f).upd = m.upd := rfl
@[simp] theorem onUds_poolUsed (m : Mod) (f : UdsX → UdsX) : (m.onUds f).poolUsed = m.poolUsed := rfl
@[simp] theorem onUds_uds (m : Mod) (f : UdsX → UdsX) : (m.onUds f).uds = f m.uds := rfl

@[simp] theorem onEts_regs (m : Mod) (f : EtsX → EtsX) : (m.onEts f).regs = m.regs := rfl
@[simp] theorem onEts_mem (m : Mod) (f : EtsX → EtsX) : (m.onEts f).mem = m.mem := rfl
@[simp] theorem onEts_evt (m : Mod) (f : EtsX → EtsX) : (m.onEts f).evt = m.evt := rfl
@[simp] theorem onEts_frm (m : Mod) (f : EtsX → EtsX) : (m.onEts f).frm = m.frm := rfl
@[simp] theorem onEts_prm (m : Mod) (f : EtsX → EtsX) : (m.onEts f).prm = m.prm := rfl
@[simp] theorem onEts_chans (m : Mod) (f : EtsX → EtsX) : (m.onEts f).chans = m.chans := rfl
@[simp] theorem onEts_banks (m : Mod) (f : EtsX → EtsX) : (m.onEts f).banks = m.banks := rfl
@[simp] theorem onEts_quads (m : Mod) (f : EtsX → EtsX) : (m.onEts f).quads = m.quads := rfl
@[simp] theorem onEts_dia (m : Mod) (f : EtsX → EtsX) : (m.onEts f).dia = m.dia := rfl
@[simp] theorem onEts_brs (m : Mod) (f : EtsX → EtsX) : (m.onEts f).brs = m.brs := rfl
@[simp] theorem onEts_qds (m : Mod) (f : EtsX → EtsX) : (m.onEts f).qds = m.qds := rfl
@[simp] theorem onEts_pair (m : Mod) (f : EtsX → EtsX) : (m.onEts f).pair = m.pair := rfl
@[simp] theorem onEts_watches (m : Mod) (f : EtsX → EtsX) : (m.onEts f).watches = m.watches := rfl
@[simp] theorem onEts_sinks (m : Mod) (f : EtsX → EtsX) : (m.onEts f).sinks = m.sinks := rfl
@[simp] theorem onEts_led (m : Mod) (f : EtsX → EtsX) : (m.onEts f).led = m.led := rfl
@[simp] theorem onEts_engs (m : Mod) (f : EtsX → EtsX) : (m.onEts f).engs = m.engs := rfl
@[simp] theorem onEts_top (m : Mod) (f : EtsX → EtsX) : (m.onEts f).top = m.top := rfl
@[simp] theorem onEts_clr (m : Mod) (f : EtsX → EtsX) : (m.onEts f).clr = m.clr := rfl
@[simp] theorem onEts_lss (m : Mod) (f : EtsX → EtsX) : (m.onEts f).lss = m.lss := rfl
@[simp] theorem onEts_cis (m : Mod) (f : EtsX → EtsX) : (m.onEts f).cis = m.cis := rfl
@[simp] theorem onEts_fio (m : Mod) (f : EtsX → EtsX) : (m.onEts f).fio = m.fio := rfl
@[simp] theorem onEts_img (m : Mod) (f : EtsX → EtsX) : (m.onEts f).img = m.img := rfl
@[simp] theorem onEts_cans (m : Mod) (f : EtsX → EtsX) : (m.onEts f).cans = m.cans := rfl
@[simp] theorem onEts_trxs (m : Mod) (f : EtsX → EtsX) : (m.onEts f).trxs = m.trxs := rfl
@[simp] theorem onEts_lins (m : Mod) (f : EtsX → EtsX) : (m.onEts f).lins = m.lins := rfl
@[simp] theorem onEts_t1s (m : Mod) (f : EtsX → EtsX) : (m.onEts f).t1s = m.t1s := rfl
@[simp] theorem onEts_nms (m : Mod) (f : EtsX → EtsX) : (m.onEts f).nms = m.nms := rfl
@[simp] theorem onEts_vnk (m : Mod) (f : EtsX → EtsX) : (m.onEts f).vnk = m.vnk := rfl
@[simp] theorem onEts_bbs (m : Mod) (f : EtsX → EtsX) : (m.onEts f).bbs = m.bbs := rfl
@[simp] theorem onEts_pwr (m : Mod) (f : EtsX → EtsX) : (m.onEts f).pwr = m.pwr := rfl
@[simp] theorem onEts_boot (m : Mod) (f : EtsX → EtsX) : (m.onEts f).boot = m.boot := rfl
@[simp] theorem onEts_sec (m : Mod) (f : EtsX → EtsX) : (m.onEts f).sec = m.sec := rfl
@[simp] theorem onEts_uds (m : Mod) (f : EtsX → EtsX) : (m.onEts f).uds = m.uds := rfl
@[simp] theorem onEts_upd (m : Mod) (f : EtsX → EtsX) : (m.onEts f).upd = m.upd := rfl
@[simp] theorem onEts_poolUsed (m : Mod) (f : EtsX → EtsX) : (m.onEts f).poolUsed = m.poolUsed := rfl
@[simp] theorem onEts_ets (m : Mod) (f : EtsX → EtsX) : (m.onEts f).ets = f m.ets := rfl

@[simp] theorem onFio_regs (m : Mod) (f : FioX → FioX) : (m.onFio f).regs = m.regs := rfl
@[simp] theorem onFio_mem (m : Mod) (f : FioX → FioX) : (m.onFio f).mem = m.mem := rfl
@[simp] theorem onFio_evt (m : Mod) (f : FioX → FioX) : (m.onFio f).evt = m.evt := rfl
@[simp] theorem onFio_frm (m : Mod) (f : FioX → FioX) : (m.onFio f).frm = m.frm := rfl
@[simp] theorem onFio_prm (m : Mod) (f : FioX → FioX) : (m.onFio f).prm = m.prm := rfl
@[simp] theorem onFio_chans (m : Mod) (f : FioX → FioX) : (m.onFio f).chans = m.chans := rfl
@[simp] theorem onFio_banks (m : Mod) (f : FioX → FioX) : (m.onFio f).banks = m.banks := rfl
@[simp] theorem onFio_quads (m : Mod) (f : FioX → FioX) : (m.onFio f).quads = m.quads := rfl
@[simp] theorem onFio_dia (m : Mod) (f : FioX → FioX) : (m.onFio f).dia = m.dia := rfl
@[simp] theorem onFio_brs (m : Mod) (f : FioX → FioX) : (m.onFio f).brs = m.brs := rfl
@[simp] theorem onFio_qds (m : Mod) (f : FioX → FioX) : (m.onFio f).qds = m.qds := rfl
@[simp] theorem onFio_pair (m : Mod) (f : FioX → FioX) : (m.onFio f).pair = m.pair := rfl
@[simp] theorem onFio_watches (m : Mod) (f : FioX → FioX) : (m.onFio f).watches = m.watches := rfl
@[simp] theorem onFio_sinks (m : Mod) (f : FioX → FioX) : (m.onFio f).sinks = m.sinks := rfl
@[simp] theorem onFio_led (m : Mod) (f : FioX → FioX) : (m.onFio f).led = m.led := rfl
@[simp] theorem onFio_engs (m : Mod) (f : FioX → FioX) : (m.onFio f).engs = m.engs := rfl
@[simp] theorem onFio_top (m : Mod) (f : FioX → FioX) : (m.onFio f).top = m.top := rfl
@[simp] theorem onFio_clr (m : Mod) (f : FioX → FioX) : (m.onFio f).clr = m.clr := rfl
@[simp] theorem onFio_lss (m : Mod) (f : FioX → FioX) : (m.onFio f).lss = m.lss := rfl
@[simp] theorem onFio_cis (m : Mod) (f : FioX → FioX) : (m.onFio f).cis = m.cis := rfl
@[simp] theorem onFio_img (m : Mod) (f : FioX → FioX) : (m.onFio f).img = m.img := rfl
@[simp] theorem onFio_cans (m : Mod) (f : FioX → FioX) : (m.onFio f).cans = m.cans := rfl
@[simp] theorem onFio_trxs (m : Mod) (f : FioX → FioX) : (m.onFio f).trxs = m.trxs := rfl
@[simp] theorem onFio_lins (m : Mod) (f : FioX → FioX) : (m.onFio f).lins = m.lins := rfl
@[simp] theorem onFio_t1s (m : Mod) (f : FioX → FioX) : (m.onFio f).t1s = m.t1s := rfl
@[simp] theorem onFio_nms (m : Mod) (f : FioX → FioX) : (m.onFio f).nms = m.nms := rfl
@[simp] theorem onFio_vnk (m : Mod) (f : FioX → FioX) : (m.onFio f).vnk = m.vnk := rfl
@[simp] theorem onFio_bbs (m : Mod) (f : FioX → FioX) : (m.onFio f).bbs = m.bbs := rfl
@[simp] theorem onFio_ets (m : Mod) (f : FioX → FioX) : (m.onFio f).ets = m.ets := rfl
@[simp] theorem onFio_pwr (m : Mod) (f : FioX → FioX) : (m.onFio f).pwr = m.pwr := rfl
@[simp] theorem onFio_boot (m : Mod) (f : FioX → FioX) : (m.onFio f).boot = m.boot := rfl
@[simp] theorem onFio_sec (m : Mod) (f : FioX → FioX) : (m.onFio f).sec = m.sec := rfl
@[simp] theorem onFio_uds (m : Mod) (f : FioX → FioX) : (m.onFio f).uds = m.uds := rfl
@[simp] theorem onFio_upd (m : Mod) (f : FioX → FioX) : (m.onFio f).upd = m.upd := rfl
@[simp] theorem onFio_poolUsed (m : Mod) (f : FioX → FioX) : (m.onFio f).poolUsed = m.poolUsed := rfl
@[simp] theorem onFio_fio (m : Mod) (f : FioX → FioX) : (m.onFio f).fio = f m.fio := rfl

@[simp] theorem onChan_regs (m : Mod) (q c : Nat) (f : ChanX → ChanX) : (m.onChan q c f).regs = m.regs := rfl
@[simp] theorem onChan_mem (m : Mod) (q c : Nat) (f : ChanX → ChanX) : (m.onChan q c f).mem = m.mem := rfl
@[simp] theorem onChan_evt (m : Mod) (q c : Nat) (f : ChanX → ChanX) : (m.onChan q c f).evt = m.evt := rfl
@[simp] theorem onChan_frm (m : Mod) (q c : Nat) (f : ChanX → ChanX) : (m.onChan q c f).frm = m.frm := rfl
@[simp] theorem onChan_prm (m : Mod) (q c : Nat) (f : ChanX → ChanX) : (m.onChan q c f).prm = m.prm := rfl
@[simp] theorem onChan_banks (m : Mod) (q c : Nat) (f : ChanX → ChanX) : (m.onChan q c f).banks = m.banks := rfl
@[simp] theorem onChan_quads (m : Mod) (q c : Nat) (f : ChanX → ChanX) : (m.onChan q c f).quads = m.quads := rfl
@[simp] theorem onChan_dia (m : Mod) (q c : Nat) (f : ChanX → ChanX) : (m.onChan q c f).dia = m.dia := rfl
@[simp] theorem onChan_brs (m : Mod) (q c : Nat) (f : ChanX → ChanX) : (m.onChan q c f).brs = m.brs := rfl
@[simp] theorem onChan_qds (m : Mod) (q c : Nat) (f : ChanX → ChanX) : (m.onChan q c f).qds = m.qds := rfl
@[simp] theorem onChan_pair (m : Mod) (q c : Nat) (f : ChanX → ChanX) : (m.onChan q c f).pair = m.pair := rfl
@[simp] theorem onChan_watches (m : Mod) (q c : Nat) (f : ChanX → ChanX) : (m.onChan q c f).watches = m.watches := rfl
@[simp] theorem onChan_sinks (m : Mod) (q c : Nat) (f : ChanX → ChanX) : (m.onChan q c f).sinks = m.sinks := rfl
@[simp] theorem onChan_led (m : Mod) (q c : Nat) (f : ChanX → ChanX) : (m.onChan q c f).led = m.led := rfl
@[simp] theorem onChan_engs (m : Mod) (q c : Nat) (f : ChanX → ChanX) : (m.onChan q c f).engs = m.engs := rfl
@[simp] theorem onChan_top (m : Mod) (q c : Nat) (f : ChanX → ChanX) : (m.onChan q c f).top = m.top := rfl
@[simp] theorem onChan_clr (m : Mod) (q c : Nat) (f : ChanX → ChanX) : (m.onChan q c f).clr = m.clr := rfl
@[simp] theorem onChan_lss (m : Mod) (q c : Nat) (f : ChanX → ChanX) : (m.onChan q c f).lss = m.lss := rfl
@[simp] theorem onChan_cis (m : Mod) (q c : Nat) (f : ChanX → ChanX) : (m.onChan q c f).cis = m.cis := rfl
@[simp] theorem onChan_fio (m : Mod) (q c : Nat) (f : ChanX → ChanX) : (m.onChan q c f).fio = m.fio := rfl
@[simp] theorem onChan_img (m : Mod) (q c : Nat) (f : ChanX → ChanX) : (m.onChan q c f).img = m.img := rfl
@[simp] theorem onChan_cans (m : Mod) (q c : Nat) (f : ChanX → ChanX) : (m.onChan q c f).cans = m.cans := rfl
@[simp] theorem onChan_trxs (m : Mod) (q c : Nat) (f : ChanX → ChanX) : (m.onChan q c f).trxs = m.trxs := rfl
@[simp] theorem onChan_lins (m : Mod) (q c : Nat) (f : ChanX → ChanX) : (m.onChan q c f).lins = m.lins := rfl
@[simp] theorem onChan_t1s (m : Mod) (q c : Nat) (f : ChanX → ChanX) : (m.onChan q c f).t1s = m.t1s := rfl
@[simp] theorem onChan_nms (m : Mod) (q c : Nat) (f : ChanX → ChanX) : (m.onChan q c f).nms = m.nms := rfl
@[simp] theorem onChan_vnk (m : Mod) (q c : Nat) (f : ChanX → ChanX) : (m.onChan q c f).vnk = m.vnk := rfl
@[simp] theorem onChan_bbs (m : Mod) (q c : Nat) (f : ChanX → ChanX) : (m.onChan q c f).bbs = m.bbs := rfl
@[simp] theorem onChan_ets (m : Mod) (q c : Nat) (f : ChanX → ChanX) : (m.onChan q c f).ets = m.ets := rfl
@[simp] theorem onChan_pwr (m : Mod) (q c : Nat) (f : ChanX → ChanX) : (m.onChan q c f).pwr = m.pwr := rfl
@[simp] theorem onChan_boot (m : Mod) (q c : Nat) (f : ChanX → ChanX) : (m.onChan q c f).boot = m.boot := rfl
@[simp] theorem onChan_sec (m : Mod) (q c : Nat) (f : ChanX → ChanX) : (m.onChan q c f).sec = m.sec := rfl
@[simp] theorem onChan_uds (m : Mod) (q c : Nat) (f : ChanX → ChanX) : (m.onChan q c f).uds = m.uds := rfl
@[simp] theorem onChan_upd (m : Mod) (q c : Nat) (f : ChanX → ChanX) : (m.onChan q c f).upd = m.upd := rfl
@[simp] theorem onChan_poolUsed (m : Mod) (q c : Nat) (f : ChanX → ChanX) : (m.onChan q c f).poolUsed = m.poolUsed := rfl

@[simp] theorem onBank_regs (m : Mod) (b : Nat) (f : BankX → BankX) : (m.onBank b f).regs = m.regs := rfl
@[simp] theorem onBank_mem (m : Mod) (b : Nat) (f : BankX → BankX) : (m.onBank b f).mem = m.mem := rfl
@[simp] theorem onBank_evt (m : Mod) (b : Nat) (f : BankX → BankX) : (m.onBank b f).evt = m.evt := rfl
@[simp] theorem onBank_frm (m : Mod) (b : Nat) (f : BankX → BankX) : (m.onBank b f).frm = m.frm := rfl
@[simp] theorem onBank_prm (m : Mod) (b : Nat) (f : BankX → BankX) : (m.onBank b f).prm = m.prm := rfl
@[simp] theorem onBank_chans (m : Mod) (b : Nat) (f : BankX → BankX) : (m.onBank b f).chans = m.chans := rfl
@[simp] theorem onBank_quads (m : Mod) (b : Nat) (f : BankX → BankX) : (m.onBank b f).quads = m.quads := rfl
@[simp] theorem onBank_dia (m : Mod) (b : Nat) (f : BankX → BankX) : (m.onBank b f).dia = m.dia := rfl
@[simp] theorem onBank_brs (m : Mod) (b : Nat) (f : BankX → BankX) : (m.onBank b f).brs = m.brs := rfl
@[simp] theorem onBank_qds (m : Mod) (b : Nat) (f : BankX → BankX) : (m.onBank b f).qds = m.qds := rfl
@[simp] theorem onBank_pair (m : Mod) (b : Nat) (f : BankX → BankX) : (m.onBank b f).pair = m.pair := rfl
@[simp] theorem onBank_watches (m : Mod) (b : Nat) (f : BankX → BankX) : (m.onBank b f).watches = m.watches := rfl
@[simp] theorem onBank_sinks (m : Mod) (b : Nat) (f : BankX → BankX) : (m.onBank b f).sinks = m.sinks := rfl
@[simp] theorem onBank_led (m : Mod) (b : Nat) (f : BankX → BankX) : (m.onBank b f).led = m.led := rfl
@[simp] theorem onBank_engs (m : Mod) (b : Nat) (f : BankX → BankX) : (m.onBank b f).engs = m.engs := rfl
@[simp] theorem onBank_top (m : Mod) (b : Nat) (f : BankX → BankX) : (m.onBank b f).top = m.top := rfl
@[simp] theorem onBank_clr (m : Mod) (b : Nat) (f : BankX → BankX) : (m.onBank b f).clr = m.clr := rfl
@[simp] theorem onBank_lss (m : Mod) (b : Nat) (f : BankX → BankX) : (m.onBank b f).lss = m.lss := rfl
@[simp] theorem onBank_cis (m : Mod) (b : Nat) (f : BankX → BankX) : (m.onBank b f).cis = m.cis := rfl
@[simp] theorem onBank_fio (m : Mod) (b : Nat) (f : BankX → BankX) : (m.onBank b f).fio = m.fio := rfl
@[simp] theorem onBank_img (m : Mod) (b : Nat) (f : BankX → BankX) : (m.onBank b f).img = m.img := rfl
@[simp] theorem onBank_cans (m : Mod) (b : Nat) (f : BankX → BankX) : (m.onBank b f).cans = m.cans := rfl
@[simp] theorem onBank_trxs (m : Mod) (b : Nat) (f : BankX → BankX) : (m.onBank b f).trxs = m.trxs := rfl
@[simp] theorem onBank_lins (m : Mod) (b : Nat) (f : BankX → BankX) : (m.onBank b f).lins = m.lins := rfl
@[simp] theorem onBank_t1s (m : Mod) (b : Nat) (f : BankX → BankX) : (m.onBank b f).t1s = m.t1s := rfl
@[simp] theorem onBank_nms (m : Mod) (b : Nat) (f : BankX → BankX) : (m.onBank b f).nms = m.nms := rfl
@[simp] theorem onBank_vnk (m : Mod) (b : Nat) (f : BankX → BankX) : (m.onBank b f).vnk = m.vnk := rfl
@[simp] theorem onBank_bbs (m : Mod) (b : Nat) (f : BankX → BankX) : (m.onBank b f).bbs = m.bbs := rfl
@[simp] theorem onBank_ets (m : Mod) (b : Nat) (f : BankX → BankX) : (m.onBank b f).ets = m.ets := rfl
@[simp] theorem onBank_pwr (m : Mod) (b : Nat) (f : BankX → BankX) : (m.onBank b f).pwr = m.pwr := rfl
@[simp] theorem onBank_boot (m : Mod) (b : Nat) (f : BankX → BankX) : (m.onBank b f).boot = m.boot := rfl
@[simp] theorem onBank_sec (m : Mod) (b : Nat) (f : BankX → BankX) : (m.onBank b f).sec = m.sec := rfl
@[simp] theorem onBank_uds (m : Mod) (b : Nat) (f : BankX → BankX) : (m.onBank b f).uds = m.uds := rfl
@[simp] theorem onBank_upd (m : Mod) (b : Nat) (f : BankX → BankX) : (m.onBank b f).upd = m.upd := rfl
@[simp] theorem onBank_poolUsed (m : Mod) (b : Nat) (f : BankX → BankX) : (m.onBank b f).poolUsed = m.poolUsed := rfl

@[simp] theorem onQuad_regs (m : Mod) (q : Nat) (f : QuadX → QuadX) : (m.onQuad q f).regs = m.regs := rfl
@[simp] theorem onQuad_mem (m : Mod) (q : Nat) (f : QuadX → QuadX) : (m.onQuad q f).mem = m.mem := rfl
@[simp] theorem onQuad_evt (m : Mod) (q : Nat) (f : QuadX → QuadX) : (m.onQuad q f).evt = m.evt := rfl
@[simp] theorem onQuad_frm (m : Mod) (q : Nat) (f : QuadX → QuadX) : (m.onQuad q f).frm = m.frm := rfl
@[simp] theorem onQuad_prm (m : Mod) (q : Nat) (f : QuadX → QuadX) : (m.onQuad q f).prm = m.prm := rfl
@[simp] theorem onQuad_chans (m : Mod) (q : Nat) (f : QuadX → QuadX) : (m.onQuad q f).chans = m.chans := rfl
@[simp] theorem onQuad_banks (m : Mod) (q : Nat) (f : QuadX → QuadX) : (m.onQuad q f).banks = m.banks := rfl
@[simp] theorem onQuad_dia (m : Mod) (q : Nat) (f : QuadX → QuadX) : (m.onQuad q f).dia = m.dia := rfl
@[simp] theorem onQuad_brs (m : Mod) (q : Nat) (f : QuadX → QuadX) : (m.onQuad q f).brs = m.brs := rfl
@[simp] theorem onQuad_qds (m : Mod) (q : Nat) (f : QuadX → QuadX) : (m.onQuad q f).qds = m.qds := rfl
@[simp] theorem onQuad_pair (m : Mod) (q : Nat) (f : QuadX → QuadX) : (m.onQuad q f).pair = m.pair := rfl
@[simp] theorem onQuad_watches (m : Mod) (q : Nat) (f : QuadX → QuadX) : (m.onQuad q f).watches = m.watches := rfl
@[simp] theorem onQuad_sinks (m : Mod) (q : Nat) (f : QuadX → QuadX) : (m.onQuad q f).sinks = m.sinks := rfl
@[simp] theorem onQuad_led (m : Mod) (q : Nat) (f : QuadX → QuadX) : (m.onQuad q f).led = m.led := rfl
@[simp] theorem onQuad_engs (m : Mod) (q : Nat) (f : QuadX → QuadX) : (m.onQuad q f).engs = m.engs := rfl
@[simp] theorem onQuad_top (m : Mod) (q : Nat) (f : QuadX → QuadX) : (m.onQuad q f).top = m.top := rfl
@[simp] theorem onQuad_clr (m : Mod) (q : Nat) (f : QuadX → QuadX) : (m.onQuad q f).clr = m.clr := rfl
@[simp] theorem onQuad_lss (m : Mod) (q : Nat) (f : QuadX → QuadX) : (m.onQuad q f).lss = m.lss := rfl
@[simp] theorem onQuad_cis (m : Mod) (q : Nat) (f : QuadX → QuadX) : (m.onQuad q f).cis = m.cis := rfl
@[simp] theorem onQuad_fio (m : Mod) (q : Nat) (f : QuadX → QuadX) : (m.onQuad q f).fio = m.fio := rfl
@[simp] theorem onQuad_img (m : Mod) (q : Nat) (f : QuadX → QuadX) : (m.onQuad q f).img = m.img := rfl
@[simp] theorem onQuad_cans (m : Mod) (q : Nat) (f : QuadX → QuadX) : (m.onQuad q f).cans = m.cans := rfl
@[simp] theorem onQuad_trxs (m : Mod) (q : Nat) (f : QuadX → QuadX) : (m.onQuad q f).trxs = m.trxs := rfl
@[simp] theorem onQuad_lins (m : Mod) (q : Nat) (f : QuadX → QuadX) : (m.onQuad q f).lins = m.lins := rfl
@[simp] theorem onQuad_t1s (m : Mod) (q : Nat) (f : QuadX → QuadX) : (m.onQuad q f).t1s = m.t1s := rfl
@[simp] theorem onQuad_nms (m : Mod) (q : Nat) (f : QuadX → QuadX) : (m.onQuad q f).nms = m.nms := rfl
@[simp] theorem onQuad_vnk (m : Mod) (q : Nat) (f : QuadX → QuadX) : (m.onQuad q f).vnk = m.vnk := rfl
@[simp] theorem onQuad_bbs (m : Mod) (q : Nat) (f : QuadX → QuadX) : (m.onQuad q f).bbs = m.bbs := rfl
@[simp] theorem onQuad_ets (m : Mod) (q : Nat) (f : QuadX → QuadX) : (m.onQuad q f).ets = m.ets := rfl
@[simp] theorem onQuad_pwr (m : Mod) (q : Nat) (f : QuadX → QuadX) : (m.onQuad q f).pwr = m.pwr := rfl
@[simp] theorem onQuad_boot (m : Mod) (q : Nat) (f : QuadX → QuadX) : (m.onQuad q f).boot = m.boot := rfl
@[simp] theorem onQuad_sec (m : Mod) (q : Nat) (f : QuadX → QuadX) : (m.onQuad q f).sec = m.sec := rfl
@[simp] theorem onQuad_uds (m : Mod) (q : Nat) (f : QuadX → QuadX) : (m.onQuad q f).uds = m.uds := rfl
@[simp] theorem onQuad_upd (m : Mod) (q : Nat) (f : QuadX → QuadX) : (m.onQuad q f).upd = m.upd := rfl
@[simp] theorem onQuad_poolUsed (m : Mod) (q : Nat) (f : QuadX → QuadX) : (m.onQuad q f).poolUsed = m.poolUsed := rfl

@[simp] theorem onBr_regs (m : Mod) (k : Nat) (f : BrX → BrX) : (m.onBr k f).regs = m.regs := rfl
@[simp] theorem onBr_mem (m : Mod) (k : Nat) (f : BrX → BrX) : (m.onBr k f).mem = m.mem := rfl
@[simp] theorem onBr_evt (m : Mod) (k : Nat) (f : BrX → BrX) : (m.onBr k f).evt = m.evt := rfl
@[simp] theorem onBr_frm (m : Mod) (k : Nat) (f : BrX → BrX) : (m.onBr k f).frm = m.frm := rfl
@[simp] theorem onBr_prm (m : Mod) (k : Nat) (f : BrX → BrX) : (m.onBr k f).prm = m.prm := rfl
@[simp] theorem onBr_chans (m : Mod) (k : Nat) (f : BrX → BrX) : (m.onBr k f).chans = m.chans := rfl
@[simp] theorem onBr_banks (m : Mod) (k : Nat) (f : BrX → BrX) : (m.onBr k f).banks = m.banks := rfl
@[simp] theorem onBr_quads (m : Mod) (k : Nat) (f : BrX → BrX) : (m.onBr k f).quads = m.quads := rfl
@[simp] theorem onBr_dia (m : Mod) (k : Nat) (f : BrX → BrX) : (m.onBr k f).dia = m.dia := rfl
@[simp] theorem onBr_qds (m : Mod) (k : Nat) (f : BrX → BrX) : (m.onBr k f).qds = m.qds := rfl
@[simp] theorem onBr_pair (m : Mod) (k : Nat) (f : BrX → BrX) : (m.onBr k f).pair = m.pair := rfl
@[simp] theorem onBr_watches (m : Mod) (k : Nat) (f : BrX → BrX) : (m.onBr k f).watches = m.watches := rfl
@[simp] theorem onBr_sinks (m : Mod) (k : Nat) (f : BrX → BrX) : (m.onBr k f).sinks = m.sinks := rfl
@[simp] theorem onBr_led (m : Mod) (k : Nat) (f : BrX → BrX) : (m.onBr k f).led = m.led := rfl
@[simp] theorem onBr_engs (m : Mod) (k : Nat) (f : BrX → BrX) : (m.onBr k f).engs = m.engs := rfl
@[simp] theorem onBr_top (m : Mod) (k : Nat) (f : BrX → BrX) : (m.onBr k f).top = m.top := rfl
@[simp] theorem onBr_clr (m : Mod) (k : Nat) (f : BrX → BrX) : (m.onBr k f).clr = m.clr := rfl
@[simp] theorem onBr_lss (m : Mod) (k : Nat) (f : BrX → BrX) : (m.onBr k f).lss = m.lss := rfl
@[simp] theorem onBr_cis (m : Mod) (k : Nat) (f : BrX → BrX) : (m.onBr k f).cis = m.cis := rfl
@[simp] theorem onBr_fio (m : Mod) (k : Nat) (f : BrX → BrX) : (m.onBr k f).fio = m.fio := rfl
@[simp] theorem onBr_img (m : Mod) (k : Nat) (f : BrX → BrX) : (m.onBr k f).img = m.img := rfl
@[simp] theorem onBr_cans (m : Mod) (k : Nat) (f : BrX → BrX) : (m.onBr k f).cans = m.cans := rfl
@[simp] theorem onBr_trxs (m : Mod) (k : Nat) (f : BrX → BrX) : (m.onBr k f).trxs = m.trxs := rfl
@[simp] theorem onBr_lins (m : Mod) (k : Nat) (f : BrX → BrX) : (m.onBr k f).lins = m.lins := rfl
@[simp] theorem onBr_t1s (m : Mod) (k : Nat) (f : BrX → BrX) : (m.onBr k f).t1s = m.t1s := rfl
@[simp] theorem onBr_nms (m : Mod) (k : Nat) (f : BrX → BrX) : (m.onBr k f).nms = m.nms := rfl
@[simp] theorem onBr_vnk (m : Mod) (k : Nat) (f : BrX → BrX) : (m.onBr k f).vnk = m.vnk := rfl
@[simp] theorem onBr_bbs (m : Mod) (k : Nat) (f : BrX → BrX) : (m.onBr k f).bbs = m.bbs := rfl
@[simp] theorem onBr_ets (m : Mod) (k : Nat) (f : BrX → BrX) : (m.onBr k f).ets = m.ets := rfl
@[simp] theorem onBr_pwr (m : Mod) (k : Nat) (f : BrX → BrX) : (m.onBr k f).pwr = m.pwr := rfl
@[simp] theorem onBr_boot (m : Mod) (k : Nat) (f : BrX → BrX) : (m.onBr k f).boot = m.boot := rfl
@[simp] theorem onBr_sec (m : Mod) (k : Nat) (f : BrX → BrX) : (m.onBr k f).sec = m.sec := rfl
@[simp] theorem onBr_uds (m : Mod) (k : Nat) (f : BrX → BrX) : (m.onBr k f).uds = m.uds := rfl
@[simp] theorem onBr_upd (m : Mod) (k : Nat) (f : BrX → BrX) : (m.onBr k f).upd = m.upd := rfl
@[simp] theorem onBr_poolUsed (m : Mod) (k : Nat) (f : BrX → BrX) : (m.onBr k f).poolUsed = m.poolUsed := rfl

@[simp] theorem onQd_regs (m : Mod) (k : Nat) (f : QdX → QdX) : (m.onQd k f).regs = m.regs := rfl
@[simp] theorem onQd_mem (m : Mod) (k : Nat) (f : QdX → QdX) : (m.onQd k f).mem = m.mem := rfl
@[simp] theorem onQd_evt (m : Mod) (k : Nat) (f : QdX → QdX) : (m.onQd k f).evt = m.evt := rfl
@[simp] theorem onQd_frm (m : Mod) (k : Nat) (f : QdX → QdX) : (m.onQd k f).frm = m.frm := rfl
@[simp] theorem onQd_prm (m : Mod) (k : Nat) (f : QdX → QdX) : (m.onQd k f).prm = m.prm := rfl
@[simp] theorem onQd_chans (m : Mod) (k : Nat) (f : QdX → QdX) : (m.onQd k f).chans = m.chans := rfl
@[simp] theorem onQd_banks (m : Mod) (k : Nat) (f : QdX → QdX) : (m.onQd k f).banks = m.banks := rfl
@[simp] theorem onQd_quads (m : Mod) (k : Nat) (f : QdX → QdX) : (m.onQd k f).quads = m.quads := rfl
@[simp] theorem onQd_dia (m : Mod) (k : Nat) (f : QdX → QdX) : (m.onQd k f).dia = m.dia := rfl
@[simp] theorem onQd_brs (m : Mod) (k : Nat) (f : QdX → QdX) : (m.onQd k f).brs = m.brs := rfl
@[simp] theorem onQd_pair (m : Mod) (k : Nat) (f : QdX → QdX) : (m.onQd k f).pair = m.pair := rfl
@[simp] theorem onQd_watches (m : Mod) (k : Nat) (f : QdX → QdX) : (m.onQd k f).watches = m.watches := rfl
@[simp] theorem onQd_sinks (m : Mod) (k : Nat) (f : QdX → QdX) : (m.onQd k f).sinks = m.sinks := rfl
@[simp] theorem onQd_led (m : Mod) (k : Nat) (f : QdX → QdX) : (m.onQd k f).led = m.led := rfl
@[simp] theorem onQd_engs (m : Mod) (k : Nat) (f : QdX → QdX) : (m.onQd k f).engs = m.engs := rfl
@[simp] theorem onQd_top (m : Mod) (k : Nat) (f : QdX → QdX) : (m.onQd k f).top = m.top := rfl
@[simp] theorem onQd_clr (m : Mod) (k : Nat) (f : QdX → QdX) : (m.onQd k f).clr = m.clr := rfl
@[simp] theorem onQd_lss (m : Mod) (k : Nat) (f : QdX → QdX) : (m.onQd k f).lss = m.lss := rfl
@[simp] theorem onQd_cis (m : Mod) (k : Nat) (f : QdX → QdX) : (m.onQd k f).cis = m.cis := rfl
@[simp] theorem onQd_fio (m : Mod) (k : Nat) (f : QdX → QdX) : (m.onQd k f).fio = m.fio := rfl
@[simp] theorem onQd_img (m : Mod) (k : Nat) (f : QdX → QdX) : (m.onQd k f).img = m.img := rfl
@[simp] theorem onQd_cans (m : Mod) (k : Nat) (f : QdX → QdX) : (m.onQd k f).cans = m.cans := rfl
@[simp] theorem onQd_trxs (m : Mod) (k : Nat) (f : QdX → QdX) : (m.onQd k f).trxs = m.trxs := rfl
@[simp] theorem onQd_lins (m : Mod) (k : Nat) (f : QdX → QdX) : (m.onQd k f).lins = m.lins := rfl
@[simp] theorem onQd_t1s (m : Mod) (k : Nat) (f : QdX → QdX) : (m.onQd k f).t1s = m.t1s := rfl
@[simp] theorem onQd_nms (m : Mod) (k : Nat) (f : QdX → QdX) : (m.onQd k f).nms = m.nms := rfl
@[simp] theorem onQd_vnk (m : Mod) (k : Nat) (f : QdX → QdX) : (m.onQd k f).vnk = m.vnk := rfl
@[simp] theorem onQd_bbs (m : Mod) (k : Nat) (f : QdX → QdX) : (m.onQd k f).bbs = m.bbs := rfl
@[simp] theorem onQd_ets (m : Mod) (k : Nat) (f : QdX → QdX) : (m.onQd k f).ets = m.ets := rfl
@[simp] theorem onQd_pwr (m : Mod) (k : Nat) (f : QdX → QdX) : (m.onQd k f).pwr = m.pwr := rfl
@[simp] theorem onQd_boot (m : Mod) (k : Nat) (f : QdX → QdX) : (m.onQd k f).boot = m.boot := rfl
@[simp] theorem onQd_sec (m : Mod) (k : Nat) (f : QdX → QdX) : (m.onQd k f).sec = m.sec := rfl
@[simp] theorem onQd_uds (m : Mod) (k : Nat) (f : QdX → QdX) : (m.onQd k f).uds = m.uds := rfl
@[simp] theorem onQd_upd (m : Mod) (k : Nat) (f : QdX → QdX) : (m.onQd k f).upd = m.upd := rfl
@[simp] theorem onQd_poolUsed (m : Mod) (k : Nat) (f : QdX → QdX) : (m.onQd k f).poolUsed = m.poolUsed := rfl

@[simp] theorem onSink_regs (m : Mod) (k : Nat) (f : SinkX → SinkX) : (m.onSink k f).regs = m.regs := rfl
@[simp] theorem onSink_mem (m : Mod) (k : Nat) (f : SinkX → SinkX) : (m.onSink k f).mem = m.mem := rfl
@[simp] theorem onSink_evt (m : Mod) (k : Nat) (f : SinkX → SinkX) : (m.onSink k f).evt = m.evt := rfl
@[simp] theorem onSink_frm (m : Mod) (k : Nat) (f : SinkX → SinkX) : (m.onSink k f).frm = m.frm := rfl
@[simp] theorem onSink_prm (m : Mod) (k : Nat) (f : SinkX → SinkX) : (m.onSink k f).prm = m.prm := rfl
@[simp] theorem onSink_chans (m : Mod) (k : Nat) (f : SinkX → SinkX) : (m.onSink k f).chans = m.chans := rfl
@[simp] theorem onSink_banks (m : Mod) (k : Nat) (f : SinkX → SinkX) : (m.onSink k f).banks = m.banks := rfl
@[simp] theorem onSink_quads (m : Mod) (k : Nat) (f : SinkX → SinkX) : (m.onSink k f).quads = m.quads := rfl
@[simp] theorem onSink_dia (m : Mod) (k : Nat) (f : SinkX → SinkX) : (m.onSink k f).dia = m.dia := rfl
@[simp] theorem onSink_brs (m : Mod) (k : Nat) (f : SinkX → SinkX) : (m.onSink k f).brs = m.brs := rfl
@[simp] theorem onSink_qds (m : Mod) (k : Nat) (f : SinkX → SinkX) : (m.onSink k f).qds = m.qds := rfl
@[simp] theorem onSink_pair (m : Mod) (k : Nat) (f : SinkX → SinkX) : (m.onSink k f).pair = m.pair := rfl
@[simp] theorem onSink_watches (m : Mod) (k : Nat) (f : SinkX → SinkX) : (m.onSink k f).watches = m.watches := rfl
@[simp] theorem onSink_led (m : Mod) (k : Nat) (f : SinkX → SinkX) : (m.onSink k f).led = m.led := rfl
@[simp] theorem onSink_engs (m : Mod) (k : Nat) (f : SinkX → SinkX) : (m.onSink k f).engs = m.engs := rfl
@[simp] theorem onSink_top (m : Mod) (k : Nat) (f : SinkX → SinkX) : (m.onSink k f).top = m.top := rfl
@[simp] theorem onSink_clr (m : Mod) (k : Nat) (f : SinkX → SinkX) : (m.onSink k f).clr = m.clr := rfl
@[simp] theorem onSink_lss (m : Mod) (k : Nat) (f : SinkX → SinkX) : (m.onSink k f).lss = m.lss := rfl
@[simp] theorem onSink_cis (m : Mod) (k : Nat) (f : SinkX → SinkX) : (m.onSink k f).cis = m.cis := rfl
@[simp] theorem onSink_fio (m : Mod) (k : Nat) (f : SinkX → SinkX) : (m.onSink k f).fio = m.fio := rfl
@[simp] theorem onSink_img (m : Mod) (k : Nat) (f : SinkX → SinkX) : (m.onSink k f).img = m.img := rfl
@[simp] theorem onSink_cans (m : Mod) (k : Nat) (f : SinkX → SinkX) : (m.onSink k f).cans = m.cans := rfl
@[simp] theorem onSink_trxs (m : Mod) (k : Nat) (f : SinkX → SinkX) : (m.onSink k f).trxs = m.trxs := rfl
@[simp] theorem onSink_lins (m : Mod) (k : Nat) (f : SinkX → SinkX) : (m.onSink k f).lins = m.lins := rfl
@[simp] theorem onSink_t1s (m : Mod) (k : Nat) (f : SinkX → SinkX) : (m.onSink k f).t1s = m.t1s := rfl
@[simp] theorem onSink_nms (m : Mod) (k : Nat) (f : SinkX → SinkX) : (m.onSink k f).nms = m.nms := rfl
@[simp] theorem onSink_vnk (m : Mod) (k : Nat) (f : SinkX → SinkX) : (m.onSink k f).vnk = m.vnk := rfl
@[simp] theorem onSink_bbs (m : Mod) (k : Nat) (f : SinkX → SinkX) : (m.onSink k f).bbs = m.bbs := rfl
@[simp] theorem onSink_ets (m : Mod) (k : Nat) (f : SinkX → SinkX) : (m.onSink k f).ets = m.ets := rfl
@[simp] theorem onSink_pwr (m : Mod) (k : Nat) (f : SinkX → SinkX) : (m.onSink k f).pwr = m.pwr := rfl
@[simp] theorem onSink_boot (m : Mod) (k : Nat) (f : SinkX → SinkX) : (m.onSink k f).boot = m.boot := rfl
@[simp] theorem onSink_sec (m : Mod) (k : Nat) (f : SinkX → SinkX) : (m.onSink k f).sec = m.sec := rfl
@[simp] theorem onSink_uds (m : Mod) (k : Nat) (f : SinkX → SinkX) : (m.onSink k f).uds = m.uds := rfl
@[simp] theorem onSink_upd (m : Mod) (k : Nat) (f : SinkX → SinkX) : (m.onSink k f).upd = m.upd := rfl
@[simp] theorem onSink_poolUsed (m : Mod) (k : Nat) (f : SinkX → SinkX) : (m.onSink k f).poolUsed = m.poolUsed := rfl

@[simp] theorem onEng_regs (m : Mod) (k : Nat) (f : EngX → EngX) : (m.onEng k f).regs = m.regs := rfl
@[simp] theorem onEng_mem (m : Mod) (k : Nat) (f : EngX → EngX) : (m.onEng k f).mem = m.mem := rfl
@[simp] theorem onEng_evt (m : Mod) (k : Nat) (f : EngX → EngX) : (m.onEng k f).evt = m.evt := rfl
@[simp] theorem onEng_frm (m : Mod) (k : Nat) (f : EngX → EngX) : (m.onEng k f).frm = m.frm := rfl
@[simp] theorem onEng_prm (m : Mod) (k : Nat) (f : EngX → EngX) : (m.onEng k f).prm = m.prm := rfl
@[simp] theorem onEng_chans (m : Mod) (k : Nat) (f : EngX → EngX) : (m.onEng k f).chans = m.chans := rfl
@[simp] theorem onEng_banks (m : Mod) (k : Nat) (f : EngX → EngX) : (m.onEng k f).banks = m.banks := rfl
@[simp] theorem onEng_quads (m : Mod) (k : Nat) (f : EngX → EngX) : (m.onEng k f).quads = m.quads := rfl
@[simp] theorem onEng_dia (m : Mod) (k : Nat) (f : EngX → EngX) : (m.onEng k f).dia = m.dia := rfl
@[simp] theorem onEng_brs (m : Mod) (k : Nat) (f : EngX → EngX) : (m.onEng k f).brs = m.brs := rfl
@[simp] theorem onEng_qds (m : Mod) (k : Nat) (f : EngX → EngX) : (m.onEng k f).qds = m.qds := rfl
@[simp] theorem onEng_pair (m : Mod) (k : Nat) (f : EngX → EngX) : (m.onEng k f).pair = m.pair := rfl
@[simp] theorem onEng_watches (m : Mod) (k : Nat) (f : EngX → EngX) : (m.onEng k f).watches = m.watches := rfl
@[simp] theorem onEng_sinks (m : Mod) (k : Nat) (f : EngX → EngX) : (m.onEng k f).sinks = m.sinks := rfl
@[simp] theorem onEng_led (m : Mod) (k : Nat) (f : EngX → EngX) : (m.onEng k f).led = m.led := rfl
@[simp] theorem onEng_top (m : Mod) (k : Nat) (f : EngX → EngX) : (m.onEng k f).top = m.top := rfl
@[simp] theorem onEng_clr (m : Mod) (k : Nat) (f : EngX → EngX) : (m.onEng k f).clr = m.clr := rfl
@[simp] theorem onEng_lss (m : Mod) (k : Nat) (f : EngX → EngX) : (m.onEng k f).lss = m.lss := rfl
@[simp] theorem onEng_cis (m : Mod) (k : Nat) (f : EngX → EngX) : (m.onEng k f).cis = m.cis := rfl
@[simp] theorem onEng_fio (m : Mod) (k : Nat) (f : EngX → EngX) : (m.onEng k f).fio = m.fio := rfl
@[simp] theorem onEng_img (m : Mod) (k : Nat) (f : EngX → EngX) : (m.onEng k f).img = m.img := rfl
@[simp] theorem onEng_cans (m : Mod) (k : Nat) (f : EngX → EngX) : (m.onEng k f).cans = m.cans := rfl
@[simp] theorem onEng_trxs (m : Mod) (k : Nat) (f : EngX → EngX) : (m.onEng k f).trxs = m.trxs := rfl
@[simp] theorem onEng_lins (m : Mod) (k : Nat) (f : EngX → EngX) : (m.onEng k f).lins = m.lins := rfl
@[simp] theorem onEng_t1s (m : Mod) (k : Nat) (f : EngX → EngX) : (m.onEng k f).t1s = m.t1s := rfl
@[simp] theorem onEng_nms (m : Mod) (k : Nat) (f : EngX → EngX) : (m.onEng k f).nms = m.nms := rfl
@[simp] theorem onEng_vnk (m : Mod) (k : Nat) (f : EngX → EngX) : (m.onEng k f).vnk = m.vnk := rfl
@[simp] theorem onEng_bbs (m : Mod) (k : Nat) (f : EngX → EngX) : (m.onEng k f).bbs = m.bbs := rfl
@[simp] theorem onEng_ets (m : Mod) (k : Nat) (f : EngX → EngX) : (m.onEng k f).ets = m.ets := rfl
@[simp] theorem onEng_pwr (m : Mod) (k : Nat) (f : EngX → EngX) : (m.onEng k f).pwr = m.pwr := rfl
@[simp] theorem onEng_boot (m : Mod) (k : Nat) (f : EngX → EngX) : (m.onEng k f).boot = m.boot := rfl
@[simp] theorem onEng_sec (m : Mod) (k : Nat) (f : EngX → EngX) : (m.onEng k f).sec = m.sec := rfl
@[simp] theorem onEng_uds (m : Mod) (k : Nat) (f : EngX → EngX) : (m.onEng k f).uds = m.uds := rfl
@[simp] theorem onEng_upd (m : Mod) (k : Nat) (f : EngX → EngX) : (m.onEng k f).upd = m.upd := rfl
@[simp] theorem onEng_poolUsed (m : Mod) (k : Nat) (f : EngX → EngX) : (m.onEng k f).poolUsed = m.poolUsed := rfl

@[simp] theorem onLs_regs (m : Mod) (k : Nat) (f : LsX → LsX) : (m.onLs k f).regs = m.regs := rfl
@[simp] theorem onLs_mem (m : Mod) (k : Nat) (f : LsX → LsX) : (m.onLs k f).mem = m.mem := rfl
@[simp] theorem onLs_evt (m : Mod) (k : Nat) (f : LsX → LsX) : (m.onLs k f).evt = m.evt := rfl
@[simp] theorem onLs_frm (m : Mod) (k : Nat) (f : LsX → LsX) : (m.onLs k f).frm = m.frm := rfl
@[simp] theorem onLs_prm (m : Mod) (k : Nat) (f : LsX → LsX) : (m.onLs k f).prm = m.prm := rfl
@[simp] theorem onLs_chans (m : Mod) (k : Nat) (f : LsX → LsX) : (m.onLs k f).chans = m.chans := rfl
@[simp] theorem onLs_banks (m : Mod) (k : Nat) (f : LsX → LsX) : (m.onLs k f).banks = m.banks := rfl
@[simp] theorem onLs_quads (m : Mod) (k : Nat) (f : LsX → LsX) : (m.onLs k f).quads = m.quads := rfl
@[simp] theorem onLs_dia (m : Mod) (k : Nat) (f : LsX → LsX) : (m.onLs k f).dia = m.dia := rfl
@[simp] theorem onLs_brs (m : Mod) (k : Nat) (f : LsX → LsX) : (m.onLs k f).brs = m.brs := rfl
@[simp] theorem onLs_qds (m : Mod) (k : Nat) (f : LsX → LsX) : (m.onLs k f).qds = m.qds := rfl
@[simp] theorem onLs_pair (m : Mod) (k : Nat) (f : LsX → LsX) : (m.onLs k f).pair = m.pair := rfl
@[simp] theorem onLs_watches (m : Mod) (k : Nat) (f : LsX → LsX) : (m.onLs k f).watches = m.watches := rfl
@[simp] theorem onLs_sinks (m : Mod) (k : Nat) (f : LsX → LsX) : (m.onLs k f).sinks = m.sinks := rfl
@[simp] theorem onLs_led (m : Mod) (k : Nat) (f : LsX → LsX) : (m.onLs k f).led = m.led := rfl
@[simp] theorem onLs_engs (m : Mod) (k : Nat) (f : LsX → LsX) : (m.onLs k f).engs = m.engs := rfl
@[simp] theorem onLs_top (m : Mod) (k : Nat) (f : LsX → LsX) : (m.onLs k f).top = m.top := rfl
@[simp] theorem onLs_clr (m : Mod) (k : Nat) (f : LsX → LsX) : (m.onLs k f).clr = m.clr := rfl
@[simp] theorem onLs_cis (m : Mod) (k : Nat) (f : LsX → LsX) : (m.onLs k f).cis = m.cis := rfl
@[simp] theorem onLs_fio (m : Mod) (k : Nat) (f : LsX → LsX) : (m.onLs k f).fio = m.fio := rfl
@[simp] theorem onLs_img (m : Mod) (k : Nat) (f : LsX → LsX) : (m.onLs k f).img = m.img := rfl
@[simp] theorem onLs_cans (m : Mod) (k : Nat) (f : LsX → LsX) : (m.onLs k f).cans = m.cans := rfl
@[simp] theorem onLs_trxs (m : Mod) (k : Nat) (f : LsX → LsX) : (m.onLs k f).trxs = m.trxs := rfl
@[simp] theorem onLs_lins (m : Mod) (k : Nat) (f : LsX → LsX) : (m.onLs k f).lins = m.lins := rfl
@[simp] theorem onLs_t1s (m : Mod) (k : Nat) (f : LsX → LsX) : (m.onLs k f).t1s = m.t1s := rfl
@[simp] theorem onLs_nms (m : Mod) (k : Nat) (f : LsX → LsX) : (m.onLs k f).nms = m.nms := rfl
@[simp] theorem onLs_vnk (m : Mod) (k : Nat) (f : LsX → LsX) : (m.onLs k f).vnk = m.vnk := rfl
@[simp] theorem onLs_bbs (m : Mod) (k : Nat) (f : LsX → LsX) : (m.onLs k f).bbs = m.bbs := rfl
@[simp] theorem onLs_ets (m : Mod) (k : Nat) (f : LsX → LsX) : (m.onLs k f).ets = m.ets := rfl
@[simp] theorem onLs_pwr (m : Mod) (k : Nat) (f : LsX → LsX) : (m.onLs k f).pwr = m.pwr := rfl
@[simp] theorem onLs_boot (m : Mod) (k : Nat) (f : LsX → LsX) : (m.onLs k f).boot = m.boot := rfl
@[simp] theorem onLs_sec (m : Mod) (k : Nat) (f : LsX → LsX) : (m.onLs k f).sec = m.sec := rfl
@[simp] theorem onLs_uds (m : Mod) (k : Nat) (f : LsX → LsX) : (m.onLs k f).uds = m.uds := rfl
@[simp] theorem onLs_upd (m : Mod) (k : Nat) (f : LsX → LsX) : (m.onLs k f).upd = m.upd := rfl
@[simp] theorem onLs_poolUsed (m : Mod) (k : Nat) (f : LsX → LsX) : (m.onLs k f).poolUsed = m.poolUsed := rfl

@[simp] theorem onCi_regs (m : Mod) (k : Nat) (f : CiX → CiX) : (m.onCi k f).regs = m.regs := rfl
@[simp] theorem onCi_mem (m : Mod) (k : Nat) (f : CiX → CiX) : (m.onCi k f).mem = m.mem := rfl
@[simp] theorem onCi_evt (m : Mod) (k : Nat) (f : CiX → CiX) : (m.onCi k f).evt = m.evt := rfl
@[simp] theorem onCi_frm (m : Mod) (k : Nat) (f : CiX → CiX) : (m.onCi k f).frm = m.frm := rfl
@[simp] theorem onCi_prm (m : Mod) (k : Nat) (f : CiX → CiX) : (m.onCi k f).prm = m.prm := rfl
@[simp] theorem onCi_chans (m : Mod) (k : Nat) (f : CiX → CiX) : (m.onCi k f).chans = m.chans := rfl
@[simp] theorem onCi_banks (m : Mod) (k : Nat) (f : CiX → CiX) : (m.onCi k f).banks = m.banks := rfl
@[simp] theorem onCi_quads (m : Mod) (k : Nat) (f : CiX → CiX) : (m.onCi k f).quads = m.quads := rfl
@[simp] theorem onCi_dia (m : Mod) (k : Nat) (f : CiX → CiX) : (m.onCi k f).dia = m.dia := rfl
@[simp] theorem onCi_brs (m : Mod) (k : Nat) (f : CiX → CiX) : (m.onCi k f).brs = m.brs := rfl
@[simp] theorem onCi_qds (m : Mod) (k : Nat) (f : CiX → CiX) : (m.onCi k f).qds = m.qds := rfl
@[simp] theorem onCi_pair (m : Mod) (k : Nat) (f : CiX → CiX) : (m.onCi k f).pair = m.pair := rfl
@[simp] theorem onCi_watches (m : Mod) (k : Nat) (f : CiX → CiX) : (m.onCi k f).watches = m.watches := rfl
@[simp] theorem onCi_sinks (m : Mod) (k : Nat) (f : CiX → CiX) : (m.onCi k f).sinks = m.sinks := rfl
@[simp] theorem onCi_led (m : Mod) (k : Nat) (f : CiX → CiX) : (m.onCi k f).led = m.led := rfl
@[simp] theorem onCi_engs (m : Mod) (k : Nat) (f : CiX → CiX) : (m.onCi k f).engs = m.engs := rfl
@[simp] theorem onCi_top (m : Mod) (k : Nat) (f : CiX → CiX) : (m.onCi k f).top = m.top := rfl
@[simp] theorem onCi_clr (m : Mod) (k : Nat) (f : CiX → CiX) : (m.onCi k f).clr = m.clr := rfl
@[simp] theorem onCi_lss (m : Mod) (k : Nat) (f : CiX → CiX) : (m.onCi k f).lss = m.lss := rfl
@[simp] theorem onCi_fio (m : Mod) (k : Nat) (f : CiX → CiX) : (m.onCi k f).fio = m.fio := rfl
@[simp] theorem onCi_img (m : Mod) (k : Nat) (f : CiX → CiX) : (m.onCi k f).img = m.img := rfl
@[simp] theorem onCi_cans (m : Mod) (k : Nat) (f : CiX → CiX) : (m.onCi k f).cans = m.cans := rfl
@[simp] theorem onCi_trxs (m : Mod) (k : Nat) (f : CiX → CiX) : (m.onCi k f).trxs = m.trxs := rfl
@[simp] theorem onCi_lins (m : Mod) (k : Nat) (f : CiX → CiX) : (m.onCi k f).lins = m.lins := rfl
@[simp] theorem onCi_t1s (m : Mod) (k : Nat) (f : CiX → CiX) : (m.onCi k f).t1s = m.t1s := rfl
@[simp] theorem onCi_nms (m : Mod) (k : Nat) (f : CiX → CiX) : (m.onCi k f).nms = m.nms := rfl
@[simp] theorem onCi_vnk (m : Mod) (k : Nat) (f : CiX → CiX) : (m.onCi k f).vnk = m.vnk := rfl
@[simp] theorem onCi_bbs (m : Mod) (k : Nat) (f : CiX → CiX) : (m.onCi k f).bbs = m.bbs := rfl
@[simp] theorem onCi_ets (m : Mod) (k : Nat) (f : CiX → CiX) : (m.onCi k f).ets = m.ets := rfl
@[simp] theorem onCi_pwr (m : Mod) (k : Nat) (f : CiX → CiX) : (m.onCi k f).pwr = m.pwr := rfl
@[simp] theorem onCi_boot (m : Mod) (k : Nat) (f : CiX → CiX) : (m.onCi k f).boot = m.boot := rfl
@[simp] theorem onCi_sec (m : Mod) (k : Nat) (f : CiX → CiX) : (m.onCi k f).sec = m.sec := rfl
@[simp] theorem onCi_uds (m : Mod) (k : Nat) (f : CiX → CiX) : (m.onCi k f).uds = m.uds := rfl
@[simp] theorem onCi_upd (m : Mod) (k : Nat) (f : CiX → CiX) : (m.onCi k f).upd = m.upd := rfl
@[simp] theorem onCi_poolUsed (m : Mod) (k : Nat) (f : CiX → CiX) : (m.onCi k f).poolUsed = m.poolUsed := rfl

@[simp] theorem onCan_regs (m : Mod) (k : Nat) (f : CanX → CanX) : (m.onCan k f).regs = m.regs := rfl
@[simp] theorem onCan_mem (m : Mod) (k : Nat) (f : CanX → CanX) : (m.onCan k f).mem = m.mem := rfl
@[simp] theorem onCan_evt (m : Mod) (k : Nat) (f : CanX → CanX) : (m.onCan k f).evt = m.evt := rfl
@[simp] theorem onCan_frm (m : Mod) (k : Nat) (f : CanX → CanX) : (m.onCan k f).frm = m.frm := rfl
@[simp] theorem onCan_prm (m : Mod) (k : Nat) (f : CanX → CanX) : (m.onCan k f).prm = m.prm := rfl
@[simp] theorem onCan_chans (m : Mod) (k : Nat) (f : CanX → CanX) : (m.onCan k f).chans = m.chans := rfl
@[simp] theorem onCan_banks (m : Mod) (k : Nat) (f : CanX → CanX) : (m.onCan k f).banks = m.banks := rfl
@[simp] theorem onCan_quads (m : Mod) (k : Nat) (f : CanX → CanX) : (m.onCan k f).quads = m.quads := rfl
@[simp] theorem onCan_dia (m : Mod) (k : Nat) (f : CanX → CanX) : (m.onCan k f).dia = m.dia := rfl
@[simp] theorem onCan_brs (m : Mod) (k : Nat) (f : CanX → CanX) : (m.onCan k f).brs = m.brs := rfl
@[simp] theorem onCan_qds (m : Mod) (k : Nat) (f : CanX → CanX) : (m.onCan k f).qds = m.qds := rfl
@[simp] theorem onCan_pair (m : Mod) (k : Nat) (f : CanX → CanX) : (m.onCan k f).pair = m.pair := rfl
@[simp] theorem onCan_watches (m : Mod) (k : Nat) (f : CanX → CanX) : (m.onCan k f).watches = m.watches := rfl
@[simp] theorem onCan_sinks (m : Mod) (k : Nat) (f : CanX → CanX) : (m.onCan k f).sinks = m.sinks := rfl
@[simp] theorem onCan_led (m : Mod) (k : Nat) (f : CanX → CanX) : (m.onCan k f).led = m.led := rfl
@[simp] theorem onCan_engs (m : Mod) (k : Nat) (f : CanX → CanX) : (m.onCan k f).engs = m.engs := rfl
@[simp] theorem onCan_top (m : Mod) (k : Nat) (f : CanX → CanX) : (m.onCan k f).top = m.top := rfl
@[simp] theorem onCan_clr (m : Mod) (k : Nat) (f : CanX → CanX) : (m.onCan k f).clr = m.clr := rfl
@[simp] theorem onCan_lss (m : Mod) (k : Nat) (f : CanX → CanX) : (m.onCan k f).lss = m.lss := rfl
@[simp] theorem onCan_cis (m : Mod) (k : Nat) (f : CanX → CanX) : (m.onCan k f).cis = m.cis := rfl
@[simp] theorem onCan_fio (m : Mod) (k : Nat) (f : CanX → CanX) : (m.onCan k f).fio = m.fio := rfl
@[simp] theorem onCan_img (m : Mod) (k : Nat) (f : CanX → CanX) : (m.onCan k f).img = m.img := rfl
@[simp] theorem onCan_trxs (m : Mod) (k : Nat) (f : CanX → CanX) : (m.onCan k f).trxs = m.trxs := rfl
@[simp] theorem onCan_lins (m : Mod) (k : Nat) (f : CanX → CanX) : (m.onCan k f).lins = m.lins := rfl
@[simp] theorem onCan_t1s (m : Mod) (k : Nat) (f : CanX → CanX) : (m.onCan k f).t1s = m.t1s := rfl
@[simp] theorem onCan_nms (m : Mod) (k : Nat) (f : CanX → CanX) : (m.onCan k f).nms = m.nms := rfl
@[simp] theorem onCan_vnk (m : Mod) (k : Nat) (f : CanX → CanX) : (m.onCan k f).vnk = m.vnk := rfl
@[simp] theorem onCan_bbs (m : Mod) (k : Nat) (f : CanX → CanX) : (m.onCan k f).bbs = m.bbs := rfl
@[simp] theorem onCan_ets (m : Mod) (k : Nat) (f : CanX → CanX) : (m.onCan k f).ets = m.ets := rfl
@[simp] theorem onCan_pwr (m : Mod) (k : Nat) (f : CanX → CanX) : (m.onCan k f).pwr = m.pwr := rfl
@[simp] theorem onCan_boot (m : Mod) (k : Nat) (f : CanX → CanX) : (m.onCan k f).boot = m.boot := rfl
@[simp] theorem onCan_sec (m : Mod) (k : Nat) (f : CanX → CanX) : (m.onCan k f).sec = m.sec := rfl
@[simp] theorem onCan_uds (m : Mod) (k : Nat) (f : CanX → CanX) : (m.onCan k f).uds = m.uds := rfl
@[simp] theorem onCan_upd (m : Mod) (k : Nat) (f : CanX → CanX) : (m.onCan k f).upd = m.upd := rfl
@[simp] theorem onCan_poolUsed (m : Mod) (k : Nat) (f : CanX → CanX) : (m.onCan k f).poolUsed = m.poolUsed := rfl

@[simp] theorem onTrx_regs (m : Mod) (k : Nat) (f : TrxX → TrxX) : (m.onTrx k f).regs = m.regs := rfl
@[simp] theorem onTrx_mem (m : Mod) (k : Nat) (f : TrxX → TrxX) : (m.onTrx k f).mem = m.mem := rfl
@[simp] theorem onTrx_evt (m : Mod) (k : Nat) (f : TrxX → TrxX) : (m.onTrx k f).evt = m.evt := rfl
@[simp] theorem onTrx_frm (m : Mod) (k : Nat) (f : TrxX → TrxX) : (m.onTrx k f).frm = m.frm := rfl
@[simp] theorem onTrx_prm (m : Mod) (k : Nat) (f : TrxX → TrxX) : (m.onTrx k f).prm = m.prm := rfl
@[simp] theorem onTrx_chans (m : Mod) (k : Nat) (f : TrxX → TrxX) : (m.onTrx k f).chans = m.chans := rfl
@[simp] theorem onTrx_banks (m : Mod) (k : Nat) (f : TrxX → TrxX) : (m.onTrx k f).banks = m.banks := rfl
@[simp] theorem onTrx_quads (m : Mod) (k : Nat) (f : TrxX → TrxX) : (m.onTrx k f).quads = m.quads := rfl
@[simp] theorem onTrx_dia (m : Mod) (k : Nat) (f : TrxX → TrxX) : (m.onTrx k f).dia = m.dia := rfl
@[simp] theorem onTrx_brs (m : Mod) (k : Nat) (f : TrxX → TrxX) : (m.onTrx k f).brs = m.brs := rfl
@[simp] theorem onTrx_qds (m : Mod) (k : Nat) (f : TrxX → TrxX) : (m.onTrx k f).qds = m.qds := rfl
@[simp] theorem onTrx_pair (m : Mod) (k : Nat) (f : TrxX → TrxX) : (m.onTrx k f).pair = m.pair := rfl
@[simp] theorem onTrx_watches (m : Mod) (k : Nat) (f : TrxX → TrxX) : (m.onTrx k f).watches = m.watches := rfl
@[simp] theorem onTrx_sinks (m : Mod) (k : Nat) (f : TrxX → TrxX) : (m.onTrx k f).sinks = m.sinks := rfl
@[simp] theorem onTrx_led (m : Mod) (k : Nat) (f : TrxX → TrxX) : (m.onTrx k f).led = m.led := rfl
@[simp] theorem onTrx_engs (m : Mod) (k : Nat) (f : TrxX → TrxX) : (m.onTrx k f).engs = m.engs := rfl
@[simp] theorem onTrx_top (m : Mod) (k : Nat) (f : TrxX → TrxX) : (m.onTrx k f).top = m.top := rfl
@[simp] theorem onTrx_clr (m : Mod) (k : Nat) (f : TrxX → TrxX) : (m.onTrx k f).clr = m.clr := rfl
@[simp] theorem onTrx_lss (m : Mod) (k : Nat) (f : TrxX → TrxX) : (m.onTrx k f).lss = m.lss := rfl
@[simp] theorem onTrx_cis (m : Mod) (k : Nat) (f : TrxX → TrxX) : (m.onTrx k f).cis = m.cis := rfl
@[simp] theorem onTrx_fio (m : Mod) (k : Nat) (f : TrxX → TrxX) : (m.onTrx k f).fio = m.fio := rfl
@[simp] theorem onTrx_img (m : Mod) (k : Nat) (f : TrxX → TrxX) : (m.onTrx k f).img = m.img := rfl
@[simp] theorem onTrx_cans (m : Mod) (k : Nat) (f : TrxX → TrxX) : (m.onTrx k f).cans = m.cans := rfl
@[simp] theorem onTrx_lins (m : Mod) (k : Nat) (f : TrxX → TrxX) : (m.onTrx k f).lins = m.lins := rfl
@[simp] theorem onTrx_t1s (m : Mod) (k : Nat) (f : TrxX → TrxX) : (m.onTrx k f).t1s = m.t1s := rfl
@[simp] theorem onTrx_nms (m : Mod) (k : Nat) (f : TrxX → TrxX) : (m.onTrx k f).nms = m.nms := rfl
@[simp] theorem onTrx_vnk (m : Mod) (k : Nat) (f : TrxX → TrxX) : (m.onTrx k f).vnk = m.vnk := rfl
@[simp] theorem onTrx_bbs (m : Mod) (k : Nat) (f : TrxX → TrxX) : (m.onTrx k f).bbs = m.bbs := rfl
@[simp] theorem onTrx_ets (m : Mod) (k : Nat) (f : TrxX → TrxX) : (m.onTrx k f).ets = m.ets := rfl
@[simp] theorem onTrx_pwr (m : Mod) (k : Nat) (f : TrxX → TrxX) : (m.onTrx k f).pwr = m.pwr := rfl
@[simp] theorem onTrx_boot (m : Mod) (k : Nat) (f : TrxX → TrxX) : (m.onTrx k f).boot = m.boot := rfl
@[simp] theorem onTrx_sec (m : Mod) (k : Nat) (f : TrxX → TrxX) : (m.onTrx k f).sec = m.sec := rfl
@[simp] theorem onTrx_uds (m : Mod) (k : Nat) (f : TrxX → TrxX) : (m.onTrx k f).uds = m.uds := rfl
@[simp] theorem onTrx_upd (m : Mod) (k : Nat) (f : TrxX → TrxX) : (m.onTrx k f).upd = m.upd := rfl
@[simp] theorem onTrx_poolUsed (m : Mod) (k : Nat) (f : TrxX → TrxX) : (m.onTrx k f).poolUsed = m.poolUsed := rfl

@[simp] theorem onNm_regs (m : Mod) (k : Nat) (f : NmX → NmX) : (m.onNm k f).regs = m.regs := rfl
@[simp] theorem onNm_mem (m : Mod) (k : Nat) (f : NmX → NmX) : (m.onNm k f).mem = m.mem := rfl
@[simp] theorem onNm_evt (m : Mod) (k : Nat) (f : NmX → NmX) : (m.onNm k f).evt = m.evt := rfl
@[simp] theorem onNm_frm (m : Mod) (k : Nat) (f : NmX → NmX) : (m.onNm k f).frm = m.frm := rfl
@[simp] theorem onNm_prm (m : Mod) (k : Nat) (f : NmX → NmX) : (m.onNm k f).prm = m.prm := rfl
@[simp] theorem onNm_chans (m : Mod) (k : Nat) (f : NmX → NmX) : (m.onNm k f).chans = m.chans := rfl
@[simp] theorem onNm_banks (m : Mod) (k : Nat) (f : NmX → NmX) : (m.onNm k f).banks = m.banks := rfl
@[simp] theorem onNm_quads (m : Mod) (k : Nat) (f : NmX → NmX) : (m.onNm k f).quads = m.quads := rfl
@[simp] theorem onNm_dia (m : Mod) (k : Nat) (f : NmX → NmX) : (m.onNm k f).dia = m.dia := rfl
@[simp] theorem onNm_brs (m : Mod) (k : Nat) (f : NmX → NmX) : (m.onNm k f).brs = m.brs := rfl
@[simp] theorem onNm_qds (m : Mod) (k : Nat) (f : NmX → NmX) : (m.onNm k f).qds = m.qds := rfl
@[simp] theorem onNm_pair (m : Mod) (k : Nat) (f : NmX → NmX) : (m.onNm k f).pair = m.pair := rfl
@[simp] theorem onNm_watches (m : Mod) (k : Nat) (f : NmX → NmX) : (m.onNm k f).watches = m.watches := rfl
@[simp] theorem onNm_sinks (m : Mod) (k : Nat) (f : NmX → NmX) : (m.onNm k f).sinks = m.sinks := rfl
@[simp] theorem onNm_led (m : Mod) (k : Nat) (f : NmX → NmX) : (m.onNm k f).led = m.led := rfl
@[simp] theorem onNm_engs (m : Mod) (k : Nat) (f : NmX → NmX) : (m.onNm k f).engs = m.engs := rfl
@[simp] theorem onNm_top (m : Mod) (k : Nat) (f : NmX → NmX) : (m.onNm k f).top = m.top := rfl
@[simp] theorem onNm_clr (m : Mod) (k : Nat) (f : NmX → NmX) : (m.onNm k f).clr = m.clr := rfl
@[simp] theorem onNm_lss (m : Mod) (k : Nat) (f : NmX → NmX) : (m.onNm k f).lss = m.lss := rfl
@[simp] theorem onNm_cis (m : Mod) (k : Nat) (f : NmX → NmX) : (m.onNm k f).cis = m.cis := rfl
@[simp] theorem onNm_fio (m : Mod) (k : Nat) (f : NmX → NmX) : (m.onNm k f).fio = m.fio := rfl
@[simp] theorem onNm_img (m : Mod) (k : Nat) (f : NmX → NmX) : (m.onNm k f).img = m.img := rfl
@[simp] theorem onNm_cans (m : Mod) (k : Nat) (f : NmX → NmX) : (m.onNm k f).cans = m.cans := rfl
@[simp] theorem onNm_trxs (m : Mod) (k : Nat) (f : NmX → NmX) : (m.onNm k f).trxs = m.trxs := rfl
@[simp] theorem onNm_lins (m : Mod) (k : Nat) (f : NmX → NmX) : (m.onNm k f).lins = m.lins := rfl
@[simp] theorem onNm_t1s (m : Mod) (k : Nat) (f : NmX → NmX) : (m.onNm k f).t1s = m.t1s := rfl
@[simp] theorem onNm_vnk (m : Mod) (k : Nat) (f : NmX → NmX) : (m.onNm k f).vnk = m.vnk := rfl
@[simp] theorem onNm_bbs (m : Mod) (k : Nat) (f : NmX → NmX) : (m.onNm k f).bbs = m.bbs := rfl
@[simp] theorem onNm_ets (m : Mod) (k : Nat) (f : NmX → NmX) : (m.onNm k f).ets = m.ets := rfl
@[simp] theorem onNm_pwr (m : Mod) (k : Nat) (f : NmX → NmX) : (m.onNm k f).pwr = m.pwr := rfl
@[simp] theorem onNm_boot (m : Mod) (k : Nat) (f : NmX → NmX) : (m.onNm k f).boot = m.boot := rfl
@[simp] theorem onNm_sec (m : Mod) (k : Nat) (f : NmX → NmX) : (m.onNm k f).sec = m.sec := rfl
@[simp] theorem onNm_uds (m : Mod) (k : Nat) (f : NmX → NmX) : (m.onNm k f).uds = m.uds := rfl
@[simp] theorem onNm_upd (m : Mod) (k : Nat) (f : NmX → NmX) : (m.onNm k f).upd = m.upd := rfl
@[simp] theorem onNm_poolUsed (m : Mod) (k : Nat) (f : NmX → NmX) : (m.onNm k f).poolUsed = m.poolUsed := rfl

@[simp] theorem onLin_regs (m : Mod) (k : Nat) (f : LinX → LinX) : (m.onLin k f).regs = m.regs := rfl
@[simp] theorem onLin_mem (m : Mod) (k : Nat) (f : LinX → LinX) : (m.onLin k f).mem = m.mem := rfl
@[simp] theorem onLin_evt (m : Mod) (k : Nat) (f : LinX → LinX) : (m.onLin k f).evt = m.evt := rfl
@[simp] theorem onLin_frm (m : Mod) (k : Nat) (f : LinX → LinX) : (m.onLin k f).frm = m.frm := rfl
@[simp] theorem onLin_prm (m : Mod) (k : Nat) (f : LinX → LinX) : (m.onLin k f).prm = m.prm := rfl
@[simp] theorem onLin_chans (m : Mod) (k : Nat) (f : LinX → LinX) : (m.onLin k f).chans = m.chans := rfl
@[simp] theorem onLin_banks (m : Mod) (k : Nat) (f : LinX → LinX) : (m.onLin k f).banks = m.banks := rfl
@[simp] theorem onLin_quads (m : Mod) (k : Nat) (f : LinX → LinX) : (m.onLin k f).quads = m.quads := rfl
@[simp] theorem onLin_dia (m : Mod) (k : Nat) (f : LinX → LinX) : (m.onLin k f).dia = m.dia := rfl
@[simp] theorem onLin_brs (m : Mod) (k : Nat) (f : LinX → LinX) : (m.onLin k f).brs = m.brs := rfl
@[simp] theorem onLin_qds (m : Mod) (k : Nat) (f : LinX → LinX) : (m.onLin k f).qds = m.qds := rfl
@[simp] theorem onLin_pair (m : Mod) (k : Nat) (f : LinX → LinX) : (m.onLin k f).pair = m.pair := rfl
@[simp] theorem onLin_watches (m : Mod) (k : Nat) (f : LinX → LinX) : (m.onLin k f).watches = m.watches := rfl
@[simp] theorem onLin_sinks (m : Mod) (k : Nat) (f : LinX → LinX) : (m.onLin k f).sinks = m.sinks := rfl
@[simp] theorem onLin_led (m : Mod) (k : Nat) (f : LinX → LinX) : (m.onLin k f).led = m.led := rfl
@[simp] theorem onLin_engs (m : Mod) (k : Nat) (f : LinX → LinX) : (m.onLin k f).engs = m.engs := rfl
@[simp] theorem onLin_top (m : Mod) (k : Nat) (f : LinX → LinX) : (m.onLin k f).top = m.top := rfl
@[simp] theorem onLin_clr (m : Mod) (k : Nat) (f : LinX → LinX) : (m.onLin k f).clr = m.clr := rfl
@[simp] theorem onLin_lss (m : Mod) (k : Nat) (f : LinX → LinX) : (m.onLin k f).lss = m.lss := rfl
@[simp] theorem onLin_cis (m : Mod) (k : Nat) (f : LinX → LinX) : (m.onLin k f).cis = m.cis := rfl
@[simp] theorem onLin_fio (m : Mod) (k : Nat) (f : LinX → LinX) : (m.onLin k f).fio = m.fio := rfl
@[simp] theorem onLin_img (m : Mod) (k : Nat) (f : LinX → LinX) : (m.onLin k f).img = m.img := rfl
@[simp] theorem onLin_cans (m : Mod) (k : Nat) (f : LinX → LinX) : (m.onLin k f).cans = m.cans := rfl
@[simp] theorem onLin_trxs (m : Mod) (k : Nat) (f : LinX → LinX) : (m.onLin k f).trxs = m.trxs := rfl
@[simp] theorem onLin_t1s (m : Mod) (k : Nat) (f : LinX → LinX) : (m.onLin k f).t1s = m.t1s := rfl
@[simp] theorem onLin_nms (m : Mod) (k : Nat) (f : LinX → LinX) : (m.onLin k f).nms = m.nms := rfl
@[simp] theorem onLin_vnk (m : Mod) (k : Nat) (f : LinX → LinX) : (m.onLin k f).vnk = m.vnk := rfl
@[simp] theorem onLin_bbs (m : Mod) (k : Nat) (f : LinX → LinX) : (m.onLin k f).bbs = m.bbs := rfl
@[simp] theorem onLin_ets (m : Mod) (k : Nat) (f : LinX → LinX) : (m.onLin k f).ets = m.ets := rfl
@[simp] theorem onLin_pwr (m : Mod) (k : Nat) (f : LinX → LinX) : (m.onLin k f).pwr = m.pwr := rfl
@[simp] theorem onLin_boot (m : Mod) (k : Nat) (f : LinX → LinX) : (m.onLin k f).boot = m.boot := rfl
@[simp] theorem onLin_sec (m : Mod) (k : Nat) (f : LinX → LinX) : (m.onLin k f).sec = m.sec := rfl
@[simp] theorem onLin_uds (m : Mod) (k : Nat) (f : LinX → LinX) : (m.onLin k f).uds = m.uds := rfl
@[simp] theorem onLin_upd (m : Mod) (k : Nat) (f : LinX → LinX) : (m.onLin k f).upd = m.upd := rfl
@[simp] theorem onLin_poolUsed (m : Mod) (k : Nat) (f : LinX → LinX) : (m.onLin k f).poolUsed = m.poolUsed := rfl

@[simp] theorem onTseg_regs (m : Mod) (k : Nat) (f : T1sX → T1sX) : (m.onTseg k f).regs = m.regs := rfl
@[simp] theorem onTseg_mem (m : Mod) (k : Nat) (f : T1sX → T1sX) : (m.onTseg k f).mem = m.mem := rfl
@[simp] theorem onTseg_evt (m : Mod) (k : Nat) (f : T1sX → T1sX) : (m.onTseg k f).evt = m.evt := rfl
@[simp] theorem onTseg_frm (m : Mod) (k : Nat) (f : T1sX → T1sX) : (m.onTseg k f).frm = m.frm := rfl
@[simp] theorem onTseg_prm (m : Mod) (k : Nat) (f : T1sX → T1sX) : (m.onTseg k f).prm = m.prm := rfl
@[simp] theorem onTseg_chans (m : Mod) (k : Nat) (f : T1sX → T1sX) : (m.onTseg k f).chans = m.chans := rfl
@[simp] theorem onTseg_banks (m : Mod) (k : Nat) (f : T1sX → T1sX) : (m.onTseg k f).banks = m.banks := rfl
@[simp] theorem onTseg_quads (m : Mod) (k : Nat) (f : T1sX → T1sX) : (m.onTseg k f).quads = m.quads := rfl
@[simp] theorem onTseg_dia (m : Mod) (k : Nat) (f : T1sX → T1sX) : (m.onTseg k f).dia = m.dia := rfl
@[simp] theorem onTseg_brs (m : Mod) (k : Nat) (f : T1sX → T1sX) : (m.onTseg k f).brs = m.brs := rfl
@[simp] theorem onTseg_qds (m : Mod) (k : Nat) (f : T1sX → T1sX) : (m.onTseg k f).qds = m.qds := rfl
@[simp] theorem onTseg_pair (m : Mod) (k : Nat) (f : T1sX → T1sX) : (m.onTseg k f).pair = m.pair := rfl
@[simp] theorem onTseg_watches (m : Mod) (k : Nat) (f : T1sX → T1sX) : (m.onTseg k f).watches = m.watches := rfl
@[simp] theorem onTseg_sinks (m : Mod) (k : Nat) (f : T1sX → T1sX) : (m.onTseg k f).sinks = m.sinks := rfl
@[simp] theorem onTseg_led (m : Mod) (k : Nat) (f : T1sX → T1sX) : (m.onTseg k f).led = m.led := rfl
@[simp] theorem onTseg_engs (m : Mod) (k : Nat) (f : T1sX → T1sX) : (m.onTseg k f).engs = m.engs := rfl
@[simp] theorem onTseg_top (m : Mod) (k : Nat) (f : T1sX → T1sX) : (m.onTseg k f).top = m.top := rfl
@[simp] theorem onTseg_clr (m : Mod) (k : Nat) (f : T1sX → T1sX) : (m.onTseg k f).clr = m.clr := rfl
@[simp] theorem onTseg_lss (m : Mod) (k : Nat) (f : T1sX → T1sX) : (m.onTseg k f).lss = m.lss := rfl
@[simp] theorem onTseg_cis (m : Mod) (k : Nat) (f : T1sX → T1sX) : (m.onTseg k f).cis = m.cis := rfl
@[simp] theorem onTseg_fio (m : Mod) (k : Nat) (f : T1sX → T1sX) : (m.onTseg k f).fio = m.fio := rfl
@[simp] theorem onTseg_img (m : Mod) (k : Nat) (f : T1sX → T1sX) : (m.onTseg k f).img = m.img := rfl
@[simp] theorem onTseg_cans (m : Mod) (k : Nat) (f : T1sX → T1sX) : (m.onTseg k f).cans = m.cans := rfl
@[simp] theorem onTseg_trxs (m : Mod) (k : Nat) (f : T1sX → T1sX) : (m.onTseg k f).trxs = m.trxs := rfl
@[simp] theorem onTseg_lins (m : Mod) (k : Nat) (f : T1sX → T1sX) : (m.onTseg k f).lins = m.lins := rfl
@[simp] theorem onTseg_nms (m : Mod) (k : Nat) (f : T1sX → T1sX) : (m.onTseg k f).nms = m.nms := rfl
@[simp] theorem onTseg_vnk (m : Mod) (k : Nat) (f : T1sX → T1sX) : (m.onTseg k f).vnk = m.vnk := rfl
@[simp] theorem onTseg_bbs (m : Mod) (k : Nat) (f : T1sX → T1sX) : (m.onTseg k f).bbs = m.bbs := rfl
@[simp] theorem onTseg_ets (m : Mod) (k : Nat) (f : T1sX → T1sX) : (m.onTseg k f).ets = m.ets := rfl
@[simp] theorem onTseg_pwr (m : Mod) (k : Nat) (f : T1sX → T1sX) : (m.onTseg k f).pwr = m.pwr := rfl
@[simp] theorem onTseg_boot (m : Mod) (k : Nat) (f : T1sX → T1sX) : (m.onTseg k f).boot = m.boot := rfl
@[simp] theorem onTseg_sec (m : Mod) (k : Nat) (f : T1sX → T1sX) : (m.onTseg k f).sec = m.sec := rfl
@[simp] theorem onTseg_uds (m : Mod) (k : Nat) (f : T1sX → T1sX) : (m.onTseg k f).uds = m.uds := rfl
@[simp] theorem onTseg_upd (m : Mod) (k : Nat) (f : T1sX → T1sX) : (m.onTseg k f).upd = m.upd := rfl
@[simp] theorem onTseg_poolUsed (m : Mod) (k : Nat) (f : T1sX → T1sX) : (m.onTseg k f).poolUsed = m.poolUsed := rfl

@[simp] theorem onBb_regs (m : Mod) (k : Nat) (f : BbX → BbX) : (m.onBb k f).regs = m.regs := rfl
@[simp] theorem onBb_mem (m : Mod) (k : Nat) (f : BbX → BbX) : (m.onBb k f).mem = m.mem := rfl
@[simp] theorem onBb_evt (m : Mod) (k : Nat) (f : BbX → BbX) : (m.onBb k f).evt = m.evt := rfl
@[simp] theorem onBb_frm (m : Mod) (k : Nat) (f : BbX → BbX) : (m.onBb k f).frm = m.frm := rfl
@[simp] theorem onBb_prm (m : Mod) (k : Nat) (f : BbX → BbX) : (m.onBb k f).prm = m.prm := rfl
@[simp] theorem onBb_chans (m : Mod) (k : Nat) (f : BbX → BbX) : (m.onBb k f).chans = m.chans := rfl
@[simp] theorem onBb_banks (m : Mod) (k : Nat) (f : BbX → BbX) : (m.onBb k f).banks = m.banks := rfl
@[simp] theorem onBb_quads (m : Mod) (k : Nat) (f : BbX → BbX) : (m.onBb k f).quads = m.quads := rfl
@[simp] theorem onBb_dia (m : Mod) (k : Nat) (f : BbX → BbX) : (m.onBb k f).dia = m.dia := rfl
@[simp] theorem onBb_brs (m : Mod) (k : Nat) (f : BbX → BbX) : (m.onBb k f).brs = m.brs := rfl
@[simp] theorem onBb_qds (m : Mod) (k : Nat) (f : BbX → BbX) : (m.onBb k f).qds = m.qds := rfl
@[simp] theorem onBb_pair (m : Mod) (k : Nat) (f : BbX → BbX) : (m.onBb k f).pair = m.pair := rfl
@[simp] theorem onBb_watches (m : Mod) (k : Nat) (f : BbX → BbX) : (m.onBb k f).watches = m.watches := rfl
@[simp] theorem onBb_sinks (m : Mod) (k : Nat) (f : BbX → BbX) : (m.onBb k f).sinks = m.sinks := rfl
@[simp] theorem onBb_led (m : Mod) (k : Nat) (f : BbX → BbX) : (m.onBb k f).led = m.led := rfl
@[simp] theorem onBb_engs (m : Mod) (k : Nat) (f : BbX → BbX) : (m.onBb k f).engs = m.engs := rfl
@[simp] theorem onBb_top (m : Mod) (k : Nat) (f : BbX → BbX) : (m.onBb k f).top = m.top := rfl
@[simp] theorem onBb_clr (m : Mod) (k : Nat) (f : BbX → BbX) : (m.onBb k f).clr = m.clr := rfl
@[simp] theorem onBb_lss (m : Mod) (k : Nat) (f : BbX → BbX) : (m.onBb k f).lss = m.lss := rfl
@[simp] theorem onBb_cis (m : Mod) (k : Nat) (f : BbX → BbX) : (m.onBb k f).cis = m.cis := rfl
@[simp] theorem onBb_fio (m : Mod) (k : Nat) (f : BbX → BbX) : (m.onBb k f).fio = m.fio := rfl
@[simp] theorem onBb_img (m : Mod) (k : Nat) (f : BbX → BbX) : (m.onBb k f).img = m.img := rfl
@[simp] theorem onBb_cans (m : Mod) (k : Nat) (f : BbX → BbX) : (m.onBb k f).cans = m.cans := rfl
@[simp] theorem onBb_trxs (m : Mod) (k : Nat) (f : BbX → BbX) : (m.onBb k f).trxs = m.trxs := rfl
@[simp] theorem onBb_lins (m : Mod) (k : Nat) (f : BbX → BbX) : (m.onBb k f).lins = m.lins := rfl
@[simp] theorem onBb_t1s (m : Mod) (k : Nat) (f : BbX → BbX) : (m.onBb k f).t1s = m.t1s := rfl
@[simp] theorem onBb_nms (m : Mod) (k : Nat) (f : BbX → BbX) : (m.onBb k f).nms = m.nms := rfl
@[simp] theorem onBb_vnk (m : Mod) (k : Nat) (f : BbX → BbX) : (m.onBb k f).vnk = m.vnk := rfl
@[simp] theorem onBb_ets (m : Mod) (k : Nat) (f : BbX → BbX) : (m.onBb k f).ets = m.ets := rfl
@[simp] theorem onBb_pwr (m : Mod) (k : Nat) (f : BbX → BbX) : (m.onBb k f).pwr = m.pwr := rfl
@[simp] theorem onBb_boot (m : Mod) (k : Nat) (f : BbX → BbX) : (m.onBb k f).boot = m.boot := rfl
@[simp] theorem onBb_sec (m : Mod) (k : Nat) (f : BbX → BbX) : (m.onBb k f).sec = m.sec := rfl
@[simp] theorem onBb_uds (m : Mod) (k : Nat) (f : BbX → BbX) : (m.onBb k f).uds = m.uds := rfl
@[simp] theorem onBb_upd (m : Mod) (k : Nat) (f : BbX → BbX) : (m.onBb k f).upd = m.upd := rfl
@[simp] theorem onBb_poolUsed (m : Mod) (k : Nat) (f : BbX → BbX) : (m.onBb k f).poolUsed = m.poolUsed := rfl

@[simp] theorem onWatch_regs (m : Mod) (k : Nat) (f : WatchX → WatchX) : (m.onWatch k f).regs = m.regs := rfl
@[simp] theorem onWatch_mem (m : Mod) (k : Nat) (f : WatchX → WatchX) : (m.onWatch k f).mem = m.mem := rfl
@[simp] theorem onWatch_evt (m : Mod) (k : Nat) (f : WatchX → WatchX) : (m.onWatch k f).evt = m.evt := rfl
@[simp] theorem onWatch_frm (m : Mod) (k : Nat) (f : WatchX → WatchX) : (m.onWatch k f).frm = m.frm := rfl
@[simp] theorem onWatch_prm (m : Mod) (k : Nat) (f : WatchX → WatchX) : (m.onWatch k f).prm = m.prm := rfl
@[simp] theorem onWatch_chans (m : Mod) (k : Nat) (f : WatchX → WatchX) : (m.onWatch k f).chans = m.chans := rfl
@[simp] theorem onWatch_banks (m : Mod) (k : Nat) (f : WatchX → WatchX) : (m.onWatch k f).banks = m.banks := rfl
@[simp] theorem onWatch_quads (m : Mod) (k : Nat) (f : WatchX → WatchX) : (m.onWatch k f).quads = m.quads := rfl
@[simp] theorem onWatch_dia (m : Mod) (k : Nat) (f : WatchX → WatchX) : (m.onWatch k f).dia = m.dia := rfl
@[simp] theorem onWatch_brs (m : Mod) (k : Nat) (f : WatchX → WatchX) : (m.onWatch k f).brs = m.brs := rfl
@[simp] theorem onWatch_qds (m : Mod) (k : Nat) (f : WatchX → WatchX) : (m.onWatch k f).qds = m.qds := rfl
@[simp] theorem onWatch_pair (m : Mod) (k : Nat) (f : WatchX → WatchX) : (m.onWatch k f).pair = m.pair := rfl
@[simp] theorem onWatch_sinks (m : Mod) (k : Nat) (f : WatchX → WatchX) : (m.onWatch k f).sinks = m.sinks := rfl
@[simp] theorem onWatch_led (m : Mod) (k : Nat) (f : WatchX → WatchX) : (m.onWatch k f).led = m.led := rfl
@[simp] theorem onWatch_engs (m : Mod) (k : Nat) (f : WatchX → WatchX) : (m.onWatch k f).engs = m.engs := rfl
@[simp] theorem onWatch_top (m : Mod) (k : Nat) (f : WatchX → WatchX) : (m.onWatch k f).top = m.top := rfl
@[simp] theorem onWatch_clr (m : Mod) (k : Nat) (f : WatchX → WatchX) : (m.onWatch k f).clr = m.clr := rfl
@[simp] theorem onWatch_lss (m : Mod) (k : Nat) (f : WatchX → WatchX) : (m.onWatch k f).lss = m.lss := rfl
@[simp] theorem onWatch_cis (m : Mod) (k : Nat) (f : WatchX → WatchX) : (m.onWatch k f).cis = m.cis := rfl
@[simp] theorem onWatch_fio (m : Mod) (k : Nat) (f : WatchX → WatchX) : (m.onWatch k f).fio = m.fio := rfl
@[simp] theorem onWatch_img (m : Mod) (k : Nat) (f : WatchX → WatchX) : (m.onWatch k f).img = m.img := rfl
@[simp] theorem onWatch_cans (m : Mod) (k : Nat) (f : WatchX → WatchX) : (m.onWatch k f).cans = m.cans := rfl
@[simp] theorem onWatch_trxs (m : Mod) (k : Nat) (f : WatchX → WatchX) : (m.onWatch k f).trxs = m.trxs := rfl
@[simp] theorem onWatch_lins (m : Mod) (k : Nat) (f : WatchX → WatchX) : (m.onWatch k f).lins = m.lins := rfl
@[simp] theorem onWatch_t1s (m : Mod) (k : Nat) (f : WatchX → WatchX) : (m.onWatch k f).t1s = m.t1s := rfl
@[simp] theorem onWatch_nms (m : Mod) (k : Nat) (f : WatchX → WatchX) : (m.onWatch k f).nms = m.nms := rfl
@[simp] theorem onWatch_vnk (m : Mod) (k : Nat) (f : WatchX → WatchX) : (m.onWatch k f).vnk = m.vnk := rfl
@[simp] theorem onWatch_bbs (m : Mod) (k : Nat) (f : WatchX → WatchX) : (m.onWatch k f).bbs = m.bbs := rfl
@[simp] theorem onWatch_ets (m : Mod) (k : Nat) (f : WatchX → WatchX) : (m.onWatch k f).ets = m.ets := rfl
@[simp] theorem onWatch_pwr (m : Mod) (k : Nat) (f : WatchX → WatchX) : (m.onWatch k f).pwr = m.pwr := rfl
@[simp] theorem onWatch_boot (m : Mod) (k : Nat) (f : WatchX → WatchX) : (m.onWatch k f).boot = m.boot := rfl
@[simp] theorem onWatch_sec (m : Mod) (k : Nat) (f : WatchX → WatchX) : (m.onWatch k f).sec = m.sec := rfl
@[simp] theorem onWatch_uds (m : Mod) (k : Nat) (f : WatchX → WatchX) : (m.onWatch k f).uds = m.uds := rfl
@[simp] theorem onWatch_upd (m : Mod) (k : Nat) (f : WatchX → WatchX) : (m.onWatch k f).upd = m.upd := rfl
@[simp] theorem onWatch_poolUsed (m : Mod) (k : Nat) (f : WatchX → WatchX) : (m.onWatch k f).poolUsed = m.poolUsed := rfl

end Sys2Proof.Machine.Mod
end

