-- ==== Sys2Proof/Laws/Ops.lean ====
section
/-! SUPPORT. The shared operations: register fields, bytes, events, the derived registers, and that memory operations keep the
canonical form. -/
namespace Sys2Proof.Machine.Mod
open Reg

/-! ### Register fields -/

/-- A field reads back what was written, cut to its width. -/
@[simp] theorem rd_wr_same (m : Mod) (f : Fld) (v : Nat) : (m.wr f v).rd f = v % 2 ^ f.w := by simp [rd, wr]

/-- Writing a field leaves a field with another key alone. -/
theorem rd_wr_other (m : Mod) (f g : Fld) (v : Nat) (h : f.key ≠ g.key) : (m.wr f v).rd g = m.rd g := by
  simp only [rd, wr]
  exact SMap.get_set_other _ _ _ _ _ _ h

/-- A counter steps by one, and stays at its largest value. -/
theorem rd_inc_same (m : Mod) (f : Fld) : (m.inc f).rd f = Nat.min (m.rd f + 1) f.max := by
  have h : f.max < 2 ^ f.w := Nat.sub_lt (Nat.two_pow_pos _) (by decide)
  simp only [inc, add, rd_wr_same]
  exact Nat.mod_eq_of_lt (Nat.lt_of_le_of_lt (Nat.min_le_right _ _) h)

theorem rd_add_other (m : Mod) (f g : Fld) (n : Nat) (h : f.key ≠ g.key) : (m.add f n).rd g = m.rd g := rd_wr_other _ _ _ _ h

theorem rd_inc_other (m : Mod) (f g : Fld) (h : f.key ≠ g.key) : (m.inc f).rd g = m.rd g := rd_wr_other _ _ _ _ h

theorem rd_sat_other (m : Mod) (f g : Fld) (v : Nat) (h : f.key ≠ g.key) : (m.sat f v).rd g = m.rd g := rd_wr_other _ _ _ _ h

theorem rd_wrB_same (m : Mod) (f : Fld) (b : Bool) : (m.wrB f b).rd f = (if b then 1 else 0) % 2 ^ f.w := by
  simp [wrB]

theorem rd_wrB_other (m : Mod) (f g : Fld) (b : Bool) (h : f.key ≠ g.key) : (m.wrB f b).rd g = m.rd g := rd_wr_other _ _ _ _ h

theorem rd_wrBit_other (m : Mod) (f g : Fld) (i : Nat) (b : Bool) (h : f.key ≠ g.key) : (m.wrBit f i b).rd g = m.rd g := by
  unfold wrBit
  dsimp only
  split
  · rfl
  · exact rd_wr_other _ _ _ _ h

/-- Two fields whose words differ have different keys. -/
theorem key_ne_of_page (f g : Fld) (hf : f.off < 4096) (hg : g.off < 4096) (hfl : f.lo < 32) (hgl : g.lo < 32)
    (h : f.page ≠ g.page ∨ f.off ≠ g.off ∨ f.lo ≠ g.lo) : f.key ≠ g.key := by
  have hc : ∀ c : ResetClass, c.code < 4 := fun c => by cases c <;> decide
  have h1 := hc f.cls
  have h2 := hc g.cls
  simp only [Fld.key]
  omega

/-! ### Bytes -/

/-- A byte reads back what was written. -/
@[simp] theorem byte_setByte_same (m : Mod) (a v : Nat) : (m.setByte a v).byte a = v % 256 := by
  simp [byte, setByte, BitVec.toNat_ofNat]

/-- Writing a byte leaves every other byte alone. -/
theorem byte_setByte_other (m : Mod) (a b v : Nat) (h : a ≠ b) : (m.setByte a v).byte b = m.byte b := by
  simp only [byte, setByte]
  rw [SMap.get_set_other _ _ _ _ _ _ h]

/-- Storing leaves the bytes outside the stored ones alone. -/
theorem byte_store_other (n : Nat) : ∀ (m : Mod) (a v b : Nat), (b < a ∨ a + n ≤ b) → (m.store a n v).byte b = m.byte b := by
  induction n with
  | zero => intro m a v b _; rfl
  | succ n ih =>
    intro m a v b h
    simp only [store]
    rw [ih _ _ _ _ (by omega), byte_setByte_other _ _ _ _ (by omega)]

/-- Storing a list leaves the bytes outside the stored ones alone. -/
theorem byte_setBytes_other (l : List Nat) : ∀ (m : Mod) (a b : Nat), (b < a ∨ a + l.length ≤ b) → (m.setBytes a l).byte b = m.byte b := by
  induction l with
  | nil => intro m a b _; rfl
  | cons x l ih =>
    intro m a b h
    simp only [List.length_cons] at h
    simp only [setBytes]
    rw [ih _ _ _ (by omega), byte_setByte_other _ _ _ _ (by omega)]

/-! ### The canonical form of the memory (Safety) -/

theorem memWf_set (l : SMap Byte) (a : Nat) (v : Byte) (h : memWf l = true) : memWf (SMap.set (blankByte a) l a v) = true := by
  simp only [memWf, Bool.and_eq_true, decide_eq_true_eq, List.all_eq_true] at *
  obtain ⟨hp, ha⟩ := h
  unfold SMap.set
  split
  · refine ⟨?_, fun x hx => ha x (List.mem_filter.1 hx).1⟩
    exact hp.sublist (List.Sublist.map _ List.filter_sublist)
  · rename_i hv
    refine ⟨SMap.pairwise_put _ _ _ hp, fun x hx => ?_⟩
    rcases SMap.mem_put _ _ _ _ hx with rfl | hx
    · simpa using hv
    · exact ha x hx

theorem memWf_filter (l : SMap Byte) (p : Nat × Byte → Bool) (h : memWf l = true) : memWf (l.filter p) = true := by
  simp only [memWf, Bool.and_eq_true, decide_eq_true_eq, List.all_eq_true] at *
  exact ⟨h.1.sublist (List.Sublist.map _ List.filter_sublist), fun x hx => h.2 x (List.mem_filter.1 hx).1⟩

/-- Each memory operation keeps the canonical form. -/
theorem memWf_setByte (m : Mod) (a v : Nat) (h : memWf m.mem = true) : memWf (m.setByte a v).mem = true := memWf_set _ _ _ h

theorem memWf_setBytes (l : List Nat) : ∀ (m : Mod) (a : Nat), memWf m.mem = true → memWf (m.setBytes a l).mem = true := by
  induction l with
  | nil => intro m a h; exact h
  | cons x l ih => intro m a h; exact ih _ _ (memWf_setByte _ _ _ h)

theorem memWf_store (n : Nat) : ∀ (m : Mod) (a v : Nat), memWf m.mem = true → memWf (m.store a n v).mem = true := by
  induction n with
  | zero => intro m a v h; exact h
  | succ n ih => intro m a v h; exact ih _ _ _ (memWf_setByte _ _ _ h)

theorem memWf_eraseMem (m : Mod) (a n : Nat) (h : memWf m.mem = true) : memWf (m.eraseMem a n).mem = true := memWf_filter _ _ h

theorem memWf_writeRod (m : Mod) (r : Nat) (b : List Nat) (h : memWf m.mem = true) : memWf (m.writeRod r b).mem = true :=
  memWf_setBytes _ _ _ (memWf_setBytes _ _ _ h)

/-- Reset lists no byte. -/
theorem memWf_reset : memWf State.reset.mod.mem = true := rfl

end Sys2Proof.Machine.Mod
end

