-- ==== Sys2Proof/Laws/Settle.lean ====
section
/-! SUPPORT. The derived registers and the raising of events: what each changes, all else left alone. -/
namespace Sys2Proof.Machine.Mod
open Reg

/-! ### Writing a list of fields -/

/-- The last act of a command, on any list of fields and values. -/
def wrAll (m : Mod) (l : List (Fld × Nat)) : Mod := l.foldl (fun a p => a.wr p.1 p.2) m

theorem wrAll_cons (m : Mod) (p : Fld × Nat) (l : List (Fld × Nat)) : m.wrAll (p :: l) = (m.wr p.1 p.2).wrAll l := rfl

theorem settle_eq (m : Mod) : m.settle = m.wrAll m.derived := rfl

theorem rd_wrAll_other (l : List (Fld × Nat)) : ∀ (m : Mod) (g : Fld), (∀ p ∈ l, p.1.key ≠ g.key) → (m.wrAll l).rd g = m.rd g := by
  induction l with
  | nil => intro m g _; rfl
  | cons p l ih =>
    intro m g h
    rw [wrAll_cons, ih _ _ fun q hq => h q (List.mem_cons_of_mem _ hq), rd_wr_other _ _ _ _ (h p List.mem_cons_self)]

theorem wrAll_regs_only (l : List (Fld × Nat)) : ∀ (m : Mod), m.wrAll l = { m with regs := (m.wrAll l).regs } := by
  induction l with
  | nil => intro m; rfl
  | cons p l ih => intro m; rw [wrAll_cons, ih]; rfl

/-- Settling changes registers alone. -/
theorem settle_regs_only (m : Mod) : m.settle = { m with regs := m.settle.regs } := wrAll_regs_only _ _

/-- The keys of the derived registers. -/
def derivedKeys : List Nat := shown.map Fld.key

theorem derived_keys (m : Mod) : m.derived.map (fun p => p.1.key) = derivedKeys := rfl

/-- Settling leaves every other register alone. -/
theorem rd_settle (m : Mod) (g : Fld) (h : g.key ∉ derivedKeys) : m.settle.rd g = m.rd g := by
  rw [settle_eq]
  refine rd_wrAll_other _ _ _ fun p hp he => h ?_
  rw [← derived_keys m, ← he]
  exact List.mem_map_of_mem hp

/-! ### Settling, part by part -/

@[simp] theorem settle_mem (m : Mod) : m.settle.mem = m.mem := by rw [settle_regs_only]
@[simp] theorem settle_evt (m : Mod) : m.settle.evt = m.evt := by rw [settle_regs_only]
@[simp] theorem settle_frm (m : Mod) : m.settle.frm = m.frm := by rw [settle_regs_only]
@[simp] theorem settle_prm (m : Mod) : m.settle.prm = m.prm := by rw [settle_regs_only]
@[simp] theorem settle_chans (m : Mod) : m.settle.chans = m.chans := by rw [settle_regs_only]
@[simp] theorem settle_banks (m : Mod) : m.settle.banks = m.banks := by rw [settle_regs_only]
@[simp] theorem settle_quads (m : Mod) : m.settle.quads = m.quads := by rw [settle_regs_only]
@[simp] theorem settle_dia (m : Mod) : m.settle.dia = m.dia := by rw [settle_regs_only]
@[simp] theorem settle_brs (m : Mod) : m.settle.brs = m.brs := by rw [settle_regs_only]
@[simp] theorem settle_qds (m : Mod) : m.settle.qds = m.qds := by rw [settle_regs_only]
@[simp] theorem settle_pair (m : Mod) : m.settle.pair = m.pair := by rw [settle_regs_only]
@[simp] theorem settle_watches (m : Mod) : m.settle.watches = m.watches := by rw [settle_regs_only]
@[simp] theorem settle_sinks (m : Mod) : m.settle.sinks = m.sinks := by rw [settle_regs_only]
@[simp] theorem settle_led (m : Mod) : m.settle.led = m.led := by rw [settle_regs_only]
@[simp] theorem settle_engs (m : Mod) : m.settle.engs = m.engs := by rw [settle_regs_only]
@[simp] theorem settle_top (m : Mod) : m.settle.top = m.top := by rw [settle_regs_only]
@[simp] theorem settle_clr (m : Mod) : m.settle.clr = m.clr := by rw [settle_regs_only]
@[simp] theorem settle_lss (m : Mod) : m.settle.lss = m.lss := by rw [settle_regs_only]
@[simp] theorem settle_cis (m : Mod) : m.settle.cis = m.cis := by rw [settle_regs_only]
@[simp] theorem settle_fio (m : Mod) : m.settle.fio = m.fio := by rw [settle_regs_only]
@[simp] theorem settle_img (m : Mod) : m.settle.img = m.img := by rw [settle_regs_only]
@[simp] theorem settle_cans (m : Mod) : m.settle.cans = m.cans := by rw [settle_regs_only]
@[simp] theorem settle_trxs (m : Mod) : m.settle.trxs = m.trxs := by rw [settle_regs_only]
@[simp] theorem settle_lins (m : Mod) : m.settle.lins = m.lins := by rw [settle_regs_only]
@[simp] theorem settle_t1s (m : Mod) : m.settle.t1s = m.t1s := by rw [settle_regs_only]
@[simp] theorem settle_nms (m : Mod) : m.settle.nms = m.nms := by rw [settle_regs_only]
@[simp] theorem settle_vnk (m : Mod) : m.settle.vnk = m.vnk := by rw [settle_regs_only]
@[simp] theorem settle_bbs (m : Mod) : m.settle.bbs = m.bbs := by rw [settle_regs_only]
@[simp] theorem settle_ets (m : Mod) : m.settle.ets = m.ets := by rw [settle_regs_only]
@[simp] theorem settle_pwr (m : Mod) : m.settle.pwr = m.pwr := by rw [settle_regs_only]
@[simp] theorem settle_boot (m : Mod) : m.settle.boot = m.boot := by rw [settle_regs_only]
@[simp] theorem settle_sec (m : Mod) : m.settle.sec = m.sec := by rw [settle_regs_only]
@[simp] theorem settle_uds (m : Mod) : m.settle.uds = m.uds := by rw [settle_regs_only]
@[simp] theorem settle_upd (m : Mod) : m.settle.upd = m.upd := by rw [settle_regs_only]
@[simp] theorem settle_poolUsed (m : Mod) : m.settle.poolUsed = m.poolUsed := by rw [settle_regs_only]

/-- Two steps that agree on a list give the same fold. -/
theorem foldl_same {α β : Type} (f g : β → α → β) : ∀ (l : List α) (b : β), (∀ a ∈ l, ∀ b, f b a = g b a) → l.foldl f b = l.foldl g b := by
  intro l
  induction l with
  | nil => intro b _; rfl
  | cons a l ih =>
    intro b h
    rw [List.foldl_cons, List.foldl_cons, h a List.mem_cons_self, ih _ fun c hc => h c (List.mem_cons_of_mem _ hc)]

/-- Settling leaves what the shown registers show alone. -/
theorem irqSum_settle (m : Mod) (i : Nat) : m.settle.irqSum i = m.irqSum i := by
  have h : ∀ g : Fld, g.key = (COM.PAGE_IRQ i).key ∨ g.key = (COM.PAGE_IEN i).key → g.key ∉ derivedKeys := by
    intro g hg hd
    simp only [derivedKeys, shown, List.map_cons, List.map_nil, List.mem_cons, List.not_mem_nil, or_false] at hd
    rcases hg with hg | hg <;> rw [hg] at hd <;> simp [Fld.key, COM.PAGE_IRQ, COM.PAGE_IEN, SYS.IRQ_SUM0, SYS.IRQ_SUM1, FRM.SWAP_PEND, PRM.OPEN, PRM.INTAKE, EVT.COUNT, DIA.FIFO_LVL, NM.AWAKE, TS.PLCA_ACT, BRG.LS_LVL, ResetClass.code] at hd <;> omega
  simp only [irqSum]
  rw [rd_settle _ _ (h _ (.inl rfl)), rd_settle _ _ (h _ (.inr rfl))]

theorem derived_settle (m : Mod) : m.settle.derived = m.derived := by
  have e1 : ∀ n, n < 22 → m.settle.rd (NM.STATE n) = m.rd (NM.STATE n) := by
    intro n hn
    refine rd_settle _ _ ?_
    revert n; decide
  have e2 : ∀ n, n < 2 → m.settle.plcaSends n = m.plcaSends n := by
    intro n hn
    simp only [plcaSends, on]
    have h1 : (TS.EN n).key ∉ derivedKeys := by revert n; decide
    have h2 : (TRX.STATE (0x38 + n)).key ∉ derivedKeys := by revert n; decide
    rw [rd_settle _ _ h1, rd_settle _ _ h2, rd_settle _ PWR.AUX_LOW (by decide)]
  have hN : (flags 22 fun n => decide (m.settle.rd (NM.STATE n) ≠ 0)) = flags 22 fun n => decide (m.rd (NM.STATE n) ≠ 0) := by
    simp only [flags, forN]
    refine foldl_same _ _ _ _ ?_
    intro b hb a
    simp only [e1 b (List.mem_range.1 hb)]
  simp only [derived, irqSum_settle, hN, e2 0 (by omega), e2 1 (by omega), rd_settle _ FRM.TAB_NEXT (by decide), rd_settle _ FRM.TAB_ACT (by decide), settle_prm, settle_evt, settle_dia]

/-- Writing a list of fields with different keys: each reads back its value. -/
theorem rd_wrAll_same (l : List (Fld × Nat)) : ∀ (m : Mod) (p : Fld × Nat), p ∈ l → (l.map (fun q => q.1.key)).Nodup →
    (m.wrAll l).rd p.1 = p.2 % 2 ^ p.1.w := by
  induction l with
  | nil => intro m p hp; cases hp
  | cons q l ih =>
    intro m p hp hn
    rw [wrAll_cons]
    simp only [List.map_cons, List.nodup_cons] at hn
    rcases List.mem_cons.1 hp with rfl | hp
    · rw [rd_wrAll_other, rd_wr_same]
      intro r hr he
      exact hn.1 (he ▸ List.mem_map_of_mem hr)
    · exact ih _ _ hp hn.2

end Sys2Proof.Machine.Mod
end

