-- ==== Sys2Proof/Laws/Frames.lean ====
section
/-! SUPPORT. Frames: what a write of a field, the last act of a command and the raising of an event leave alone. -/
namespace Sys2Proof.Machine
open Reg

namespace Mod

theorem KeepsRegs.refl (l : List Fld) (m : Mod) : m.KeepsRegs l m := fun _ _ => rfl

theorem KeepsRegs.wr (l : List Fld) (m t : Mod) (f : Fld) (v : Nat) (h : m.KeepsRegs l t) (hf : f ∈ l) : m.KeepsRegs l (t.wr f v) :=
  fun g hg => by rw [rd_wr_other _ _ _ _ (hg f (List.mem_append_right _ hf)), h g hg]

/-- A part of the state that is no register does not matter to the registers. -/
theorem KeepsRegs.of_regs (l : List Fld) (m t u : Mod) (h : m.KeepsRegs l t) (hu : u.regs = t.regs) : m.KeepsRegs l u :=
  fun g hg => by rw [← h g hg]; simp only [rd, hu]

theorem KeepsRegs.settle (l : List Fld) (m t : Mod) (h : m.KeepsRegs l t) : m.KeepsRegs l t.settle := fun g hg => by
  rw [rd_settle, h g hg]
  intro hk
  obtain ⟨f, hf, he⟩ := List.mem_map.1 hk
  exact hg f (List.mem_append_left _ hf) he

theorem OnlyRegs.refl (l : List Fld) (m : Mod) : m.OnlyRegs l m := ⟨rfl, KeepsRegs.refl l m⟩

theorem OnlyRegs.wr (l : List Fld) (m t : Mod) (f : Fld) (v : Nat) (h : m.OnlyRegs l t) (hf : f ∈ l) : m.OnlyRegs l (t.wr f v) :=
  ⟨h.1, h.2.wr l m t f v hf⟩

theorem OnlyRegs.settle (l : List Fld) (m t : Mod) (h : m.OnlyRegs l t) : m.OnlyRegs l t.settle :=
  ⟨by rw [settle_regs_only]; exact h.1, h.2.settle l m t⟩

end Mod

/-- Every command's outcome is a change of the block, its shown registers brought up to date. -/
theorem exec_next (i : Instr) (s : State) : ∃ f, exec i s = s.next f := by
  cases i
  all_goals exact ⟨_, rfl⟩

/-- Every command whose outcome is a change of the block runs. -/
theorem State.runs_next (s : State) (i : Instr) (f : Mod → Mod) (P : Mod → Mod → Prop) (h : exec i s = s.next f) (hP : P s.mod (f s.mod).settle) :
    s.Runs i P := ⟨_, h, rfl, hP⟩

end Sys2Proof.Machine
end

