-- ==== Sys2Proof/Tests/Slice0.lean ====
section
/-! SUPPORT. A state that meets the hypotheses of each statement, clause by clause, its operands at the ends of their ranges; the
spec's worked examples as single steps; an ill-formed command for each check. -/
open Sys2Proof Sys2Proof.Machine Sys2Proof.Machine.Reg Sys2Proof.Machine.Mod
namespace Sys2Proof.Tests

/-- The state after reset with the registers listed set and the block changed by `f`. -/
def mk (l : List (Fld × Nat)) (f : Mod → Mod := id) : State := ⟨f (l.foldl (fun m p => m.wr p.1 p.2) {}), []⟩

/-- The block in a tick whose slot 2 runs a rod of 56 beads. -/
def due (m : Mod) : Mod :=
  (m.wr FRM.RUNNING 1).onFrm fun x => { x with fetched := true, slots := [(2, { loaded := true, count := 56 })] }

/-- The block that a command leaves. -/
def after (i : Instr) (s : State) : Mod := match exec i s with
  | .next t => t.mod
  | _ => {}

def req : VnkReq := { port := 1, mac := 0, seq := 0xFFFF, win := 63, aux := 4 }
def txn : Txn := { slot := 15, seq := 0xFFFF, op := 1, win := 63, posted := false, addr := 0, aux := 4, payload := [], tick := 0 }
def pr : Promise := { num := 0xFFFF, cls := 1, source := 0, ref := 0, deadline := 0, notify := true, target := 0, bead := 1023 }
def rq : Req := { cls := 1, notify := false, source := 0, ref := 0, rel := 1, target := 0, act0 := 0, act1 := 0, via := .pair, admTick := 0 }
def rec : EvtRec := { tick := 9, page := 0x3F, cls := 2, code := 0x0C06, detail := 5, est := false, trunc := false, rep := 0, seq := 4095 }
/-- The example of R234: triple 5's matrix and target. -/
def colour (t : Nat) : List (Fld × Nat) :=
  [(CLR.M t 0, 0x04000800), (CLR.M t 2, 0x1000), (CLR.M t 4, 0x2000), (CLR.X t, 20493), (CLR.Y t, 21561), (CLR.LUM t, 1000)]
theorem test_park_runs : ∀ j : Nat, SMap.get 0 [(31, 3)] j ≤ 200 := by
  intro j
  simp only [SMap.get, SMap.find?]
  split <;> simp

theorem test_witness_StepShowsItsState : ∃ s t : State, s.pending ≠ [] ∧ step s = .next t :=
  ⟨{ State.reset with pending := [.tickLoRead] }, { State.reset with mod := after .tickLoRead State.reset }, by decide, rfl⟩

theorem test_witness_StepRunsFrontCommand :
    (∃ (i : Instr) (l : List Instr) (s : State), s.pending = i :: l) ∧
    (∃ (s : State), s.pending = []) :=
  ⟨⟨.coldReset, [], { State.reset with pending := [.coldReset] }, rfl⟩,
    ⟨State.reset, rfl⟩⟩

theorem test_witness_PairWritesJoinCommitQueue :
    (∃ (s : State), s.mod.pair.w0.cq.length < 256) ∧
    (∃ (s : State) (pg : Fin 64), s.mod.pair.w0.cq.length < 256 ∧ mapped pg.val = true) ∧
    (∃ (s : State) (rod : Fin 1024), s.mod.pair.w0.cq.length < 256 ∧ s.mod.tileOpen rod.val Writer.pair = true) :=
  ⟨⟨State.reset, by decide⟩,
    ⟨State.reset, 0x3F, by decide⟩,
    ⟨mk [(FRM.RUNNING, 0)], 1023, by decide⟩⟩

theorem test_witness_WriteKeyOpensClosesLocks :
    ∃ (pg : Fin 64), mapped pg.val = true :=
  ⟨0x3F, by decide⟩

theorem test_witness_WindowsWriteAtOnce :
    (∃ (s : State), s.mod.keyOpen 10 = true ∧ s.mod.rd FRM.SLACK_BASE + s.mod.rd FRM.SLACK_LEN ≤ 1024) ∧
    (∃ (s : State), s.mod.keyOpen 10 = true ∧ 1024 < s.mod.rd FRM.SLACK_BASE + s.mod.rd FRM.SLACK_LEN) ∧
    (∃ (s : State), s.mod.keyOpen 10 = true) ∧
    (∃ (s : State), s.mod.on FRM.RUNNING = false) ∧
    (∃ (s : State), s.mod.keyOpen 7 = true ∧ s.mod.rd SEC.OTP_BUSY = 0) ∧
    (∃ (s : State), s.mod.keyOpen 7 = true) :=
  ⟨⟨mk [(COM.KEY 10, 1)], by decide⟩,
    ⟨mk [(COM.KEY 10, 1), (FRM.SLACK_BASE, 1023), (FRM.SLACK_LEN, 2)], by decide⟩,
    ⟨mk [(COM.KEY 10, 1)], by decide⟩,
    ⟨mk [(FRM.RUNNING, 0)], by decide⟩,
    ⟨mk [(SEC.OTP_BUSY, 0), (COM.KEY 7, 1)], by decide⟩,
    ⟨mk [(COM.KEY 7, 1)], by decide⟩⟩

theorem test_witness_RegisterAccessCodesHold :
    (∃ (pg : Fin 64), mapped pg.val = true) ∧
    (∃ (s : State) (pg : Fin 64) (word : Fin 1024), mapped pg.val = true ∧ 64 ≤ word.val ∧ s.mod.awake (pageDomain pg.val) = false ∧ s.mod.pageOos pg.val (4 * word.val) = false) :=
  ⟨⟨0x3F, by decide⟩,
    ⟨mk [(PWR.DOM_STAT, 0)], 0x20, 64, by decide⟩⟩

theorem test_witness_CommandBeadsStageTheirEffects :
    (∃ (s : State) (slot : Fin 3) (pos : Fin 56) (q : Fin 4), s.mod.beadDue slot pos ∧ s.mod.awake (24 + q.val) = true) ∧
    (∃ (s : State) (slot : Fin 3) (pos : Fin 56) (k : Fin 8), s.mod.beadDue slot pos ∧ s.mod.awake (24 + k.val / 2) = true ∧ s.mod.awake 29 = true) ∧
    (∃ (s : State) (slot : Fin 3) (pos : Fin 56), s.mod.beadDue slot pos ∧ s.mod.awake 28 = true) ∧
    (∃ (s : State) (slot : Fin 3) (pos : Fin 56) (k : Fin 8), s.mod.beadDue slot pos ∧ s.mod.awake (24 + k.val / 2) = true) ∧
    (∃ (s : State) (slot : Fin 3) (pos : Fin 56), s.mod.beadDue slot pos ∧ s.mod.awake 29 = true) ∧
    (∃ (s : State) (slot : Fin 3) (pos : Fin 56) (p : Fin 8), s.mod.beadDue slot pos ∧ s.mod.awake (16 + p.val) = true) ∧
    (∃ (s : State) (slot : Fin 3) (pos : Fin 56) (n : Fin 12), s.mod.beadDue slot pos ∧ s.mod.awake (4 + n.val) = true) :=
  ⟨⟨mk [(PWR.DOM_STAT, 0xFFFFFFFF)] fun m => due m, 2, 55, 3, by unfold Mod.beadDue; decide⟩,
    ⟨mk [(PWR.DOM_STAT, 0xFFFFFFFF)] fun m => due m, 2, 55, 7, by unfold Mod.beadDue; decide⟩,
    ⟨mk [(PWR.DOM_STAT, 0xFFFFFFFF)] fun m => due m, 2, 55, by unfold Mod.beadDue; decide⟩,
    ⟨mk [(PWR.DOM_STAT, 0xFFFFFFFF)] fun m => due m, 2, 55, 7, by unfold Mod.beadDue; decide⟩,
    ⟨mk [(PWR.DOM_STAT, 0xFFFFFFFF)] fun m => due m, 2, 55, by unfold Mod.beadDue; decide⟩,
    ⟨mk [(PWR.DOM_STAT, 0xFFFFFFFF)] fun m => due m, 2, 55, 7, by unfold Mod.beadDue; decide⟩,
    ⟨mk [(PWR.DOM_STAT, 0xFFFFFFFF)] fun m => due m, 2, 55, 11, by unfold Mod.beadDue; decide⟩⟩

theorem test_witness_SampleBeadsCapture :
    (∃ (s : State) (slot : Fin 3) (pos : Fin 56), s.mod.beadDue slot pos ∧ s.mod.awake 29 = true) ∧
    (∃ (s : State) (slot : Fin 3) (pos : Fin 56) (i : BitVec 8), s.mod.beadDue slot pos ∧ s.mod.awake 29 = true ∧ i.toNat < 255) ∧
    (∃ (s : State) (slot : Fin 3) (pos : Fin 56) (k : Fin 8) (i : BitVec 8), s.mod.beadDue slot pos ∧ s.mod.awake (24 + k.val / 2) = true ∧ i.toNat < 252) ∧
    (∃ (s : State) (slot : Fin 3) (pos : Fin 56) (q : Fin 4), s.mod.beadDue slot pos ∧ s.mod.awake (24 + q.val) = true) ∧
    (∃ (s : State) (slot : Fin 3) (pos : Fin 56) (pg : Fin 64) (i : BitVec 8), s.mod.beadDue slot pos ∧ mapped pg.val = true ∧ pg ≠ 0 ∧ i.toNat < 255) :=
  ⟨⟨mk [(PWR.DOM_STAT, 0xFFFFFFFF)] fun m => due m, 2, 55, by unfold Mod.beadDue; decide⟩,
    ⟨mk [(PWR.DOM_STAT, 0xFFFFFFFF)] fun m => due m, 2, 55, 254, by unfold Mod.beadDue; decide⟩,
    ⟨mk [(PWR.DOM_STAT, 0xFFFFFFFF)] fun m => due m, 2, 55, 7, 251, by unfold Mod.beadDue; decide⟩,
    ⟨mk [(PWR.DOM_STAT, 0xFFFFFFFF)] fun m => due m, 2, 55, 3, by unfold Mod.beadDue; decide⟩,
    ⟨mk [] fun m => due m, 2, 55, 0x3F, 254, by unfold Mod.beadDue; decide⟩⟩

theorem test_witness_SequencingBeadsSteer :
    (∃ (s : State) (slot : Fin 3) (pos : Fin 56) (budget : BitVec 11), s.mod.beadDue slot pos ∧ 1 ≤ budget.toNat ∧ (List.map (fun x ↦ x.budget) s.mod.frm.dispNext).sum + budget.toNat ≤ 2000) ∧
    (∃ (s : State) (slot : Fin 3) (pos : Fin 56) (num : BitVec 16), s.mod.beadDue slot pos ∧ num ≠ 0) ∧
    (∃ (s : State) (slot : Fin 3) (pos : Fin 56) (d : Fin 30), s.mod.beadDue slot pos ∧ s.mod.awake d.val = false) ∧
    (∃ (s : State) (slot : Fin 3) (pos : Fin 56) (i : BitVec 8) (n : Fin 56), s.mod.beadDue slot pos ∧ n.val ≠ 0 ∧ i.toNat < 32) ∧
    (∃ (s : State) (slot : Fin 3) (pos : Fin 56), s.mod.beadDue slot pos ∧ s.mod.Room 1) :=
  ⟨⟨mk [] fun m => due m, 2, 55, 2000, by unfold Mod.beadDue; decide⟩,
    ⟨mk [] fun m => due m, 2, 55, 1, by unfold Mod.beadDue; decide⟩,
    ⟨mk [(PWR.DOM_STAT, 0)] fun m => due m, 2, 55, 29, by unfold Mod.beadDue; decide⟩,
    ⟨mk [] fun m => due m, 2, 55, 31, 55, by unfold Mod.beadDue; decide⟩,
    ⟨mk [] fun m => due m, 2, 55, by unfold Mod.beadDue Mod.Room; decide⟩⟩

theorem test_witness_ChannelTransitionsStep :
    (∃ (s : State) (q : Fin 4), s.mod.paired q.val = false) ∧
    (∃ (s : State) (q : Fin 4) (c : Fin 20), (s.mod.chan q.val c.val).tran = Tran.on) ∧
    (∃ (s : State) (q : Fin 4) (c : Fin 20), (s.mod.chan q.val c.val).tran = Tran.off ∧ (s.mod.chan q.val c.val).next ≠ none) ∧
    (∃ (s : State) (q : Fin 4) (c : Fin 20), (s.mod.chan q.val c.val).tran = Tran.off ∧ (s.mod.chan q.val c.val).next = none) ∧
    (∃ (s : State) (q : Fin 4) (c : Fin 20), (s.mod.chan q.val c.val).tran = Tran.dead ∧ ∃ n, (s.mod.chan q.val c.val).next = some n ∧ n.out = 5 ∧ (s.mod.chan q.val c.val).onPhase = false) ∧
    (∃ (s : State) (q : Fin 4) (c : Fin 20), (s.mod.chan q.val c.val).tran = Tran.dead ∧ ∃ n, (s.mod.chan q.val c.val).next = some n ∧ n.out ≠ 5 ∧ s.mod.permitted q.val c.val = false) :=
  ⟨⟨State.reset, 3, by decide⟩,
    ⟨mk [] fun m => m.onChan 3 19 fun x => { x with tran := .on }, 3, 19, by decide⟩,
    ⟨mk [] fun m => m.onChan 3 19 fun x => { x with tran := .off, next := some {} }, 3, 19, by decide⟩,
    ⟨mk [] fun m => m.onChan 3 19 fun x => { x with tran := .off }, 3, 19, by decide⟩,
    ⟨mk [] fun m => m.onChan 3 19 fun x => { x with tran := .dead, next := some { out := 5 } }, 3, 19, ⟨by decide, { out := 5 }, by decide⟩⟩,
    ⟨mk [] fun m => m.onChan 3 19 fun x => { x with tran := .dead, next := some {}, own := 30 }, 3, 19, ⟨by decide, {}, by decide⟩⟩⟩

theorem test_witness_PwmAndConversionsReachRegisters :
    (∃ (s : State) (q : Fin 4) (c : Fin 20) (w : Cmd), s.mod.bridged q.val c.val = false ∧ s.mod.group q.val c.val = [c.val] ∧ (s.mod.chan q.val c.val).pend = some w ∧ (s.mod.rd (HQ.OUT q.val c.val) = 2 ∨ s.mod.rd (HQ.OUT q.val c.val) = 5) ∧ s.mod.permitted q.val c.val = true ∧ s.mod.onSteps q.val c.val w.duty = 0 ∧ s.mod.highDriven q.val c.val = true) ∧
    (∃ (s : State) (q : Fin 4) (c : Fin 20) (w : Cmd), s.mod.bridged q.val c.val = false ∧ s.mod.group q.val c.val = [c.val] ∧ (s.mod.chan q.val c.val).pend = some w ∧ (s.mod.rd (HQ.OUT q.val c.val) = 2 ∨ s.mod.rd (HQ.OUT q.val c.val) = 5) ∧ s.mod.permitted q.val c.val = true ∧ s.mod.onSteps q.val c.val w.duty = 0 ∧ s.mod.highDriven q.val c.val = false ∧ isHB c.val = false) ∧
    (∃ (s : State) (q : Fin 4) (c : Fin 20) (w : Cmd), s.mod.bridged q.val c.val = false ∧ s.mod.group q.val c.val = [c.val] ∧ (s.mod.chan q.val c.val).pend = some w ∧ (s.mod.rd (HQ.OUT q.val c.val) = 2 ∨ s.mod.rd (HQ.OUT q.val c.val) = 5) ∧ s.mod.permitted q.val c.val = true ∧ s.mod.onSteps q.val c.val w.duty = 0 ∧ s.mod.highDriven q.val c.val = false ∧ isHB c.val = true ∧ (s.mod.chan q.val c.val).low = false ∧ (s.mod.chan q.val c.val).tran = Tran.idle) ∧
    (∃ (s : State) (q : Fin 4) (c : Fin 20) (w : Cmd), s.mod.bridged q.val c.val = false ∧ s.mod.group q.val c.val = [c.val] ∧ (s.mod.chan q.val c.val).pend = some w ∧ s.mod.rd (HQ.OUT q.val c.val) ≠ 6 ∧ s.mod.permitted q.val c.val = true ∧ s.mod.onSteps q.val c.val w.duty ≠ 0 ∧ (s.mod.chan q.val c.val).running = true ∧ (s.mod.chan q.val c.val).onPhase = true ∧ (s.mod.chan q.val c.val).tran ≠ Tran.off) ∧
    (∃ (s : State) (q : Fin 4) (c : Fin 20), s.mod.bridged q.val c.val = false ∧ s.mod.group q.val c.val = [c.val] ∧ (s.mod.rd (HQ.OUT q.val c.val) = 2 ∨ s.mod.rd (HQ.OUT q.val c.val) = 5) ∧ (s.mod.chan q.val c.val).onPhase = true ∧ s.mod.onSteps q.val c.val (s.mod.chan q.val c.val).duty < 250 * s.mod.pwmTicks q.val c.val) ∧
    (∃ (c : Fin 20), isHB c.val = false) ∧
    (∃ (s : State) (q : Fin 4), s.mod.Room 1 ∧ (s.mod.quad q.val).silent = false) ∧
    (∃ (s : State) (q : Fin 4), s.mod.keyOpen (16 + q.val) = true ∧ (s.mod.quad q.val).frozen = [] ∧ s.mod.rd (HQ.OUT q.val 0) = 0 ∧ s.mod.rd (HQ.OUT q.val 10) = 0) :=
  ⟨⟨mk [(HQ.OUT 3 19, 5)] fun m => m.onChan 3 19 fun x => { x with pend := some {}, own := 31, onPhase := true }, 3, 19, {}, by decide⟩,
    ⟨mk [(HQ.OUT 3 17, 2)] fun m => m.onChan 3 17 fun x => { x with pend := some {}, own := 31 }, 3, 17, {}, by decide⟩,
    ⟨mk [(HQ.OUT 3 19, 5)] fun m => m.onChan 3 19 fun x => { x with pend := some {}, own := 31 }, 3, 19, {}, by decide⟩,
    ⟨mk [] fun m => m.onChan 3 19 fun x => { x with pend := some { duty := 0xFFFF }, own := 31, running := true, onPhase := true }, 3, 19, { duty := 0xFFFF }, by decide⟩,
    ⟨mk [(HQ.OUT 3 19, 5)] fun m => m.onChan 3 19 fun x => { x with onPhase := true, duty := 65533 }, 3, 19, by decide⟩,
    ⟨17, by decide⟩,
    ⟨State.reset, 3, by unfold Mod.Room; decide⟩,
    ⟨mk [(COM.KEY 0x13, 1)], 3, by decide⟩⟩

theorem test_witness_TripsCountPauseAndLatch :
    (∃ (s : State) (q : Fin 4) (c : Fin 20) (i : BitVec 17), 1000 * shortTripA c.val (s.mod.rd (HQ.ISC q.val (s.mod.master q.val c.val))) ≤ i.toNat) ∧
    (∃ (s : State) (q : Fin 4) (c : Fin 20) (i : BitVec 17), i.toNat < 1000 * shortTripA c.val (s.mod.rd (HQ.ISC q.val (s.mod.master q.val c.val)))) ∧
    (∃ (s : State) (q : Fin 4) (c : Fin 20), filterRun (s.mod.rd (HQ.OC_FILT q.val c.val)) ≤ (s.mod.chan q.val c.val).ocRun) ∧
    (∃ (s : State) (q : Fin 4) (c : Fin 20), isHB c.val = true ∧ (s.mod.chan q.val c.val).peakDue = true) ∧
    (∃ (s : State) (q : Fin 4) (c : Fin 20), s.mod.rd (HQ.UCODE q.val) ≠ 0 ∧ (s.mod.chan q.val c.val).retryPause = true) :=
  ⟨⟨State.reset, 3, 19, 90000, by decide⟩,
    ⟨State.reset, 3, 19, 0, by decide⟩,
    ⟨mk [] fun m => m.onChan 3 19 fun x => { x with ocRun := 1000 }, 3, 19, by decide⟩,
    ⟨mk [] fun m => m.onChan 3 19 fun x => { x with peakDue := true }, 3, 19, by decide⟩,
    ⟨mk [(HQ.UCODE 3, 1)] fun m => m.onChan 3 19 fun x => { x with retryPause := true }, 3, 19, by decide⟩⟩

theorem test_witness_FeedSupervisionActs :
    (∃ (s : State) (q : Fin 4), (s.mod.quad q.val).low = false) ∧
    (∃ (s : State) (q : Fin 4), (s.mod.quad q.val).low = true) ∧
    (∃ (s : State) (q : Fin 4), (s.mod.quad q.val).uvTimer = true) ∧
    (∃ (s : State) (q : Fin 4) (v : BitVec 12), s.mod.ovCode q.val false ≤ v.toNat) ∧
    (∃ (s : State) (q : Fin 4) (v : BitVec 12), v.toNat < s.mod.ovCode q.val true) ∧
    (∃ (s : State) (q : Fin 4) (b : Fin 8) (v : BitVec 12), b.val / 2 = q.val ∧ s.mod.awake (24 + q.val) = true ∧ 375 ≤ v.toNat) ∧
    (∃ (s : State) (q : Fin 4) (b : Fin 8), b.val / 2 = q.val ∧ (s.mod.quad q.val).low = true ∧ (s.mod.bank b.val).resOff = false) :=
  ⟨⟨State.reset, 3, by decide⟩,
    ⟨mk [] fun m => { m with quads := [(3, { low := true })] }, 3, by decide⟩,
    ⟨mk [] fun m => { m with quads := [(3, { uvTimer := true })] }, 3, by decide⟩,
    ⟨State.reset, 3, 4095, by decide⟩,
    ⟨State.reset, 3, 0, by decide⟩,
    ⟨mk [(PWR.DOM_STAT, 0xFFFFFFFF)], 3, 7, 375, by decide⟩,
    ⟨mk [] fun m => { m with quads := [(3, { low := true })] }, 3, 7, by decide⟩⟩

theorem test_witness_WindowClampAndReverseEvents :
    (∃ (c : Fin 20), isHB c.val = false) ∧
    (∃ (s : State) (q : Fin 4) (c : Fin 20) (i : BitVec 12), isHB c.val = false ∧ s.mod.rd (HQ.REV q.val c.val) = 0 ∧ revThreshold c.val < i.toNat * lsbMA c.val) ∧
    (∃ (s : State) (q : Fin 4) (c : Fin 20), s.mod.rd (HQ.REV q.val c.val) = 1 ∧ s.mod.partnerOn q.val c.val = false ∧ s.mod.rd (HQ.REV_FEED q.val) = 1) ∧
    (∃ (s : State) (q : Fin 4) (c : Fin 20), s.mod.rd (HQ.REV q.val c.val) = 1 ∧ s.mod.partnerOn q.val c.val = true) ∧
    (∃ (s : State) (q : Fin 4) (c : Fin 20) (b : Fin 8), b.val = 2 * q.val + c.val / 10 ∧ (s.mod.bank b.val).queue = [c.val] ∧ s.mod.rd (HQ.PAUSED0 q.val) = 0 ∧ s.mod.rd (HQ.PAUSED1 q.val) = 0 ∧ (s.mod.quad q.val).low = false ∧ s.mod.permitted q.val c.val = true ∧ s.mod.rd (HQ.OUT q.val c.val) = 1 ∧ s.mod.rd (HQ.INR_WIN q.val (s.mod.lead q.val c.val)) ≠ 0 ∧ s.mod.claims q.val (b.val % 2) + s.mod.claimOf q.val c.val ≤ s.mod.inrushBudget q.val (b.val % 2)) :=
  ⟨⟨17, by decide⟩,
    ⟨mk [(HQ.REV 3 17, 0)], 3, 17, 4095, by decide⟩,
    ⟨mk [(HQ.REV 3 19, 1), (HQ.REV_FEED 3, 1)], 3, 19, by decide⟩,
    ⟨mk [(HQ.REV 3 19, 1), (HQ.OUT 0 0, 1)] fun m => m.onChan 3 19 fun x => { x with tied := some 0 }, 3, 19, by decide⟩,
    ⟨mk [(HQ.OUT 3 19, 1), (HQ.INR_WIN 3 19, 1), (HQ.PAUSED0 3, 0), (HQ.PAUSED1 3, 0)] fun m => { m.onChan 3 19 (fun x => { x with own := 31 }) with banks := [(7, { queue := [19] })] }, 3, 19, 7, by decide⟩⟩

theorem test_witness_LoadDiagnosticsRun :
    (∃ (s : State) (q : Fin 4) (c : Fin 20), (s.mod.chan q.val c.val).diag.run = DiagRun.pullDown ∧ ((s.mod.chan q.val c.val).diag.kind ≠ 1 ∨ (s.mod.chan q.val c.val).diag.offPhase = true)) ∧
    (∃ (s : State) (q : Fin 4) (c : Fin 20), (s.mod.chan q.val c.val).diag.run = DiagRun.pullUp ∧ (s.mod.chan q.val c.val).diag.offPhase = false ∧ s.mod.rd (HQ.DIAG_BUSY q.val c.val) = 1) ∧
    (∃ (s : State) (q : Fin 4) (c : Fin 20), (s.mod.chan q.val c.val).diag.run = DiagRun.onState ∧ s.mod.rd (HQ.DIAG_BUSY q.val c.val) = 1 ∧ s.mod.tooFew q.val c.val = true) ∧
    (∃ (s : State) (w : Writer) (g : DiagChg) (l : List DiagChg), s.mod.rd DIA.POP_OWNER = w.code ∧ s.mod.dia.fifo = g :: l) ∧
    (∃ (s : State) (w : Writer), (s.mod.rd DIA.POP_OWNER ≠ w.code ∨ s.mod.dia.fifo = [])) :=
  ⟨⟨mk [] fun m => m.onChan 3 19 fun x => { x with diag := { run := .pullDown } }, 3, 19, by decide⟩,
    ⟨mk [(HQ.DIAG_BUSY 3 19, 1)] fun m => m.onChan 3 19 fun x => { x with diag := { run := .pullUp } }, 3, 19, by decide⟩,
    ⟨mk [(HQ.DIAG_BUSY 3 19, 1)] fun m => m.onChan 3 19 fun x => { x with diag := { run := .onState } }, 3, 19, by decide⟩,
    ⟨mk [(DIA.POP_OWNER, 1)] fun m => { m with dia := { m.dia with fifo := [⟨79, 1, 2, 3, 4⟩] } }, .vinko, ⟨79, 1, 2, 3, 4⟩, [], by decide⟩,
    ⟨State.reset, .vinko, by decide⟩⟩

theorem test_witness_MotorsFollowCommandsAndCount :
    (∃ (s : State) (k : Fin 8), s.mod.force (k.val / 2) (MOT.BR_EN k.val) ≠ 0 ∧ (s.mod.rd (MOT.STOPPED k.val) = 0 ∨ (s.mod.br k.val).stallMode ≠ 0)) ∧
    (∃ (s : State) (k : Fin 8), s.mod.force (k.val / 2) (MOT.BR_EN k.val) ≠ 0 ∧ (s.mod.rd (MOT.STOPPED k.val) = 0 ∨ (s.mod.br k.val).stallMode ≠ 1)) ∧
    (∃ (s : State) (k : Fin 8), s.mod.force (k.val / 2) (MOT.BR_EN k.val) ≠ 0 ∧ (s.mod.rd (MOT.STOPPED k.val) = 0 ∨ (s.mod.br k.val).stallMode ≠ 2)) ∧
    (∃ (s : State) (k : Fin 8), s.mod.force (k.val / 2) (MOT.BR_EN k.val) ≠ 0 ∧ (s.mod.rd (MOT.STOPPED k.val) = 0 ∨ (s.mod.br k.val).stallMode ≠ 3)) ∧
    (∃ (s : State) (k : Fin 8), s.mod.force (k.val / 2) (MOT.BR_EN k.val) ≠ 0 ∧ (s.mod.rd (MOT.STOPPED k.val) = 0 ∨ (s.mod.br k.val).stallMode ≠ 4)) ∧
    (∃ (s : State) (k : Fin 8), s.mod.rd (MOT.REVERSING k.val) = 1 ∧ s.mod.brOwnerOf k.val = 0) ∧
    (∃ (s : State) (k : Fin 8), s.mod.force (k.val / 2) (MOT.BR_EN k.val) ≠ 0 ∧ s.mod.force (k.val / 2) (MOT.ICHOP k.val) ≠ 0 ∧ s.mod.rd (MOT.APPLIED k.val) = 1 ∧ (s.mod.chan (k.val / 2) (brEven k.val)).onPhase = true ∧ s.mod.rd (HQ.OUT (k.val / 2) (brEven k.val)) = 5) ∧
    (∃ (s : State) (k : Fin 8), s.mod.force (k.val / 2) (MOT.BR_EN k.val) ≠ 0 ∧ (s.mod.br k.val).stallTick = 0 ∧ (s.mod.rd (MOT.APPLIED k.val) = 1 ∨ s.mod.rd (MOT.APPLIED k.val) = 2) ∧ s.mod.rd (MOT.MASKED k.val) = 0 ∧ s.mod.force (k.val / 2) (MOT.STALL_I k.val) ≠ 0) ∧
    (∃ (s : State) (k : Fin 8), s.mod.force (k.val / 2) (MOT.BR_EN k.val) ≠ 0 ∧ (s.mod.br k.val).stallTick = 0 ∧ (s.mod.rd (MOT.APPLIED k.val) = 1 ∨ s.mod.rd (MOT.APPLIED k.val) = 2) ∧ s.mod.rd (MOT.MASKED k.val) = 0 ∧ s.mod.force (k.val / 2) (MOT.QPAIR k.val) ≠ 0 ∧ s.mod.force (k.val / 2) (MOT.HALL_T k.val) ≠ 0 ∧ 1024 ≤ s.mod.rd (MOT.DUTY_APPL k.val)) ∧
    (∃ (s : State) (j : Fin 4), s.mod.qdRuns j.val = true) ∧
    (∃ (s : State) (j : Fin 4), s.mod.on (MOT.QD_EN j.val) = false) ∧
    (∃ (s : State) (k : Fin 8), s.mod.keyOpen 21 = true ∧ (s.mod.quad (k.val / 2)).frozen = [] ∧ s.mod.rd (HQ.OUT (k.val / 2) (brEven k.val)) = 0 ∧ s.mod.rd (HQ.OUT (k.val / 2) (brEven k.val + 1)) = 0) :=
  ⟨⟨mk [(MOT.BR_EN 7, 1), (MOT.STOPPED 7, 0)], 7, by decide⟩,
    ⟨mk [(MOT.BR_EN 7, 1), (MOT.STOPPED 7, 0)], 7, by decide⟩,
    ⟨mk [(MOT.BR_EN 7, 1), (MOT.STOPPED 7, 0)], 7, by decide⟩,
    ⟨mk [(MOT.BR_EN 7, 1), (MOT.STOPPED 7, 0)], 7, by decide⟩,
    ⟨mk [(MOT.BR_EN 7, 1), (MOT.STOPPED 7, 0)], 7, by decide⟩,
    ⟨mk [(MOT.REVERSING 7, 1)], 7, by decide⟩,
    ⟨mk [(MOT.BR_EN 7, 1), (MOT.ICHOP 7, 1), (MOT.APPLIED 7, 1), (HQ.OUT 3 (brEven 7), 5)] fun m => m.onChan 3 (brEven 7) fun x => { x with onPhase := true }, 7, by decide⟩,
    ⟨mk [(MOT.BR_EN 7, 1), (MOT.APPLIED 7, 1), (MOT.STALL_I 7, 1)], 7, by decide⟩,
    ⟨mk [(MOT.BR_EN 7, 1), (MOT.APPLIED 7, 2), (MOT.QPAIR 7, 1), (MOT.HALL_T 7, 1), (MOT.DUTY_APPL 7, 1024)], 7, by decide⟩,
    ⟨mk [(MOT.QD_EN 3, 1)], 3, by decide⟩,
    ⟨mk [(MOT.QD_EN 3, 0)], 3, by decide⟩,
    ⟨mk [(COM.KEY 21, 1)], 7, by decide⟩⟩

theorem test_witness_TickPhasesAdvance :
    (∃ (s : State), s.mod.pstate < 2 ∧ s.mod.pwr.phase ≠ 4) ∧
    (∃ (s : State), s.mod.rd FRM.RUNNING = 1 ∧ s.mod.frm.assembled = false) ∧
    (∃ (s : State), s.mod.pstate < 2 ∧ s.mod.frm.image = none) :=
  ⟨⟨State.reset, by decide⟩,
    ⟨mk [(FRM.RUNNING, 1)], by decide⟩,
    ⟨State.reset, by decide⟩⟩

theorem test_witness_TickLengthIsCorrected :
    (∃ (s : State), s.mod.pstate < 2 ∧ s.mod.rd FRM.RUNNING = 0 ∧ s.mod.frm.image = none ∧ s.mod.frm.staged = [] ∧ s.mod.rd FRM.SYNC = 0) ∧
    (∃ (s : State), s.mod.pstate < 2 ∧ s.mod.rd FRM.RUNNING = 0 ∧ s.mod.frm.image = none ∧ s.mod.frm.staged = [] ∧ (s.mod.rd FRM.SYNC = 2 ∧ s.mod.rd FRM.SLEW_LEFT = 0 ∨ s.mod.rd FRM.SYNC = 3)) ∧
    (∃ (s : State), s.mod.pstate < 2 ∧ s.mod.rd FRM.RUNNING = 0 ∧ s.mod.frm.image = none ∧ s.mod.frm.staged = [] ∧ s.mod.rd FRM.SYNC = 2 ∧ s.mod.rd FRM.SLEW_LEFT ≠ 0 ∧ s.mod.rd FRM.PHASE_ERR < 32768 ∧ s.mod.freqCycle = 0) ∧
    (∃ (s : State), s.mod.pstate < 2 ∧ s.mod.rd FRM.RUNNING = 0 ∧ s.mod.frm.image = none ∧ s.mod.frm.staged = [] ∧ s.mod.rd FRM.SYNC = 2 ∧ s.mod.rd FRM.SLEW_LEFT ≠ 0 ∧ 32768 ≤ s.mod.rd FRM.PHASE_ERR ∧ s.mod.freqCycle = 0) :=
  ⟨⟨mk [(FRM.RUNNING, 0), (FRM.SYNC, 0)], by decide⟩,
    ⟨mk [(FRM.RUNNING, 0), (FRM.SYNC, 2), (FRM.SLEW_LEFT, 0)], by decide⟩,
    ⟨mk [(FRM.SYNC, 2), (FRM.SLEW_LEFT, 1), (FRM.PHASE_ERR, 32767)], by decide⟩,
    ⟨mk [(FRM.SYNC, 2), (FRM.SLEW_LEFT, 1), (FRM.PHASE_ERR, 32768)], by decide⟩⟩

theorem test_witness_BoundariesSwapCountAndRelease :
    (∃ (s : State), s.mod.tick % 100 = 0 ∧ s.mod.pstate < 2 ∧ s.mod.pwr.phase ≠ 4) ∧
    (∃ (s : State), s.mod.tick % 100000 = 0 ∧ s.mod.pstate < 2 ∧ s.mod.pwr.phase ≠ 4 ∧ s.mod.prm.envPend = []) ∧
    (∃ (s : State), (s.mod.rd FRM.SYNC = 1 ∨ s.mod.rd FRM.SYNC = 2) ∧ s.mod.frm.lastUpd + 3 * s.mod.updateTicks ≤ s.mod.tick ∧ s.mod.Room 1) ∧
    (∃ (s : State), s.mod.rd FRM.SYNC = 3 ∧ s.mod.rd FRM.HOLDOVER_LIM ≤ s.mod.frm.holdSf ∧ s.mod.Room 1) ∧
    (∃ (s : State) (r : Nat) (l : List Nat), s.mod.frm.reload = r :: l ∧ s.mod.boot.cfgSlot = none ∧ r < 1024) ∧
    (∃ (s : State) (h : HeldTick), s.mod.frm.held = some h ∧ s.mod.pair.reagreed = true ∧ s.mod.frm.withhold = false ∧ s.mod.boot.resetDue = 0) :=
  ⟨⟨State.reset, by decide⟩,
    ⟨State.reset, by decide⟩,
    ⟨mk [(FRM.SYNC, 1)] fun m => { m with frm := { m.frm with tick := 300000 } }, by unfold Mod.Room; decide⟩,
    ⟨mk [(FRM.SYNC, 3), (FRM.HOLDOVER_LIM, 7)] fun m => { m with frm := { m.frm with holdSf := 7 } }, by unfold Mod.Room; decide⟩,
    ⟨mk [] fun m => { m with frm := { m.frm with reload := [1023] } }, 1023, [], by decide⟩,
    ⟨mk [] fun m => { m with frm := { m.frm with held := some ⟨1, [], [], [], []⟩ }, pair := { m.pair with reagreed := true } }, ⟨1, [], [], [], []⟩, by decide⟩⟩

theorem test_witness_PromisesAreJudgedAndRequestsDecided :
    (∃ (s : State) (num : BitVec 16) (p : Promise), s.mod.openPromise num.toNat = some p ∧ p.deadline < s.mod.tick ∧ s.mod.heldBack p = false ∧ p.init = none ∧ s.mod.Room 1 ∧ causeOf p < 16) ∧
    (∃ (s : State) (num : BitVec 16) (p : Promise), s.mod.openPromise num.toNat = some p ∧ s.mod.tick ≤ p.deadline) ∧
    (∃ (s : State) (r : Req) (l : List Req), s.mod.prm.queue = r :: l ∧ s.mod.rd PRM.EN = 0 ∧ r.via = Via.pair) ∧
    (∃ (s : State) (r : Req) (l : List Req), s.mod.prm.queue = r :: l ∧ s.mod.rd PRM.EN = 1 ∧ s.mod.rd PRM.DRAINING = 1 ∧ r.via = Via.pair) :=
  ⟨⟨mk [] fun m => { m with frm := { m.frm with tick := 1 }, prm := { m.prm with open_ := [pr] } }, 0xFFFF, pr, by unfold Mod.Room; decide⟩,
    ⟨mk [] fun m => { m with prm := { m.prm with open_ := [pr] } }, 0xFFFF, pr, by decide⟩,
    ⟨mk [(PRM.EN, 0)] fun m => { m with prm := { m.prm with queue := [rq] } }, rq, [], by decide⟩,
    ⟨mk [(PRM.EN, 1), (PRM.DRAINING, 1)] fun m => { m with prm := { m.prm with queue := [rq] } }, rq, [], by decide⟩⟩

theorem test_witness_SilenceAndLimitAssertSafe :
    (∃ (s : State) (q : Fin 4), s.mod.rd (HQ.WATCH q.val) = 1) ∧
    (∃ (s : State), s.mod.rd LED.WATCH = 1) ∧
    (∃ (s : State), s.mod.rd FIO.WATCH = 1) ∧
    (∃ (s : State) (q : Fin 4), s.mod.rd (HQ.HOLD q.val) = 1 ∧ (s.mod.quad q.val).holdExp = false) ∧
    (∃ (s : State) (q : Fin 4), s.mod.rd (HQ.SAFE q.val) = 1 ∧ (s.mod.quad q.val).hbRun < 10 ∧ (s.mod.quad q.val).silent = false ∧ s.mod.Room 1) ∧
    (∃ (s : State), s.mod.rd LED.SAFE = 1 ∧ 10 ≤ (s.mod.watchX 0).hbRun) ∧
    (∃ (s : State) (q : Fin 4), s.mod.rd (HQ.SAFE q.val) = 1) :=
  ⟨⟨mk [(HQ.WATCH 3, 1)], 3, by decide⟩,
    ⟨mk [(LED.WATCH, 1)], by decide⟩,
    ⟨mk [(FIO.WATCH, 1)], by decide⟩,
    ⟨mk [(HQ.HOLD 3, 1)], 3, by decide⟩,
    ⟨mk [(HQ.SAFE 3, 1)] fun m => { m with quads := [(3, { hbRun := 9 })] }, 3, by unfold Mod.Room; decide⟩,
    ⟨mk [(LED.SAFE, 1)] fun m => { m with watches := [(0, { hbRun := 10 })] }, by decide⟩,
    ⟨mk [(HQ.SAFE 3, 1)], 3, by decide⟩⟩

theorem test_witness_DiagnosticRequestsStart :
    (∃ (s : State) (q : Fin 4) (c : Fin 20), ((s.mod.paired q.val = false ∨ c ≠ 10) ∧ s.mod.bridged q.val c.val = false ∧ s.mod.rd (HQ.DIAG_BUSY q.val c.val) = 0 ∧ s.mod.suspended q.val = false) ∧ isHB c.val = false ∧ s.mod.rd (HQ.OUT q.val c.val) = 0) ∧
    (∃ (s : State) (q : Fin 4) (c : Fin 20), ((s.mod.paired q.val = false ∨ c ≠ 10) ∧ s.mod.bridged q.val c.val = false ∧ s.mod.rd (HQ.DIAG_BUSY q.val c.val) = 0 ∧ s.mod.suspended q.val = false) ∧ s.mod.rd (HQ.OUT q.val c.val) = 1) ∧
    (∃ (s : State) (q : Fin 4) (c : Fin 20), s.mod.rd (HQ.DIAG_BUSY q.val c.val) = 1) ∧
    (∃ (s : State) (q : Fin 4) (c : Fin 20), s.mod.rd (HQ.DIAG_BUSY q.val c.val) = 0) :=
  ⟨⟨mk [(HQ.DIAG_BUSY 3 17, 0), (HQ.OUT 3 17, 0)], 3, 17, by decide⟩,
    ⟨mk [(HQ.DIAG_BUSY 3 19, 0), (HQ.OUT 3 19, 1)], 3, 19, by decide⟩,
    ⟨mk [(HQ.DIAG_BUSY 3 19, 1)], 3, 19, by decide⟩,
    ⟨mk [(HQ.DIAG_BUSY 3 19, 0)], 3, 19, by decide⟩⟩

theorem test_witness_SinksFollowTheirOwner :
    (∃ (s : State) (n : Fin 48), s.mod.ledOn (s.mod.rd (LED.APPLIED n.val)) < s.mod.ledTicks * 2000) ∧
    (∃ (s : State) (n : Fin 48), s.mod.ledTicks * 2000 ≤ s.mod.ledOn (s.mod.rd (LED.APPLIED n.val))) ∧
    (∃ (s : State) (n : Fin 48) (drop : BitVec 8), (s.mod.sink n.val).on = true ∧ 400 ≤ s.mod.ledOn (s.mod.rd (LED.APPLIED n.val)) ∧ 4 ≤ drop.toNat) ∧
    (∃ (s : State) (g : Fin 6) (c : BitVec 8), 150 ≤ c.toNat ∧ s.mod.bit LED.GROUP_OT g.val = false) ∧
    (∃ (c : BitVec 8), c.toNat < 150) :=
  ⟨⟨mk [(LED.APPLIED 47, 0xFFFE)], 47, by decide⟩,
    ⟨mk [(LED.APPLIED 47, 0xFFFF)], 47, by decide⟩,
    ⟨mk [(LED.APPLIED 47, 0xFFFF)] fun m => { m with sinks := [(47, { on := true })] }, 47, 4, by decide⟩,
    ⟨State.reset, 5, 150, by decide⟩,
    ⟨0, by decide⟩⟩

theorem test_witness_EnginesActAndCompute :
    (∃ (s : State) (e : Fin 4), s.mod.rd (TOP.STATE e.val) = 3) ∧
    (∃ (s : State) (e : Fin 4), s.mod.rd (TOP.STATE e.val) ≠ 3) ∧
    (∃ (s : State) (e : Fin 4) (a : BitVec 8), a.toNat < s.mod.rd (TOP.LEN e.val)) ∧
    (∃ (s : State) (e : Fin 4) (a : BitVec 8), s.mod.rd (TOP.LEN e.val) ≤ a.toNat) ∧
    (∃ (w : BitVec 26), w.toNat &&& 2096896 = 0 ∧ 5 ≤ fld w.toNat 23 21) ∧
    (∃ (s : State), s.mod.keyOpen 25 = true) ∧
    (∃ (s : State) (e : Fin 4), s.mod.rd (TOP.STATE e.val) = 1 ∧ (s.mod.eng e.val).wait = 0 ∧ (s.mod.eng e.val).ramp = none) ∧
    (∃ (s : State) (e : Fin 4) (n : BitVec 8), s.mod.rd (TOP.STATE e.val) = 1 ∧ (s.mod.eng e.val).wait = 0 ∧ (s.mod.eng e.val).ramp = none ∧ n ≠ 0) :=
  ⟨⟨mk [(TOP.STATE 3, 3)], 3, by decide⟩,
    ⟨State.reset, 3, by decide⟩,
    ⟨mk [(TOP.LEN 3, 128)], 3, 127, by decide⟩,
    ⟨mk [(TOP.LEN 3, 127)], 3, 127, by decide⟩,
    ⟨0xA00000, by decide⟩,
    ⟨mk [(COM.KEY 25, 1)], by decide⟩,
    ⟨mk [(TOP.STATE 3, 1)], 3, by decide⟩,
    ⟨mk [(TOP.STATE 3, 1)], 3, 255, by decide⟩⟩

theorem test_witness_RampsSensorsAndColourTargets :
    (∃ (s : State) (e : Fin 4) (r : Ramp), s.mod.rd (TOP.STATE e.val) = 1 ∧ (s.mod.eng e.val).ramp = some r ∧ r.isB = false ∧ r.i0 ≤ r.target ∧ r.j + 1 < r.n) ∧
    (∃ (s : State) (e : Fin 4) (r : Ramp), s.mod.rd (TOP.STATE e.val) = 1 ∧ (s.mod.eng e.val).ramp = some r ∧ r.isB = true ∧ r.i0 ≤ r.target ∧ 0 < r.n ∧ r.j + 1 = r.n) ∧
    (∃ (s : State), (∀ (t : Nat) (own : Bool), s.mod.top.last = some (t, own) → (t + if own = true then 98 else 102) ≤ s.mod.tick)) ∧
    (∃ (s : State) (t : Nat) (own : Bool), s.mod.top.last = some (t, own) ∧ s.mod.tick < t + if own = true then 98 else 102) ∧
    (∃ (s : State) (b : Fin 2), s.mod.rd (CLR.BUS_EN b.val) = 1 ∧ s.mod.tick % (100 * s.mod.rd CLR.PERIOD) = 0 ∧ s.mod.ledRuns = true ∧ s.mod.cyc b.val = []) ∧
    (∃ (s : State) (b : Fin 2), s.mod.rd (CLR.BUS_EN b.val) = 1 ∧ s.mod.tick % (100 * s.mod.rd CLR.PERIOD) = 0 ∧ s.mod.ledRuns = true ∧ s.mod.cyc b.val ≠ []) ∧
    (∃ (s : State) (b : Fin 2) (i : Nat) (l : List Nat), s.mod.cyc b.val = i :: l ∧ i < 16 ∧ s.mod.rd (CLR.TRI_STATE i) = 0) ∧
    (∃ (s : State) (b : Fin 2), s.mod.rd CLR.XF_BUSY = 1 ∧ s.mod.rd CLR.XF_BUS = b.val) ∧
    (∃ (s : State), s.mod.rd CLR.XF_BUSY = 0) ∧
    (∃ (s : State), s.mod.rd CLR.XF_BUSY = 1) ∧
    (∃ (s : State), s.mod.rd CLR.XF_BUSY = 1 ∧ s.mod.rd CLR.RLEN = 4 ∧ s.mod.rd (CLR.XF_DATA 0) < 2 ^ 32) ∧
    (∃ (s : State) (i : Fin 16), 16777216 ≤ (s.mod.matDet i.val).natAbs ∧ s.mod.rd (CLR.Y i.val) ≠ 0 ∧ (∀ (k : Nat), k < 3 → 1 ≤ s.mod.targetCount i.val k ∧ s.mod.targetCount i.val k ≤ 65535)) ∧
    (∃ (s : State) (i : Fin 16), (s.mod.matDet i.val).natAbs < 16777216) :=
  ⟨⟨mk [(TOP.STATE 3, 1)] fun m => { m with engs := [(3, { ramp := some ⟨false, 0, 0xFFFF, 2, 0, 0⟩ })] }, 3, ⟨false, 0, 0xFFFF, 2, 0, 0⟩, by decide⟩,
    ⟨mk [(TOP.STATE 3, 1)] fun m => { m with engs := [(3, { ramp := some ⟨true, 0, 0xFFFF, 1, 0, 0⟩ })] }, 3, ⟨true, 0, 0xFFFF, 1, 0, 0⟩, by decide⟩,
    ⟨State.reset, fun _ _ h => by cases h⟩,
    ⟨mk [] fun m => { m with top := { m.top with last := some (0, true) }, frm := { m.frm with tick := 97 } }, 0, true, by decide⟩,
    ⟨mk [(CLR.BUS_EN 1, 1)], 1, by decide⟩,
    ⟨mk [(CLR.BUS_EN 1, 1)] fun m => { m with clr := { m.clr with cyc1 := [15] } }, 1, by decide⟩,
    ⟨mk [(CLR.TRI_STATE 15, 0)] fun m => { m with clr := { m.clr with cyc1 := [15] } }, 1, 15, [], by decide⟩,
    ⟨mk [(CLR.XF_BUSY, 1), (CLR.XF_BUS, 1)], 1, by decide⟩,
    ⟨mk [(CLR.XF_BUSY, 0)], by decide⟩,
    ⟨mk [(CLR.XF_BUSY, 1)], by decide⟩,
    ⟨mk [(CLR.XF_BUSY, 1), (CLR.RLEN, 4)], by decide⟩,
    ⟨mk (colour 15), 15, by decide⟩,
    ⟨mk (((List.range 9).map fun k => (CLR.M 15 k, 0))), 15, by decide⟩⟩

theorem test_witness_InputsFilterAndMeasure :
    (∃ (s : State) (i : Fin 32), s.mod.pstate < 2 ∧ s.mod.rd (FIO.DEB i.val) ≠ 0) ∧
    (∃ (s : State), 2 ≤ s.mod.pstate) ∧
    (∃ (s : State) (i : Fin 32), s.mod.pstate < 2 ∧ s.mod.rd (FIO.DEB i.val) = 0) ∧
    (∃ (s : State) (i : Fin 32), s.mod.pstate < 2 ∧ s.mod.bit FIO.DI_FILT i.val ≠ s.mod.bit FIO.DI_RAW i.val) ∧
    (∃ (s : State) (i : Fin 32), s.mod.fio.cleaning.contains i.val = true) ∧
    (∃ (s : State), s.mod.rd LED.NB_BUSY = 0) ∧
    (∃ (s : State), s.mod.rd LED.NB_BUSY = 1 ∧ s.mod.led.nbNext = 47 ∧ s.mod.led.nbSkip = false) ∧
    (∃ (s : State), s.mod.rd LED.NB_BUSY = 1 ∧ s.mod.led.nbNext = 47 ∧ s.mod.led.nbSkip = true) ∧
    (∃ (s : State) (j : Fin 8) (rising : Bool), s.mod.pstate < 2 ∧ s.mod.rd (FIO.CI_EN j.val) = 1 ∧ (s.mod.rd (FIO.EDGE j.val) = 2 ∨ s.mod.rd (FIO.EDGE j.val) = 0 ∧ rising = true)) ∧
    (∃ (s : State) (j : Fin 8), s.mod.rd (FIO.CI_EN j.val) = 1 ∧ s.mod.tick % (100 * s.mod.rd (FIO.GATE j.val)) = 0 ∧ (s.mod.ci j.val).k = 0) ∧
    (∃ (s : State) (j : Fin 8), s.mod.tick % (100 * s.mod.rd (FIO.GATE j.val)) ≠ 0) ∧
    (∃ (s : State) (j : Fin 8) (r : Nat), s.mod.rd (FIO.CI_EN j.val) = 1 ∧ s.mod.tick % (100 * s.mod.rd (FIO.GATE j.val)) = 0 ∧ (s.mod.ci j.val).k ≠ 0 ∧ (s.mod.ci j.val).ref = some r ∧ (32 * ((s.mod.ci j.val).last - r) + (s.mod.ci j.val).k) / (2 * (s.mod.ci j.val).k) ≤ 4294967294) :=
  ⟨⟨mk [(FIO.DEB 31, 1)], 31, by decide⟩,
    ⟨mk [(PWR.STATE, 2)], by decide⟩,
    ⟨mk [(FIO.DEB 31, 0)], 31, by decide⟩,
    ⟨mk [(FIO.DI_RAW, 0x80000000)], 31, by decide⟩,
    ⟨mk [] fun m => { m with fio := { m.fio with cleaning := [31] } }, 31, by decide⟩,
    ⟨mk [(LED.NB_BUSY, 0)], by decide⟩,
    ⟨mk [(LED.NB_BUSY, 1)] fun m => { m with led := { m.led with nbNext := 47 } }, by decide⟩,
    ⟨mk [(LED.NB_BUSY, 1)] fun m => { m with led := { m.led with nbNext := 47, nbSkip := true } }, by decide⟩,
    ⟨mk [(FIO.CI_EN 7, 1), (FIO.EDGE 7, 2)], 7, false, by decide⟩,
    ⟨mk [(FIO.CI_EN 7, 1)], 7, by decide⟩,
    ⟨mk [] fun m => { m with frm := { m.frm with tick := 99 } }, 7, by decide⟩,
    ⟨mk [(FIO.CI_EN 7, 1)] fun m => { m with cis := [(7, { k := 1, ref := some 0, last := 16 })] }, 7, 0, by decide⟩⟩

theorem test_witness_LowSideLatchesAndDiagnosticAnswers :
    (∃ (s : State) (k : Fin 8), s.mod.bit FIO.LS_OUT k.val = true) ∧
    (∃ (s : State) (k : Fin 8), s.mod.rd (FIO.OL_EN k.val) = 1 ∧ s.mod.bit FIO.LS_OUT k.val = false ∧ (∀ (q : Nat), q < 4 → s.mod.rd (HQ.SAG q) = 0)) ∧
    (∃ (s : State) (ch : Fin 64), s.mod.fio.diagRun = some (ch.val, 0) ∧ s.mod.fio.diagDue ≤ s.mod.tick) :=
  ⟨⟨mk [(FIO.LS_OUT, 128)], 7, by decide⟩,
    ⟨mk [(FIO.OL_EN 7, 1)], 7, by decide⟩,
    ⟨mk [] fun m => { m with fio := { m.fio with diagRun := some (63, 0) } }, 63, by decide⟩⟩

theorem test_witness_CanModesTakeEffect :
    (∃ (s : State) (n : Fin 12) (busy : Bool), s.mod.rd (CAN.MODE n.val) = 1 ∧ (s.mod.can n.val).sending = none ∧ (busy = true → s.mod.canLive n.val = false)) ∧
    (∃ (s : State) (n : Fin 12), s.mod.rd (CAN.MODE n.val) = 1 ∧ ((s.mod.can n.val).sending ≠ none ∨ s.mod.canLive n.val = true)) ∧
    (∃ (s : State) (n : Fin 12), s.mod.rd (CAN.MODE n.val) = 0 ∧ s.mod.canCfgOk n.val = true ∧ (s.mod.can n.val).sending = none) ∧
    (∃ (s : State) (n : Fin 12), s.mod.canCfgOk n.val = false) ∧
    (∃ (s : State) (n : Fin 12), s.mod.rd (CAN.MODE n.val) = 0 ∧ (s.mod.enabledObjs n.val).length ≤ 1) :=
  ⟨⟨mk [(CAN.MODE 11, 1)], 11, false, by decide⟩,
    ⟨mk [(CAN.MODE 11, 1)] fun m => m.onCan 11 fun x => { x with sending := some 4095 }, 11, by decide⟩,
    ⟨mk [(CAN.MODE 11, 0), (CAN.BUILT 11, 1), (CAN.FD_EN 11, 0), (CAN.XL_EN 11, 0), (CAN.NBT_BRP 11, 0), (CAN.NBT_TSEG1 11, 255), (CAN.NBT_TSEG2 11, 127)], 11, by decide⟩,
    ⟨mk [(CAN.NBT_TSEG1 11, 0), (CAN.NBT_TSEG2 11, 0)], 11, by decide⟩,
    ⟨mk [(CAN.MODE 11, 0)], 11, by decide⟩⟩

theorem test_witness_ReceivedFramesAreStored :
    (∃ (s : State) (n : Fin 12) (f : BusFrame), f.fdf = false ∧ f.xlf = false ∧ s.mod.canLive n.val = true ∧ (s.mod.can n.val).deferred = [] ∧ (s.mod.can n.val).modePend = none ∧ s.mod.rd (CAN.RP n.val) = 0 ∧ s.mod.rd (CAN.TEC n.val) ≤ 127 ∧ List.find? (fun e ↦ decide (e.fst = objKey 0 f.ide f.id.toNat)) (s.mod.can n.val).index = none ∧ s.mod.rd (CAN.DEF_OBJ n.val) = 4095) ∧
    (∃ (s : State) (n : Fin 12) (f : BusFrame) (o : Fin 4096) (k : Nat), f.fdf = false ∧ f.xlf = false ∧ s.mod.canLive n.val = true ∧ (s.mod.can n.val).deferred = [] ∧ (s.mod.can n.val).modePend = none ∧ s.mod.rd (CAN.RP n.val) = 0 ∧ s.mod.rd (CAN.TEC n.val) ≤ 127 ∧ List.find? (fun e ↦ decide (e.fst = objKey 0 f.ide f.id.toNat)) (s.mod.can n.val).index = some (k, o.val) ∧ (s.mod.can n.val).lock = none ∧ s.mod.objXl o.val = false ∧ s.mod.objBit o.val 18 = false ∧ f.wf = true ∧ s.mod.img.routes = []) :=
  ⟨⟨mk [(CAN.ERRST 11, 1), (CAN.MODE 11, 1), (TRX.STATE 43, 3), (CAN.DEF_OBJ 11, 4095), (PWR.DOM_STAT, 0xFFFFFFFF)], 11, { id := 0x7FF, ide := false }, by decide⟩,
    ⟨mk [(CAN.ERRST 11, 1), (CAN.MODE 11, 1), (TRX.STATE 43, 3), (PWR.DOM_STAT, 0xFFFFFFFF)] fun m => m.onCan 11 fun x => { x with index := [(objKey 0 false 0x7FF, 4095)] }, 11, { id := 0x7FF, ide := false }, 4095, objKey 0 false 0x7FF, by decide⟩⟩

theorem test_witness_ClearsAndLocksTouchOneWord :
    (∃ (s : State) (o : BitVec 12) (v : Word), s.mod.objTx o.toNat = false ∧ s.mod.objCtrl o.toNat < 12 ∧ fld (BitVec.toNat v) 25 22 = s.mod.objSeq o.toNat) ∧
    (∃ (s : State) (o : BitVec 12) (v : Word), s.mod.objTx o.toNat = false ∧ s.mod.objCtrl o.toNat < 12 ∧ fld (BitVec.toNat v) 25 22 ≠ s.mod.objSeq o.toNat) ∧
    (∃ (s : State) (o : BitVec 12), s.mod.objTx o.toNat = false ∧ s.mod.objCtrl o.toNat < 12 ∧ s.mod.pair.w0.cq.length < 256) ∧
    (∃ (s : State) (o : BitVec 12), s.mod.objTx o.toNat = false ∧ s.mod.objCtrl o.toNat < 12 ∧ s.mod.rd (CAN.LOCK_MODE (s.mod.objCtrl o.toNat)) = 1 ∧ (s.mod.can (s.mod.objCtrl o.toNat)).lock = none) ∧
    (∃ (s : State) (o : BitVec 12) (r : Option (Fin 16)) (l : CanLock), s.mod.objTx o.toNat = false ∧ s.mod.objCtrl o.toNat < 12 ∧ (s.mod.can (s.mod.objCtrl o.toNat)).lock = some l ∧ l.obj = o.toNat ∧ l.reader = Option.map (fun x ↦ x.val) r ∧ (s.mod.can (s.mod.objCtrl o.toNat)).shadow = none) ∧
    (∃ (s : State) (o : BitVec 12) (k : Fin 12) (l : CanLock), s.mod.objTx o.toNat = false ∧ s.mod.objCtrl o.toNat < 12 ∧ k.val = s.mod.objCtrl o.toNat ∧ (s.mod.can (s.mod.objCtrl o.toNat)).lock = some l ∧ l.obj = o.toNat ∧ l.reader ≠ none ∧ (s.mod.can (s.mod.objCtrl o.toNat)).shadow = none ∧ s.mod.Room 1) :=
  ⟨⟨mk [] fun m => m.store (objAddr 4095 + 8) 4 0x3C0B000, 4095, 0x3C00000, by decide⟩,
    ⟨mk [] fun m => m.store (objAddr 4095 + 8) 4 0x3C0B000, 4095, 0, by decide⟩,
    ⟨State.reset, 0, by decide⟩,
    ⟨mk [(CAN.LOCK_MODE 11, 1)] fun m => m.store (objAddr 4095 + 8) 4 0xB000, 4095, by decide⟩,
    ⟨mk [] fun m => (m.store (objAddr 4095 + 8) 4 0xB000).onCan 11 fun x => { x with lock := some ⟨none, 4095, 0, false⟩ }, 4095, none, ⟨none, 4095, 0, false⟩, by decide⟩,
    ⟨mk [] fun m => (m.store (objAddr 4095 + 8) 4 0xB000).onCan 11 fun x => { x with lock := some ⟨some 15, 4095, 0, false⟩ }, 4095, 11, ⟨some 15, 4095, 0, false⟩, by unfold Mod.Room; decide⟩⟩

theorem test_witness_TransmissionAndErrorConfinement :
    (∃ (s : State) (n : Fin 12) (o : BitVec 12), s.mod.objTx o.toNat = true ∧ s.mod.objEn o.toNat = true ∧ s.mod.objCtrl o.toNat = n.val ∧ s.mod.rd (CAN.MODE n.val) = 1 ∧ s.mod.rd (CAN.ERRST n.val) = 3 ∧ s.mod.rd (TRX.STATE (32 + n.val)) = 3 ∧ (s.mod.can n.val).queue = [] ∧ s.mod.openPromise (SMap.get 0 s.mod.prm.objPrm o.toNat) = none) ∧
    (∃ (s : State) (o : BitVec 12), s.mod.objTx o.toNat = false) ∧
    (∃ (s : State) (n : Fin 12) (o : Fin 4096), (s.mod.can n.val).sending = some o.val ∧ (s.mod.can n.val).queue = [(o.val, 0)] ∧ (s.mod.can n.val).deferred = [] ∧ (s.mod.can n.val).modePend = none ∧ s.mod.txOk (4 + n.val) = true ∧ SMap.get 0 s.mod.prm.objPrm o.val = 0 ∧ s.mod.rd (CAN.TEC n.val) ≤ 127 ∧ s.mod.rd (CAN.RP n.val) = 0 ∧ s.mod.rd (CAN.ERRST n.val) = 0) ∧
    (∃ (s : State) (n : Fin 12) (o : Fin 4096), (s.mod.can n.val).sending = some o.val ∧ (s.mod.can n.val).queue = [(o.val, 0)] ∧ (s.mod.can n.val).deferred = [] ∧ (s.mod.can n.val).modePend = none ∧ SMap.get 0 s.mod.prm.objPrm o.val = 0) ∧
    (∃ (s : State) (n : Fin 12), s.mod.rd (CAN.MODE n.val) = 1 ∧ s.mod.rd (CAN.ERRST n.val) = 0 ∧ (s.mod.can n.val).deferred = [] ∧ (s.mod.can n.val).modePend = none ∧ s.mod.rd (CAN.TEC n.val) ≤ 127 ∧ s.mod.rd (CAN.RP n.val) = 0 ∧ s.mod.rd (CAN.REC n.val) ≤ 100) ∧
    (∃ (s : State) (n : Fin 12), s.mod.rd (CAN.RECOV n.val) = 1 ∧ s.mod.rd (CAN.ERRST n.val) = 2) ∧
    (∃ (s : State) (n : Fin 12), s.mod.rd (CAN.RECOV n.val) = 1 ∧ (s.mod.can n.val).monitor = true ∧ s.mod.Room 1) ∧
    (∃ (s : State) (n : Fin 12), s.mod.rd (CAN.ERRST n.val) = 2 ∧ s.mod.rd (CAN.BO_AUTO n.val) = 0 ∧ s.mod.rd (CAN.RECOV n.val) = 0) ∧
    (∃ (s : State) (n : Fin 12), s.mod.rd (CAN.MODE n.val) ≠ 0 ∧ s.mod.rd (CAN.ERRST n.val) = 3 ∧ 2 ≤ s.mod.rd (TRX.STATE (32 + n.val))) :=
  ⟨⟨mk [(CAN.MODE 11, 1), (CAN.ERRST 11, 3), (TRX.STATE 43, 3)] fun m => (m.store (objAddr 4095 + 8) 4 0x3B000), 11, 4095, by decide⟩,
    ⟨State.reset, 4095, by decide⟩,
    ⟨mk [(CAN.ERRST 11, 0), (TRX.STATE 43, 3)] fun m => m.onCan 11 fun x => { x with sending := some 4095, queue := [(4095, 0)] }, 11, 4095, by decide⟩,
    ⟨mk [] fun m => m.onCan 11 fun x => { x with sending := some 4095, queue := [(4095, 0)] }, 11, 4095, by decide⟩,
    ⟨mk [(CAN.MODE 11, 1), (CAN.ERRST 11, 0), (CAN.TEC 11, 127), (CAN.REC 11, 100)], 11, by decide⟩,
    ⟨mk [(CAN.RECOV 11, 1), (CAN.ERRST 11, 2)], 11, by decide⟩,
    ⟨mk [(CAN.RECOV 11, 1)] fun m => m.onCan 11 fun x => { x with monitor := true }, 11, by unfold Mod.Room; decide⟩,
    ⟨mk [(CAN.ERRST 11, 2), (CAN.BO_AUTO 11, 0), (CAN.RECOV 11, 0)], 11, by decide⟩,
    ⟨mk [(CAN.MODE 11, 1), (CAN.ERRST 11, 3), (TRX.STATE 43, 2)], 11, by decide⟩⟩

theorem test_witness_TransceiversChangeAndWake :
    (∃ (s : State) (p : Fin 24), s.mod.portOos p.val = false ∧ s.mod.engineOf p.val = none ∧ s.mod.rd (TRX.BUSY (portPage p.val)) = 0 ∧ s.mod.awake p.val = true) ∧
    (∃ (s : State) (p : Fin 24), s.mod.portOos p.val = false ∧ s.mod.engineOf p.val ≠ none) ∧
    (∃ (s : State) (p : Fin 24) (k : Nat), (s.mod.trx p.val).target = some k ∧ (s.mod.trx p.val).queued = none ∧ (s.mod.trx p.val).latched = false ∧ s.mod.engineOf p.val = none ∧ k < 4 ∧ (k = 0 → p.val < 2 → s.mod.rd (BB.LINK p.val) = 0) ∧ (3 ≤ k ∨ p.val < 4 ∨ 16 ≤ p.val)) ∧
    (∃ (s : State) (p : Fin 24), s.mod.rd (TRX.WAKE_EN (portPage p.val)) = 1 ∧ s.mod.engineOf p.val = none ∧ (s.mod.trx p.val).target = none ∧ s.mod.rd (TRX.STATE (portPage p.val)) ≤ 1) ∧
    (∃ (s : State) (p : Fin 20), s.mod.Room 1 ∧ (12 ≤ p.val ∨ s.mod.rd (TRX.STATE (portPage (4 + p.val))) = 3) ∧ s.mod.rd PWR.AUX_LOW = 0 ∧ (s.mod.nm p.val).held = none) ∧
    (∃ (s : State), s.mod.Room 1) :=
  ⟨⟨mk [(PWR.DOM_STAT, 0xFFFFFFFF)], 23, by decide⟩,
    ⟨mk [(NM.NM_EN 0, 1)], 4, by decide⟩,
    ⟨mk [(BB.LINK 23, 0)] fun m => m.onTrx 23 fun x => { x with target := some 3 }, 23, 3, by decide⟩,
    ⟨mk [(TRX.WAKE_EN (portPage 23), 1), (TRX.STATE (portPage 23), 1)], 23, by decide⟩,
    ⟨mk [(PWR.AUX_LOW, 0)], 19, by unfold Mod.Room; decide⟩,
    ⟨State.reset, by unfold Mod.Room; decide⟩⟩

theorem test_witness_LinFramesEnd :
    (∃ (s : State) (p : Fin 8) (id : Fin 64), (s.mod.lin p.val).cur = some id.val ∧ (s.mod.lin p.val).diag = none ∧ id ≠ 61 ∧ SMap.get 0 (s.mod.lin p.val).pubPrm id.val = 0 ∧ s.mod.img.routes = [] ∧ s.mod.Room 1) ∧
    (∃ (s : State), s.mod.Room 1) :=
  ⟨⟨mk [] fun m => m.onLin 7 fun x => { x with cur := some 60 }, 7, 60, by unfold Mod.Room; decide⟩,
    ⟨State.reset, by unfold Mod.Room; decide⟩⟩

theorem test_witness_T1sSegmentsServeAndCount :
    (∃ (s : State) (n : Fin 2) (num : Nat) (f : List Nat) (rest : List (Nat × List Nat)), s.mod.plcaSends n.val = true ∧ s.mod.t1sLets n.val = true ∧ (s.mod.tseg n.val).burst ≤ s.mod.rd (TS.MAX_BC n.val) ∧ (s.mod.tseg n.val).pq = (num, f) :: rest ∧ s.mod.openPromise num = none ∧ s.mod.prm.late = []) ∧
    (∃ (s : State) (n : Fin 2), s.mod.plcaSends n.val = false) ∧
    (∃ (s : State) (n : Fin 2), s.mod.plcaSends n.val = true) ∧
    (∃ (s : State) (n : Fin 2), s.mod.plcaSends n.val = true ∧ s.mod.Room 1) :=
  ⟨⟨mk [(TS.EN 1, 1), (TRX.STATE 0x39, 3)] fun m => m.onTseg 1 fun x => { x with pq := [(1023, [1])] }, 1, 1023, [1], [], by decide⟩,
    ⟨State.reset, 1, by decide⟩,
    ⟨mk [(TS.EN 1, 1), (TRX.STATE 57, 3)], 1, by decide⟩,
    ⟨mk [(TS.EN 1, 1), (TRX.STATE 57, 3)], 1, by unfold Mod.Room; decide⟩⟩

theorem test_witness_NetworkTimersAndRequests :
    (∃ (s : State) (n : Fin 22), s.mod.on (NM.NM_EN n.val) = true ∧ s.mod.portOos (enginePort n.val) = false ∧ (s.mod.nm n.val).timer ≤ 1 ∧ (s.mod.nm n.val).lRpt = false ∧ (s.mod.nm n.val).lNmRpt = false ∧ (s.mod.nm n.val).lNm = false ∧ s.mod.rd (NM.HOLD n.val) = 0) ∧
    (∃ (s : State) (n : Fin 22), s.mod.on (NM.NM_EN n.val) = true ∧ s.mod.portOos (enginePort n.val) = false ∧ (s.mod.nm n.val).timer ≤ 1 ∧ nmActivity (s.mod.nm n.val) (s.mod.on (NM.HOLD n.val)) = 0 ∧ (s.mod.nm n.val).goSleep = false) ∧
    (∃ (s : State) (n : Fin 22), s.mod.on (NM.NM_EN n.val) = true ∧ s.mod.portOos (enginePort n.val) = false ∧ (s.mod.nm n.val).timer ≤ 1 ∧ (s.mod.nm n.val).lValid = false ∧ s.mod.rd (NM.HOLD n.val) = 0 ∧ s.mod.Room 2) ∧
    (∃ (s : State) (n : Fin 22), s.mod.on (NM.NM_EN n.val) = true ∧ s.mod.portOos (enginePort n.val) = false ∧ 1 < (s.mod.nm n.val).timer) ∧
    (∃ (s : State) (n : Fin 22), s.mod.on (NM.NM_EN n.val) = true ∧ s.mod.portOos (enginePort n.val) = false ∧ s.mod.on (NM.RS_REPORT n.val) = true ∧ (s.mod.nm n.val).rsDone = false ∧ (s.mod.nm n.val).lNm = false ∧ s.mod.rd (NM.STATE n.val) = 4 ∧ (s.mod.nm n.val).rsMs + 1 = s.mod.rd (NM.RS_REPORT n.val) * 1000 ∧ 2 ≤ (s.mod.nm n.val).timer ∧ (s.mod.nm n.val).lRpt = false ∧ (s.mod.nm n.val).lNmRpt = false ∧ s.mod.rd (NM.HOLD n.val) = 0 ∧ (s.mod.nm n.val).wakeTx = false ∧ s.mod.Room 1) ∧
    (∃ (s : State) (n : Fin 22) (slot : Fin 3) (pos : Fin 56), s.mod.beadDue slot pos ∧ s.mod.on (NM.NM_EN n.val) = true ∧ s.mod.portOos (enginePort n.val) = false ∧ (s.mod.nm n.val).lRpt = false ∧ (s.mod.nm n.val).lNmRpt = false ∧ s.mod.rd (NM.STATE n.val) = 3) :=
  ⟨⟨mk [(NM.HOLD 21, 0), (NM.NM_EN 21, 1)], 21, by decide⟩,
    ⟨mk [(NM.NM_EN 21, 1)], 21, by decide⟩,
    ⟨mk [(NM.HOLD 21, 0), (NM.NM_EN 21, 1)], 21, by unfold Mod.Room; decide⟩,
    ⟨mk [(NM.NM_EN 21, 1)] fun m => m.onNm 21 fun x => { x with timer := 2 }, 21, by decide⟩,
    ⟨mk [(NM.NM_EN 21, 1), (NM.STATE 21, 4), (NM.RS_REPORT 21, 1)] fun m => m.onNm 21 fun x => { x with timer := 2, rsMs := 999 }, 21, by unfold Mod.Room; decide⟩,
    ⟨mk [(NM.NM_EN 21, 1), (NM.STATE 21, 3)] fun m => due m, 21, 2, 55, by unfold Mod.beadDue; decide⟩⟩

theorem test_witness_MoveBeadsCarryObjects :
    (∃ (s : State) (slot : Fin 3) (pos : Fin 56) (o : BitVec 12) (f : CanFrame) (ts : Nat), s.mod.beadDue slot pos ∧ s.mod.c2eFrame o.toNat = some (f, ts)) ∧
    (∃ (s : State) (slot : Fin 3) (pos : Fin 56), s.mod.beadDue slot pos ∧ s.mod.prm.open_ = []) ∧
    (∃ (s : State) (slot : Fin 3) (pos : Fin 56) (k : Fin 8) (x : Ingress) (rest : List Ingress), s.mod.beadDue slot pos ∧ SMap.get [] s.mod.prm.ingress k.val = x :: rest) :=
  ⟨⟨mk [] fun m => ((due m).store (objAddr 4095 + 8) 4 0x4B001).store (objAddr 4095) 4 0x7FF, 2, 55, 4095, ((mk [] fun m => (m.store (objAddr 4095 + 8) 4 0x4B001).store (objAddr 4095) 4 0x7FF).mod.objFrame 4095), 0, by unfold Mod.beadDue; decide⟩,
    ⟨mk [] fun m => due m, 2, 55, by unfold Mod.beadDue; decide⟩,
    ⟨mk [] fun m => { due m with prm := { m.prm with ingress := [(7, [⟨{ id := 5, ide := false }, 3⟩])] } }, 2, 55, 7, ⟨{ id := 5, ide := false }, 3⟩, [], by unfold Mod.beadDue; decide⟩⟩

theorem test_witness_BackboneLinksChange :
    (∃ (s : State) (n : Fin 2), s.mod.rd (BB.LINK n.val) = 1 ∧ s.mod.Room 1) ∧
    (∃ (s : State) (n : Fin 2), s.mod.on (BB.EN n.val) = true ∧ s.mod.rd (BB.LINK n.val) = 0 ∧ s.mod.phyPowered n.val = true ∧ s.mod.Room 1) ∧
    (∃ (s : State) (n : Fin 2), s.mod.rd (TRX.WAKE_EN (58 + n.val)) = 1 ∧ (s.mod.trx n.val).target = none ∧ s.mod.rd (TRX.STATE (58 + n.val)) ≤ 1) ∧
    (∃ (s : State) (n : Fin 2), (s.mod.trx n.val).target = some 0 ∧ (s.mod.trx n.val).queued = none ∧ (s.mod.trx n.val).latched = false ∧ s.mod.Room 1) ∧
    (∃ (s : State) (n : Fin 2) (sak : BitVec 128), (s.mod.bb n.val).saNext = some sak.toNat ∧ s.mod.tick % 100 = 0 ∧ s.mod.pstate < 2 ∧ s.mod.pwr.phase ≠ 4) ∧
    (∃ (s : State) (mac : BitVec 48) (vlan : BitVec 12), (∀ (y : FrerX), y ∈ s.mod.ets.frer → ¬(y.mac = mac.toNat ∧ y.vlan = vlan.toNat))) ∧
    (∃ (s : State) (mac : BitVec 48) (vlan : BitVec 12) (x : FrerX) (rest : List FrerX), s.mod.ets.frer = x :: rest ∧ x.mac = mac.toNat ∧ x.vlan = vlan.toNat ∧ s.mod.Room 1) :=
  ⟨⟨mk [(BB.LINK 1, 1)], 1, by unfold Mod.Room; decide⟩,
    ⟨mk [(BB.EN 1, 1), (TRX.STATE 59, 3)], 1, by unfold Mod.Room; decide⟩,
    ⟨mk [(TRX.WAKE_EN 59, 1), (TRX.STATE 59, 1)], 1, by decide⟩,
    ⟨mk [] fun m => m.onTrx 1 fun x => { x with target := some 0 }, 1, by unfold Mod.Room; decide⟩,
    ⟨mk [] fun m => m.onBb 1 fun x => { x with saNext := some 0xFF }, 1, 0xFF, by decide⟩,
    ⟨State.reset, 0, 0, by intro y hy; cases hy⟩,
    ⟨mk [] fun m => { m with ets := { m.ets with frer := [⟨5, 7, 0, []⟩] } }, 5, 7, ⟨5, 7, 0, []⟩, [], by unfold Mod.Room; decide⟩⟩

theorem test_witness_BackboneFramesPassMacsec :
    (∃ (s : State) (n : Fin 2) (f : EthFrame), s.mod.on (BB.EN n.val) = true ∧ s.mod.on (BB.LINK n.val) = true ∧ s.mod.awake n.val = true ∧ s.mod.rd (TRX.WAKE_EN (58 + n.val)) = 0 ∧ s.mod.rd (BB.SEC_EN n.val) = 0 ∧ f.rtag = none) ∧
    (∃ (s : State) (n : Fin 2) (f : EthFrame) (tag : Option SecTag), s.mod.on (BB.EN n.val) = true ∧ s.mod.on (BB.LINK n.val) = true ∧ s.mod.awake n.val = true ∧ s.mod.rd (TRX.WAKE_EN (58 + n.val)) = 0 ∧ s.mod.on (BB.SEC_EN n.val) = true ∧ s.mod.on (BB.SAK_OK n.val) = true ∧ tag = none ∧ f.etype.toNat ≠ 35063 ∧ f.etype.toNat ≠ 34958) ∧
    (∃ (s : State) (n : Fin 2) (f : EthFrame) (tag : Option SecTag) (g : SecTag), s.mod.on (BB.EN n.val) = true ∧ s.mod.on (BB.LINK n.val) = true ∧ s.mod.awake n.val = true ∧ s.mod.rd (TRX.WAKE_EN (58 + n.val)) = 0 ∧ s.mod.on (BB.SEC_EN n.val) = true ∧ s.mod.on (BB.SAK_OK n.val) = true ∧ tag = some g ∧ f.rtag = none) :=
  ⟨⟨mk [(BB.EN 1, 1), (BB.LINK 1, 1), (BB.SEC_EN 1, 0), (TRX.WAKE_EN 59, 0), (PWR.DOM_STAT, 0xFFFFFFFF)], 1, { dst := 1, src := 2, etype := 0x88B6 }, by decide⟩,
    ⟨mk [(BB.EN 1, 1), (BB.LINK 1, 1), (BB.SEC_EN 1, 1), (BB.SAK_OK 1, 1), (TRX.WAKE_EN 59, 0), (PWR.DOM_STAT, 0xFFFFFFFF)], 1, { dst := 1, src := 2, etype := 0x88B6 }, none, by decide⟩,
    ⟨mk [(BB.EN 1, 1), (BB.LINK 1, 1), (BB.SEC_EN 1, 1), (BB.SAK_OK 1, 1), (TRX.WAKE_EN 59, 0), (PWR.DOM_STAT, 0xFFFFFFFF)], 1, { dst := 1, src := 2, etype := 0x88B6 }, some ⟨true, 0xFFFFFFFF⟩, ⟨true, 0xFFFFFFFF⟩, by decide⟩⟩

theorem test_witness_VehicleTimeAndAcfFrames :
    (∃ (s : State) (n : Fin 2) (dom : Byte), (s.mod.rd PTP.DOMAIN ≠ BitVec.toNat dom ∨ s.mod.bbHears n.val = false)) ∧
    (∃ (s : State) (n : Fin 2) (dom : Byte), s.mod.on PTP.EN = true ∧ s.mod.rd PTP.DOMAIN = BitVec.toNat dom ∧ s.mod.bbHears n.val = true ∧ s.mod.rd PTP.SLAVE ≠ n.val) ∧
    (∃ (s : State) (n : Fin 2) (dom : Byte), s.mod.on PTP.EN = true ∧ s.mod.rd PTP.DOMAIN = BitVec.toNat dom ∧ s.mod.bbHears n.val = true ∧ s.mod.rd PTP.SLAVE = n.val ∧ s.mod.rd FRM.SYNC = 0 ∧ s.mod.ets.epochSet = false ∧ s.mod.Room 1) ∧
    (∃ (s : State), s.mod.on PTP.EN = true ∧ s.mod.on PTP.STANDBY = true ∧ s.mod.rd PTP.SLAVE ≤ 1 ∧ s.mod.missed (s.mod.rd PTP.SLAVE) = true ∧ s.mod.missed (1 - s.mod.rd PTP.SLAVE) = false ∧ s.mod.Room 1) ∧
    (∃ (s : State) (n : Fin 2), s.mod.on PTP.EN = true ∧ s.mod.bit PTP.TS_MASTER n.val = true ∧ s.mod.rd (TRX.STATE (56 + n.val)) = 3 ∧ (∀ (q : Nat), SMap.get [] s.mod.ets.queues (8 * (2 + n.val) + q) = [])) ∧
    (∃ (s : State) (n : Fin 2) (sid : BitVec 64), s.mod.bbTakes n.val = true ∧ s.mod.pstate < 2 ∧ s.mod.listener sid.toNat = none) ∧
    (∃ (s : State) (n : Fin 2) (i : Nat) (sid : BitVec 64), s.mod.bbTakes n.val = true ∧ s.mod.pstate < 2 ∧ s.mod.listener sid.toNat = some i) :=
  ⟨⟨State.reset, 1, 255, by decide⟩,
    ⟨mk [(BB.EN 1, 1), (BB.LINK 1, 1), (BB.SEC_EN 1, 0), (PWR.DOM_STAT, 0xFFFFFFFF), (PTP.EN, 1), (PTP.SLAVE, 0), (PTP.DOMAIN, 255)], 1, 255, by decide⟩,
    ⟨mk [(BB.EN 1, 1), (BB.LINK 1, 1), (BB.SEC_EN 1, 0), (PWR.DOM_STAT, 0xFFFFFFFF), (PTP.EN, 1), (PTP.SLAVE, 1), (PTP.DOMAIN, 255), (FRM.SYNC, 0)], 1, 255, by unfold Mod.Room; decide⟩,
    ⟨mk [(PTP.EN, 1), (PTP.SLAVE, 1), (PTP.STANDBY, 1)] fun m => { m with frm := { m.frm with tick := 300000 }, ets := { m.ets with heard := [(0, 300000)] } }, by unfold Mod.Room; decide⟩,
    ⟨mk [(PTP.EN, 1), (PTP.TS_MASTER, 3), (TRX.STATE 57, 3)], 1, ⟨by decide, by decide, by decide, fun _ => rfl⟩⟩,
    ⟨mk [(BB.EN 1, 1), (BB.LINK 1, 1), (BB.SEC_EN 1, 0), (PWR.DOM_STAT, 0xFFFFFFFF)], 1, 5, by decide⟩,
    ⟨mk [(BB.EN 1, 1), (BB.LINK 1, 1), (BB.SEC_EN 1, 0), (PWR.DOM_STAT, 0xFFFFFFFF), (BRG.LS_EN 7, 1)], 1, 7, 0, by decide⟩⟩

theorem test_witness_VinkoChecksInOrder :
    ∃ (s : State) (r : VnkReq) (k : Fin 16), s.mod.Hears r k.val :=
  ⟨mk [(BB.EN 1, 1), (BB.LINK 1, 1), (BB.SEC_EN 1, 0), (PWR.DOM_STAT, 0xFFFFFFFF), (VNK.EN, 1), (VNK.INIT_EN 15, 1)], req, 15, by unfold Mod.Hears; decide⟩

theorem test_witness_VinkoReadsAndWritesWords :
    (∃ (s : State) (r : VnkReq) (k : Fin 16), s.mod.Hears r k.val ∧ s.mod.Grants r k.val 0 ∧ r.addr.toNat % 4 = 0 ∧ r.addr.toNat + 4 ≤ s.mod.rd (VNK.WIN_SIZE (r.win.toNat)) ∧ s.mod.rd (VNK.RD_PREF (r.win.toNat)) = 0 ∧ s.mod.rd (VNK.WIN_BASE (r.win.toNat)) % 4 = 0 ∧ region ((s.mod.rd (VNK.WIN_BASE (r.win.toNat)) + r.addr.toNat) % 2 ^ 32) = Region.sram ∧ r.aux = 4) ∧
    (∃ (s : State) (r : VnkReq) (k : Fin 16), s.mod.Hears r k.val ∧ s.mod.Grants r k.val 0 ∧ r.addr.toNat % 4 = 0 ∧ r.addr.toNat + 4 ≤ s.mod.rd (VNK.WIN_SIZE (r.win.toNat)) ∧ s.mod.rd (VNK.RD_PREF (r.win.toNat)) = 0 ∧ s.mod.rd (VNK.WIN_BASE (r.win.toNat)) % 4 = 0 ∧ region ((s.mod.rd (VNK.WIN_BASE (r.win.toNat)) + r.addr.toNat) % 2 ^ 32) = Region.sram) :=
  ⟨⟨mk [(BB.EN 1, 1), (BB.LINK 1, 1), (BB.SEC_EN 1, 0), (PWR.DOM_STAT, 0xFFFFFFFF), (VNK.EN, 1), (VNK.INIT_EN 15, 1), (VNK.WIN_TYPE 63, 0), (VNK.WIN_EN 63, 1), (VNK.INIT_MASK 63, 0xFFFF), (VNK.WIN_RD 63, 1), (VNK.WIN_WR 63, 1), (VNK.WIN_SIZE 63, 8), (VNK.WIN_BASE 63, 0x20000000)], { req with addr := 4 }, 15, by unfold Mod.Hears Mod.Grants; decide⟩,
    ⟨mk [(BB.EN 1, 1), (BB.LINK 1, 1), (BB.SEC_EN 1, 0), (PWR.DOM_STAT, 0xFFFFFFFF), (VNK.EN, 1), (VNK.INIT_EN 15, 1), (VNK.WIN_TYPE 63, 0), (VNK.WIN_EN 63, 1), (VNK.INIT_MASK 63, 0xFFFF), (VNK.WIN_RD 63, 1), (VNK.WIN_WR 63, 1), (VNK.WIN_SIZE 63, 8), (VNK.WIN_BASE 63, 0x20000000)], { req with addr := 4 }, 15, by unfold Mod.Hears Mod.Grants; decide⟩⟩

theorem test_witness_VinkoPromisesTimeoutsPrefetch :
    (∃ (s : State) (r : VnkReq) (k : Fin 16), s.mod.Hears r k.val ∧ s.mod.Grants r k.val 1 ∧ s.mod.prm.queue.length < 32 ∧ r.addr.toNat % 4 = 0 ∧ s.mod.rd (VNK.WIN_BASE (r.win.toNat)) % 4 = 0 ∧ r.addr.toNat ≤ s.mod.rd (VNK.WIN_SIZE (r.win.toNat))) ∧
    (∃ (s : State) (k : Fin 16) (seq : BitVec 16) (q : Txn), s.mod.vnk.open_ = [q] ∧ q.slot = k.val ∧ q.seq = seq.toNat ∧ q.posted = false ∧ q.fwd = false ∧ q.tick + 10 * s.mod.rd (VNK.WIN_TO q.win) ≤ s.mod.tick ∧ s.mod.rd (VNK.WIN_TYPE q.win) ≠ 2) ∧
    (∃ (s : State) (k : Fin 16) (b : Prefetch), s.mod.vnk.pref.find? k.val = some b ∧ b.tick + s.mod.rd VNK.PF_AGE < s.mod.tick ∧ s.mod.Room 1) :=
  ⟨⟨mk [(BB.EN 1, 1), (BB.LINK 1, 1), (BB.SEC_EN 1, 0), (PWR.DOM_STAT, 0xFFFFFFFF), (VNK.EN, 1), (VNK.INIT_EN 15, 1), (VNK.WIN_TYPE 63, 1), (VNK.WIN_EN 63, 1), (VNK.INIT_MASK 63, 0xFFFF), (VNK.WIN_RD 63, 1), (VNK.WIN_WR 63, 1)], req, 15, by unfold Mod.Hears Mod.Grants; decide⟩,
    ⟨mk [(VNK.WIN_TYPE 63, 4)] fun m => { m with vnk := { m.vnk with open_ := [txn] }, frm := { m.frm with tick := 1000000 } }, 15, 0xFFFF, txn, by decide⟩,
    ⟨mk [] fun m => { m with vnk := { m.vnk with pref := [(15, ⟨63, [], 0⟩)] }, frm := { m.frm with tick := 1000000 } }, 15, ⟨63, [], 0⟩, by unfold Mod.Room; decide⟩⟩

theorem test_witness_VinkoFarSidesAnswer :
    (∃ (s : State) (k : Fin 16) (seq : BitVec 16) (q : Txn), s.mod.vnk.open_ = [q] ∧ q.slot = k.val ∧ q.seq = seq.toNat ∧ q.posted = false ∧ q.fwd = true ∧ s.mod.rd (VNK.WIN_TYPE q.win) = 4 ∧ q.op = 1 ∧ s.mod.vnk.late = []) ∧
    (∃ (s : State) (r : VnkReq) (k : Fin 16) (len : Word), s.mod.Hears r k.val ∧ s.mod.Grants r k.val 3 ∧ s.mod.rd (VNK.WIN_BASE (r.win.toNat)) % 4 = 0 ∧ 8196 ≤ s.mod.rd (VNK.WIN_SIZE (r.win.toNat)) ∧ 1 ≤ BitVec.toNat len ∧ BitVec.toNat len ≤ 4095 ∧ s.mod.on (BRG.TP_EN (s.mod.rd (VNK.WIN_SEL (r.win.toNat)) % 16)) = true ∧ s.mod.awake (4 + s.mod.rd (BRG.TP_CTRL (s.mod.rd (VNK.WIN_SEL (r.win.toNat)) % 16))) = true) :=
  ⟨⟨mk [(VNK.WIN_TYPE 63, 4)] fun m => { m with vnk := { m.vnk with open_ := [{ txn with fwd := true }] } }, 15, 0xFFFF, { txn with fwd := true }, by decide⟩,
    ⟨mk [(BB.EN 1, 1), (BB.LINK 1, 1), (BB.SEC_EN 1, 0), (PWR.DOM_STAT, 0xFFFFFFFF), (VNK.EN, 1), (VNK.INIT_EN 15, 1), (VNK.WIN_TYPE 63, 3), (VNK.WIN_EN 63, 1), (VNK.INIT_MASK 63, 0xFFFF), (VNK.WIN_RD 63, 1), (VNK.WIN_WR 63, 1), (VNK.WIN_SIZE 63, 8196), (VNK.WIN_SEL 63, 15), (BRG.TP_EN 15, 1), (BRG.TP_CTRL 15, 11)], req, 15, 4095, by unfold Mod.Hears Mod.Grants; decide⟩⟩

theorem test_witness_SuppliesAreSelected :
    (∃ (s : State), s.mod.Room 1 ∧ s.mod.pwr.vpodBlocked = false) ∧
    (∃ (s : State), s.mod.Room 1 ∧ (∀ (n : Nat), n < 12 → (s.mod.can n).sending = none)) :=
  ⟨⟨State.reset, by unfold Mod.Room; decide⟩,
    ⟨State.reset, by unfold Mod.Room; decide⟩⟩

theorem test_witness_PowerRequestsAreVoted :
    (∃ (s : State) (k : Nat), 1 ≤ k ∧ k ≤ 3 ∧ s.mod.pstate = 0 ∧ s.mod.rd PWR.CHANGING = 0 ∧ s.mod.pwr.vote = 0 ∧ s.mod.Room 1 ∧ k = 1) ∧
    (∃ (s : State) (k : Nat), 1 ≤ k ∧ k ≤ 3 ∧ s.mod.pstate = 0 ∧ s.mod.rd PWR.CHANGING = 0 ∧ s.mod.pwr.vote = 0 ∧ s.mod.Room 1 ∧ k = 2) ∧
    (∃ (s : State) (k : Nat), 1 ≤ k ∧ k ≤ 3 ∧ s.mod.pstate = 0 ∧ s.mod.rd PWR.CHANGING = 0 ∧ s.mod.pwr.vote = 0 ∧ s.mod.Room 1 ∧ k = 3) ∧
    (∃ (s : State), s.mod.pwr.vote = 1 ∧ s.mod.pstate < 2 ∧ s.mod.rd PWR.CUR_TGT ≤ 3 ∧ s.mod.pwr.phase = 0) ∧
    (∃ (s : State), s.mod.rd PWR.CHANGING = 0 ∧ s.mod.pwr.vote = 0 ∧ s.mod.pstate = 1 ∧ s.mod.pwr.wake = none) ∧
    (∃ (s : State) (k : Nat), 1 ≤ k ∧ k ≤ 3 ∧ s.mod.rd PWR.CHANGING = 1 ∧ s.mod.rd PWR.PEND = 0 ∧ k = 1) ∧
    (∃ (s : State) (k : Nat), 1 ≤ k ∧ k ≤ 3 ∧ s.mod.rd PWR.CHANGING = 1 ∧ s.mod.rd PWR.PEND = 0 ∧ k = 2) ∧
    (∃ (s : State) (k : Nat), 1 ≤ k ∧ k ≤ 3 ∧ s.mod.rd PWR.CHANGING = 1 ∧ s.mod.rd PWR.PEND = 0 ∧ k = 3) ∧
    (∃ (s : State), s.mod.pair.w0.cq.length < 256) :=
  ⟨⟨mk [(PWR.CHANGING, 0), (PWR.STATE, 0)], 1, by unfold Mod.Room; decide⟩,
    ⟨mk [(PWR.CHANGING, 0), (PWR.STATE, 0)], 2, by unfold Mod.Room; decide⟩,
    ⟨mk [(PWR.CHANGING, 0), (PWR.STATE, 0)], 3, by unfold Mod.Room; decide⟩,
    ⟨mk [(PWR.CUR_TGT, 3)] fun m => { m with pwr := { m.pwr with vote := 1 } }, by decide⟩,
    ⟨mk [(PWR.CHANGING, 0), (PWR.STATE, 1)], by decide⟩,
    ⟨mk [(PWR.CHANGING, 1), (PWR.PEND, 0)], 1, by decide⟩,
    ⟨mk [(PWR.CHANGING, 1), (PWR.PEND, 0)], 2, by decide⟩,
    ⟨mk [(PWR.CHANGING, 1), (PWR.PEND, 0)], 3, by decide⟩,
    ⟨State.reset, by decide⟩⟩

theorem test_witness_PowerStatesAreEntered :
    (∃ (s : State), s.mod.pwr.phase ≠ 1) ∧
    (∃ (s : State), s.mod.pwr.phase = 1 ∧ s.mod.prm.open_ = [] ∧ s.mod.votes (s.mod.rd PWR.CUR_TGT) = [] ∧ s.mod.pwr.latch = none ∧ s.mod.rd PWR.PEND = 0) ∧
    (∃ (s : State), s.mod.pwr.phase ≠ 3) ∧
    (∃ (s : State), s.mod.pwr.phase = 3 ∧ s.mod.rd (TRX.BUSY 58) = 0 ∧ s.mod.rd (TRX.BUSY 59) = 0) ∧
    (∃ (s : State), s.mod.pwr.phase ≠ 4) ∧
    (∃ (s : State), s.mod.pwr.phase = 4 ∧ s.mod.pwr.latch = none ∧ s.mod.rd PWR.PEND = 0) ∧
    (∃ (s : State) (d : Fin 30) (mask : Word), BitVec.toNat mask = 2 ^ d.val ∧ s.mod.awake d.val = true ∧ s.mod.maySleep d.val = true) :=
  ⟨⟨State.reset, by decide⟩,
    ⟨mk [(PWR.CUR_TGT, 1)] fun m => { m with pwr := { m.pwr with phase := 1 } }, by decide⟩,
    ⟨State.reset, by decide⟩,
    ⟨mk [(TRX.BUSY 58, 0), (TRX.BUSY 59, 0)] fun m => { m with pwr := { m.pwr with phase := 3 } }, by decide⟩,
    ⟨State.reset, by decide⟩,
    ⟨mk [(PWR.PEND, 0)] fun m => { m with pwr := { m.pwr with phase := 4 } }, by decide⟩,
    ⟨mk [(PWR.DOM_STAT, 0xFFFFFFFF)], 29, 0x20000000, by decide⟩⟩

theorem test_witness_WakesEndPowerStates :
    (∃ (s : State), s.mod.on AON.TIMER = true ∧ s.mod.rd PWR.CHANGING = 0 ∧ s.mod.pwr.wake = none ∧ (s.mod.pstate = 1 ∧ s.mod.pwr.since + s.mod.rd AON.TIMER * 100000 ≤ s.mod.tick ∨ s.mod.pstate = 2)) ∧
    (∃ (s : State) (raw : Word) (i : Fin 32), s.mod.rd PWR.CHANGING = 0 ∧ s.mod.pwr.wake = none ∧ s.mod.pstate = 2 ∧ s.mod.on (FIO.PARK_EN i.val) = true ∧ (∀ (j : Fin 32), BitVec.getLsbD raw j.val = (s.mod.fio.parkRef.testBit j.val ^^ s.mod.on (FIO.INV j.val) ^^ decide (i = j))) ∧ (∀ (j : Nat), SMap.get 0 s.mod.fio.parkRun j ≤ 200) ∧ s.mod.rd FIO.CONF ≤ SMap.get 0 s.mod.fio.parkRun i.val) ∧
    (∃ (s : State) (w : Wake), s.mod.pstate = 1 ∧ s.mod.pwr.wake = some w ∧ s.mod.on FRM.RUNNING = true ∧ s.mod.Room 1) ∧
    (∃ (s : State) (w : Wake), s.mod.pstate = 2 ∧ s.mod.pwr.wake = some w ∧ (∀ (q : Nat), (s.mod.quad q).saved = false)) ∧
    (∃ (s : State), s.mod.pstate = 3 ∧ s.mod.pwr.memLost = true) ∧
    (∃ (s : State) (w : Wake), s.mod.pstate = 3 ∧ s.mod.pwr.memLost = false ∧ s.mod.pwr.wake = some w) ∧
    (∃ (s : State) (d : Fin 31), s.mod.bit PWR.DOM_WAKING d.val = true ∧ SMap.get [] s.mod.pwr.wbuf d.val = [] ∧ s.mod.pair.w0.stall = none ∧ s.mod.pair.w1.stall = none ∧ s.mod.vnk.open_ = []) :=
  ⟨⟨mk [(AON.TIMER, 1), (PWR.STATE, 2)], by decide⟩,
    ⟨mk [(PWR.STATE, 2), (FIO.PARK_EN 31, 1), (FIO.CONF, 1)] fun m => { m with fio := { m.fio with parkRef := 1, parkRun := [(31, 3)] } }, 0x80000001, 31, ⟨by decide, by decide, by decide, by decide, by decide, test_park_runs, by decide⟩⟩,
    ⟨mk [(PWR.STATE, 1), (FRM.RUNNING, 1)] fun m => { m with pwr := { m.pwr with wake := some ⟨39, 6, 255⟩ } }, ⟨39, 6, 255⟩, by unfold Mod.Room; decide⟩,
    ⟨mk [(PWR.STATE, 2)] fun m => { m with pwr := { m.pwr with wake := some ⟨39, 6, 255⟩ } }, ⟨39, 6, 255⟩, ⟨by decide, by decide, fun _ => rfl⟩⟩,
    ⟨mk [(PWR.STATE, 3)] fun m => { m with pwr := { m.pwr with memLost := true } }, by decide⟩,
    ⟨mk [(PWR.STATE, 3)] fun m => { m with pwr := { m.pwr with wake := some ⟨39, 6, 255⟩ } }, ⟨39, 6, 255⟩, by decide⟩,
    ⟨mk [(PWR.DOM_WAKING, 0x40000000)], 30, by decide⟩⟩

theorem test_witness_CoreInstructionsExecute :
    (∃ (s : State) (holly : Bool) (r : Ran) (pc : Word) (a : Word), s.mod.coreRuns (s.mod.pick holly) = true ∧ r.trap = some (EarlyTrap.fetch pc a false) ∧ region (BitVec.toNat a) = Region.none ∧ s.mod.Room 1) ∧
    (∃ (s : State) (holly : Bool) (r : Ran), s.mod.coreRuns (s.mod.pick holly) = true ∧ s.mod.early (s.mod.pick holly) r = s.mod) :=
  ⟨⟨mk [(PWR.DOM_STAT, 0xFFFFFFFF)], true, { trap := some (.fetch 0x20000000 0xFFFFFFFC false) }, 0x20000000, 0xFFFFFFFC, by unfold Mod.Room; decide⟩,
    ⟨mk [(PWR.DOM_STAT, 0xFFFFFFFF)], true, {}, by decide⟩⟩

theorem test_witness_CoreAccessesAreLogged :
    (∃ (s : State) (a : Word) (k : Fin 3) (r : Ran), s.mod.coreRuns false = true ∧ s.mod.split = false ∧ s.mod.early false r = s.mod ∧ BitVec.toNat a % accessBytes k ≠ 0 ∧ region (BitVec.toNat a) = Region.sram) ∧
    (∃ (s : State) (a : Word) (k : Fin 3) (r : Ran), s.mod.coreRuns false = true ∧ s.mod.split = false ∧ s.mod.early false r = s.mod ∧ BitVec.toNat a % accessBytes k = 0 ∧ region (BitVec.toNat a) = Region.sram ∧ (s.mod.pair.w0.core.run r).pmpAllows (BitVec.toNat a) (accessBytes k) 1 = true ∧ s.mod.pair.undo.length < 512) ∧
    (∃ (s : State) (a : Word) (k : Fin 3) (r : Ran), s.mod.coreRuns false = true ∧ s.mod.split = false ∧ s.mod.early false r = s.mod ∧ accessBytes k = 4 ∧ BitVec.toNat a % 4 = 0 ∧ region (BitVec.toNat a) = Region.page ∧ (s.mod.pair.w0.core.run r).pmpAllows (BitVec.toNat a) 4 1 = true ∧ s.mod.pair.w0.cq.length < 256) ∧
    (∃ (s : State) (a : Word) (k : Fin 3) (r : Ran), s.mod.coreRuns false = true ∧ s.mod.split = false ∧ s.mod.early false r = s.mod ∧ BitVec.toNat a % accessBytes k = 0 ∧ region (BitVec.toNat a) = Region.sram ∧ (s.mod.pair.w0.core.run r).pmpAllows (BitVec.toNat a) (accessBytes k) 0 = true) ∧
    (∃ (s : State) (r : Ran) (x : Slice) (rest : List Slice), s.mod.coreRuns false = true ∧ s.mod.split = false ∧ s.mod.early false r = s.mod ∧ (s.mod.pair.w0.core.run r).pmpAllows (regAddr 9 300) 4 0 = true ∧ s.mod.pair.reexec = false ∧ s.mod.pair.replay.length < 128 ∧ s.mod.pair.w0.slices = x :: rest ∧ s.mod.awake 30 = true) :=
  ⟨⟨mk [(PWR.DOM_STAT, 0xFFFFFFFF)], 0x200FFFFF, 2, {}, by decide⟩,
    ⟨mk [(PWR.DOM_STAT, 0xFFFFFFFF)], 0x200FFFFC, 2, {}, by decide⟩,
    ⟨mk [(PWR.DOM_STAT, 0xFFFFFFFF)], 0x4003FFFC, 2, {}, by decide⟩,
    ⟨mk [(PWR.DOM_STAT, 0xFFFFFFFF)], 0x200FFFFE, 1, {}, by decide⟩,
    ⟨mk [(PWR.DOM_STAT, 0xFFFFFFFF)] fun m => { m with pair := { m.pair with w0 := { m.pair.w0 with slices := [⟨1023, 2000, 0⟩] } } }, {}, ⟨1023, 2000, 0⟩, [], by decide⟩⟩

theorem test_witness_PairWorksTickByTick :
    (∃ (s : State), s.mod.split = false ∧ s.mod.pairUp = true ∧ s.mod.pair.w0.irq = true ∧ s.mod.pair.w0.phase = Phase.idle ∧ s.mod.pair.reagreed = false ∧ s.mod.rd PAIR.CHK_BUSY = 0) ∧
    (∃ (s : State) (x : Slice), s.mod.split = false ∧ s.mod.pairUp = true ∧ s.mod.pair.w0.phase = Phase.work ∧ s.mod.pair.w0.cur = some x ∧ s.mod.Room 1 ∧ s.mod.pair.w0.core.mslice ≠ 0) ∧
    (∃ (s : State), s.mod.split = false ∧ s.mod.pairUp = true ∧ s.mod.pair.w0.phase = Phase.ended) :=
  ⟨⟨mk [(PWR.DOM_STAT, 0xFFFFFFFF)] fun m => { m with pair := { m.pair with w0 := { m.pair.w0 with irq := true } } }, by decide⟩,
    ⟨mk [(PWR.DOM_STAT, 0xFFFFFFFF)] fun m => { m with pair := { m.pair with w0 := { m.pair.w0 with phase := .work, cur := some ⟨1023, 2000, 0⟩, core := { m.pair.w0.core with mslice := 1 } } } }, ⟨1023, 2000, 0⟩, by unfold Mod.Room; decide⟩,
    ⟨mk [(PWR.DOM_STAT, 0xFFFFFFFF)] fun m => { m with pair := { m.pair with w0 := { m.pair.w0 with phase := .ended } } }, by decide⟩⟩

theorem test_witness_PairFaultsAreHandled :
    (∃ (s : State), s.mod.split = false ∧ s.mod.pairUp = true ∧ s.mod.Room 2 ∧ s.mod.rd PAIR.CHK_BUSY = 0 ∧ s.mod.pair.w0.phase = Phase.work ∧ s.mod.rd PAIR.WINDOW = 0 ∧ s.mod.rd PAIR.RB_LIM = 0) ∧
    (∃ (s : State), s.mod.split = false ∧ s.mod.pairUp = true ∧ s.mod.Room 2 ∧ s.mod.rd PAIR.CHK_BUSY = 0 ∧ s.mod.pair.w0.phase = Phase.work ∧ s.mod.rd PAIR.WINDOW = 1 ∧ s.mod.pair.untrusted = false) ∧
    (∃ (s : State), s.mod.split = false ∧ s.mod.pairUp = true ∧ s.mod.Room 2 ∧ s.mod.rd PAIR.CHK_BUSY = 0 ∧ s.mod.pair.w0.phase = Phase.restore ∧ s.mod.pair.undo = []) ∧
    (∃ (s : State) (e : Nat × Nat), s.mod.split = false ∧ s.mod.pairUp = true ∧ s.mod.Room 2 ∧ s.mod.rd PAIR.CHK_BUSY = 0 ∧ s.mod.pair.w0.phase = Phase.restore ∧ s.mod.pair.undo = [e]) ∧
    (∃ (s : State), s.mod.split = false ∧ s.mod.pairUp = true ∧ s.mod.Room 2 ∧ s.mod.rd PAIR.CHK_BUSY = 0 ∧ s.mod.rd PAIR.WINDOW = 0) ∧
    (∃ (s : State), s.mod.split = false ∧ s.mod.pairUp = true ∧ s.mod.Room 2 ∧ s.mod.rd PAIR.CHK_BUSY = 1 ∧ s.mod.pair.alarmWork = false) ∧
    (∃ (s : State), s.mod.split = false ∧ s.mod.pairUp = true ∧ s.mod.Room 2 ∧ s.mod.rd PAIR.CHK_BUSY = 1 ∧ s.mod.pair.untrusted = false) ∧
    (∃ (s : State), s.mod.split = false ∧ s.mod.pairUp = true ∧ s.mod.Room 2 ∧ 1 ≤ s.mod.rd PAIR.WDT_PERIOD ∧ s.mod.rd PAIR.WDT_PERIOD ≤ s.mod.pair.wdt) :=
  ⟨⟨mk [(PWR.DOM_STAT, 0xFFFFFFFF), (PAIR.RB_LIM, 0)] fun m => { m with pair := { m.pair with w0 := { m.pair.w0 with phase := .work } } }, by unfold Mod.Room; decide⟩,
    ⟨mk [(PWR.DOM_STAT, 0xFFFFFFFF), (PAIR.WINDOW, 1)] fun m => { m with pair := { m.pair with w0 := { m.pair.w0 with phase := .work } } }, by unfold Mod.Room; decide⟩,
    ⟨mk [(PWR.DOM_STAT, 0xFFFFFFFF)] fun m => { m with pair := { m.pair with w0 := { m.pair.w0 with phase := .restore } } }, by unfold Mod.Room; decide⟩,
    ⟨mk [(PWR.DOM_STAT, 0xFFFFFFFF)] fun m => { m with pair := { m.pair with w0 := { m.pair.w0 with phase := .restore }, undo := [(0x200FFFFC, 5)] } }, (0x200FFFFC, 5), by unfold Mod.Room; decide⟩,
    ⟨mk [(PAIR.CHK_BUSY, 0), (PAIR.WINDOW, 0)], by unfold Mod.Room; decide⟩,
    ⟨mk [(PAIR.CHK_BUSY, 1)], by unfold Mod.Room; decide⟩,
    ⟨mk [(PWR.DOM_STAT, 0xFFFFFFFF), (PAIR.CHK_BUSY, 1)], by unfold Mod.Room; decide⟩,
    ⟨mk [(PWR.DOM_STAT, 0xFFFFFFFF), (PAIR.WDT_PERIOD, 1)] fun m => { m with pair := { m.pair with wdt := 1 } }, by unfold Mod.Room; decide⟩⟩

set_option maxRecDepth 10000 in
theorem test_witness_EventWriterStoresAndArchives :
    (∃ (s : State), s.mod.evt.intake = []) ∧
    (∃ (s : State), s.mod.Room 1) ∧
    (∃ (s : State) (e : EvtIn) (rest : List EvtIn), s.mod.evt.intake = e :: rest ∧ e.body.cls < s.mod.rd EVT.MIN_CLASS) ∧
    (∃ (s : State) (e : EvtIn) (rest : List EvtIn) (i : Nat), s.mod.evt.intake = e :: rest ∧ s.mod.rd EVT.MIN_CLASS ≤ e.body.cls ∧ s.mod.rd (COM.MIN_CLASS e.body.page) = 0 ∧ s.mod.evt.latest.find? e.body.page = none ∧ s.mod.freeSlot = some i) ∧
    (∃ (s : State) (e : EvtIn) (rest : List EvtIn) (i : Nat) (r : EvtRec), s.mod.evt.intake = e :: rest ∧ s.mod.rd EVT.MIN_CLASS ≤ e.body.cls ∧ s.mod.rd (COM.MIN_CLASS e.body.page) = 0 ∧ s.mod.evt.latest.find? e.body.page = some i ∧ s.mod.evt.log.find? i = some r ∧ r.page = e.body.page ∧ r.cls = e.body.cls ∧ r.code = e.body.code ∧ r.rep < 255 ∧ r.detail &&& e.keyMask = e.body.detail &&& e.keyMask) ∧
    (∃ (s : State) (r : EvtRec) (rest : List EvtRec), s.mod.evt.crit = r :: rest ∧ s.mod.rd EVT.CRIT_POS < 8192) :=
  ⟨⟨State.reset, by decide⟩,
    ⟨State.reset, by unfold Mod.Room; decide⟩,
    ⟨mk [(EVT.MIN_CLASS, 3)] fun m => { m with evt := { m.evt with intake := [⟨rec, 0⟩] } }, ⟨rec, 0⟩, [], by decide⟩,
    ⟨mk [(EVT.MIN_CLASS, 2), (COM.MIN_CLASS 0x3F, 0)] fun m => { m with evt := { m.evt with intake := [⟨rec, 0⟩] } }, ⟨rec, 0⟩, [], 0, by decide⟩,
    ⟨mk [(EVT.MIN_CLASS, 2), (COM.MIN_CLASS 0x3F, 0)] fun m => { m with evt := { m.evt with intake := [⟨rec, 0xFF⟩], log := [(1023, { rec with rep := 254, detail := 0x105 })], latest := [(0x3F, 1023)] } }, ⟨rec, 0xFF⟩, [], 1023, { rec with rep := 254, detail := 0x105 }, by decide⟩,
    ⟨mk [(EVT.CRIT_POS, 8191)] fun m => { m with evt := { m.evt with crit := [rec] } }, rec, [], by decide⟩⟩

theorem test_witness_ResetsKeepWhatTheyMust :
    ∃ (s : State), s.mod.boot.step = 15 ∧ s.mod.boot.counting = false ∧ s.mod.probationLost = false :=
  ⟨mk [] fun m => { m with boot := { m.boot with step := 15, counting := false } }, by decide⟩

theorem test_witness_StartStepsAdvanceOrFail :
    (∃ (s : State) (r : StepRes), s.mod.boot.altStep = 15 ∧ s.mod.boot.step = 1 ∧ s.mod.boot.kind ≠ 2 ∧ r.src ≠ 0) ∧
    (∃ (s : State) (r : StepRes), s.mod.boot.altStep = 15 ∧ s.mod.boot.step = 2 ∧ r.pass = true) ∧
    (∃ (s : State) (r : StepRes), s.mod.boot.altStep = 15 ∧ s.mod.boot.step = 3 ∧ s.mod.boot.kind = 0 ∧ r.pass = true) ∧
    (∃ (s : State) (r : StepRes), s.mod.boot.altStep = 15 ∧ s.mod.boot.step = 4 ∧ r.inj = none) ∧
    (∃ (s : State), s.mod.boot.altStep = 15 ∧ s.mod.boot.step = 10 ∧ 1 ≤ s.mod.boot.hb) ∧
    (∃ (s : State), s.mod.boot.altStep = 15 ∧ s.mod.Room 1 ∧ s.mod.boot.step ≤ 10 ∧ s.mod.boot.resetDue = 0 ∧ s.mod.boot.step ≠ 9) ∧
    (∃ (s : State) (r : StepRes), s.mod.boot.altStep = 15 ∧ s.mod.Room 1 ∧ s.mod.boot.step ≤ 10 ∧ s.mod.boot.resetDue = 0 ∧ s.mod.boot.step = 2 ∧ r.pass = false) ∧
    (∃ (s : State), s.mod.boot.altStep = 15 ∧ s.mod.boot.step = 9 ∧ s.mod.boot.resetDue = 0) ∧
    (∃ (s : State), s.mod.boot.altStep = 15 ∧ s.mod.boot.counting = true ∧ 100 ≤ s.mod.boot.hb ∧ s.mod.boot.onTrial = false ∧ s.mod.Room 1) :=
  ⟨⟨mk [] fun m => { m with boot := { m.boot with altStep := 15, step := 1 } }, {}, by decide⟩,
    ⟨mk [] fun m => { m with boot := { m.boot with altStep := 15, step := 2 } }, {}, by decide⟩,
    ⟨mk [] fun m => { m with boot := { m.boot with altStep := 15, step := 3, kind := 0 } }, {}, by decide⟩,
    ⟨mk [] fun m => { m with boot := { m.boot with altStep := 15, step := 4 } }, {}, by decide⟩,
    ⟨mk [] fun m => { m with boot := { m.boot with altStep := 15, step := 10, hb := 1 } }, by decide⟩,
    ⟨mk [] fun m => { m with boot := { m.boot with step := 10, altStep := 15 } }, by unfold Mod.Room; decide⟩,
    ⟨mk [] fun m => { m with boot := { m.boot with altStep := 15, step := 2, resetDue := 0 } }, { pass := false }, by unfold Mod.Room; decide⟩,
    ⟨mk [] fun m => { m with boot := { m.boot with step := 9, altStep := 15 } }, by decide⟩,
    ⟨mk [] fun m => { m with boot := { m.boot with altStep := 15, counting := true, hb := 100, onTrial := false } }, by unfold Mod.Room; decide⟩⟩

theorem test_witness_KeysOpenDebug :
    (∃ (s : State) (k : Fin 4), s.mod.sec.challenge.isSome = true ∧ s.mod.keyUsable k.val = true ∧ s.mod.Room 1) ∧
    (∃ (s : State) (ok : Bool), (s.mod.sec.challenge = none ∨ ok = false)) ∧
    (∃ (s : State) (a : Nat) (v : Nat), s.mod.sec.prog = some (a, v) ∧ v < 2 ^ 32 ∧ a ≠ 256 ∧ a ≠ 260 ∧ a ≠ 264) ∧
    (∃ (s : State), (s.mod.rd SEC.DEBUG_LOCK = 0 ∨ s.mod.rd SEC.DEBUG_OPEN = 1)) ∧
    (∃ (s : State), s.mod.rd SEC.DEBUG_LOCK = 1 ∧ s.mod.rd SEC.DEBUG_OPEN = 0) :=
  ⟨⟨mk [] fun m => { m with sec := { m.sec with otp := [(0x100, 0xF#8)], challenge := some [] } }, 3, by unfold Mod.Room; decide⟩,
    ⟨State.reset, false, by decide⟩,
    ⟨mk [] fun m => { m with sec := { m.sec with prog := some (0x10C, 0xFFFFFFFF) } }, 0x10C, 0xFFFFFFFF, by decide⟩,
    ⟨mk [(SEC.DEBUG_LOCK, 0), (SEC.DEBUG_OPEN, 1)], by decide⟩,
    ⟨mk [(SEC.DEBUG_LOCK, 1), (SEC.DEBUG_OPEN, 0)], by decide⟩⟩

theorem test_witness_UpdateTransactionsAct :
    (∃ (s : State) (r : VnkReq) (k : Fin 16), s.mod.Hears r k.val ∧ s.mod.Grants r k.val 5 ∧ r.addr.toNat % 4 = 0 ∧ s.mod.rd (VNK.WIN_BASE (r.win.toNat)) % 4 = 0 ∧ s.mod.upd.opens = []) ∧
    (∃ (s : State) (r : VnkReq) (k : Fin 16), s.mod.Hears r k.val ∧ s.mod.Grants r k.val 5 ∧ r.addr.toNat % 4 = 0 ∧ s.mod.rd (VNK.WIN_BASE (r.win.toNat)) % 4 = 0 ∧ s.mod.rd UPD.HOLDER_PORT = 255) ∧
    (∃ (s : State) (r : VnkReq) (k : Fin 16), s.mod.Hears r k.val ∧ s.mod.Grants r k.val 5 ∧ r.addr.toNat % 4 = 0 ∧ s.mod.rd (VNK.WIN_BASE (r.win.toNat)) % 4 = 0 ∧ s.mod.rd UPD.HOLDER_PORT ≠ 255 ∧ s.mod.rd UPD.HOLDER_SLOT = k.val ∧ s.mod.rd UPD.PROBATION = 0 ∧ s.mod.upd.phase = 0 ∧ fld (r.aux.toNat) 23 16 ≤ 1 ∧ s.mod.upd.erased = true ∧ s.mod.upd.erasing = none ∧ (s.mod.rd UPD.STATE = 3 ∨ s.mod.rd UPD.STATE = 4) ∧ s.mod.rd UPD.TARGET = s.mod.inactive (fld (r.aux.toNat) 23 16) ∧ r.addr.toNat + 4 ≤ targetSize (s.mod.inactive (fld (r.aux.toNat) 23 16)) ∧ (∀ (i : Nat), i < 4 → s.mod.byte (targetBase (s.mod.inactive (fld (r.aux.toNat) 23 16)) + r.addr.toNat + i) = 255)) ∧
    (∃ (s : State) (r : VnkReq) (k : Fin 16), s.mod.Hears r k.val ∧ s.mod.Grants r k.val 5 ∧ r.addr.toNat % 4 = 0 ∧ s.mod.rd (VNK.WIN_BASE (r.win.toNat)) % 4 = 0 ∧ s.mod.rd UPD.HOLDER_PORT ≠ 255 ∧ s.mod.rd UPD.HOLDER_SLOT = k.val ∧ s.mod.rd UPD.PROBATION = 0 ∧ s.mod.upd.phase = 0 ∧ fld (r.aux.toNat) 23 16 ≤ 1 ∧ s.mod.upd.verified = true ∧ s.mod.rd UPD.TARGET = s.mod.inactive (fld (r.aux.toNat) 23 16) ∧ s.mod.rd PWR.CHANGING = 0 ∧ fld (r.aux.toNat) 23 16 = 0 ∧ r.aux.toNat % 2 ^ 16 = 0) ∧
    (∃ (s : State) (r : VnkReq) (k : Fin 16) (a : Fin 4) (b : Fin 4), s.mod.Hears r k.val ∧ s.mod.Grants r k.val 5 ∧ r.addr.toNat % 4 = 0 ∧ s.mod.rd (VNK.WIN_BASE (r.win.toNat)) % 4 = 0 ∧ s.mod.rd UPD.HOLDER_PORT ≠ 255 ∧ s.mod.rd UPD.HOLDER_SLOT = k.val ∧ s.mod.rd UPD.PROBATION = 0 ∧ s.mod.upd.phase = 0 ∧ fld (r.aux.toNat) 23 16 ≤ 1 ∧ b ≠ a ∧ s.mod.keyUsable b.val = true ∧ s.mod.Room 1) :=
  ⟨⟨mk [(BB.EN 1, 1), (BB.LINK 1, 1), (BB.SEC_EN 1, 0), (PWR.DOM_STAT, 0xFFFFFFFF), (VNK.EN, 1), (VNK.INIT_EN 15, 1), (VNK.WIN_TYPE 63, 5), (VNK.WIN_EN 63, 1), (VNK.INIT_MASK 63, 0xFFFF), (VNK.WIN_RD 63, 1), (VNK.WIN_WR 63, 1)], req, 15, by unfold Mod.Hears Mod.Grants; decide⟩,
    ⟨mk [(BB.EN 1, 1), (BB.LINK 1, 1), (BB.SEC_EN 1, 0), (PWR.DOM_STAT, 0xFFFFFFFF), (VNK.EN, 1), (VNK.INIT_EN 15, 1), (VNK.WIN_TYPE 63, 5), (VNK.WIN_EN 63, 1), (VNK.INIT_MASK 63, 0xFFFF), (VNK.WIN_RD 63, 1), (VNK.WIN_WR 63, 1), (UPD.HOLDER_PORT, 0xFF)], req, 15, by unfold Mod.Hears Mod.Grants; decide⟩,
    ⟨mk [(BB.EN 1, 1), (BB.LINK 1, 1), (BB.SEC_EN 1, 0), (PWR.DOM_STAT, 0xFFFFFFFF), (VNK.EN, 1), (VNK.INIT_EN 15, 1), (VNK.WIN_TYPE 63, 5), (VNK.WIN_EN 63, 1), (VNK.INIT_MASK 63, 0xFFFF), (VNK.WIN_RD 63, 1), (VNK.WIN_WR 63, 1), (UPD.HOLDER_PORT, 0), (UPD.HOLDER_SLOT, 15), (UPD.STATE, 3), (UPD.TARGET, 1)] fun m => { m with upd := { m.upd with erased := true } }, { req with addr := 0x3FFFFC }, 15, by unfold Mod.Hears Mod.Grants; decide⟩,
    ⟨mk [(BB.EN 1, 1), (BB.LINK 1, 1), (BB.SEC_EN 1, 0), (PWR.DOM_STAT, 0xFFFFFFFF), (VNK.EN, 1), (VNK.INIT_EN 15, 1), (VNK.WIN_TYPE 63, 5), (VNK.WIN_EN 63, 1), (VNK.INIT_MASK 63, 0xFFFF), (VNK.WIN_RD 63, 1), (VNK.WIN_WR 63, 1), (UPD.HOLDER_PORT, 0), (UPD.HOLDER_SLOT, 15), (UPD.TARGET, 1)] fun m => { m with upd := { m.upd with verified := true } }, { req with aux := 0 }, 15, by unfold Mod.Hears Mod.Grants; decide⟩,
    ⟨mk [(BB.EN 1, 1), (BB.LINK 1, 1), (BB.SEC_EN 1, 0), (PWR.DOM_STAT, 0xFFFFFFFF), (VNK.EN, 1), (VNK.INIT_EN 15, 1), (VNK.WIN_TYPE 63, 5), (VNK.WIN_EN 63, 1), (VNK.INIT_MASK 63, 0xFFFF), (VNK.WIN_RD 63, 1), (VNK.WIN_WR 63, 1), (UPD.HOLDER_PORT, 0), (UPD.HOLDER_SLOT, 15)] fun m => { m with sec := { m.sec with otp := [(0x100, 0xF#8)] } }, { req with aux := 0 }, 15, 3, 0, by unfold Mod.Hears Mod.Grants Mod.Room; decide⟩⟩

theorem test_witness_ActivateRefusalsCarryResults :
    (∃ (s : State) (r : VnkReq) (k : Fin 16), s.mod.Hears r k.val ∧ s.mod.Grants r k.val 5 ∧ r.addr.toNat % 4 = 0 ∧ s.mod.rd (VNK.WIN_BASE (r.win.toNat)) % 4 = 0 ∧ s.mod.rd UPD.HOLDER_PORT ≠ 255 ∧ s.mod.rd UPD.HOLDER_SLOT = k.val ∧ fld (r.aux.toNat) 23 16 ≤ 1 ∧ ¬(s.mod.upd.verified = true ∧ s.mod.rd UPD.TARGET = s.mod.inactive (fld (r.aux.toNat) 23 16))) ∧
    (∃ (s : State) (r : VnkReq) (k : Fin 16), s.mod.Hears r k.val ∧ s.mod.Grants r k.val 5 ∧ r.addr.toNat % 4 = 0 ∧ s.mod.rd (VNK.WIN_BASE (r.win.toNat)) % 4 = 0 ∧ s.mod.rd UPD.HOLDER_PORT ≠ 255 ∧ s.mod.rd UPD.HOLDER_SLOT = k.val ∧ fld (r.aux.toNat) 23 16 ≤ 1 ∧ s.mod.upd.verified = true ∧ s.mod.rd UPD.TARGET = s.mod.inactive (fld (r.aux.toNat) 23 16) ∧ s.mod.rd PWR.CHANGING = 1) ∧
    (∃ (s : State) (r : VnkReq) (k : Fin 16), s.mod.Hears r k.val ∧ s.mod.Grants r k.val 5 ∧ r.addr.toNat % 4 = 0 ∧ s.mod.rd (VNK.WIN_BASE (r.win.toNat)) % 4 = 0 ∧ s.mod.rd UPD.HOLDER_PORT ≠ 255 ∧ s.mod.rd UPD.HOLDER_SLOT = k.val ∧ fld (r.aux.toNat) 23 16 ≤ 1 ∧ s.mod.upd.verified = true ∧ s.mod.rd UPD.TARGET = s.mod.inactive (fld (r.aux.toNat) 23 16) ∧ s.mod.rd PWR.CHANGING = 0 ∧ s.mod.rd UPD.PROBATION = 1) :=
  ⟨⟨mk [(BB.EN 1, 1), (BB.LINK 1, 1), (BB.SEC_EN 1, 0), (PWR.DOM_STAT, 0xFFFFFFFF), (VNK.EN, 1), (VNK.INIT_EN 15, 1), (VNK.WIN_TYPE 63, 5), (VNK.WIN_EN 63, 1), (VNK.INIT_MASK 63, 0xFFFF), (VNK.WIN_RD 63, 1), (VNK.WIN_WR 63, 1), (UPD.HOLDER_PORT, 0), (UPD.HOLDER_SLOT, 15)], { req with aux := 0 }, 15, by unfold Mod.Hears Mod.Grants; decide⟩,
    ⟨mk [(BB.EN 1, 1), (BB.LINK 1, 1), (BB.SEC_EN 1, 0), (PWR.DOM_STAT, 0xFFFFFFFF), (VNK.EN, 1), (VNK.INIT_EN 15, 1), (VNK.WIN_TYPE 63, 5), (VNK.WIN_EN 63, 1), (VNK.INIT_MASK 63, 0xFFFF), (VNK.WIN_RD 63, 1), (VNK.WIN_WR 63, 1), (UPD.HOLDER_PORT, 0), (UPD.HOLDER_SLOT, 15), (UPD.TARGET, 1), (PWR.CHANGING, 1)] fun m => { m with upd := { m.upd with verified := true } }, { req with aux := 0 }, 15, by unfold Mod.Hears Mod.Grants; decide⟩,
    ⟨mk [(BB.EN 1, 1), (BB.LINK 1, 1), (BB.SEC_EN 1, 0), (PWR.DOM_STAT, 0xFFFFFFFF), (VNK.EN, 1), (VNK.INIT_EN 15, 1), (VNK.WIN_TYPE 63, 5), (VNK.WIN_EN 63, 1), (VNK.INIT_MASK 63, 0xFFFF), (VNK.WIN_RD 63, 1), (VNK.WIN_WR 63, 1), (UPD.HOLDER_PORT, 0), (UPD.HOLDER_SLOT, 15), (UPD.TARGET, 1), (UPD.PROBATION, 1)] fun m => { m with upd := { m.upd with verified := true } }, { req with aux := 0 }, 15, by unfold Mod.Hears Mod.Grants; decide⟩⟩

theorem test_witness_UpdateJobsAndHandoverPhases :
    (∃ (s : State), s.mod.upd.erasing = none) ∧
    (∃ (s : State) (x : Fin 4), s.mod.upd.erasing = some x.val) ∧
    (∃ (s : State), s.mod.upd.phase = 2 ∧ s.mod.upd.bTick ≤ s.mod.tick) ∧
    (∃ (s : State), s.mod.upd.phase = 3 ∧ s.mod.upd.bTick + 60 ≤ s.mod.tick) ∧
    (∃ (s : State), s.mod.upd.phase = 3 ∧ s.mod.tick < s.mod.upd.bTick + 60) ∧
    (∃ (s : State), s.mod.upd.phase = 4 ∧ s.mod.upd.bTick + 190 ≤ s.mod.tick) ∧
    (∃ (s : State), s.mod.upd.phase = 4 ∧ s.mod.tick < s.mod.upd.bTick + 190) ∧
    (∃ (s : State), s.mod.upd.phase = 7) ∧
    (∃ (s : State), s.mod.on UPD.PROBATION = true ∧ s.mod.upd.failed = false ∧ s.mod.upd.probTick + 1000000 ≤ s.mod.tick ∧ s.mod.Room 1) ∧
    (∃ (s : State), s.mod.upd.phase = 0 ∧ s.mod.rd UPD.PROBATION = 0) :=
  ⟨⟨State.reset, by decide⟩,
    ⟨mk [] fun m => { m with upd := { m.upd with erasing := some 3 } }, 3, by decide⟩,
    ⟨mk [] fun m => { m with upd := { m.upd with phase := 2 } }, by decide⟩,
    ⟨mk [] fun m => { m with upd := { m.upd with phase := 3 }, frm := { m.frm with tick := 60 } }, by decide⟩,
    ⟨mk [] fun m => { m with upd := { m.upd with phase := 3 }, frm := { m.frm with tick := 59 } }, by decide⟩,
    ⟨mk [] fun m => { m with upd := { m.upd with phase := 4 }, frm := { m.frm with tick := 190 } }, by decide⟩,
    ⟨mk [] fun m => { m with upd := { m.upd with phase := 4 }, frm := { m.frm with tick := 189 } }, by decide⟩,
    ⟨mk [] fun m => { m with upd := { m.upd with phase := 7 } }, by decide⟩,
    ⟨mk [(UPD.PROBATION, 1)] fun m => { m with frm := { m.frm with tick := 1000000 } }, by unfold Mod.Room; decide⟩,
    ⟨mk [(UPD.PROBATION, 0)], by decide⟩⟩

theorem test_witness_DiagnosticServicesAnswer :
    (∃ (s : State), s.mod.rd UPD.SVC_CTRL < 12 ∧ s.mod.svcOther = true) ∧
    (∃ (s : State), s.mod.rd UPD.SVC_CTRL < 12 ∧ s.mod.svcOther = false ∧ s.mod.svcHolds = false) ∧
    (∃ (s : State), s.mod.rd UPD.SVC_CTRL < 12 ∧ s.mod.svcOther = false ∧ s.mod.uds.prog = true) ∧
    (∃ (s : State) (k : Fin 4), s.mod.rd UPD.SVC_CTRL < 12 ∧ s.mod.uds.seed.isSome = true ∧ s.mod.keyUsable k.val = true) ∧
    (∃ (s : State) (size : Word), s.mod.rd UPD.SVC_CTRL < 12 ∧ s.mod.session = true ∧ s.mod.svcHolds = true ∧ s.mod.rd UPD.PROBATION = 0 ∧ s.mod.upd.phase = 0 ∧ size ≠ 0) ∧
    (∃ (s : State) (pos : Nat) (c : Nat), s.mod.rd UPD.SVC_CTRL < 12 ∧ s.mod.session = true ∧ s.mod.svcHolds = true ∧ s.mod.rd UPD.PROBATION = 0 ∧ s.mod.upd.phase = 0 ∧ s.mod.uds.download = some (pos, c) ∧ pos < 4194304 ∧ c < 256 ∧ s.mod.upd.erased = true ∧ s.mod.rd UPD.STATE = 4 ∧ s.mod.rd UPD.TARGET = s.mod.inactive 0 ∧ s.mod.byte (targetBase (s.mod.inactive 0) + pos) = 255 ∧ s.mod.rd BOOT.ACT_BANK ≤ 1) ∧
    (∃ (s : State), s.mod.rd UPD.SVC_CTRL < 12 ∧ s.mod.session = true ∧ s.mod.svcHolds = true ∧ s.mod.rd UPD.PROBATION = 0 ∧ s.mod.upd.phase = 0 ∧ s.mod.uds.download.isSome = true) :=
  ⟨⟨mk [(UPD.SVC_CTRL, 11), (UPD.HOLDER_PORT, 0), (UPD.HOLDER_SLOT, 15)], by decide⟩,
    ⟨mk [(UPD.HOLDER_PORT, 0xFF), (UPD.SVC_CTRL, 11)], by decide⟩,
    ⟨mk [(UPD.HOLDER_PORT, 0xFF), (UPD.SVC_CTRL, 11)] fun m => { m with uds := { m.uds with prog := true } }, by decide⟩,
    ⟨mk [(UPD.SVC_CTRL, 11)] fun m => { m with sec := { m.sec with otp := [(0x100, 0xF#8)] }, uds := { m.uds with seed := some [] } }, 3, by decide⟩,
    ⟨mk [(UPD.SVC_CTRL, 0), (UPD.HOLDER_PORT, 4), (UPD.HOLDER_SLOT, 0xFF)], 0xFFFFFFFF, by decide⟩,
    ⟨mk [(UPD.SVC_CTRL, 0), (UPD.STATE, 4), (UPD.TARGET, 1), (UPD.HOLDER_PORT, 4), (UPD.HOLDER_SLOT, 0xFF)] fun m => { m with upd := { m.upd with erased := true }, uds := { m.uds with download := some (0x3FFFFF, 255) } }, 0x3FFFFF, 255, by decide⟩,
    ⟨mk [(UPD.SVC_CTRL, 0), (UPD.HOLDER_PORT, 4), (UPD.HOLDER_SLOT, 0xFF)] fun m => { m with uds := { m.uds with download := some (0, 1) } }, by decide⟩⟩

/-! ### The spec's worked examples -/

set_option maxRecDepth 20000 in
/-- The check word of "123456789". -/
theorem test_crc32c : crc32c [0x31, 0x32, 0x33, 0x34, 0x35, 0x36, 0x37, 0x38, 0x39] = 0xE3069283 := by decide

/-- Bead words from the examples of chapters 2, 5 and 6, and the reserved ones: an unlisted opcode, a reserved bit set, a channel of 20. -/
theorem test_bead_words :
    (decodeBead 0x05190000).toOption = some (.chSet 1 3 1 0) ∧ (decodeBead 0x64000312).toOption = some (.prmDone 0x312) ∧
    (decodeBead 0x69230000).toOption = some (.diagReq 1 4 3) ∧ (decodeBead 0x4D210000).toOption = some (.linHdr 2 0x21) ∧
    (decodeBead 0x1C000000).toOption = none ∧ (decodeBead 0x00000001).toOption = none ∧ (decodeBead 0x05A10000).toOption = none := by decide

/-- CH_SET of the example of chapter 2 stages its effect, released by no boundary yet. -/
theorem test_ch_set : ((after (.chSet 2 40 0x1190000#26) (mk [(PWR.DOM_STAT, 0xFFFFFFFF)] due)).frm.staged) = [⟨⟨2, 0x3FF, 40⟩, .ch 1 3 1 0⟩] := by decide

/-- The sweep of chapter 5: DIAG_REQ on channel 4 of quadrant 1, KIND 3. -/
theorem test_diag_req : ((after (.diagReq 2 0 0x1230000#26) (mk [(PWR.DOM_STAT, 0xFFFFFFFF)] due)).frm.staged.map (·.eff)) = [Effect.diag 1 4 3] := by decide

/-- Chapter 3: HS40 at 400 Hz with ARG 0x4000 is on for 15 625 steps of 40 ns. -/
theorem test_pwm_on_time : (mk [(HQ.PWM_FREQ 0 0, 2)]).mod.onSteps 0 0 0x4000 = 15625 := by decide

/-- Chapter 5: 160 of 65 535 at 200 Hz rounds to 305 steps. -/
theorem test_pwm_low_duty : (mk [(HQ.PWM_FREQ 1 15, 1)]).mod.onSteps 1 15 160 = 305 := by decide

/-- Pauses of 1, 2, 4 … ms, 1 s at most. -/
theorem test_retry_pause : (retryPause 1, retryPause 2, retryPause 10, retryPause 11, retryPause 15) = (1, 2, 512, 1000, 1000) := by decide

/-- A short trip starts the first pause of a channel that was on. -/
theorem test_short_trip :
    let t := after (.shortTrip 3 ⟨19, 90000⟩) (mk [(HQ.OUT 3 19, 1)])
    t.rd (HQ.RETRY_CNT 3 19) = 1 ∧ t.rd (HQ.PAUSE_LEFT 3 19) = 1 ∧ t.rd (HQ.OUT 3 19) ≠ 1 := by decide

/-- A second motor command reverses through the brake. -/
theorem test_rev_brakes :
    let t := after (.rev 3 100) (mk [(MOT.BR_EN 3, 1), (MOT.APPLIED 3, 1), (MOT.MODE 3, 1)])
    t.rd (MOT.MODE 3) = 2 ∧ t.rd (MOT.REVERSING 3) = 1 ∧ t.rd (MOT.APPLIED 3) = 3 := by decide

/-- A quadrature step below 0 wraps. -/
theorem test_quadrature : (after (.quadratureTransition 0 false 0) (mk [(MOT.QD_EN 0, 1)])).rd (MOT.QD_POS 0) = 0xFFFFFFFF := by decide

/-- The breathing program of chapter 7, and two words that are no instruction. -/
theorem test_engine_words :
    topiDecode 0x3C81 = .ok (.rmp false 200 1) ∧ topiDecode 0x0320 = .ok (.wait 800) ∧ topiDecode 0xA003 = .ok (.jmp 3) ∧
    topiDecode 0x51FF = .ok (.pset true 0xFF) ∧ topiDecode 0xE000 = .error 1 ∧ topiDecode 0x1010 = .error 2 := ⟨rfl, rfl, rfl, rfl, rfl, rfl⟩

/-- The pattern moves one place around 16 outputs. -/
theorem test_rot : (after (.rot 3 false 15) (mk [(TOP.STATE 3, 1), (TOP.P 3, 0x8001)])).rd (TOP.P 3) = 3 := by decide

/-- Target counts of the example of R234. -/
theorem test_colour_target :
    let t := after (.apply 5) (mk (colour 5))
    t.rd (CLR.TRI_STATE 5) = 1 ∧ [0, 1, 2].map (t.stOf 5) = [1401, 1000, 545] := by decide

/-- A target with y = 0 leaves none in force. -/
theorem test_colour_reject : (after (.apply 5) (mk ((colour 5).map fun p => if p.1 = CLR.Y 5 then (p.1, 0) else p))).rd (CLR.TRI_STATE 5) = 3 := by decide

/-- CI5 of chapter 8: 73 edges over 1 999 999 units of 5 ns. -/
theorem test_ci_window : (after (.ciWindowEnd 5) (mk [(FIO.CI_EN 5, 1)] fun m =>
    { m with cis := [(5, { k := 73, ref := some 1, last := 2000000 })] })).rd (FIO.CI_PERIOD 5) = 438356 := by decide

/-- A window without an edge is stale. -/
theorem test_ci_stale : (after (.ciWindowEnd 5) (mk [(FIO.CI_EN 5, 1)])).rd (FIO.STALE 5) = 1 := by decide

/-- A 2048-byte XL frame takes 17 chain slots, one of 56 bytes none. -/
theorem test_chain_slots : chainSlots 2048 = 17 ∧ chainSlots 57 = 1 ∧ chainSlots 56 = 0 := by decide

/-- A bus-off controller that has seen its recessive sequences is error-active again. -/
theorem test_bus_off_recovery : (after (.busOffRecoveryDone 11) (mk [(CAN.ERRST 11, 2), (CAN.RECOV 11, 1)] fun m =>
    m.onCan 11 fun x => { x with monitor := true })).rd (CAN.ERRST 11) = 0 := by decide

/-- The span and its uncertainty in the example of chapter 13. -/
theorem test_park_span :
    let m := (mk [(AON.CAL_PERIOD, 7828125), (AON.CAL_TEMP, 89)]).mod
    m.spanOf 900000000 = 2752075195 ∧ uncOf (m.spanOf 900000000) (m.deltaT 73) = 8256230 := by decide

/-- VPOD falls away while VBL stands. -/
theorem test_vpod_loss : (after (.vpodLoss 0 300) (mk [(PWR.SRC, 1)])).rd PWR.SRC = 2 := by decide

/-- ECALL in Machine mode. -/
theorem test_ecall :
    let c := (after (.ecall false { pc := 0x20000100 }) (mk [(PWR.DOM_STAT, 0xFFFFFFFF)])).pair.w0.core
    c.mcause = 11 ∧ c.mepc = 0x20000100 ∧ c.user = false := by decide

/-- A byte stored changes one lane of its word. -/
theorem test_store_byte : (after (.pairStore false 0x20000101 0 0xABCD {}) (mk [(PWR.DOM_STAT, 0xFFFFFFFF)] fun m =>
    m.store 0x20000100 4 0x11223344)).load 0x20000100 4 = 0x1122CD44 := by decide

/-- The key of chapter 17's example: 0x4B opens HQ2's, LOCKDOWN closes it for good. -/
theorem test_key_open : (after (.keyOpen 0x12 .vinko) State.reset).rd (COM.KEY 0x12) = 1 ∧
    (after (.keyOpen 0x12 .vinko) (mk [(COM.LOCKDOWN 0x12, 1), (COM.KEY 0x12, 0)])).rd (COM.KEY 0x12) = 0 := by decide

/-- A key's first write of the pair waits in the commit queue with its address. -/
theorem test_pair_write : ((after (.keyOpen 0x12 .pair) (mk [(PWR.DOM_STAT, 0xFFFFFFFF)])).pair.w0.cq.map fun e => (e.addr, e.data)) =
    [(0x4001201C, 0x4B)] := by decide

/-- Coalescing: REPEAT of the page's latest record rises. -/
theorem test_coalesce : ((after (.eventRecord none) (mk [(EVT.MIN_CLASS, 0), (COM.MIN_CLASS 0x3F, 0)] fun m =>
    { m with evt := { m.evt with intake := [⟨rec, 0xFF⟩], log := [(0, { rec with rep := 254 })], latest := [(0x3F, 0)] } })).evt.log.map
    fun e => e.2.rep) = [255] := by decide

/-- A Cold reset keeps flash and clears the memories. -/
theorem test_cold_reset :
    let t := after .coldReset (mk [] fun m => (m.store 0x10000000 4 0).store 0x20000000 4 5)
    t.load 0x10000000 4 = 0 ∧ t.load 0x20000000 4 = 0 := by decide

set_option maxRecDepth 20000 in
/-- The boundary advances TICK. -/
theorem test_tick_boundary : (after (.tickBoundary []) (mk [] fun m => { m with frm := { m.frm with tick := 7200451 } })).tick = 7200452 := by decide

/-- The request and response of chapter 11's example: the header bytes of the answer. -/
theorem test_vinko_header : vnkHeader true false 8 0x01A7 2 0 12 0 0 = [0x18, 0x08, 0x01, 0xA7, 0x02, 0, 0, 0x0C, 0, 0, 0, 0, 0, 0, 0, 0] := by decide

/-- A read of an SRAM word through a window answers it, most significant byte first. -/
theorem test_vinko_read : ((after (.read { req with win := 63 } []) (mk [(PWR.DOM_STAT, 0xFFFFFFFF), (BB.EN 1, 1), (BB.LINK 1, 1), (BB.SEC_EN 1, 0),
    (VNK.EN, 1), (VNK.INIT_EN 15, 1), (VNK.WIN_TYPE 63, 0),
    (VNK.WIN_EN 63, 1), (VNK.INIT_MASK 63, 0xFFFF), (VNK.WIN_RD 63, 1), (VNK.WIN_BASE 63, 0x20000000), (VNK.WIN_SIZE 63, 4)] fun m =>
    m.store 0x20000000 4 0x01020304)).vnk.out.map fun o => o.body.drop 16) = [[1, 2, 3, 4]] := by decide

/-! ### Well-formedness: one ill-formed command for each check -/

theorem test_ill_formed :
    ([.frameBoundary 0 0 0 0 [(0, ⟨0x3FFFF, false⟩)], .quadratureTransition 0 true 2001, .ciEdge 0 true 2047,
      .canFrameValid 0 { id := 2048, ide := false } 0 ⟨0, false⟩, .canFrameValid 0 { id := 0, ide := false, dlc := 1 } 0 ⟨0, false⟩,
      .canFrameValid 0 { id := 0, ide := false, fdf := true, dlc := 9, data := [1] } 0 ⟨0, false⟩,
      .canFrameValid 0 { id := 0, ide := false, xlf := true } 0 ⟨0, false⟩, .canTxSuccess 0 2001 0 ⟨0, false⟩,
      .linFrameEnd 0 0 ⟨[1, 2, 3, 4, 5, 6, 7, 8, 9], 0⟩ 0, .syncTx 0 2001] : List Instr).map Instr.wf = List.replicate 10 false := by decide

theorem test_well_formed :
    ([.canFrameValid 0 { id := 2047, ide := false, dlc := 15, data := [1, 2, 3, 4, 5, 6, 7, 8] } 2000 ⟨0, false⟩, .ciEdge 0 true 2000,
      .linFrameEnd 0 0 ⟨[1, 2, 3, 4, 5, 6, 7, 8], 0⟩ 2000] : List Instr).map Instr.wf = List.replicate 3 true := by decide
set_option maxRecDepth 20000 in
theorem test_ill_formed_lengths :
    ([.write req (List.replicate 1025 0#32), .writeM req (List.replicate 513 (0#32, 0#32)), .transferData 1 (List.replicate 1025 0#8),
      .updateWrite req (List.replicate 1025 0#32)] : List Instr).map Instr.wf = List.replicate 4 false := by decide

/-- A fetch of an address that is not there. -/
theorem test_fetch_unmapped :
    let m := after (.fence false { trap := some (.fetch 0x20000000 0xFFFFFFFC false) }) (mk [(PWR.DOM_STAT, 0xFFFFFFFF)])
    m.rd SYS.UNMAP_ADDR = 0xFFFFFFFC ∧ m.pair.w0.core.mcause = 1 := by decide

end Sys2Proof.Tests
end

/-! ### Load diagnostics (chapter 5): a requested test that ends leaves the count of running tests

BUSY_N counts the requested tests that run across the module (Table 05-7). It stands on the DIA page, so the result of a requested
test changes a register outside the quadrant's page. -/
namespace Sys2Proof.Machine

/-- What a command whose outcome is a change `f` of the block is said to do holds of the block and its settled change. -/
theorem State.Runs.of_next {s : State} {i : Instr} {f : Mod → Mod} {P : Mod → Mod → Prop} (hexec : exec i s = s.next f)
    (hrun : s.Runs i P) : P s.mod (f s.mod).settle := by
  obtain ⟨t, ht, -, hP⟩ := hrun
  obtain rfl := Host.Outcome.next.inj (hexec.symm.trans ht)
  exact hP

theorem exec_pullUpPhaseEnd (q : Fin 4) (c : Fin 20) (v : BitVec 10) (s : State) :
    exec (.pullUpPhaseEnd q c v) s = s.next fun m => m.pullUpEnd q c v.toNat := rfl

namespace Mod
open Reg

theorem rd_onChan (m : Mod) (q c : Nat) (f : ChanX → ChanX) (g : Fld) : (m.onChan q c f).rd g = m.rd g := rfl

/-- BUSY_N shares no key with a field of a page below the DIA page. -/
theorem key_ne_busyN_of_page_lt (f : Fld) (hpage : f.page < 0x14) (hoff : f.off < 4096) (hlo : f.lo < 32) : f.key ≠ DIA.BUSY_N.key :=
  key_ne_of_page _ _ hoff (by decide) hlo (by decide) (.inl (Nat.ne_of_lt hpage))

theorem rd_busyN_wr_of_page_lt (m : Mod) (f : Fld) (v : Nat) (hpage : f.page < 0x14) (hoff : f.off < 4096) (hlo : f.lo < 32) :
    (m.wr f v).rd DIA.BUSY_N = m.rd DIA.BUSY_N :=
  rd_wr_other _ _ _ _ (key_ne_busyN_of_page_lt f hpage hoff hlo)

theorem diagBusy_false_of_busy (m : Mod) (q c : Nat) (hbusy : m.rd (HQ.DIAG_BUSY q c) = 1) :
    m.diagBusy q c false = (m.wrB (HQ.DIAG_BUSY q c) false).wr DIA.BUSY_N (m.rd DIA.BUSY_N - 1) := by
  simp [diagBusy, on, hbusy]

theorem rd_busyN_diagCode (m : Mod) (q : Fin 4) (c : Fin 20) (code v : Nat) :
    (m.diagCode q c code v).rd DIA.BUSY_N = m.rd DIA.BUSY_N := by
  have hkept : ((m.wr (HQ.V_MEAS q c) v).wr (HQ.DIAG_CODE q c) code).rd DIA.BUSY_N = m.rd DIA.BUSY_N := by
    rw [rd_busyN_wr_of_page_lt, rd_busyN_wr_of_page_lt] <;> simp only [HQ.V_MEAS, HQ.DIAG_CODE] <;> omega
  unfold diagCode
  dsimp only
  split
  · exact hkept
  · exact hkept

/-- The result of a requested test takes the test out of BUSY_N. -/
theorem rd_busyN_diagResult (m : Mod) (q : Fin 4) (c : Fin 20) (code v : Nat) (hbusy : m.rd (HQ.DIAG_BUSY q c) = 1) :
    (m.diagResult q c code v).rd DIA.BUSY_N = (m.rd DIA.BUSY_N - 1) % 2 ^ 7 := by
  have hkind : ∀ k, (m.wr (HQ.DIAG_KIND q c) k).rd (HQ.DIAG_BUSY q c) = 1 := by
    intro k
    rw [rd_wr_other, hbusy]
    simp only [Fld.key, HQ.DIAG_KIND, HQ.DIAG_BUSY]
    omega
  have hon : m.on (HQ.DIAG_BUSY q c) = true := by simp [on, hbusy]
  simp only [diagResult, hon, if_true]
  rw [rd_busyN_diagCode, rd_onChan, diagBusy_false_of_busy _ _ _ (hkind _), rd_wr_same, rd_busyN_wr_of_page_lt]
  · rfl
  all_goals simp only [HQ.DIAG_KIND]; omega

/-- The end of the pull-up phase of a requested test takes the test out of BUSY_N, whatever the class. -/
theorem rd_busyN_pullUpEnd (m : Mod) (q : Fin 4) (c : Fin 20) (v : Nat) (hrun : (m.chan q c).diag.run = .pullUp)
    (hoff : (m.chan q c).diag.offPhase = false) (hbusy : m.rd (HQ.DIAG_BUSY q c) = 1) :
    (m.pullUpEnd q c v).rd DIA.BUSY_N = (m.rd DIA.BUSY_N - 1) % 2 ^ 7 := by
  have hvolt : (m.wr (HQ.OUT_V q c) v).rd DIA.BUSY_N = m.rd DIA.BUSY_N := by
    rw [rd_busyN_wr_of_page_lt] <;> simp only [HQ.OUT_V] <;> omega
  have hstb : ∀ n : Mod, (n.wr (HQ.STB q c) 1).rd DIA.BUSY_N = n.rd DIA.BUSY_N := by
    intro n
    rw [rd_busyN_wr_of_page_lt] <;> simp only [HQ.STB] <;> omega
  have hbusyVolt : (m.wr (HQ.OUT_V q c) v).rd (HQ.DIAG_BUSY q c) = 1 := by
    rw [rd_wr_other, hbusy]
    simp only [Fld.key, HQ.OUT_V, HQ.DIAG_BUSY]
    omega
  have hbusyStb : ((m.wr (HQ.OUT_V q c) v).wr (HQ.STB q c) 1).rd (HQ.DIAG_BUSY q c) = 1 := by
    rw [rd_wr_other, hbusyVolt]
    simp only [Fld.key, HQ.STB, HQ.DIAG_BUSY]
    omega
  simp only [pullUpEnd, hrun, hoff, ne_eq, not_true_eq_false, if_false, Bool.false_eq_true]
  split
  · rw [rd_busyN_diagResult _ _ _ _ _ hbusyStb, hstb, hvolt]
  · rw [rd_busyN_diagResult _ _ _ _ _ hbusyVolt, hvolt]

theorem busyN_not_derived : DIA.BUSY_N.key ∉ derivedKeys := by decide

/-- The block in which OFF_OL of output 0 of quadrant 0, the first command after reset, has come to its pull-up phase. -/
def firstPullUp : Mod := ((State.reset.mod.diagRequest 0 0 0).settle.pullDownEnd 0 0 0).settle

/-- OFF_OL and PULL_DOWN_PHASE_END bring the block there from reset. -/
theorem firstPullUp_reached : ∃ s : State, exec (.offOl 0 0) State.reset = .next s ∧
    exec (.pullDownPhaseEnd 0 0 0) s = .next ⟨firstPullUp, []⟩ :=
  ⟨_, rfl, rfl⟩

theorem rd_busyN_firstPullUp : firstPullUp.rd DIA.BUSY_N = 1 := by decide

theorem firstPullUp_requested : (firstPullUp.chan 0 0).diag.run = .pullUp ∧ (firstPullUp.chan 0 0).diag.offPhase = false ∧
    firstPullUp.rd (HQ.DIAG_BUSY 0 0) = 1 := by decide

/-- Refutes O16: PULL_UP_PHASE_END of a requested test lowers DIA.BUSY_N (Table 05-7), and the statement lets no register change but
those of the quadrant's page and of the event log's. In the state that OFF_OL and PULL_DOWN_PHASE_END of output 0 leave after reset
BUSY_N is 1, and the end of the test makes it 0. -/
theorem not_loadDiagnosticsRun : ¬ Obligations.LoadDiagnosticsRun := by
  unfold Obligations.LoadDiagnosticsRun
  intro h
  obtain ⟨-, hpullUp, -⟩ := h ⟨firstPullUp, []⟩ 0 0
  obtain ⟨hrun, hoff, hbusy⟩ := firstPullUp_requested
  obtain ⟨-, -, -, -, hpages⟩ := State.Runs.of_next (exec_pullUpPhaseEnd 0 0 0 _) (hpullUp 0 hrun hoff hbusy)
  have hframe : (firstPullUp.pullUpEnd 0 0 0).settle.rd DIA.BUSY_N = 1 :=
    (hpages DIA.BUSY_N (by decide) fun f hf hk => busyN_not_derived (hk ▸ List.mem_map_of_mem hf)).trans rd_busyN_firstPullUp
  have hended : (firstPullUp.pullUpEnd 0 0 0).settle.rd DIA.BUSY_N = 0 := by
    have hcount := rd_busyN_pullUpEnd firstPullUp 0 0 0 hrun hoff hbusy
    rw [rd_busyN_firstPullUp] at hcount
    exact (rd_settle _ _ busyN_not_derived).trans hcount
  omega

end Mod
end Sys2Proof.Machine

/-! ### The position unit (chapter 6): a write of QD_POS while the unit stands still

R204 stops the position unit in Park and in Shelf and clears POS_OK at their entry. A window's write of QD_POS that comes after is
stored, and POS_OK stays as it is. -/
namespace Sys2Proof.Machine

theorem exec_qdPosWrite_vinko (j : Fin 4) (v : Word) (s : State) :
    exec (.qdPosWrite j v .vinko) s = s.next fun m => m.qdPosSet j v.toNat false := rfl

namespace Mod
open Reg

/-- Whether the position unit stands still is read from PWR.STATE and the power block's phase, which no QD_POS shares. -/
theorem qdStopped_wr_qdPos (m : Mod) (j p : Nat) : (m.wr (MOT.QD_POS j) p).qdStopped = m.qdStopped := by
  have hstate : (m.wr (MOT.QD_POS j) p).pstate = m.pstate := by
    refine rd_wr_other _ _ _ _ ?_
    simp only [Fld.key, MOT.QD_POS, PWR.STATE]
    omega
  rw [qdStopped, qdStopped, hstate, wr_pwr]

/-- A write of QD_POS to a position unit that stands still changes no pair's POS_OK. -/
theorem rd_qdPosOk_qdPosSet_of_stopped (m : Mod) (i j v : Nat) (boundary : Bool) (hstop : m.qdStopped = true) :
    (m.qdPosSet j v boundary).rd (MOT.QD_POS_OK i) = m.rd (MOT.QD_POS_OK i) := by
  have hkey : (MOT.QD_POS j).key ≠ (MOT.QD_POS_OK i).key := by
    simp only [Fld.key, MOT.QD_POS, MOT.QD_POS_OK]
    omega
  simp only [qdPosSet, qdStopped_wr_qdPos, hstop, if_true]
  exact rd_wr_other _ _ _ _ hkey

theorem qdPosOk_not_derived (j : Fin 4) : (MOT.QD_POS_OK j).key ∉ derivedKeys := by
  revert j
  decide

/-- The block after reset with its change to Park past the Park order (step 5 of Table 13-4). -/
def parkOrdered : Mod := (({} : Mod).wr PWR.CUR_TGT 2).onPwr fun x => { x with phase := 3 }

/-- The block at the end of step 7: the Frame has stopped, and the domains stay powered until step 8. -/
def parkStopped : Mod := (parkOrdered.parkStop true).settle

/-- PARK_STOP brings the block there. -/
theorem parkStopped_reached : exec (.parkStop true) ⟨parkOrdered, []⟩ = .next ⟨parkStopped, []⟩ := rfl

theorem qdStopped_parkStopped : parkStopped.qdStopped = true := by decide

theorem rd_qdPosOk_parkStopped : parkStopped.rd (MOT.QD_POS_OK 0) = 0 := by decide

/-- Refutes O17: from the Park order on the position unit stands still (R204), and a window's write of QD_POS leaves POS_OK at 0. The
statement has every such write set POS_OK, whatever the power state. In the state that PARK_STOP leaves POS_OK of pair 0 is 0, and
stays 0 when 5 is written to QD_POS. -/
theorem not_motorsFollowCommandsAndCount : ¬ Obligations.MotorsFollowCommandsAndCount := by
  unfold Obligations.MotorsFollowCommandsAndCount
  intro h
  obtain ⟨-, hrest⟩ := h
  obtain ⟨-, -, -, -, -, -, -, hwrite, -⟩ := hrest ⟨parkStopped, []⟩
  obtain ⟨-, hset, -⟩ := State.Runs.of_next (exec_qdPosWrite_vinko 0 5 _) (hwrite 0 5)
  have hkept : (parkStopped.qdPosSet 0 5 false).settle.rd (MOT.QD_POS_OK 0) = 0 := calc
    _ = (parkStopped.qdPosSet 0 5 false).rd (MOT.QD_POS_OK 0) := rd_settle _ _ (qdPosOk_not_derived 0)
    _ = parkStopped.rd (MOT.QD_POS_OK 0) := rd_qdPosOk_qdPosSet_of_stopped _ _ _ _ _ qdStopped_parkStopped
    _ = 0 := rd_qdPosOk_parkStopped
  exact absurd (hkept.symm.trans hset) (by decide)

end Mod
end Sys2Proof.Machine

/-! ### Topiary engines (chapter 7): a fault raised while the lighting block's link is silent

The lighting block holds 32 event records while its link is silent, and counts the records beyond them in LED.QEVT_LOST (R215). That
register stands on the LED page, so a START that faults then changes a register outside the TOP page and the event log's. -/
namespace Sys2Proof.Machine

theorem exec_start (e : Fin 4) (a : BitVec 8) (s : State) : exec (.start e a) s = s.next fun m => m.engCommand e 1 a.toNat := rfl

namespace Mod
open Reg

theorem rd_countEvt_other (m : Mod) (pg code : Nat) (g : Fld) (hraised : (COM.RAISED pg).key ≠ g.key)
    (hlast : (COM.LAST_CODE pg).key ≠ g.key) : (m.countEvt pg code).rd g = m.rd g := by
  unfold countEvt
  split
  · rfl
  · rw [rd_wr_other _ _ _ _ hlast, rd_inc_other _ _ _ hraised]

theorem watchX_countEvt (m : Mod) (pg code b : Nat) : (m.countEvt pg code).watchX b = m.watchX b := by
  unfold countEvt
  split <;> rfl

theorem watchX_onWatch (m : Mod) (b : Nat) (f : WatchX → WatchX) : (m.onWatch b f).watchX b = f (m.watchX b) :=
  SMap.get_set_same _ _ _ _

theorem rd_onWatch (m : Mod) (b : Nat) (f : WatchX → WatchX) (g : Fld) : (m.onWatch b f).rd g = m.rd g := rfl

theorem watchX_settle (m : Mod) (b : Nat) : m.settle.watchX b = m.watchX b := by
  rw [watchX, watchX, settle_watches]

/-- The record of an event as the lighting block holds it: its TICK is estimated. -/
def heldRecord (m : Mod) (pg cls code : Nat) (items : List Item) : EvtIn :=
  let e := m.mkEvt pg cls code items
  { e with body := { e.body with est := true } }

/-- While the link is silent the record of an event is held, where there is room. -/
theorem ledEv_of_room (m : Mod) (pg cls code : Nat) (items : List Item) (hsilent : (m.watchX 0).silent = true)
    (hroom : (m.watchX 0).buf.length < 32) : m.ledEv pg cls code items =
      (m.countEvt pg code).onWatch 0 fun x => { x with buf := x.buf ++ [m.heldRecord pg cls code items] } := by
  unfold ledEv blockEv
  rw [if_pos hsilent, if_pos hroom]
  rfl

/-- With 32 records held the next is dropped and counted in QEVT_LOST. -/
theorem ledEv_of_full (m : Mod) (pg cls code : Nat) (items : List Item) (hsilent : (m.watchX 0).silent = true)
    (hfull : 32 ≤ (m.watchX 0).buf.length) : m.ledEv pg cls code items = (m.countEvt pg code).inc LED.QEVT_LOST := by
  unfold ledEv blockEv
  rw [if_pos hsilent, if_neg (Nat.not_lt.2 hfull)]

/-! #### A START past the program's end -/

/-- What START writes to the registers of engine `e` before it looks at LEN. -/
def startWrites (e a : Nat) : List (Fld × Nat) := [(TOP.PC e, a), (TOP.P e, 0), (TOP.IA e, 0), (TOP.IB e, 0), (TOP.C e, 0)]

/-- The block as START leaves it before it looks at LEN. -/
def restarted (m : Mod) (e a : Nat) : Mod :=
  ((m.onEng e fun x => { x with ramp := none, wait := 0 }).onEng e fun x => { x with pc := a }).wrAll (startWrites e a)

theorem engCommand_start (m : Mod) (e a : Nat) : m.engCommand e 1 a =
    if (m.restarted e a).rd (TOP.LEN e) ≤ a then (m.restarted e a).engFault e 4
    else ((m.restarted e a).wr (TOP.FCAUSE e) 0).wr (TOP.STATE e) 1 := rfl

/-- START leaves LEN alone. -/
theorem rd_len_restarted (m : Mod) (e a : Nat) : (m.restarted e a).rd (TOP.LEN e) = m.rd (TOP.LEN e) := by
  refine rd_wrAll_other _ _ _ ?_
  simp only [startWrites, List.forall_mem_cons, List.not_mem_nil, false_imp_iff, implies_true, and_true, Fld.key, TOP.LEN, TOP.PC, TOP.P,
    TOP.IA, TOP.IB, TOP.C]
  omega

/-- The block with engine `e` faulted by START, before the event is raised. -/
def startFaulted (m : Mod) (e a : Nat) : Mod :=
  (((m.restarted e a).wr (TOP.STATE e) 3).wr (TOP.FCAUSE e) 4).inc TOP.FAULT_CNT

/-- START at an address past the program faults the engine and raises event 0x0705 (R221, R224). -/
theorem engCommand_start_of_len_le (m : Mod) (e a : Nat) (h : m.rd (TOP.LEN e) ≤ a) : m.engCommand e 1 a =
    (m.startFaulted e a).ledEv 0x19 err 0x0705 [sj e, sj ((m.restarted e a).rd (TOP.PC e)), sj 4] := by
  rw [engCommand_start, rd_len_restarted, if_pos h]
  rfl

theorem watchX_startFaulted (m : Mod) (e a b : Nat) : (m.startFaulted e a).watchX b = m.watchX b := rfl

/-- The registers that a START of engine 0 that faults writes, and those in which its event is counted. -/
def startFaultFlds : List Fld :=
  (startWrites 0 0).map (·.1) ++ [TOP.STATE 0, TOP.FCAUSE 0, TOP.FAULT_CNT, COM.RAISED 0x19, COM.LAST_CODE 0x19]

/-- A START of engine 0 that faults writes no register but these, up to its event's way to the log. -/
theorem rd_countEvt_startFaulted (m : Mod) (g : Fld) (h : ∀ f ∈ startFaultFlds, f.key ≠ g.key) :
    ((m.startFaulted 0 0).countEvt 0x19 0x0705).rd g = m.rd g := by
  obtain ⟨hstart, hfault⟩ := List.forall_mem_append.1 h
  simp only [List.forall_mem_cons] at hfault
  obtain ⟨hstate, hcause, hcnt, hraised, hlast, -⟩ := hfault
  rw [rd_countEvt_other _ _ _ _ hraised hlast, startFaulted, rd_inc_other _ _ _ hcnt, rd_wr_other _ _ _ _ hcause,
    rd_wr_other _ _ _ _ hstate]
  exact rd_wrAll_other _ _ _ fun p hp => hstart _ (List.mem_map_of_mem hp)

/-! #### The state of the refutation -/

/-- The lighting block's link is silent with `n` records held and none lost, and engine 0 has no program. -/
structure SilentHolding (n : Nat) (m : Mod) : Prop where
  silent : (m.watchX 0).silent = true
  held : (m.watchX 0).buf.length = n
  lost : m.rd LED.QEVT_LOST = 0
  len : m.rd (TOP.LEN 0) = 0

/-- With room left, START of engine 0 without a program has one more record held. -/
theorem SilentHolding.start {n : Nat} {m : Mod} (h : SilentHolding n m) (hn : n < 32) :
    SilentHolding (n + 1) (m.engCommand 0 1 0).settle := by
  obtain ⟨hsilent, hheld, hlost, hlen⟩ := h
  have hwatch : ((m.startFaulted 0 0).countEvt 0x19 0x0705).watchX 0 = m.watchX 0 :=
    (watchX_countEvt _ _ _ _).trans (watchX_startFaulted _ _ _ _)
  rw [engCommand_start_of_len_le m 0 0 (Nat.le_of_eq hlen), ledEv_of_room (m.startFaulted 0 0) _ _ _ _ hsilent (hheld ▸ hn)]
  constructor
  · rw [watchX_settle, watchX_onWatch, hwatch, hsilent]
  · rw [watchX_settle, watchX_onWatch, hwatch, List.length_append, hheld, List.length_singleton]
  · rw [rd_settle _ _ (by decide), rd_onWatch, rd_countEvt_startFaulted _ _ (by decide), hlost]
  · rw [rd_settle _ _ (by decide), rd_onWatch, rd_countEvt_startFaulted _ _ (by decide), hlen]

/-- With 32 records held it has the record dropped. -/
theorem SilentHolding.rd_qevtLost_start {m : Mod} (h : SilentHolding 32 m) : (m.engCommand 0 1 0).settle.rd LED.QEVT_LOST = 1 := by
  obtain ⟨hsilent, hheld, hlost, hlen⟩ := h
  rw [engCommand_start_of_len_le m 0 0 (Nat.le_of_eq hlen), ledEv_of_full (m.startFaulted 0 0) _ _ _ _ hsilent (Nat.le_of_eq hheld.symm),
    rd_settle _ _ (by decide), rd_inc_same, rd_countEvt_startFaulted _ _ (by decide), hlost]
  rfl

/-- The block after reset with the heartbeat watch armed and SAFE set: Safe stands already, and a silence finds no sink to act on. -/
def armedSafe : Mod := (({} : Mod).wr LED.SAFE 1).wr LED.WATCH 1

/-- The block after its link has fallen silent, which is the first record held (R215), and `n` STARTs of engine 0 after that. -/
def silentStarts : Nat → Mod
  | 0 => (armedSafe.blockSilence ledW).settle
  | n + 1 => ((silentStarts n).engCommand 0 1 0).settle

/-- HEARTBEAT_SILENCE makes the link silent. -/
theorem silentStarts_zero_reached : exec (.heartbeatSilence .lighting) ⟨armedSafe, []⟩ = .next ⟨silentStarts 0, []⟩ := rfl

/-- Each START is a command of the model. -/
theorem silentStarts_succ_reached (n : Nat) : exec (.start 0 0) ⟨silentStarts n, []⟩ = .next ⟨silentStarts (n + 1), []⟩ := rfl

theorem silentHolding_silentStarts_zero : SilentHolding 1 (silentStarts 0) := ⟨by decide, by decide, by decide, by decide⟩

theorem silentHolding_silentStarts : ∀ n : Nat, n ≤ 31 → SilentHolding (n + 1) (silentStarts n)
  | 0, _ => silentHolding_silentStarts_zero
  | n + 1, hn => (silentHolding_silentStarts n (by omega)).start (by omega)

/-- Refutes O25: with 32 records held over a silent link, START of an engine without a program faults it and counts the dropped record
in LED.QEVT_LOST (R215, Table 07-4). The statement lets no register change but those of the TOP page and of the event log's. In the state
that HEARTBEAT_SILENCE and 31 STARTs of engine 0 leave QEVT_LOST is 0, and the next START makes it 1. -/
theorem not_enginesActAndCompute : ¬ Obligations.EnginesActAndCompute := by
  unfold Obligations.EnginesActAndCompute
  intro h
  obtain ⟨hcommands, -⟩ := h
  obtain ⟨-, -, -, hpastEnd, -⟩ := hcommands ⟨silentStarts 31, []⟩ 0
  have hfull : SilentHolding 32 (silentStarts 31) := silentHolding_silentStarts 31 (Nat.le_refl 31)
  obtain ⟨-, -, -, -, hpages⟩ := State.Runs.of_next (exec_start 0 0 _) (hpastEnd 0 (Nat.le_of_eq hfull.len))
  have hkept : ((silentStarts 31).engCommand 0 1 0).settle.rd LED.QEVT_LOST = (silentStarts 31).rd LED.QEVT_LOST :=
    hpages LED.QEVT_LOST (by decide) (by decide)
  rw [hfull.rd_qevtLost_start, hfull.lost] at hkept
  exact Nat.one_ne_zero hkept

end Mod
end Sys2Proof.Machine

/-! ### The step, the reset, the shown registers

Every command ends by bringing the shown registers up to date (`exec_next`, `derived_settle`), so what a step leaves is Settled. -/
namespace Sys2Proof.Machine
open Reg

namespace Mod

theorem derivedKeys_nodup : derivedKeys.Nodup := by decide

/-- Settling brings every shown register up to date, whatever the block. -/
theorem settled_settle (m : Mod) : m.settle.Settled := by
  intro p hp
  rw [derived_settle] at hp
  exact rd_wrAll_same m.derived m p hp (derived_keys m ▸ derivedKeys_nodup)

end Mod

/-- A command's outcome is Settled and keeps the queue. -/
theorem exec_settled (i : Instr) (s : State) : ∃ t, exec i s = .next t ∧ t.Settled ∧ t.pending = s.pending := by
  obtain ⟨f, hf⟩ := exec_next i s
  exact ⟨_, hf, Mod.settled_settle _, rfl⟩

theorem step_cons (i : Instr) (l : List Instr) (s : State) (h : s.pending = i :: l) : step s = exec i { s with pending := l } := by
  simp only [step, h]

theorem step_nil (s : State) (h : s.pending = []) : step s = .next s := by
  simp only [step, h]

/-- Settles O3: the last act of every command brings the shown registers up to date. -/
theorem stepShowsItsState : Obligations.StepShowsItsState := by
  unfold Obligations.StepShowsItsState
  intro s t hqueue hstep
  obtain ⟨i, l, hl⟩ := List.exists_cons_of_ne_nil hqueue
  obtain ⟨u, hu, hsettled, -⟩ := exec_settled i { s with pending := l }
  rw [step_cons i l s hl, hu] at hstep
  exact Host.Outcome.next.inj hstep ▸ hsettled

/-- Settles O1. -/
theorem stepRunsFrontCommand : Obligations.StepRunsFrontCommand := by
  unfold Obligations.StepRunsFrontCommand
  refine ⟨step_cons, step_nil, fun i s => ?_⟩
  obtain ⟨t, ht, -, hpending⟩ := exec_settled i s
  exact ⟨t, ht, hpending⟩

namespace Mod

theorem byte_of_mem_nil (m : Mod) (a : Nat) (h : m.mem = []) : m.byte a = (blankByte a).toNat := by
  simp [byte, h, SMap.get]

end Mod

theorem settled_reset : State.reset.Settled := by
  unfold State.Settled Mod.Settled
  decide

/-- Settles O2. -/
theorem resetShowsItsState : Obligations.ResetShowsItsState := by
  unfold Obligations.ResetShowsItsState
  refine ⟨settled_reset, Mod.memWf_reset, rfl, rfl, rfl, fun _ => rfl, fun a => ?_⟩
  rw [Mod.byte_of_mem_nil _ _ rfl, blankByte]
  split <;> rfl

end Sys2Proof.Machine

/-! ### Writes of the pair (R403, R484) -/
namespace Sys2Proof.Machine
open Reg

namespace Mod

/-- With room in the commit queue a write of the pair only joins it. -/
theorem queued_pairCommit (m : Mod) (a v : Nat) (hroom : m.pair.w0.cq.length < 256) : m.Queued a v (m.pairCommit a v).settle := by
  have hcommit : m.pairCommit a v = m.onWorker false fun w => { w with cq := w.cq ++ [⟨a, v, 4⟩] } := if_pos hroom
  rw [hcommit]
  refine ⟨by simp [onWorker, onPair], by simp [onWorker, onPair], ?_, ?_⟩
  · rw [settle_regs_only]
    rfl
  · exact (KeepsRegs.of_regs _ m m _ (KeepsRegs.refl _ _) rfl).settle

/-- A write command of the pair to a register of a mapped page is its store. -/
theorem regCommand_pair (m : Mod) (pg off v mask : Nat) (hpage : mapped pg = true) :
    m.regCommand pg off v mask .pair = m.pairCommit (regAddr pg off) (m.heldWord pg off &&& (0xFFFFFFFF ^^^ mask) ||| v &&& mask) := by
  simp [regCommand, hpage]

/-- SYS.CTL holds no bit that a store must carry. -/
theorem heldWord_sysCtl (m : Mod) : m.heldWord 0x00 0x100 = 0 := rfl

end Mod

theorem and_fullMask (v : Word) : v.toNat &&& 0xFFFFFFFF = v.toNat := by
  rw [show 0xFFFFFFFF = 2 ^ 32 - 1 from rfl, Nat.and_two_pow_sub_one_eq_mod]
  exact Nat.mod_eq_of_lt v.isLt

/-- Settles O4: every one of these commands is one store of the pair. -/
theorem pairWritesJoinCommitQueue : Obligations.PairWritesJoinCommitQueue := by
  unfold Obligations.PairWritesJoinCommitQueue
  intro s hroom
  have hqueued : ∀ (i : Instr) (a v : Nat), exec i s = (s.next fun m => m.pairCommit a v) → s.Runs i (Mod.Queued (a) (v)) :=
    fun i a v hexec => s.runs_next i _ _ hexec (Mod.queued_pairCommit s.mod a v hroom)
  refine ⟨fun _ _ _ => hqueued _ _ _ rfl, fun _ _ => hqueued _ _ _ rfl, fun _ => hqueued _ _ _ rfl, fun _ _ => hqueued _ _ _ rfl,
    fun _ _ _ => hqueued _ _ _ rfl, fun _ => hqueued _ _ _ rfl, hqueued _ _ _ rfl, fun _ => hqueued _ _ _ rfl, fun _ => hqueued _ _ _ rfl,
    ?_, ?_, ?_⟩
  · refine s.runs_next _ (fun m => m.regCommand 0x00 0x100 0xD1 0xFF .pair) _ rfl ?_
    rw [Mod.regCommand_pair _ _ _ _ _ (by decide), Mod.heldWord_sysCtl]
    exact Mod.queued_pairCommit _ _ _ hroom
  · intro pg word v hpage
    refine s.runs_next _ (fun m => m.regCommand pg (4 * word) v.toNat 0xFFFFFFFF .pair) _ rfl ?_
    rw [Mod.regCommand_pair _ _ _ _ _ hpage, Nat.xor_self, Nat.and_zero, Nat.zero_or, and_fullMask]
    exact Mod.queued_pairCommit _ _ _ hroom
  · intro copy rod word v hopen
    refine s.runs_next _ _ _ rfl ?_
    simp only [hopen]
    exact Mod.queued_pairCommit _ _ _ hroom

end Sys2Proof.Machine

/-! ### Requested tests that end under another command: BUSY_N on the DIA page

BUSY_N counts the requested tests that run across the module (Table 05-7). It stands on the DIA page, and what turns an output off,
suspends a channel's tests or completes an evaluation ends a requested test (R171, R173, R181). The statements of chapters 3 and 4
about those commands let only the quadrant's page and the event log's change. -/
namespace Sys2Proof.Machine

namespace Mod
open Reg

theorem OnlyPages.rd_busyN {l : List Nat} {m t : Mod} (h : m.OnlyPages l t) (hpage : 0x14 ∉ l) :
    t.rd DIA.BUSY_N = m.rd DIA.BUSY_N :=
  h DIA.BUSY_N hpage fun _ hf hk => busyN_not_derived (hk ▸ List.mem_map_of_mem hf)

/-- The block in which OFF_OL of output 0 of quadrant 0 is the first command after reset. -/
def offTested : Mod := (({} : Mod).diagRequest 0 0 0).settle

theorem offTested_reached : exec (.offOl 0 0) State.reset = .next ⟨offTested, []⟩ := rfl

theorem rd_busyN_offTested : offTested.rd DIA.BUSY_N = 1 := by decide

/-- The block after reset with output 0 of quadrant 0 on with its `nCells` cells, the heartbeat watch armed and one value enough
for a verdict. -/
def outputOn : Mod := (((({} : Mod).wr (HQ.OUT 0 0) 1).wr (HQ.CELLS_ON 0 0) (nCells 0)).wr (HQ.WATCH 0) 1).wr (HQ.OL_CNT 0 0) 1

/-- The block that ON_CHK leaves there. -/
def onTested : Mod := (outputOn.diagRequest 0 0 2).settle

theorem onTested_reached : exec (.onChk 0 0) ⟨outputOn, []⟩ = .next ⟨onTested, []⟩ := rfl

theorem rd_busyN_onTested : onTested.rd DIA.BUSY_N = 1 := by decide

theorem rd_busyN_convert_onTested : (onTested.convert 0 0 0 0 0).settle.rd DIA.BUSY_N = 0 := by decide

/-- Refutes O12: a conversion that completes a requested on-state check (R171) lowers DIA.BUSY_N. -/
theorem not_pwmAndConversionsReachRegisters : ¬ Obligations.PwmAndConversionsReachRegisters := by
  unfold Obligations.PwmAndConversionsReachRegisters
  intro h
  obtain ⟨-, hconv⟩ := h
  obtain ⟨hsense, -⟩ := hconv ⟨onTested, []⟩ 0 0
  obtain ⟨-, -, -, -, -, hpages⟩ := State.Runs.of_next rfl (hsense 0 0 0 rfl)
  have hkept := (hpages.rd_busyN (by decide)).trans rd_busyN_onTested
  exact absurd (rd_busyN_convert_onTested.symm.trans hkept) (by decide)

set_option maxRecDepth 20000 in
theorem rd_busyN_thermal_onTested : (onTested.thermal 0 0).settle.rd DIA.BUSY_N = 0 := by decide

/-- Refutes O13: a thermal shutdown turns the output off, which ends a requested on-state check (R173) and lowers DIA.BUSY_N. -/
theorem not_tripsCountPauseAndLatch : ¬ Obligations.TripsCountPauseAndLatch := by
  unfold Obligations.TripsCountPauseAndLatch
  intro h
  obtain ⟨-, -, -, -, -, -, -, hthermal, -⟩ := h ⟨onTested, []⟩ 0 0
  obtain ⟨-, -, -, -, hpages⟩ := State.Runs.of_next rfl hthermal
  have hkept := (hpages.rd_busyN (by decide)).trans rd_busyN_onTested
  exact absurd (rd_busyN_thermal_onTested.symm.trans hkept) (by decide)

set_option maxRecDepth 20000 in
theorem rd_busyN_sagBegin_offTested : ((offTested.feedSeen 0 0).sagBegin 0 0).settle.rd DIA.BUSY_N = 0 := by decide

/-- Refutes O14: a sag suspends the tests of its quadrant (R181), which ends a requested off-state test and lowers DIA.BUSY_N. -/
theorem not_feedSupervisionActs : ¬ Obligations.FeedSupervisionActs := by
  unfold Obligations.FeedSupervisionActs
  intro h
  obtain ⟨hsag, -⟩ := h ⟨offTested, []⟩ 0
  obtain ⟨-, -, -, -, -, -, -, hpages⟩ := State.Runs.of_next rfl (hsag 0 (by decide))
  have hkept := (hpages.rd_busyN (by decide)).trans rd_busyN_offTested
  exact absurd (rd_busyN_sagBegin_offTested.symm.trans hkept) (by decide)

theorem rd_busyN_reverseCurrent_offTested : (offTested.reverseCurrent 0 0 1000).settle.rd DIA.BUSY_N = 0 := by decide

/-- Refutes O15: a reverse current enhances the output (R152), which aborts a requested off-state test and lowers DIA.BUSY_N. -/
theorem not_windowClampAndReverseEvents : ¬ Obligations.WindowClampAndReverseEvents := by
  unfold Obligations.WindowClampAndReverseEvents
  intro h
  obtain ⟨-, -, hreverse, -⟩ := h ⟨offTested, []⟩ 0 0
  obtain ⟨-, -, -, -, -, hpages⟩ := State.Runs.of_next rfl (hreverse 1000 rfl (by decide) (by decide))
  have hkept := (hpages.rd_busyN (by decide)).trans rd_busyN_offTested
  exact absurd (rd_busyN_reverseCurrent_offTested.symm.trans hkept) (by decide)

set_option maxRecDepth 20000 in
theorem rd_busyN_quadSilence_onTested : (onTested.quadSilence 0).settle.rd DIA.BUSY_N = 0 := by decide

/-- Refutes O22: Safe turns an output of a quadrant off (R158), which ends a requested on-state check (R173) and lowers DIA.BUSY_N. -/
theorem not_silenceAndLimitAssertSafe : ¬ Obligations.SilenceAndLimitAssertSafe := by
  unfold Obligations.SilenceAndLimitAssertSafe
  intro h
  obtain ⟨hsilence, -⟩ := h ⟨onTested, []⟩
  obtain ⟨-, -, -, -, hpages⟩ := State.Runs.of_next rfl (hsilence 0 (by decide))
  have hkept := (hpages.rd_busyN (by decide)).trans rd_busyN_onTested
  exact absurd (rd_busyN_quadSilence_onTested.symm.trans hkept) (by decide)

theorem rd_busyN_cancel_offTested : (offTested.diagRequest 0 0 4).settle.rd DIA.BUSY_N = 0 := by decide

/-- Refutes O23: CANCEL ends the requested test, which takes it out of DIA.BUSY_N (Table 05-7); the statement's list leaves that
register out. -/
theorem not_diagnosticRequestsStart : ¬ Obligations.DiagnosticRequestsStart := by
  unfold Obligations.DiagnosticRequestsStart
  intro h
  obtain ⟨-, -, -, -, -, hcancel, -⟩ := h ⟨offTested, []⟩ 0 0
  obtain ⟨-, -, -, hkeeps⟩ := State.Runs.of_next rfl (hcancel (by decide))
  have hkept := (hkeeps DIA.BUSY_N (by decide)).trans rd_busyN_offTested
  exact absurd (rd_busyN_cancel_offTested.symm.trans hkept) (by decide)

end Mod
end Sys2Proof.Machine

/-! ### A register that lists a value beyond its field

A command stores every value cut to the width of its field. The statements are about every block, also one that lists a wider value, and
a write that stores such a register again cuts it. -/
namespace Sys2Proof.Machine

namespace Mod
open Reg

/-- A block with the FRM key open whose TAB_NEXT, one bit, lists 2. -/
def wideTable : Mod := { regs := [(COM.KEY 0x0A |>.key, 1), (FRM.TAB_NEXT.key, 2)] }

/-- A write of RUN stores the rest of its word as it stands, each field in its width (R13). -/
theorem tabNext_run_wideTable : (wideTable.regCommand 0x0A 0x100 1 1 .vinko).settle.rd FRM.TAB_NEXT = 0 := by decide

/-- Refutes O6: RUN is written with the rest of its word, TAB_NEXT in its one bit, and the statement has TAB_NEXT keep its value, with no
bound on it. It fails where the block before lists a value beyond the field. -/
theorem not_windowsWriteAtOnce : ¬ Obligations.WindowsWriteAtOnce := by
  unfold Obligations.WindowsWriteAtOnce
  intro h
  obtain ⟨hframe, -⟩ := h
  obtain ⟨hstart, -⟩ := hframe ⟨wideTable, []⟩
  obtain ⟨-, -, -, -, -, hkeeps⟩ := State.Runs.of_next rfl (hstart (by decide) (by decide))
  have hkept := hkeeps FRM.TAB_NEXT (by decide)
  exact absurd (tabNext_run_wideTable.symm.trans hkept) (by decide)

/-- A block with every domain asleep whose DOM_WAKING lists 2^32, which its field cannot hold. -/
def wideWaking : Mod := { regs := [(PWR.DOM_STAT.key, 0), (PWR.DOM_WAKING.key, 2 ^ 32)] }

/-- The write that starts the wake of the domain of HQ0 cuts the value to its field. -/
theorem domWaking_write_wideWaking : (wideWaking.regCommand 0x10 0x100 0 0 .vinko).settle.rd PWR.DOM_WAKING = 2 ^ 24 := by decide

/-- Refutes O7: a write that starts the wake of a domain stores DOM_WAKING in its width, and the statement has the value before, with no
bound on it, joined by the domain's bit. It fails where the block before holds a value beyond the field. -/
theorem not_registerAccessCodesHold : ¬ Obligations.RegisterAccessCodesHold := by
  unfold Obligations.RegisterAccessCodesHold
  intro h
  obtain ⟨-, -, -, -, hasleep⟩ := h ⟨wideWaking, []⟩ 0x10 (by decide)
  obtain ⟨hwaking, -⟩ := State.Runs.of_next rfl (hasleep 0x40 0 0 (by decide) (by decide) (by decide))
  exact absurd (domWaking_write_wideWaking.symm.trans hwaking) (by decide)

end Mod
end Sys2Proof.Machine

/-! ### A request of a routed input group that finds the admission queue full (R62, R63) -/
namespace Sys2Proof.Machine

namespace Mod
open Reg

/-- A request of a route, as it waits in the admission queue. -/
def waitingReq : Req :=
  { cls := 8, notify := false, source := 0x41, ref := 0, rel := 0, target := 0, act0 := 0, act1 := 0, via := .route 0, admTick := 0 }

/-- A tick in which slot 0 runs a rod of one bead, input 0 has had an edge, its group is routed, and 32 requests wait for admission. -/
def routedEdge : Mod :=
  { ({} : Mod).wr FRM.RUNNING 1 with
    frm := { fetched := true, slots := [(0, { loaded := true, count := 1 })] }
    fio := { edges := 1 }
    prm := { queue := List.replicate 32 waitingReq }
    img := { routes := [{ num := 0, kind := 2, src := 0, dst := 0, rel := 0, act0 := 0 }] } }

theorem beadDue_routedEdge : routedEdge.beadDue 0 0 := by
  unfold Mod.beadDue
  decide

/-- Refutes O9: the edge that SAMP_DI captures of a routed group is a request (R62), which is refused and counted in PRM.REFUSE_CNT
where 32 are waiting (R63). The statement lets SAMP_DI change the sample slot alone. -/
theorem not_sampleBeadsCapture : ¬ Obligations.SampleBeadsCapture := by
  unfold Obligations.SampleBeadsCapture
  intro h
  obtain ⟨hinput, -⟩ := h ⟨routedEdge, []⟩ 0 0 beadDue_routedEdge
  obtain ⟨-, -, -, hkeeps⟩ := State.Runs.of_next rfl (hinput 0 0 (by decide))
  have hkept := hkeeps PRM.REFUSE_CNT (by decide)
  exact absurd hkept (by decide)

end Mod
end Sys2Proof.Machine

/-! ### A frame that starts at the boundary (R83) -/
namespace Sys2Proof.Machine

namespace Mod

/-- The block with a frame on port 2 that started at the boundary just passed. -/
def frameAtBoundary : Mod := ({} : Mod).envStart 2 true

/-- Refutes O21: a frame that starts at the boundary which ends an interval belongs to the interval which opens there (R83). The
statement has the count of the interval that opens at 0 in every state. -/
theorem not_promisesAreJudgedAndRequestsDecided : ¬ Obligations.PromisesAreJudgedAndRequestsDecided := by
  unfold Obligations.PromisesAreJudgedAndRequestsDecided
  intro h
  obtain ⟨-, -, -, -, hinterval⟩ := h ⟨frameAtBoundary, []⟩
  obtain ⟨-, -, -, hframes, -⟩ := State.Runs.of_next rfl (hinterval 0)
  exact absurd hframes (by decide)

end Mod
end Sys2Proof.Machine

/-! ### The boundary on which the pair restarts in another bank (R469) -/
namespace Sys2Proof.Machine

namespace Mod

/-- A block in a live handover whose old image has written EXPORT_DONE in this tick. -/
def exportWritten : Mod := { upd := { phase := 3, ctl := 1 } }

set_option maxRecDepth 20000 in
/-- The boundary restarts the pair after it has raised the tick's interrupt. -/
theorem irq_tickBoundary_exportWritten : (exportWritten.tickBoundary []).settle.pair.w0.irq = false := by decide

/-- Refutes O18: the boundary that acts on EXPORT_DONE restarts the pair, and a pair that restarts has no interrupt pending. The statement
has every boundary in Run leave the tick's interrupt raised. -/
theorem not_tickPhasesAdvance : ¬ Obligations.TickPhasesAdvance := by
  unfold Obligations.TickPhasesAdvance
  intro h
  obtain ⟨hboundary, -⟩ := h ⟨exportWritten, []⟩
  obtain ⟨-, -, hraised⟩ := State.Runs.of_next rfl (hboundary [] (by decide) (by decide))
  dsimp only at hraised
  rw [irq_tickBoundary_exportWritten] at hraised
  exact absurd (hraised (by decide)) Bool.false_ne_true

end Mod
end Sys2Proof.Machine

/-! ### The lighting block's own queue of events (R237) -/
namespace Sys2Proof.Machine

namespace Mod
open Reg

/-- A block whose engine 0 runs past the end of its program, with the heartbeat of the lighting block silent and 32 events held. -/
def silentEngine : Mod :=
  { ({} : Mod).wr (TOP.STATE 0) 1 with
    watches := [(0, { silent := true, buf := List.replicate 32 (({} : Mod).mkEvt 0x19 info 0x0704 []) })] }

set_option maxRecDepth 20000 in
theorem qevtLost_enginesLocal_silentEngine : silentEngine.enginesLocal.settle.rd LED.QEVT_LOST = 1 := by decide

/-- Refutes O26: the local step of an engine that faults reports it, and a report that the silent block has no room for counts in
LED.QEVT_LOST (R237), on a page that the statement leaves out. -/
theorem not_rampsSensorsAndColourTargets : ¬ Obligations.RampsSensorsAndColourTargets := by
  unfold Obligations.RampsSensorsAndColourTargets
  intro h
  obtain ⟨hramps, -⟩ := h
  obtain ⟨-, -, hlocal, -⟩ := hramps ⟨silentEngine, []⟩
  obtain ⟨-, -, -, hpages⟩ := State.Runs.of_next rfl (hlocal (by intro t own ht; exact absurd ht (by simp [silentEngine, wr])))
  have hkept := hpages LED.QEVT_LOST (by decide) (by decide)
  exact absurd (qevtLost_enginesLocal_silentEngine.symm.trans hkept) (by decide)

end Mod
end Sys2Proof.Machine

/-! ### A bus wake at a port whose power domain sleeps (R286, R313, R365) -/
namespace Sys2Proof.Machine

namespace Mod
open Reg

/-- A block with every power domain asleep and the wake of one port enabled. -/
def sleepingPort (p : Nat) : Mod := { regs := [(PWR.DOM_STAT.key, 0), ((TRX.WAKE_EN (portPage p)).key, 1)] }

theorem domWaking_busWake_sleepingPort : ((sleepingPort 4).busWakeSeen 4 false).settle.rd PWR.DOM_WAKING = 2 ^ 4 := by decide

/-- Refutes O33: a bus wake starts the wake of the port's power domain where that sleeps, which DOM_WAKING of the PWR page shows. The
statement lets the port's page and the event page change alone. -/
theorem not_transceiversChangeAndWake : ¬ Obligations.TransceiversChangeAndWake := by
  unfold Obligations.TransceiversChangeAndWake
  intro h
  obtain ⟨-, hevents⟩ := h
  obtain ⟨-, hwake, -⟩ := hevents ⟨sleepingPort 4, []⟩
  obtain ⟨-, -, -, -, -, -, hpages⟩ :=
    State.Runs.of_next rfl (hwake 4 (by decide) (by decide) (by decide) (by decide) { occ := 0, sof := false })
  have hkept := hpages PWR.DOM_WAKING (by decide) (by decide)
  exact absurd (domWaking_busWake_sleepingPort.symm.trans hkept) (by decide)

theorem domWaking_podlWake_sleepingPort : ((sleepingPort 0).busWakeSeen 0 true).settle.rd PWR.DOM_WAKING = 1 := by decide

/-- Refutes O38: power that appears on a sleeping backbone port starts the wake of the port's power domain where that sleeps, which
DOM_WAKING of the PWR page shows. The statement lets the port's page and the event page change alone. -/
theorem not_backboneLinksChange : ¬ Obligations.BackboneLinksChange := by
  unfold Obligations.BackboneLinksChange
  intro h
  obtain ⟨-, -, -, hpower, -⟩ := h ⟨sleepingPort 0, []⟩ 0
  obtain ⟨-, -, -, -, -, -, -, hpages⟩ := State.Runs.of_next rfl (hpower (by decide) (by decide) (by decide))
  have hkept := hpages PWR.DOM_WAKING (by decide) (by decide)
  exact absurd (domWaking_podlWake_sleepingPort.symm.trans hkept) (by decide)

end Mod
end Sys2Proof.Machine

/-! ### A frame switched to the host port (R316, R317) -/
namespace Sys2Proof.Machine

namespace Mod
open Reg

/-- A block with TS0 in Normal whose switch has address 0 at the host port, egress 4, the buffer of which is full. -/
def fullHostPort : Mod :=
  { ({} : Mod).wr (TRX.STATE 0x38) 3 with ets := { macs := [(0, 4)], queues := [(32, [40960])] } }

/-- A frame to address 0. -/
def frameToHost : EthFrame := { dst := 0, src := 0, etype := 0 }

/-- Refutes O35: a frame that the switch sends to the host port and has no buffer for counts in that port's DROP_CNT, the fifth of the
five (R317). The statement lists those of four ports. -/
theorem not_t1sSegmentsServeAndCount : ¬ Obligations.T1sSegmentsServeAndCount := by
  unfold Obligations.T1sSegmentsServeAndCount
  intro h
  obtain ⟨-, -, -, -, -, hreceive⟩ := h ⟨fullHostPort, []⟩ 0
  obtain ⟨-, hdone⟩ := State.Runs.of_next rfl (hreceive frameToHost { occ := 0, sof := false })
  rw [if_pos (by decide)] at hdone
  obtain ⟨-, hkeeps⟩ := hdone
  have hkept := hkeeps (ETS.DROP_CNT 4 0) (by decide)
  exact absurd hkept (by decide)

end Mod
end Sys2Proof.Machine

/-! ### Content that waits for the end of an attempt (R277) -/
namespace Sys2Proof.Machine

namespace Mod
open Reg

/-- A block whose engine 0 is in Prepare Bus-Sleep while its controller sends the XL object 0, which has pool slot 0, and a shorter
frame from MOV_E2C waits for the end of the attempt. -/
def shorterContentWaits : Mod :=
  ({ regs := [((NM.NM_EN 0).key, 1), ((NM.STATE 0).key, 5), (OBJ.POOL_FREE.key, 1535)]
     poolUsed := [0]
     cans := [(0, { sending := some 0, deferred := [.inr ({ id := 0, ide := false }, 0)] })] : Mod }.store
    (Machine.objAddr 0 + 4) 4 128).store (Machine.objAddr 0 + 20) 4 (2 ^ 11)

set_option maxRecDepth 20000 in
theorem poolFree_pbsTimer_shorterContentWaits : (shorterContentWaits.nmExpire 0 5).settle.rd OBJ.POOL_FREE = 1536 := by decide

/-- Refutes O36: an engine that enters Bus Sleep ends the attempt of its controller, and the content that waited for it is written then
(R277); a shorter one gives slots of the pool back, which OBJ.POOL_FREE shows. The statement leaves that register out. -/
theorem not_networkTimersAndRequests : ¬ Obligations.NetworkTimersAndRequests := by
  unfold Obligations.NetworkTimersAndRequests
  intro h
  obtain ⟨htimers, -⟩ := h
  obtain ⟨-, -, hsleep, -⟩ := htimers ⟨shorterContentWaits, []⟩ 0 (by decide) (by decide)
  have hdone := State.Runs.of_next rfl (hsleep (by decide) (by decide) (by decide))
  rw [if_pos (by decide)] at hdone
  obtain ⟨-, -, -, -, hkeeps⟩ := hdone
  have hkept := hkeeps OBJ.POOL_FREE (by decide)
  exact absurd (poolFree_pbsTimer_shorterContentWaits.symm.trans hkept) (by decide)

/-- A promise of class CAN_TX (3) that is open. -/
def openTxw : Promise := { num := 7, cls := 3, source := 0, ref := 0, deadline := 100, notify := false, target := 0, bead := 7 }

/-- A block whose controller 0 integrates, with an attempt of object 0 not over, its queue empty, and the content of an open promise
waiting for the end of the attempt. -/
def promisedContentWaits : Mod :=
  { regs := [((CAN.MODE 0).key, 1), ((CAN.ERRST 0).key, 3), ((TRX.STATE 0x20).key, 3)]
    prm := { open_ := [openTxw] }
    cans := [(0, { sending := some 0, deferred := [.inr ({ id := 0, ide := false }, 7)] })] : Mod }.store
    (Machine.objAddr 0 + 8) 4 (3 * 2 ^ 16)

theorem keptCnt_canEnter_promisedContentWaits : (promisedContentWaits.canEnter 0 0).settle.rd PRM.KEPT_CNT = 1 := by decide

/-- Refutes O32: an object enters the queue with the promise of the content that waits for it, which is kept then and counted in
PRM.KEPT_CNT. The statement asks that the content stored carries no open promise, which says nothing of the content that waits. -/
theorem not_transmissionAndErrorConfinement : ¬ Obligations.TransmissionAndErrorConfinement := by
  unfold Obligations.TransmissionAndErrorConfinement
  intro h
  obtain ⟨hqueue, -⟩ := h ⟨promisedContentWaits, []⟩ 0
  obtain ⟨-, -, -, -, hkeeps⟩ := State.Runs.of_next rfl
    (hqueue 0 (by decide) (by decide) (by decide) (by decide) (by decide) (by decide) (by decide) (by decide))
  have hkept := hkeeps PRM.KEPT_CNT (by decide)
  exact absurd (keptCnt_canEnter_promisedContentWaits.symm.trans hkept) (by decide)

end Mod
end Sys2Proof.Machine

/-! ### Transactions of an initiator: what the statements about PROMISE and REVOKE leave out (R63, R460) -/
namespace Sys2Proof.Machine

namespace Mod
open Reg

/-- A block that hears initiator 0 on BB0, with window 0 of type `ty`, enabled and open to the initiator. -/
def heardWindow (ty : Nat) : Mod :=
  { regs := [((BB.EN 0).key, 1), ((BB.LINK 0).key, 1), ((BB.SEC_EN 0).key, 0), (VNK.EN.key, 1), ((VNK.INIT_EN 0).key, 1),
      ((VNK.WIN_TYPE 0).key, ty), ((VNK.WIN_EN 0).key, 1), ((VNK.INIT_MASK 0).key, 1), ((VNK.WIN_RD 0).key, 1), ((VNK.WIN_WR 0).key, 1)] }

/-- A request of initiator 0 to window 0. -/
def plainReq : VnkReq := { port := 0, mac := 0, seq := 0, win := 0 }

theorem hears_heardWindow_promise : (heardWindow 1).Hears plainReq 0 := by
  unfold Mod.Hears
  decide

theorem grants_heardWindow_promise : (heardWindow 1).Grants plainReq 0 1 := by
  unfold Mod.Grants
  decide

set_option maxRecDepth 20000 in
/-- A PROMISE of class CAN_TX (3). -/
theorem queue_promise_canTx : ((heardWindow 1).vnkIntake plainReq 8
    (([3, 0, 0, 0] : List Word).flatMap (fun v => beBytes 4 v.toNat) ++ ([] : List Byte).map (·.toNat)) 0 id).settle.prm.queue = [] := by decide

/-- Refutes O43: a PROMISE of class CAN_TX or CAN_TXW is decided at once and does not enter the admission queue (R63). The statement has
every PROMISE join the queue, whatever its class. -/
theorem not_vinkoPromisesTimeoutsPrefetch : ¬ Obligations.VinkoPromisesTimeoutsPrefetch := by
  unfold Obligations.VinkoPromisesTimeoutsPrefetch
  intro h
  obtain ⟨hpromise, -⟩ := h ⟨heardWindow 1, []⟩
  obtain ⟨⟨e, hqueue, -⟩, -⟩ := State.Runs.of_next rfl (hpromise plainReq 0 3 0 0 0 0 hears_heardWindow_promise
    grants_heardWindow_promise (by decide) (by decide) (by decide) (by decide))
  exact absurd (queue_promise_canTx.symm.trans hqueue) (by simp [heardWindow])

/-- An open session of initiator 0 in a block whose OTP holds two keys and SPLIT_DIS, which PAIR.STAT does not show yet. -/
def unshownSplit : Mod :=
  { heardWindow 5 with
    regs := (UPD.HOLDER_PORT.key, 0) :: (UPD.HOLDER_SLOT.key, 0) :: (heardWindow 5).regs
    sec := { otp := [(0x100, 3), (0x10C, 1)] } }

theorem hears_unshownSplit : unshownSplit.Hears plainReq 0 := by
  unfold Mod.Hears
  decide

theorem grants_unshownSplit : unshownSplit.Grants plainReq 0 5 := by
  unfold Mod.Grants
  decide

set_option maxRecDepth 20000 in
theorem splitDis_revoke_unshownSplit : (unshownSplit.updIntake plainReq 9 [(BitVec.ofNat 8 0).toNat] true).settle.rd PAIR.SPLIT_DIS = 1 := by decide

/-- Refutes O57: a REVOKE has every register that shows the OTP brought up to date, PAIR.STAT.SPLIT_DIS among them, whose page the
statement leaves out. It fails where the block before does not show that bit of the OTP. -/
theorem not_updateTransactionsAct : ¬ Obligations.UpdateTransactionsAct := by
  unfold Obligations.UpdateTransactionsAct
  intro h
  obtain ⟨-, -, -, -, hholder⟩ := h ⟨unshownSplit, []⟩ plainReq 0 hears_unshownSplit grants_unshownSplit (by decide) (by decide)
  obtain ⟨-, -, -, -, -, hrevoke⟩ := hholder (by decide) (by decide) (by decide) (by decide) (by decide)
  obtain ⟨-, -, -, -, -, hpages⟩ := State.Runs.of_next rfl (hrevoke 0 1 (by decide) (by decide) (by unfold Mod.Room; decide))
  have hkept := hpages PAIR.SPLIT_DIS (by decide) (by decide)
  exact absurd (splitDis_revoke_unshownSplit.symm.trans hkept) (by decide)

end Mod
end Sys2Proof.Machine

/-! ### Power states (R377, R378, R385, R469) -/
namespace Sys2Proof.Machine

namespace Mod
open Reg

/-- A block that has voted for a power state while a live handover has been abandoned. -/
def votedInHandover : Mod := { upd := { phase := 6 }, pwr := { vote := 1 } }

set_option maxRecDepth 20000 in
/-- The boundary that ends the handover lets admission resume. -/
theorem draining_tickBoundary_votedInHandover : (votedInHandover.tickBoundary []).settle.rd PRM.DRAINING = 0 := by decide

/-- Refutes O46: the boundary that accepts the change also ends an abandoned handover, after it, and that clears DRAINING. The
statement has DRAINING set after every boundary that accepts a change. -/
theorem not_powerRequestsAreVoted : ¬ Obligations.PowerRequestsAreVoted := by
  unfold Obligations.PowerRequestsAreVoted
  intro h
  obtain ⟨-, haccept, -⟩ := h ⟨votedInHandover, []⟩
  obtain ⟨-, hdraining, -⟩ := State.Runs.of_next rfl (haccept [] (by decide) (by decide) (by decide) (by decide))
  exact absurd (draining_tickBoundary_votedInHandover.symm.trans hdraining) (by decide)

/-- A block at the end of its entry into Park, draining since the request was accepted. -/
def drainedEntry : Mod := { regs := [(PRM.DRAINING.key, 1)], pwr := { phase := 4 } }

set_option maxRecDepth 20000 in
theorem draining_parkDown_drainedEntry : drainedEntry.parkDown.settle.rd PRM.DRAINING = 0 := by decide

/-- Refutes O47: the power-down ends the change, which clears PRM.DRAINING. The statement lets the CLK and PWR pages change alone. -/
theorem not_powerStatesAreEntered : ¬ Obligations.PowerStatesAreEntered := by
  unfold Obligations.PowerStatesAreEntered
  intro h
  obtain ⟨-, -, -, -, -, hdown, -⟩ := h ⟨drainedEntry, []⟩
  obtain ⟨-, -, -, -, -, -, -, -, -, hpages⟩ := State.Runs.of_next rfl (hdown (by decide) (by decide) (by decide))
  have hkept := hpages PRM.DRAINING (by decide) (by decide)
  exact absurd (draining_parkDown_drainedEntry.symm.trans hkept) (by decide)

/-- A block whose port 4 waits for its domain with a request for Normal. -/
def wakingPort : Mod := { regs := [(PWR.DOM_STAT.key, 0), (PWR.DOM_WAKING.key, 2 ^ 4)], trxs := [(4, { queued := some 3 })] }

set_option maxRecDepth 20000 in
theorem busy_domainReady_wakingPort : (wakingPort.domainReady 4).settle.rd (TRX.BUSY 0x20) = 1 := by decide

/-- Refutes O48: a request that waited for the domain of its port starts when that is ready (R352), which the port's page shows. The
statement lets the PWR page and the quadrants' change alone. -/
theorem not_wakesEndPowerStates : ¬ Obligations.WakesEndPowerStates := by
  unfold Obligations.WakesEndPowerStates
  intro h
  obtain ⟨-, -, -, -, -, -, hready⟩ := h ⟨wakingPort, []⟩
  obtain ⟨-, -, -, hpages⟩ := State.Runs.of_next rfl (hready 4 (by decide) (by decide) (by decide) (by decide) (by decide))
  have hkept := hpages (TRX.BUSY 0x20) (by decide) (by decide)
  exact absurd (busy_domainReady_wakingPort.symm.trans hkept) (by decide)

end Mod
end Sys2Proof.Machine

/-! ### A mismatch while the pair holds a lock of an object (R274, R405) -/
namespace Sys2Proof.Machine

namespace Mod
open Reg

/-- A pair at work, without a limit of rollbacks, that holds the lock of object 0 of controller 0. -/
def lockHeld : Mod :=
  { regs := [((CAN.LOCK_OBJ 0).key, 0), (PAIR.RB_LIM.key, 0)], cans := [(0, { lock := some ⟨none, 0, 0, false⟩ })], pair := { w0 := { phase := .work } } }

set_option maxRecDepth 20000 in
theorem lockObj_mismatch_lockHeld : (lockHeld.mismatch 0 0 0).settle.rd (CAN.LOCK_OBJ 0) = 0xFFF := by decide

/-- Refutes O52: a rollback ends the locks that the pair has taken (R274), which LOCK_OBJ of the controller's page shows. The statement
lets the PAIR, FRM and EVT pages change alone. -/
theorem not_pairFaultsAreHandled : ¬ Obligations.PairFaultsAreHandled := by
  unfold Obligations.PairFaultsAreHandled
  intro h
  obtain ⟨hfirst, -⟩ := h ⟨lockHeld, []⟩ (by decide) (by decide) (by unfold Mod.Room; decide)
  obtain ⟨-, -, -, -, -, -, -, -, -, -, -, hpages⟩ := State.Runs.of_next rfl (hfirst 0 0 (by decide) (by decide) (by decide) (by decide))
  have hkept := hpages (CAN.LOCK_OBJ 0) (by decide) (by decide)
  exact absurd (lockObj_mismatch_lockHeld.symm.trans hkept) (by decide)

end Mod
end Sys2Proof.Machine

/-! ### Records, resets and updates (chapters 15 and 16) -/
namespace Sys2Proof.Machine

namespace Mod
open Reg

/-- A block whose MIN_CLASS lists 5000 and whose writer has a record of class 1019 waiting; a class has two bits. -/
def wideClass : Mod :=
  { regs := [(EVT.MIN_CLASS.key, 5000)]
    evt := { intake := [⟨{ tick := 0, page := 0, cls := 1019, code := 0, detail := 0, est := false, trunc := false, rep := 0, seq := 0 }, 0⟩] } }

set_option maxRecDepth 20000 in
theorem filtered_eventRecord_wideClass : ((wideClass.logRead 0 true).takeRec).settle.rd (EVT.FILTERED 1019) = 1 := by decide

/-- Refutes O53: a record below the level counts in the FILTERED of its class, and the one of class 1019, which no record of the block
has, lies beyond the EVT page. It fails where the block before lists a class and a level beyond their two bits. -/
theorem not_eventWriterStoresAndArchives : ¬ Obligations.EventWriterStoresAndArchives := by
  unfold Obligations.EventWriterStoresAndArchives
  intro h
  obtain ⟨-, huncorrectable, -⟩ := h ⟨wideClass, []⟩
  obtain ⟨-, -, -, -, -, -, hpages⟩ := State.Runs.of_next rfl (huncorrectable 0 (by unfold Mod.Room; decide))
  have hkept := hpages (EVT.FILTERED 1019) (by decide) (by decide)
  exact absurd (filtered_eventRecord_wideClass.symm.trans hkept) (by decide)

/-- A block whose OTP has SPLIT_DIS set. -/
def splitFused : Mod := { sec := { otp := [(0x10C, 1)] } }

/-- The field SEC.SPLIT_DIS as page 6 would address it, with an offset beyond the page. -/
def aliasedField : Fld := { SEC.SPLIT_DIS with page := 6, off := 0x110C }

set_option maxRecDepth 20000 in
theorem aliasedField_coldReset_splitFused : splitFused.coldReset.settle.rd aliasedField = 1 := by decide

/-- Refutes O54: the statement exempts the fields that name page 7, and a field of page 6 with an offset beyond its page addresses the
same register, which shows the OTP after a Cold reset. No register of the block is such a field; the statement is about every one. -/
theorem not_resetsKeepWhatTheyMust : ¬ Obligations.ResetsKeepWhatTheyMust := by
  unfold Obligations.ResetsKeepWhatTheyMust
  intro h
  obtain ⟨hcold, -⟩ := h ⟨splitFused, []⟩
  obtain ⟨-, -, -, -, -, -, -, hreset⟩ := State.Runs.of_next rfl hcold
  have hkept := hreset aliasedField (by decide) (by decide) (by decide)
  exact absurd (aliasedField_coldReset_splitFused.symm.trans hkept) (by decide)

/-- A block in Hold after a fallback, with the old image importing. -/
def heldFallback : Mod := { regs := [((HQ.HOLD 0).key, 1)], upd := { phase := 7 } }

set_option maxRecDepth 20000 in
theorem hold_importOk_heldFallback : heldFallback.importOk.settle.rd (HQ.HOLD 0) = 0 := by decide

/-- Refutes O59: the IMPORT_OK of the old image releases the Hold of the fallback (R473), which the pages of the outputs show. The
statement lets UPD.HANDOVER and PRM.DRAINING change alone. -/
theorem not_updateJobsAndHandoverPhases : ¬ Obligations.UpdateJobsAndHandoverPhases := by
  unfold Obligations.UpdateJobsAndHandoverPhases
  intro h
  obtain ⟨-, hphases⟩ := h
  obtain ⟨-, -, -, himport, -⟩ := hphases ⟨heldFallback, []⟩
  obtain ⟨hok, -⟩ := himport (by decide)
  obtain ⟨-, -, -, -, hkeeps⟩ := State.Runs.of_next rfl hok
  have hkept := hkeeps (HQ.HOLD 0) (by decide)
  exact absurd (hold_importOk_heldFallback.symm.trans hkept) (by decide)

/-- A download of the service port's session to bank 1 while slot 0 is still being erased. -/
def erasingDownload : Mod :=
  { regs := [(UPD.SVC_CTRL.key, 0), (UPD.HOLDER_PORT.key, 4), (UPD.HOLDER_SLOT.key, 0xFF), (UPD.STATE.key, 4), (UPD.TARGET.key, 1)]
    upd := { erased := true, erasing := some 2 }, uds := { download := some (0, 1) } }

theorem rsp_transferData_erasingDownload :
    (erasingDownload.udsGuard 0x36 fun m => m.udsTransfer 1 [7]).settle.uds.rsp = [0x7F, 0x36, 0x72] := by decide

/-- Refutes O60: a block of data that arrives while an erase is in progress is refused. The statement has it stored without asking that
none is in progress. -/
theorem not_diagnosticServicesAnswer : ¬ Obligations.DiagnosticServicesAnswer := by
  unfold Obligations.DiagnosticServicesAnswer
  intro h
  obtain ⟨-, -, -, -, -, -, -, -, hheld⟩ := h ⟨erasingDownload, []⟩ (by decide)
  obtain ⟨-, -, htransfer, -⟩ := hheld (by decide) (by decide) (by decide) (by decide)
  obtain ⟨hanswer, -⟩ := State.Runs.of_next rfl
    (htransfer 7 0 1 (by decide) (by decide) (by decide) (by decide) (by decide) (by decide) (by decide) (by decide))
  exact absurd (rsp_transferData_erasingDownload.symm.trans hanswer) (by decide)

end Mod
end Sys2Proof.Machine

/-! ### The frame of an operation: which registers it can change, and which parts of the block -/
namespace Sys2Proof.Machine

namespace Mod
open Reg

/-! #### Keys of fields -/

/-- Fields at different places have different keys. -/
theorem key_ne {p o l w p' o' l' w' r r' : Nat} {a a' : Access} {c c' : ResetClass} {x x' : Fix}
    (h : (p * 4096 + o) * 32 + l ≠ (p' * 4096 + o') * 32 + l') :
    (⟨p, o, l, w, a, c, r, x⟩ : Fld).key ≠ (⟨p', o', l', w', a', c', r', x'⟩ : Fld).key := by
  cases c <;> cases c' <;> simp only [Fld.key, ResetClass.code] <;> omega

/-- The page of a field's key. -/
theorem key_page {p o l w r : Nat} {a : Access} {c : ResetClass} {x : Fix} (ho : o < 4096) (hl : l < 32) :
    (⟨p, o, l, w, a, c, r, x⟩ : Fld).key / 524288 = p := by
  cases c <;> simp only [Fld.key, ResetClass.code] <;> omega

/-- A field lies in a page listed. -/
theorem page_mem {p o l w r : Nat} {a : Access} {c : ResetClass} {x : Fix} {pages : List Nat} (hp : p ∈ pages) (ho : o < 4096) (hl : l < 32) :
    (⟨p, o, l, w, a, c, r, x⟩ : Fld).key / 524288 ∈ pages := by rwa [key_page ho hl]

/-! #### Registers that an operation leaves alone -/

@[simp] theorem rd_of_regs (g : Fld) (t : Mod) (mem evt frm prm chans banks quads dia brs qds pair watches sinks led engs top clr lss cis fio
    img cans trxs lins t1s nms vnk bbs ets pwr boot sec uds upd poolUsed) :
    rd ⟨t.regs, mem, evt, frm, prm, chans, banks, quads, dia, brs, qds, pair, watches, sinks, led, engs, top, clr, lss, cis, fio, img, cans, trxs,
      lins, t1s, nms, vnk, bbs, ets, pwr, boot, sec, uds, upd, poolUsed⟩ g = t.rd g := rfl

/-- The relation looks at the registers alone. -/
@[simp] theorem keepsRegs_of_regs (l : List Fld) (m t : Mod) (mem evt frm prm chans banks quads dia brs qds pair watches sinks led engs top clr
    lss cis fio img cans trxs lins t1s nms vnk bbs ets pwr boot sec uds upd poolUsed) :
    m.KeepsRegs l ⟨t.regs, mem, evt, frm, prm, chans, banks, quads, dia, brs, qds, pair, watches, sinks, led, engs, top, clr, lss, cis, fio,
      img, cans, trxs, lins, t1s, nms, vnk, bbs, ets, pwr, boot, sec, uds, upd, poolUsed⟩ ↔ m.KeepsRegs l t := Iff.rfl

/-- The relation looks at the registers alone. -/
@[simp] theorem onlyPages_of_regs (l : List Nat) (m t : Mod) (mem evt frm prm chans banks quads dia brs qds pair watches sinks led engs top clr
    lss cis fio img cans trxs lins t1s nms vnk bbs ets pwr boot sec uds upd poolUsed) :
    m.OnlyPages l ⟨t.regs, mem, evt, frm, prm, chans, banks, quads, dia, brs, qds, pair, watches, sinks, led, engs, top, clr, lss, cis, fio,
      img, cans, trxs, lins, t1s, nms, vnk, bbs, ets, pwr, boot, sec, uds, upd, poolUsed⟩ ↔ m.OnlyPages l t := Iff.rfl

@[simp] theorem keepsRegs_refl (l : List Fld) (m : Mod) : m.KeepsRegs l m := KeepsRegs.refl l m

theorem keepsRegs_congr {l : List Fld} {m t u : Mod} (h : ∀ g, (∀ f ∈ shown ++ l, f.key ≠ g.key) → u.rd g = t.rd g) :
    m.KeepsRegs l u ↔ m.KeepsRegs l t :=
  ⟨fun hu g hg => (h g hg).symm.trans (hu g hg), fun ht g hg => (h g hg).trans (ht g hg)⟩

theorem KeepsRegs.trans {l : List Fld} {m t u : Mod} (h : m.KeepsRegs l t) (hu : t.KeepsRegs l u) : m.KeepsRegs l u :=
  fun g hg => (hu g hg).trans (h g hg)

theorem KeepsRegs.mono {l k : List Fld} {m t : Mod} (h : m.KeepsRegs l t) (hl : l ⊆ k) : m.KeepsRegs k t :=
  fun g hg => h g fun f hf => hg f (by
    rcases List.mem_append.1 hf with hs | hf
    · exact List.mem_append_left _ hs
    · exact List.mem_append_right _ (hl hf))

@[simp] theorem keepsRegs_settle (l : List Fld) (m t : Mod) : m.KeepsRegs l t.settle ↔ m.KeepsRegs l t :=
  keepsRegs_congr fun g hg => rd_settle _ _ fun hk => by
    obtain ⟨f, hf, he⟩ := List.mem_map.1 hk
    exact hg f (List.mem_append_left _ hf) he

@[simp] theorem keepsRegs_wr {l : List Fld} {f : Fld} (hf : f ∈ l) (m t : Mod) (v : Nat) : m.KeepsRegs l (t.wr f v) ↔ m.KeepsRegs l t :=
  keepsRegs_congr fun _ hg => rd_wr_other _ _ _ _ (hg f (List.mem_append_right _ hf))

@[simp] theorem keepsRegs_wrB {l : List Fld} {f : Fld} (hf : f ∈ l) (m t : Mod) (b : Bool) : m.KeepsRegs l (t.wrB f b) ↔ m.KeepsRegs l t :=
  keepsRegs_wr hf _ _ _

@[simp] theorem keepsRegs_add {l : List Fld} {f : Fld} (hf : f ∈ l) (m t : Mod) (n : Nat) : m.KeepsRegs l (t.add f n) ↔ m.KeepsRegs l t :=
  keepsRegs_wr hf _ _ _

@[simp] theorem keepsRegs_inc {l : List Fld} {f : Fld} (hf : f ∈ l) (m t : Mod) : m.KeepsRegs l (t.inc f) ↔ m.KeepsRegs l t :=
  keepsRegs_wr hf _ _ _

@[simp] theorem keepsRegs_sat {l : List Fld} {f : Fld} (hf : f ∈ l) (m t : Mod) (v : Nat) : m.KeepsRegs l (t.sat f v) ↔ m.KeepsRegs l t :=
  keepsRegs_wr hf _ _ _

@[simp] theorem keepsRegs_wrBit {l : List Fld} {f : Fld} (hf : f ∈ l) (m t : Mod) (i : Nat) (b : Bool) :
    m.KeepsRegs l (t.wrBit f i b) ↔ m.KeepsRegs l t :=
  keepsRegs_congr fun _ hg => rd_wrBit_other _ _ _ _ _ (hg f (List.mem_append_right _ hf))

/-- The register map `r` differs from that of `m` in the fields listed and the shown ones alone. -/
def KeptIn (l : List Fld) (m : Mod) (r : SMap Nat) : Prop := m.KeepsRegs l { m with regs := r }

/-- The relation looks at the registers alone. -/
theorem keepsRegs_iff {l : List Fld} {m t : Mod} : m.KeepsRegs l t ↔ m.KeptIn l t.regs := Iff.rfl

@[simp] theorem keptIn_refl (l : List Fld) (m : Mod) : m.KeptIn l m.regs := keepsRegs_refl l m

@[simp] theorem keptIn_settle (l : List Fld) (m t : Mod) : m.KeptIn l t.settle.regs ↔ m.KeptIn l t.regs := keepsRegs_settle l m t

@[simp] theorem keptIn_wr {l : List Fld} {f : Fld} (hf : f ∈ l) (m t : Mod) (v : Nat) : m.KeptIn l (t.wr f v).regs ↔ m.KeptIn l t.regs :=
  keepsRegs_wr hf m t v

@[simp] theorem keptIn_wrB {l : List Fld} {f : Fld} (hf : f ∈ l) (m t : Mod) (b : Bool) : m.KeptIn l (t.wrB f b).regs ↔ m.KeptIn l t.regs :=
  keepsRegs_wrB hf m t b

@[simp] theorem keptIn_inc {l : List Fld} {f : Fld} (hf : f ∈ l) (m t : Mod) : m.KeptIn l (t.inc f).regs ↔ m.KeptIn l t.regs :=
  keepsRegs_inc hf m t

@[simp] theorem keptIn_add {l : List Fld} {f : Fld} (hf : f ∈ l) (m t : Mod) (n : Nat) : m.KeptIn l (t.add f n).regs ↔ m.KeptIn l t.regs :=
  keepsRegs_add hf m t n

@[simp] theorem keptIn_sat {l : List Fld} {f : Fld} (hf : f ∈ l) (m t : Mod) (v : Nat) : m.KeptIn l (t.sat f v).regs ↔ m.KeptIn l t.regs :=
  keepsRegs_sat hf m t v

@[simp] theorem keptIn_wrBit {l : List Fld} {f : Fld} (hf : f ∈ l) (m t : Mod) (i : Nat) (b : Bool) :
    m.KeptIn l (t.wrBit f i b).regs ↔ m.KeptIn l t.regs := keepsRegs_wrBit hf m t i b

/-! #### Registers of pages -/

@[simp] theorem onlyPages_refl (l : List Nat) (m : Mod) : m.OnlyPages l m := fun _ _ _ => rfl

theorem onlyPages_congr {l : List Nat} {m t u : Mod} (h : ∀ g : Fld, g.key / 524288 ∉ l → (∀ f ∈ shown, f.key ≠ g.key) → u.rd g = t.rd g) :
    m.OnlyPages l u ↔ m.OnlyPages l t :=
  ⟨fun hu g hp hg => (h g hp hg).symm.trans (hu g hp hg), fun ht g hp hg => (h g hp hg).trans (ht g hp hg)⟩

theorem OnlyPages.trans {l : List Nat} {m t u : Mod} (h : m.OnlyPages l t) (hu : t.OnlyPages l u) : m.OnlyPages l u :=
  fun g hp hg => (hu g hp hg).trans (h g hp hg)

theorem OnlyPages.mono {l k : List Nat} {m t : Mod} (h : m.OnlyPages l t) (hl : l ⊆ k) : m.OnlyPages k t :=
  fun g hp hg => h g (fun hm => hp (hl hm)) hg

@[simp] theorem onlyPages_settle (l : List Nat) (m t : Mod) : m.OnlyPages l t.settle ↔ m.OnlyPages l t :=
  onlyPages_congr fun g _ hg => rd_settle _ _ fun hk => by
    obtain ⟨f, hf, he⟩ := List.mem_map.1 hk
    exact hg f hf he

@[simp] theorem onlyPages_wr {l : List Nat} {f : Fld} (hf : f.key / 524288 ∈ l) (m t : Mod) (v : Nat) :
    m.OnlyPages l (t.wr f v) ↔ m.OnlyPages l t :=
  onlyPages_congr fun _ hp _ => rd_wr_other _ _ _ _ fun he => hp (he ▸ hf)

@[simp] theorem onlyPages_wrB {l : List Nat} {f : Fld} (hf : f.key / 524288 ∈ l) (m t : Mod) (b : Bool) :
    m.OnlyPages l (t.wrB f b) ↔ m.OnlyPages l t := onlyPages_wr hf _ _ _

@[simp] theorem onlyPages_add {l : List Nat} {f : Fld} (hf : f.key / 524288 ∈ l) (m t : Mod) (n : Nat) :
    m.OnlyPages l (t.add f n) ↔ m.OnlyPages l t := onlyPages_wr hf _ _ _

@[simp] theorem onlyPages_inc {l : List Nat} {f : Fld} (hf : f.key / 524288 ∈ l) (m t : Mod) :
    m.OnlyPages l (t.inc f) ↔ m.OnlyPages l t := onlyPages_wr hf _ _ _

@[simp] theorem onlyPages_wrBit {l : List Nat} {f : Fld} (hf : f.key / 524288 ∈ l) (m t : Mod) (i : Nat) (b : Bool) :
    m.OnlyPages l (t.wrBit f i b) ↔ m.OnlyPages l t :=
  onlyPages_congr fun _ hp _ => rd_wrBit_other _ _ _ _ _ fun he => hp (he ▸ hf)

/-- Fields listed lie in the pages listed. -/
theorem KeepsRegs.onlyPages {l : List Fld} {p : List Nat} {m t : Mod} (h : m.KeepsRegs l t) (hl : ∀ f ∈ l, f.key / 524288 ∈ p) : m.OnlyPages p t :=
  fun g hp hg => h g fun f hf he => by
    rcases List.mem_append.1 hf with hs | hf
    · exact hg f hs he
    · exact hp (he ▸ hl f hf)

/-! #### The raising of an event -/

theorem dropped_only (m : Mod) (c : Nat) : m.dropped c = { m with regs := (m.dropped c).regs, evt := (m.dropped c).evt } := rfl

theorem intake_only (m : Mod) (e : EvtIn) : m.intake e = { m with regs := (m.intake e).regs, evt := (m.intake e).evt } := by
  by_cases hroom : m.evt.intake.length < 64
  · simp only [intake, hroom, if_true]
  · simp only [intake, hroom, if_false]
    cases (if e.body.cls = crit then lowestBelowCrit m.evt.intake else none) <;> rfl

theorem countEvt_only (m : Mod) (pg code : Nat) : m.countEvt pg code = { m with regs := (m.countEvt pg code).regs } := by
  unfold countEvt
  split <;> rfl

theorem probationEvt_only (m : Mod) (pg cls : Nat) : m.probationEvt pg cls = { m with upd := (m.probationEvt pg cls).upd } := by
  unfold probationEvt
  split <;> rfl

/-- The raising of an event changes registers, the writer's queue and what a probation has seen, and no other part of the block. -/
theorem ev_only (m : Mod) (pg cls code : Nat) (items : List Item) : m.ev pg cls code items =
    { m with regs := (m.ev pg cls code items).regs, evt := (m.ev pg cls code items).evt, upd := (m.ev pg cls code items).upd } := by
  unfold ev
  rw [probationEvt_only, intake_only, countEvt_only]

@[simp] theorem ev_mem (m : Mod) (pg cls code : Nat) (l : List Item) : (m.ev pg cls code l).mem = m.mem := by rw [ev_only]
@[simp] theorem ev_frm (m : Mod) (pg cls code : Nat) (l : List Item) : (m.ev pg cls code l).frm = m.frm := by rw [ev_only]
@[simp] theorem ev_prm (m : Mod) (pg cls code : Nat) (l : List Item) : (m.ev pg cls code l).prm = m.prm := by rw [ev_only]
@[simp] theorem ev_chans (m : Mod) (pg cls code : Nat) (l : List Item) : (m.ev pg cls code l).chans = m.chans := by rw [ev_only]
@[simp] theorem ev_banks (m : Mod) (pg cls code : Nat) (l : List Item) : (m.ev pg cls code l).banks = m.banks := by rw [ev_only]
@[simp] theorem ev_quads (m : Mod) (pg cls code : Nat) (l : List Item) : (m.ev pg cls code l).quads = m.quads := by rw [ev_only]
@[simp] theorem ev_dia (m : Mod) (pg cls code : Nat) (l : List Item) : (m.ev pg cls code l).dia = m.dia := by rw [ev_only]
@[simp] theorem ev_brs (m : Mod) (pg cls code : Nat) (l : List Item) : (m.ev pg cls code l).brs = m.brs := by rw [ev_only]
@[simp] theorem ev_qds (m : Mod) (pg cls code : Nat) (l : List Item) : (m.ev pg cls code l).qds = m.qds := by rw [ev_only]
@[simp] theorem ev_pair (m : Mod) (pg cls code : Nat) (l : List Item) : (m.ev pg cls code l).pair = m.pair := by rw [ev_only]
@[simp] theorem ev_watches (m : Mod) (pg cls code : Nat) (l : List Item) : (m.ev pg cls code l).watches = m.watches := by rw [ev_only]
@[simp] theorem ev_sinks (m : Mod) (pg cls code : Nat) (l : List Item) : (m.ev pg cls code l).sinks = m.sinks := by rw [ev_only]
@[simp] theorem ev_led (m : Mod) (pg cls code : Nat) (l : List Item) : (m.ev pg cls code l).led = m.led := by rw [ev_only]
@[simp] theorem ev_engs (m : Mod) (pg cls code : Nat) (l : List Item) : (m.ev pg cls code l).engs = m.engs := by rw [ev_only]
@[simp] theorem ev_top (m : Mod) (pg cls code : Nat) (l : List Item) : (m.ev pg cls code l).top = m.top := by rw [ev_only]
@[simp] theorem ev_clr (m : Mod) (pg cls code : Nat) (l : List Item) : (m.ev pg cls code l).clr = m.clr := by rw [ev_only]
@[simp] theorem ev_lss (m : Mod) (pg cls code : Nat) (l : List Item) : (m.ev pg cls code l).lss = m.lss := by rw [ev_only]
@[simp] theorem ev_cis (m : Mod) (pg cls code : Nat) (l : List Item) : (m.ev pg cls code l).cis = m.cis := by rw [ev_only]
@[simp] theorem ev_fio (m : Mod) (pg cls code : Nat) (l : List Item) : (m.ev pg cls code l).fio = m.fio := by rw [ev_only]
@[simp] theorem ev_img (m : Mod) (pg cls code : Nat) (l : List Item) : (m.ev pg cls code l).img = m.img := by rw [ev_only]
@[simp] theorem ev_cans (m : Mod) (pg cls code : Nat) (l : List Item) : (m.ev pg cls code l).cans = m.cans := by rw [ev_only]
@[simp] theorem ev_trxs (m : Mod) (pg cls code : Nat) (l : List Item) : (m.ev pg cls code l).trxs = m.trxs := by rw [ev_only]
@[simp] theorem ev_lins (m : Mod) (pg cls code : Nat) (l : List Item) : (m.ev pg cls code l).lins = m.lins := by rw [ev_only]
@[simp] theorem ev_t1s (m : Mod) (pg cls code : Nat) (l : List Item) : (m.ev pg cls code l).t1s = m.t1s := by rw [ev_only]
@[simp] theorem ev_nms (m : Mod) (pg cls code : Nat) (l : List Item) : (m.ev pg cls code l).nms = m.nms := by rw [ev_only]
@[simp] theorem ev_vnk (m : Mod) (pg cls code : Nat) (l : List Item) : (m.ev pg cls code l).vnk = m.vnk := by rw [ev_only]
@[simp] theorem ev_bbs (m : Mod) (pg cls code : Nat) (l : List Item) : (m.ev pg cls code l).bbs = m.bbs := by rw [ev_only]
@[simp] theorem ev_ets (m : Mod) (pg cls code : Nat) (l : List Item) : (m.ev pg cls code l).ets = m.ets := by rw [ev_only]
@[simp] theorem ev_pwr (m : Mod) (pg cls code : Nat) (l : List Item) : (m.ev pg cls code l).pwr = m.pwr := by rw [ev_only]
@[simp] theorem ev_boot (m : Mod) (pg cls code : Nat) (l : List Item) : (m.ev pg cls code l).boot = m.boot := by rw [ev_only]
@[simp] theorem ev_sec (m : Mod) (pg cls code : Nat) (l : List Item) : (m.ev pg cls code l).sec = m.sec := by rw [ev_only]
@[simp] theorem ev_uds (m : Mod) (pg cls code : Nat) (l : List Item) : (m.ev pg cls code l).uds = m.uds := by rw [ev_only]
@[simp] theorem ev_poolUsed (m : Mod) (pg cls code : Nat) (l : List Item) : (m.ev pg cls code l).poolUsed = m.poolUsed := by rw [ev_only]

@[simp] theorem countEvt_evt (m : Mod) (pg code : Nat) : (m.countEvt pg code).evt = m.evt := by rw [countEvt_only]

@[simp] theorem countEvt_upd (m : Mod) (pg code : Nat) : (m.countEvt pg code).upd = m.upd := by rw [countEvt_only]

@[simp] theorem countEvt_tick (m : Mod) (pg code : Nat) : (m.countEvt pg code).tick = m.tick := by rw [countEvt_only]; rfl

@[simp] theorem ev_tick (m : Mod) (pg cls code : Nat) (l : List Item) : (m.ev pg cls code l).tick = m.tick := congrArg FrmX.tick (ev_frm ..)

theorem probationEvt_evt (m : Mod) (pg cls : Nat) : (m.probationEvt pg cls).evt = m.evt := by rw [probationEvt_only]

theorem probationEvt_regs (m : Mod) (pg cls : Nat) : (m.probationEvt pg cls).regs = m.regs := by rw [probationEvt_only]

theorem intake_upd (m : Mod) (e : EvtIn) : (m.intake e).upd = m.upd := by rw [intake_only]

/-- With room in the writer's queue the record joins it. -/
theorem intake_of_room (m : Mod) (e : EvtIn) (h : m.evt.intake.length < 64) :
    m.intake e = { m with evt := { m.evt with intake := m.evt.intake ++ [e] } } := by simp only [intake, h, if_true]

/-- A record is stamped with the tick and nothing else of the block. -/
theorem mkEvt_of_tick {m t : Mod} (h : t.tick = m.tick) (pg cls code : Nat) (l : List Item) : t.mkEvt pg cls code l = m.mkEvt pg cls code l := by
  simp only [mkEvt, h]

/-- With room in the writer's queue the event joins it. -/
theorem ev_intake (m : Mod) (pg cls code : Nat) (l : List Item) (h : m.evt.intake.length < 64) :
    (m.ev pg cls code l).evt = { m.evt with intake := m.evt.intake ++ [m.mkEvt pg cls code l] } := by
  unfold ev
  rw [probationEvt_evt, intake_of_room _ _ (by simpa using h)]
  simp

/-- An event below Critical fails no probation. -/
theorem ev_upd (m : Mod) (pg cls code : Nat) (l : List Item) (h : cls ≠ crit) : (m.ev pg cls code l).upd = m.upd := by
  unfold ev probationEvt
  rw [if_neg fun hc => h hc.1, intake_upd, countEvt_upd]

theorem rd_dropped_other (m : Mod) (c : Nat) (g : Fld) (h : (EVT.DROPPED c).key ≠ g.key) : (m.dropped c).rd g = m.rd g :=
  rd_inc_other _ _ _ h

theorem lowestBelowCrit_lt (q : List EvtIn) (c : Nat) (h : lowestBelowCrit q = some c) : c < 3 := by
  unfold lowestBelowCrit at h
  have hcls : c = info ∨ c = warn ∨ c = err := by
    split at h
    · exact .inl (Option.some.inj h).symm
    split at h
    · exact .inr (.inl (Option.some.inj h).symm)
    split at h
    · exact .inr (.inr (Option.some.inj h).symm)
    · cases h
  rcases hcls with rfl | rfl | rfl <;> decide

theorem rd_intake_other (m : Mod) (e : EvtIn) (g : Fld) (hc : e.body.cls < 4) (hfull : EVT.INTAKE_FULL_CNT.key ≠ g.key)
    (hdrop : ∀ c, c < 4 → (EVT.DROPPED c).key ≠ g.key) : (m.intake e).rd g = m.rd g := by
  by_cases hroom : m.evt.intake.length < 64
  · rw [intake_of_room _ _ hroom]; rfl
  · simp only [intake, hroom, if_false]
    cases hlow : (if e.body.cls = crit then lowestBelowCrit m.evt.intake else none) with
    | none => rw [rd_dropped_other _ _ _ (hdrop _ hc), rd_inc_other _ _ _ hfull]
    | some c =>
      have hlt : c < 3 := lowestBelowCrit_lt m.evt.intake c (by split at hlow <;> simp_all)
      rw [rd_of_regs, rd_dropped_other _ _ _ (hdrop c (by omega)), rd_inc_other _ _ _ hfull]

/-- The raising of an event changes no register but those that count it. -/
theorem rd_ev_other (m : Mod) (pg cls code : Nat) (l : List Item) (g : Fld) (hc : cls < 4) (h : ∀ f ∈ evtFlds pg, f.key ≠ g.key) :
    (m.ev pg cls code l).rd g = m.rd g := by
  have hprob (t : Mod) : (t.probationEvt pg cls).rd g = t.rd g := by simp only [rd, probationEvt_regs]
  unfold ev
  rw [hprob, rd_intake_other _ _ _ hc (h _ (by simp [evtFlds])), rd_countEvt_other _ _ _ _ (h _ (by simp [evtFlds])) (h _ (by simp [evtFlds]))]
  intro c hlt
  obtain rfl | rfl | rfl | rfl : c = 0 ∨ c = 1 ∨ c = 2 ∨ c = 3 := by omega
  all_goals exact h _ (by simp [evtFlds])

/-- An event's registers are among those listed. -/
theorem keepsRegs_ev {l : List Fld} {pg cls : Nat} (hl : evtFlds pg ⊆ l) (hc : cls < 4) (m t : Mod) (code : Nat) (items : List Item) :
    m.KeepsRegs l (t.ev pg cls code items) ↔ m.KeepsRegs l t :=
  keepsRegs_congr fun _ hg => rd_ev_other _ _ _ _ _ _ hc fun _ hf => hg _ (List.mem_append_right _ (hl hf))

/-- An event's registers are among those listed. -/
@[simp] theorem keptIn_ev {l : List Fld} {pg cls : Nat} (hl : evtFlds pg ⊆ l) (hc : cls < 4) (m t : Mod) (code : Nat) (items : List Item) :
    m.KeptIn l (t.ev pg cls code items).regs ↔ m.KeptIn l t.regs := keepsRegs_ev hl hc m t code items

/-- An event's registers lie in its page and the event log's. -/
theorem onlyPages_ev {l : List Nat} {pg cls : Nat} (hpg : pg ∈ l) (hevt : 0x08 ∈ l) (hc : cls < 4) (m t : Mod) (code : Nat)
    (items : List Item) : m.OnlyPages l (t.ev pg cls code items) ↔ m.OnlyPages l t :=
  onlyPages_congr fun g hp _ => rd_ev_other _ _ _ _ _ _ hc fun f hf he => by
    refine hp (he ▸ ?_)
    simp only [evtFlds, List.mem_cons, List.not_mem_nil, or_false] at hf
    rcases hf with rfl | rfl | rfl | rfl | rfl | rfl | rfl
    · exact page_mem hpg (by omega) (by omega)
    · exact page_mem hpg (by omega) (by omega)
    all_goals exact page_mem hevt (by omega) (by omega)

end Mod

end Sys2Proof.Machine

/-! ### Words of memory (R8) -/
namespace Sys2Proof.Machine

namespace Mod

theorem store_only (n : Nat) : ∀ (m : Mod) (a v : Nat), m.store a n v = { m with mem := (m.store a n v).mem } := by
  induction n with
  | zero => intro m a v; rfl
  | succ n ih =>
    intro m a v
    rw [store, ih]
    rfl

@[simp] theorem store_regs (m : Mod) (a n v : Nat) : (m.store a n v).regs = m.regs := by rw [store_only]

@[simp] theorem store_pair (m : Mod) (a n v : Nat) : (m.store a n v).pair = m.pair := by rw [store_only]

theorem byte_congr {m t : Mod} (h : t.mem = m.mem) (a : Nat) : t.byte a = m.byte a := by rw [byte, h, byte]

theorem load_succ (m : Mod) (a n : Nat) : m.load a (n + 1) = m.byte a + 256 * m.load (a + 1) n := rfl

theorem load_congr {m t : Mod} (h : t.mem = m.mem) (a n : Nat) : t.load a n = m.load a n := by
  induction n generalizing a with
  | zero => rfl
  | succ n ih => rw [load_succ, load_succ, ih, byte_congr h]

/-- A number reads back what was stored, cut to its bytes. -/
theorem load_store_same (n : Nat) : ∀ (m : Mod) (a v : Nat), (m.store a n v).load a n = v % 2 ^ (8 * n) := by
  induction n with
  | zero => intro m a v; simp [load, bytes, Nat.mod_one]
  | succ n ih =>
    intro m a v
    rw [load_succ, store, ih, byte_store_other _ _ _ _ _ (by omega), byte_setByte_same, Nat.mod_mod, show 8 * (n + 1) = 8 + 8 * n by omega,
      Nat.pow_add, Nat.mod_mul]

end Mod

end Sys2Proof.Machine

/-! ### The length of a tick (R26 to R28) -/
namespace Sys2Proof.Machine

namespace Mod
open Reg

/-- A stopped Frame assembles nothing. -/
theorem assemble_of_stopped (m : Mod) (bad : List Nat) (h : m.rd FRM.RUNNING = 0) : m.assemble bad = m := by
  simp [assemble, on, h]

/-- With nothing staged there is nothing to merge. -/
theorem mergeBeads_of_none (m : Mod) (h : m.frm.staged = []) : m.mergeBeads = m := by
  have hfrm : { m.frm with staged := [] } = m.frm := by rw [← h]
  have hmerge : m.mergeBeads = { m with frm := { m.frm with staged := [] } } := by simp [mergeBeads, h, onFrm]
  rw [hmerge, hfrm]

/-- The tick with its length and the rest of the frequency correction. -/
def withLength (m : Mod) (len : Nat) (acc : Int) : Mod := m.onFrm fun x => { x with tickLen := len, freqAcc := acc }

/-- Without a slew the frequency correction alone makes the length. -/
theorem tickAdjust_of_no_slew (m : Mod) (first : Bool) (h : ¬ ((m.rd FRM.SYNC = 1 ∨ m.rd FRM.SYNC = 2) ∧ m.rd FRM.SLEW_LEFT ≠ 0)) :
    m.tickAdjust first = m.withLength (2000 + m.freqCycle).toNat (m.freqDue - m.freqCycle * 1000000) := by
  have hkeep : (if first = true ∧ 0 = m.freqCycle then 0 else m.freqCycle) = m.freqCycle := by
    split
    · next hfirst => exact hfirst.2
    · rfl
  simp only [tickAdjust, h, if_false, hkeep, ne_eq, not_true_eq_false, false_and, decide_false, Bool.false_eq_true, withLength]

/-- A slew with no cycle of the frequency correction due makes the length, and one less is left of it. -/
theorem tickAdjust_of_slew (m : Mod) (first : Bool) (hsync : m.rd FRM.SYNC = 2) (hleft : m.rd FRM.SLEW_LEFT ≠ 0) (hcycle : m.freqCycle = 0) :
    ∃ acc, m.tickAdjust first =
      (m.wr FRM.SLEW_LEFT (m.rd FRM.SLEW_LEFT - 1)).withLength (if m.rd FRM.PHASE_ERR < 32768 then 2001 else 1999) acc := by
  by_cases hsign : m.rd FRM.PHASE_ERR < 32768 <;> exact ⟨_, by simp [tickAdjust, hsync, hleft, hcycle, hsign, withLength]; rfl⟩

/-- The tick with its image frozen, and nothing staged for the next. -/
def withImage (m : Mod) (image : Option HeldTick) : Mod := m.onFrm fun x => { x with image := image, staged := [], done := [], lost := [] }

/-- COMMIT_FREEZE of a stopped Frame with nothing staged corrects the length of the tick and freezes its image. -/
theorem runs_commitFreeze (s : State) (first : Bool) (P : Mod → Mod → Prop) (hstate : s.mod.pstate < 2)
    (hrun : s.mod.rd FRM.RUNNING = 0) (himage : s.mod.frm.image = none) (hstaged : s.mod.frm.staged = [])
    (hP : ∀ image, P s.mod ((s.mod.tickAdjust first).withImage image).settle) : s.Runs (.commitFreeze first) P := by
  refine State.runs_next s _ _ _ rfl ?_
  rw [if_neg (by omega), assemble_of_stopped _ _ hrun, freezeImage, if_neg (by simp [himage]), mergeBeads_of_none _ hstaged]
  exact hP _

/-- The length and the image are no registers. -/
theorem keepsRegs_withLength (m t : Mod) (l : List Fld) (n : Nat) (acc : Int) (image : Option HeldTick) :
    m.KeepsRegs l ((t.withLength n acc).withImage image).settle ↔ m.KeepsRegs l t := by simp only [keepsRegs_settle]; exact Iff.rfl

/-- The registers and the length after a slewed tick. -/
theorem slewed_tick (m : Mod) (n : Nat) (acc : Int) (image : Option HeldTick) :
    let t := (((m.wr FRM.SLEW_LEFT (m.rd FRM.SLEW_LEFT - 1)).withLength n acc).withImage image).settle
    t.frm.tickLen = n ∧ t.rd FRM.SLEW_LEFT = (m.rd FRM.SLEW_LEFT - 1) % 2 ^ FRM.SLEW_LEFT.w ∧ m.KeepsRegs [FRM.SLEW_LEFT] t := by
  refine ⟨by simp [withImage, withLength], ?_, (keepsRegs_withLength ..).2 (by simp)⟩
  rw [rd_settle _ _ (by decide)]
  exact rd_wr_same m _ _

/-- Settles O19: with nothing to assemble the freeze is `tickAdjust`, whose length has a slew's part and a frequency correction's. -/
theorem tickLengthIsCorrected : Obligations.TickLengthIsCorrected := by
  intro s first hstate hrun himage hstaged
  have hfreeze := fun P => runs_commitFreeze s first P hstate hrun himage hstaged
  refine ⟨fun hsync => ?_, fun hsync => ?_, fun hsync hleft hsign hcycle => ?_, fun hsync hleft hsign hcycle => ?_⟩
  · have hcycle : s.mod.freqCycle = 0 := by simp [freqCycle, freqDue, hsync]
    refine hfreeze _ fun image => ?_
    rw [tickAdjust_of_no_slew _ _ (by omega), hcycle]
    exact ⟨by simp [withImage, withLength], (keepsRegs_withLength ..).2 (keepsRegs_refl _ _)⟩
  · have hdue : s.mod.freqDue = s.mod.frm.freqAcc + 2 * s.mod.frm.freq := if_neg (by omega)
    refine hfreeze _ fun image => ?_
    rw [tickAdjust_of_no_slew _ _ (by omega), freqCycle, hdue]
    refine ⟨?_, ?_, by simp [withImage, withLength], (keepsRegs_withLength ..).2 (keepsRegs_refl _ _)⟩
    · simp only [settle_frm, withImage, withLength, onFrm_frm]
      repeat' split
      all_goals omega
    · simp only [settle_frm, withImage, withLength, onFrm_frm]
      repeat' split
      all_goals omega
  · obtain ⟨acc, hadjust⟩ := tickAdjust_of_slew s.mod first hsync hleft hcycle
    refine hfreeze _ fun image => ?_
    rw [hadjust, if_pos hsign]
    exact slewed_tick ..
  · obtain ⟨acc, hadjust⟩ := tickAdjust_of_slew s.mod first hsync hleft hcycle
    refine hfreeze _ fun image => ?_
    rw [hadjust, if_neg (by omega)]
    exact slewed_tick ..

end Mod

end Sys2Proof.Machine

/-! ### OTP words and the test port (R459, R463) -/
namespace Sys2Proof.Machine

/-- Four turns of a loop. -/
theorem forN_four {α : Type} (f : α → Nat → α) (a : α) : forN 4 f a = f (f (f (f a 0) 1) 2) 3 := rfl

namespace Mod
open Reg

/-- The byte of the OTP at an address. -/
def otpByte (m : Mod) (a : Nat) : Nat := (SMap.get 0#8 m.sec.otp a).toNat

/-- An OTP word is its four bytes, the lowest first. -/
theorem otpWord_eq (m : Mod) (a : Nat) :
    m.otpWord a = m.otpByte a + m.otpByte (a + 1) * 256 + m.otpByte (a + 2) * 65536 + m.otpByte (a + 3) * 16777216 := by
  have hturns : m.otpWord a = m.otpByte (a + 0) * 2 ^ (8 * 0) + m.otpByte (a + 1) * 2 ^ (8 * 1) + m.otpByte (a + 2) * 2 ^ (8 * 2) +
      m.otpByte (a + 3) * 2 ^ (8 * 3) := by rw [otpWord, forN_four, Nat.zero_add, otpByte, otpByte, otpByte, otpByte]
  rw [hturns, Nat.add_zero]
  simp only [Nat.mul_one, Nat.reduceMul, Nat.reducePow, Nat.pow_zero]

/-- An OTP word is no matter of the rest of the block. -/
theorem otpWord_congr {m t : Mod} (h : t.sec.otp = m.sec.otp) (a : Nat) : t.otpWord a = m.otpWord a := by rw [otpWord, h, otpWord]

theorem otpWord_lt (m : Mod) (a : Nat) : m.otpWord a < 2 ^ 32 := by
  have hbyte (b : Nat) : m.otpByte b < 256 := (SMap.get 0#8 m.sec.otp b).isLt
  have := hbyte a
  have := hbyte (a + 1)
  have := hbyte (a + 2)
  have := hbyte (a + 3)
  rw [otpWord_eq]
  omega

/-- The OTP after the bits `v` of the word at `a` are set. -/
theorem otpSet_otp (m : Mod) (a v : Nat) : (m.otpSet a v).sec.otp =
    SMap.set 0#8 (SMap.set 0#8 (SMap.set 0#8 (SMap.set 0#8 m.sec.otp (a + 0) (BitVec.ofNat 8 ((m.otpWord a ||| v) / 2 ^ (8 * 0))))
      (a + 1) (BitVec.ofNat 8 ((m.otpWord a ||| v) / 2 ^ (8 * 1)))) (a + 2) (BitVec.ofNat 8 ((m.otpWord a ||| v) / 2 ^ (8 * 2))))
      (a + 3) (BitVec.ofNat 8 ((m.otpWord a ||| v) / 2 ^ (8 * 3))) := by
  simp only [otpSet, onSec]
  rw [forN_four]

/-- The bytes of an OTP word after its bits are set. -/
theorem otpByte_otpSet (m : Mod) (a v : Nat) :
    (m.otpSet a v).otpByte (a + 0) = (m.otpWord a ||| v) / 2 ^ (8 * 0) % 256 ∧
      (m.otpSet a v).otpByte (a + 1) = (m.otpWord a ||| v) / 2 ^ (8 * 1) % 256 ∧
      (m.otpSet a v).otpByte (a + 2) = (m.otpWord a ||| v) / 2 ^ (8 * 2) % 256 ∧
      (m.otpSet a v).otpByte (a + 3) = (m.otpWord a ||| v) / 2 ^ (8 * 3) % 256 := by
  have hget (o : SMap Byte) (i j : Nat) (b : Byte) (hj : j ≠ i) : SMap.get 0#8 (SMap.set 0#8 o (a + j) b) (a + i) = SMap.get 0#8 o (a + i) :=
    SMap.get_set_other _ _ _ _ _ _ (by omega)
  refine ⟨?_, ?_, ?_, ?_⟩
  all_goals
    rw [otpByte, otpSet_otp]
    simp (disch := decide) only [hget, SMap.get_set_same, BitVec.toNat_ofNat]

/-- The bits set in an OTP word are those it had and the new ones. -/
theorem otpWord_otpSet (m : Mod) (a v : Nat) (hv : v < 2 ^ 32) : (m.otpSet a v).otpWord a = m.otpWord a ||| v := by
  have hlt : m.otpWord a ||| v < 2 ^ 32 := Nat.or_lt_two_pow (otpWord_lt m a) hv
  obtain ⟨h0, h1, h2, h3⟩ := otpByte_otpSet m a v
  rw [Nat.add_zero] at h0
  rw [otpWord_eq, h0, h1, h2, h3]
  omega

/-- What SEC and PAIR show of the OTP lies in their two pages. -/
theorem onlyPages_secShow (m : Mod) : m.OnlyPages [0x07, 0x09] m.secShow := by
  simp (disch := decide) only [secShow, onlyPages_wr, onlyPages_refl]

theorem secShow_sec (m : Mod) : m.secShow.sec = m.sec := by unfold secShow; iterate 6 rw [wr_sec]

theorem secShow_mem (m : Mod) : m.secShow.mem = m.mem := by unfold secShow; iterate 6 rw [wr_mem]

/-- What shows the OTP is no flag of the programming command. -/
theorem rd_secShow_busy (m : Mod) : m.secShow.rd SEC.OTP_BUSY = m.rd SEC.OTP_BUSY ∧ m.secShow.rd SEC.OTP_FAIL = m.rd SEC.OTP_FAIL := by
  constructor <;> simp (disch := decide) only [secShow, rd_wr_other]

/-- The setting of OTP bits is no change outside SEC's own state. -/
theorem otpSet_only (m : Mod) (a v : Nat) : m.otpSet a v = { m with sec := (m.otpSet a v).sec } := rfl

/-- The block at the end of a programming command. -/
def programmed (m : Mod) (fail : Bool) : Mod := (((m.onSec fun x => { x with prog := none }).wr SEC.OTP_BUSY 0).wrB SEC.OTP_FAIL fail).secShow

theorem programmed_sec (m : Mod) (fail : Bool) : (m.programmed fail).sec = { m.sec with prog := none } := by
  rw [programmed, secShow_sec, wrB_sec, wr_sec]; rfl

theorem programmed_mem (m : Mod) (fail : Bool) : (m.programmed fail).mem = m.mem := by
  rw [programmed, secShow_mem, wrB_mem, wr_mem]; rfl

theorem onlyPages_programmed (m : Mod) (fail : Bool) : m.OnlyPages [0x07, 0x09] (m.programmed fail) := by
  refine OnlyPages.trans ?_ (onlyPages_secShow _)
  rw [onlyPages_wrB (by decide), onlyPages_wr (by decide)]
  exact onlyPages_refl _ _

theorem rd_programmed (m : Mod) (fail : Bool) :
    (m.programmed fail).rd SEC.OTP_BUSY = 0 ∧ (m.programmed fail).rd SEC.OTP_FAIL = if fail then 1 else 0 := by
  obtain ⟨hbusy, hfail⟩ := rd_secShow_busy (((m.onSec fun x => { x with prog := none }).wr SEC.OTP_BUSY 0).wrB SEC.OTP_FAIL fail)
  refine ⟨hbusy.trans ?_, hfail.trans ?_⟩
  · rw [rd_wrB_other _ _ _ _ (by decide), rd_wr_same]
    rfl
  · rw [rd_wrB_same]
    cases fail <;> rfl

/-- A programming command of a word that the command may set ends with the bits of its word set but for those that stuck. -/
theorem otpDone_eq (m : Mod) (stuck a v : Nat) (hprog : m.sec.prog = some (a, v)) (hheld : otpHeld a = 0) :
    m.otpDone stuck = (m.otpSet a (m.otpWord a ||| v &&& (0xFFFFFFFF ^^^ stuck))).programmed
      (decide ((m.otpWord a ||| v &&& (0xFFFFFFFF ^^^ stuck)) &&& v ≠ v)) := by
  simp only [otpDone, hprog, hheld, Nat.or_zero, programmed]

/-- An open test port. -/
theorem debugOpen_iff (m : Mod) : m.debugOpen = true ↔ m.rd SEC.DEBUG_LOCK = 0 ∨ m.rd SEC.DEBUG_OPEN ≠ 0 := by
  simp [debugOpen, on]

/-- OTP_PROGRAM_DONE of a word that the command may set. -/
theorem runs_otpProgramDone (s : State) (stuck : Word) (a v : Nat) (hprog : s.mod.sec.prog = some (a, v)) (hv : v < 2 ^ 32) (hheld : otpHeld a = 0) :
    s.Runs (.otpProgramDone stuck) (fun m t =>
      let w := m.otpWord a ||| v &&& (0xFFFFFFFF ^^^ stuck.toNat)
      t.sec.prog = none ∧ t.otpWord a = w ∧ t.rd SEC.OTP_BUSY = 0 ∧ (t.rd SEC.OTP_FAIL = if w &&& v = v then 0 else 1) ∧ t.mem = m.mem ∧
        m.OnlyPages [0x07, 0x09] t) := by
  refine State.runs_next s _ _ _ rfl ?_
  rw [otpDone_eq _ _ _ _ hprog hheld]
  generalize hw : s.mod.otpWord a ||| v &&& (0xFFFFFFFF ^^^ stuck.toNat) = w
  have hbits : v &&& (0xFFFFFFFF ^^^ stuck.toNat) < 2 ^ 32 := Nat.lt_of_le_of_lt Nat.and_le_left hv
  have hlt : w < 2 ^ 32 := hw ▸ Nat.or_lt_two_pow (otpWord_lt _ _) hbits
  have hword : (s.mod.otpSet a w).otpWord a = w := by rw [otpWord_otpSet _ _ _ hlt, ← hw, ← Nat.or_assoc, Nat.or_self]
  have honly := otpSet_only s.mod a w
  generalize s.mod.otpSet a w = u at hword honly
  generalize hfail : decide (w &&& v ≠ v) = fail
  obtain ⟨hbusy, hshown⟩ := rd_programmed u fail
  refine ⟨by rw [settle_sec, programmed_sec], ?_, ?_, ?_, ?_, ?_⟩
  · rw [otpWord_congr (m := u) (by rw [settle_sec, programmed_sec]), hword]
  · rw [rd_settle _ _ (by decide), hbusy]
  · rw [rd_settle _ _ (by decide), hshown, ← hfail]
    by_cases hall : w &&& v = v <;> simp [hall]
  · rw [settle_mem, programmed_mem, honly]
  · rw [onlyPages_settle]
    have hsame : s.mod.OnlyPages [0x07, 0x09] u := by
      rw [honly, onlyPages_of_regs]
      exact onlyPages_refl _ _
    exact hsame.trans (onlyPages_programmed u fail)

/-- Settles O56: each command is one change of SEC, the OTP's words taken byte by byte. -/
theorem keysOpenDebug : Obligations.KeysOpenDebug := by
  intro s
  refine ⟨fun c => ?_, fun k hchallenge husable hroom => ?_, fun k ok h => ?_, fun i => ?_, fun stuck a v hprog hv h100 h104 h108 => ?_,
    fun hopen => ⟨?_, ?_⟩, fun hlock hclosed => ?_⟩
  · exact State.runs_next s _ _ _ rfl (by simp [onSec])
  · refine State.runs_next s _ _ _ rfl ?_
    rw [debugAuth, if_pos ⟨hchallenge, husable, rfl⟩]
    refine ⟨?_, by simp [onSec], ?_, by simp [onSec], ?_⟩
    · rw [rd_settle _ _ (by decide), rd_ev_other _ _ _ _ _ _ (by decide) (by decide), rd_wr_same]
      rfl
    · simp only [Reported, settle_evt]
      rw [ev_intake _ _ _ _ _ (by simp [Room] at hroom; simp [onSec]; omega)]
      rfl
    · rw [keepsRegs_settle, keepsRegs_ev (by simp) (by decide), keepsRegs_wr (by simp)]
      exact keepsRegs_refl _ _
  · refine State.runs_next s _ _ _ rfl ?_
    rw [debugAuth, if_neg (by rcases h with h | h <;> simp [h])]
    exact (OnlyRegs.refl _ _).settle _ _ _
  · exact State.runs_next s _ _ _ rfl (by simp [tapTake, onSec, on, apply_ite Fin.val])
  · exact runs_otpProgramDone s stuck a v hprog hv (by simp [otpHeld, h100, h104, h108])
  · refine State.runs_next s _ _ _ rfl ?_
    rw [if_pos ((debugOpen_iff _).2 (by omega))]
    simp
    exact keepsRegs_refl _ _
  · refine State.runs_next s _ _ _ rfl ?_
    rw [if_pos ((debugOpen_iff _).2 (by omega))]
    simp
    exact keepsRegs_refl _ _
  · refine State.runs_next s _ _ _ rfl ?_
    rw [if_neg (by rw [debugOpen_iff]; omega)]
    exact (OnlyRegs.refl _ _).settle _ _ _

end Mod

end Sys2Proof.Machine

/-! ### Instructions of a core (R394 to R397, R400) -/
namespace Sys2Proof.Machine

namespace Mod
open Reg

@[simp] theorem worker_onWorker_same (m : Mod) (h : Bool) (f : Worker → Worker) : (m.onWorker h f).worker h = f (m.worker h) := by cases h <;> rfl

@[simp] theorem worker_settle (m : Mod) (h : Bool) : m.settle.worker h = m.worker h := by simp only [worker, settle_pair]

@[simp] theorem follow_regs (m : Mod) : m.follow.regs = m.regs := by
  unfold follow
  split <;> rfl

@[simp] theorem follow_mem (m : Mod) : m.follow.mem = m.mem := by
  unfold follow
  split <;> rfl

@[simp] theorem follow_evt (m : Mod) : m.follow.evt = m.evt := by
  unfold follow
  split <;> rfl

theorem split_of_regs {m t : Mod} (h : t.regs = m.regs) : t.split = m.split := by simp only [split, on, rd, h]

theorem workTick_of_phase {m t : Mod} {h : Bool} (hworker : (t.worker h).phase = (m.worker h).phase) (htick : (t.worker h).tick = (m.worker h).tick)
    (hmod : t.tick = m.tick) : t.workTick h = m.workTick h := by simp only [workTick, hworker, htick, hmod]

/-- In lockstep there is one core, and the trailing one follows it. -/
theorem follow_of_lockstep (m : Mod) (h : m.split = false) : m.follow.pair.w1.core = m.follow.pair.w0.core := by
  simp [follow, h]

/-- The core that a command names keeps its work when the trailing core follows. -/
theorem worker_follow (m : Mod) (h : Bool) (hpick : m.split = false → h = false) : m.follow.worker h = m.worker h := by
  unfold follow
  split
  · rfl
  · next hsplit =>
    rw [hpick (by simpa using hsplit)]
    rfl

theorem pick_of_lockstep (m : Mod) (holly : Bool) (h : m.split = false) : m.pick holly = false := by simp [pick, h]

/-- From `m` to `t` the core's work has become `w`; registers and memory are as before. -/
def Works (m : Mod) (h : Bool) (w : Worker) (t : Mod) : Prop := t.worker h = w ∧ t.regs = m.regs ∧ t.mem = m.mem

theorem Works.onWorker (m : Mod) (h : Bool) (f : Worker → Worker) : m.Works h (f (m.worker h)) (m.onWorker h f) := by simp [Works]

theorem Works.then {m t u : Mod} {h : Bool} {w v : Worker} (ht : m.Works h w t) (hu : t.Works h v u) : m.Works h v u :=
  ⟨hu.1, hu.2.1.trans ht.2.1, hu.2.2.trans ht.2.2⟩

/-- A command of a core that may execute, with no trap before it that the module records: its instruction is run on what the core has run
before, the trailing core follows in lockstep, and of the registers and memory only what the instruction changes is changed. -/
theorem runs_instr {s : State} {holly : Bool} {r : Ran} {i : Instr} {f : Mod → Bool → Mod} {W : Worker}
    (hexec : exec i s = s.next fun m => m.instr holly r f) (hruns : s.mod.coreRuns (s.mod.pick holly) = true)
    (hearly : s.mod.early (s.mod.pick holly) r = s.mod)
    (hworks : s.mod.Works (s.mod.pick holly) W
      (f (s.mod.onWorker (s.mod.pick holly) fun w => { w with core := w.core.run r }) (s.mod.pick holly))) :
    s.Runs i (fun m t => t.worker (s.mod.pick holly) = W ∧ (m.split = false → t.pair.w1.core = t.pair.w0.core) ∧ t.mem = m.mem ∧ m.KeepsRegs [] t) := by
  obtain ⟨hworker, hregs, hmem⟩ := hworks
  refine State.runs_next s _ _ _ hexec ?_
  simp only [instr, hruns, if_true, hearly]
  have hsplit := split_of_regs hregs
  refine ⟨?_, fun hlock => ?_, ?_, ?_⟩
  · rw [worker_settle, worker_follow _ _ fun hlock => pick_of_lockstep _ _ (hsplit ▸ hlock), hworker]
  · rw [settle_pair, follow_of_lockstep _ (hsplit.trans hlock)]
  · rw [settle_mem, follow_mem, hmem]
  · rw [keepsRegs_settle]
    exact (keepsRegs_refl _ _).of_regs _ _ _ _ ((follow_regs _).trans hregs)

/-! #### What each instruction does to the core's work -/

theorem works_retire (m : Mod) (h : Bool) (r : Ran) :
    m.Works h { m.worker h with core := (m.worker h).core.after r } (m.retire h r) := Works.onWorker m h _

theorem works_trapCore (m : Mod) (h : Bool) (cause tval : Nat) :
    m.Works h { m.worker h with core := (m.worker h).core.trap cause tval } (m.trapCore h cause tval) := Works.onWorker m h _

/-- The work that an ECALL leaves (R397): in User mode the running slice ends, complete. -/
def ecallWork (w : Worker) : Worker :=
  if w.core.user then
    { w with core := w.core.trap 8 0, cur := none, kept := w.kept ++ (w.cur.map (·.prm)).toList.filter (· ≠ 0) }
  else { w with core := w.core.trap 11 0 }

theorem works_ecall (m : Mod) (h : Bool) : m.Works h (ecallWork (m.worker h)) (m.ecall h) := by
  cases huser : (m.worker h).core.user <;> cases hcur : (m.worker h).cur
  · simp [ecall, ecallWork, Works, trapCore, huser, hcur]
  · simp [ecall, ecallWork, Works, trapCore, huser, hcur]
  · simp [ecall, ecallWork, Works, trapCore, huser, hcur]
  · next c => by_cases hprm : c.prm = 0 <;> simp [ecall, ecallWork, Works, trapCore, huser, hcur, hprm]

/-- The end of the tick's work. -/
theorem works_endTick (m : Mod) (h : Bool) : m.Works h { m.worker h with phase := .ended, cur := none } (m.endTick h) := by
  have hend := Works.onWorker m h fun w => { w with phase := .ended, cur := none }
  simp only [endTick]
  split
  · exact hend
  · exact hend.then ⟨by cases h <;> rfl, rfl, rfl⟩

/-- The work that a WFI leaves (R394, R397). -/
def wfiWork (w : Worker) (r : Ran) : Worker :=
  if w.core.user then { w with core := w.core.trap 2 (Config.trapValue 2 r.pc.toNat) }
  else if w.phase = .work then { w with core := w.core.after r, phase := .ended, cur := none } else { w with core := w.core.after r }

theorem works_wfi (m : Mod) (h : Bool) (r : Ran) : m.Works h (wfiWork (m.worker h) r) (m.wfi h r) := by
  unfold wfi wfiWork
  by_cases huser : (m.worker h).core.user = true
  · rw [if_pos huser, if_pos huser]
    exact works_trapCore m h 2 _
  · have hretire := works_retire m h r
    rw [if_neg huser, if_neg huser]
    by_cases hphase : (m.worker h).phase = .work
    · simp only [hphase, if_true]
      simpa only [hretire.1] using hretire.then (works_endTick _ h)
    · simp only [hphase, if_false]
      exact hretire

/-- What a CSR instruction may do: the CSR's value, `none` where the mode may not reach it, or it is written and read-only, or it is
not there (R394). -/
def csrValue (m : Mod) (h : Bool) (a : Nat) (writes : Bool) : Option Nat :=
  let w := m.worker h
  if (w.core.user = true ∧ fld a 9 8 ≠ 0) ∨ (fld a 11 10 = 3 ∧ writes = true) then none
  else w.core.csr (if h then 1 else 0) (m.workTick h) w.irq a

/-- The core after what a CSR instruction writes, where `old` is the CSR's value (R394). -/
def csrWritten (c : CoreX) (a : Nat) (op : CsrOp) (src : Option Nat) (old : Nat) : CoreX :=
  match src with
  | none => c
  | some v => c.setCsr a (match op with
    | .rw => v
    | .rs => old ||| v
    | .rc => old &&& (2 ^ 32 - 1 - v))

/-- A CSR instruction is illegal, or it reads the CSR into `rd` and writes it. -/
theorem csrAccess_eq (m : Mod) (h : Bool) (a rd : Nat) (op : CsrOp) (src : Option Nat) (r : Ran) :
    m.csrAccess h a op src rd r = match m.csrValue h a src.isSome with
      | none => m.illegal h r
      | some old => (m.onWorker h fun w => { w with core := (csrWritten (m.worker h).core a op src old).setReg rd old }).retire h r := by
  simp only [csrAccess, csrValue]
  by_cases hdenied : ((m.worker h).core.user = true ∧ fld a 9 8 ≠ 0) ∨ (fld a 11 10 = 3 ∧ src.isSome = true)
  · rw [if_pos hdenied, if_pos hdenied]
  · rw [if_neg hdenied, if_neg hdenied]
    rfl

/-- The work that a CSR instruction leaves. -/
def csrWork (w : Worker) (r : Ran) (rd : Nat) (value : Option Nat) (c : Nat → CoreX) : Worker :=
  match value with
  | some old => { w with core := ((c old).setReg rd old).after r }
  | none => { w with core := w.core.trap 2 (Config.trapValue 2 r.pc.toNat) }

theorem works_csrAccess (m : Mod) (h : Bool) (a rd : Nat) (op : CsrOp) (src : Option Nat) (r : Ran) :
    m.Works h (csrWork (m.worker h) r rd (m.csrValue h a src.isSome) (csrWritten (m.worker h).core a op src)) (m.csrAccess h a op src rd r) := by
  rw [csrAccess_eq]
  cases m.csrValue h a src.isSome with
  | none => exact works_trapCore m h 2 (Config.trapValue 2 r.pc.toNat)
  | some old => simp [Works, retire, csrWork]

/-- The block once the core has run what it runs before a command's instruction. -/
def ran (m : Mod) (h : Bool) (r : Ran) : Mod := m.onWorker h fun w => { w with core := w.core.run r }

theorem works_ran (m : Mod) (h : Bool) (r : Ran) : m.Works h { m.worker h with core := (m.worker h).core.run r } (m.ran h r) :=
  Works.onWorker m h _

theorem workTick_ran (m : Mod) (h : Bool) (r : Ran) : (m.ran h r).workTick h = m.workTick h :=
  workTick_of_phase (by simp [ran]) (by simp [ran]) rfl

/-- A fetch of an address that is not there is recorded and reported (R485). -/
theorem early_of_fetch (m : Mod) (h : Bool) (r : Ran) (pc a : Word) (htrap : r.trap = some (.fetch pc a false)) (hregion : region a.toNat = .none) :
    m.early h r = m.unmapped a.toNat 0 := by simp [early, htrap, hregion]

@[simp] theorem unmapped_pair (m : Mod) (a src : Nat) : (m.unmapped a src).pair = m.pair := by simp [unmapped]

@[simp] theorem unmapped_mem (m : Mod) (a src : Nat) : (m.unmapped a src).mem = m.mem := by simp [unmapped]

theorem unmapped_evt (m : Mod) (a src : Nat) (hroom : m.Room 1) :
    (m.unmapped a src).evt.intake = m.evt.intake ++ [m.mkEvt 0 err 0x1102 [sj32 a, sj src]] := by
  rw [unmapped, ev_intake _ _ _ _ _ (by exact Nat.lt_of_succ_le hroom), mkEvt_of_tick (m := m) rfl]
  rfl

theorem rd_unmapped (m : Mod) (a src : Nat) : (m.unmapped a src).rd SYS.UNMAP_ADDR = a % 2 ^ 32 ∧
    (m.unmapped a src).rd SYS.UNMAP_CNT = Nat.min (m.rd SYS.UNMAP_CNT + 1) SYS.UNMAP_CNT.max := by
  constructor
  · rw [unmapped, rd_ev_other _ _ _ _ _ _ (by decide) (by decide), rd_wr_same]
    rfl
  · rw [unmapped, rd_ev_other _ _ _ _ _ _ (by decide) (by decide), rd_wr_other _ _ _ _ (by decide), rd_inc_same]

theorem onlyPages_unmapped (m : Mod) (a src : Nat) : m.OnlyPages [0x00, 0x08] (m.unmapped a src) := by
  rw [unmapped, onlyPages_ev (by simp) (by simp) (by decide), onlyPages_wr (by decide), onlyPages_inc (by decide)]
  exact onlyPages_refl _ _

/-- What a core that may execute runs: its instruction on what it has run before, and in lockstep the trailing core follows. -/
theorem instr_of_runs (m : Mod) (holly : Bool) (r : Ran) (f : Mod → Bool → Mod) (hruns : m.coreRuns (m.pick holly) = true) :
    m.instr holly r f =
      (f ((m.early (m.pick holly) r).ran (m.pick holly) r) (m.pick holly)).follow := by
  simp only [instr, hruns, if_true, ran]

theorem split_unmapped (m : Mod) (a src : Nat) : (m.unmapped a src).split = m.split := by
  have hkeep : (m.unmapped a src).rd PAIR.MODE = m.rd PAIR.MODE := onlyPages_unmapped _ _ _ _ (by decide) (by decide)
  simp only [split, on, hkeep]

/-- The block after a FENCE before which a core has met an address that is not there. -/
theorem fence_after_fetch (m : Mod) (h : Bool) (r : Ran) (a : Nat) (hpick : m.split = false → h = false) :
    let t := (((m.unmapped a 0).ran h r).retire h r).follow
    (t.worker h).core = ((m.worker h).core.run r).after r ∧ t.regs = (m.unmapped a 0).regs ∧ t.evt = (m.unmapped a 0).evt ∧ t.mem = m.mem := by
  refine ⟨?_, by simp [retire, ran], by simp [retire, ran], by simp [retire, ran]⟩
  have hsplit : (((m.unmapped a 0).ran h r).retire h r).split = m.split :=
    (split_of_regs rfl).trans (split_unmapped m a 0)
  rw [worker_follow _ _ fun hlock => hpick (hsplit ▸ hlock)]
  have hworker : (m.unmapped a 0).worker h = m.worker h := by simp only [worker, unmapped_pair]
  simp [retire, ran, hworker]

/-- Settles O49: each instruction is a change of its core's work alone, after what the core ran before it. -/
theorem coreInstructionsExecute : Obligations.CoreInstructionsExecute := by
  intro s holly r h w c hruns
  refine ⟨fun pc a htrap hregion hroom => ?_, fun hearly => ?_⟩
  · refine State.runs_next s _ _ _ rfl ?_
    rw [instr_of_runs _ _ _ _ hruns, early_of_fetch _ _ _ _ _ htrap hregion]
    obtain ⟨hcore, hregs, hevt, hmem⟩ := fence_after_fetch s.mod h r a.toNat (pick_of_lockstep s.mod holly)
    obtain ⟨haddr, hcnt⟩ := rd_unmapped s.mod a.toNat 0
    generalize (((s.mod.unmapped a.toNat 0).ran h r).retire h r).follow = t at *
    have hrd (g : Fld) : t.rd g = (s.mod.unmapped a.toNat 0).rd g := by simp only [rd, hregs]
    refine ⟨?_, ?_, ?_, ?_, ?_, ?_⟩
    · rw [worker_settle, hcore]
    · rw [rd_settle _ _ (by decide), hrd, haddr, Nat.mod_eq_of_lt a.isLt]
    · rw [rd_settle _ _ (by decide), hrd, hcnt]
    · rw [Reported, settle_evt, hevt, unmapped_evt _ _ _ hroom]
    · rw [settle_mem, hmem]
    · rw [onlyPages_settle]
      exact fun g hp hg => (hrd g).trans (onlyPages_unmapped _ _ _ g hp hg)
  · have hdoes {i : Instr} {f : Mod → Bool → Mod} {W : Worker} (hexec : exec i s = s.next fun m => m.instr holly r f)
        (hworks : (s.mod.ran h r).Works h W (f (s.mod.ran h r) h)) :=
      runs_instr hexec hruns hearly ((works_ran s.mod h r).then hworks)
    obtain ⟨hran, _, _⟩ := works_ran s.mod h r
    refine ⟨hdoes rfl ?_, hdoes rfl ?_, hdoes rfl ?_, hdoes rfl ?_, hdoes rfl ?_, fun a rd => hdoes rfl ?_, fun a v rd => hdoes rfl ?_⟩
    · have hretire := works_retire (s.mod.ran h r) h r
      rwa [hran] at hretire
    · have hspend := Works.onWorker (s.mod.ran h r) h fun w => { w with core := w.core.spend 7 }
      have hretire := hspend.then (works_retire _ h r)
      rwa [hspend.1, hran] at hretire
    · have htrap := works_trapCore (s.mod.ran h r) h 3 (Config.trapValue 3 r.pc.toNat)
      rwa [hran] at htrap
    · have hecall := works_ecall (s.mod.ran h r) h
      rwa [hran] at hecall
    · have hwfi := works_wfi (s.mod.ran h r) h r
      rwa [hran] at hwfi
    · have hcsr := works_csrAccess (s.mod.ran h r) h a.toNat rd .rs none r
      simp only [csrValue, workTick_ran, Option.isSome_none, and_false, or_false, Bool.false_eq_true] at hcsr
      rwa [hran] at hcsr
    · have hcsr := works_csrAccess (s.mod.ran h r) h a.toNat rd .rw (some v.toNat) r
      simp only [csrValue, workTick_ran, Option.isSome_some, and_true] at hcsr
      rwa [hran] at hcsr

end Mod

end Sys2Proof.Machine

/-! ### Accesses of a core in lockstep (R403, R404, R418) -/
namespace Sys2Proof.Machine

namespace Mod
open Reg

@[simp] theorem follow_w0 (m : Mod) : m.follow.pair.w0 = m.pair.w0 := by
  unfold follow
  split <;> rfl

@[simp] theorem onWorker_undo (m : Mod) (h : Bool) (f : Worker → Worker) : (m.onWorker h f).pair.undo = m.pair.undo := by cases h <;> rfl

@[simp] theorem follow_undo (m : Mod) : m.follow.pair.undo = m.pair.undo := by
  unfold follow
  split <;> rfl

@[simp] theorem follow_replay (m : Mod) : m.follow.pair.replay = m.pair.replay := by
  unfold follow
  split <;> rfl

@[simp] theorem keepsRegs_follow (l : List Fld) (m t : Mod) : m.KeepsRegs l t.follow ↔ m.KeepsRegs l t :=
  keepsRegs_congr fun g _ => by simp only [rd, follow_regs]

/-- A command of a core in lockstep that may execute: what holds of its instruction, on what the core has run before, holds of the block. -/
theorem runs_lockstep {s : State} {holly : Bool} {r : Ran} {i : Instr} {f : Mod → Bool → Mod} {P : Mod → Mod → Prop}
    (hexec : exec i s = s.next fun m => m.instr holly r f) (hruns : s.mod.coreRuns false = true) (hlock : s.mod.split = false)
    (hearly : s.mod.early false r = s.mod) (hP : P s.mod (f (s.mod.ran false r) false).follow.settle) : s.Runs i P := by
  have hpick := pick_of_lockstep s.mod holly hlock
  refine State.runs_next s _ _ _ hexec ?_
  rwa [instr_of_runs _ _ _ _ (by rwa [hpick]), hpick, hearly]

theorem ran_w0 (m : Mod) (r : Ran) : (m.ran false r).pair.w0 = { m.pair.w0 with core := m.pair.w0.core.run r } := rfl

theorem ran_worker (m : Mod) (r : Ran) : (m.ran false r).worker false = { m.pair.w0 with core := m.pair.w0.core.run r } := rfl

@[simp] theorem retire_mem (m : Mod) (h : Bool) (r : Ran) : (m.retire h r).mem = m.mem := rfl

@[simp] theorem retire_regs (m : Mod) (h : Bool) (r : Ran) : (m.retire h r).regs = m.regs := rfl

@[simp] theorem loadDone_mem (m : Mod) (h : Bool) (st : Stall) (v : Nat) : (m.loadDone h st v).mem = m.mem := rfl

@[simp] theorem loadDone_regs (m : Mod) (h : Bool) (st : Stall) (v : Nat) : (m.loadDone h st v).regs = m.regs := rfl

/-! #### Stores -/

theorem pairStore_of_misaligned (m : Mod) (h : Bool) (a size v : Nat) (r : Ran) (halign : a % size ≠ 0) (hregion : region a = .sram) :
    m.pairStore h a size v r = m.accessTrap h 6 a := by simp [pairStore, halign, hregion]

theorem pairStore_of_sram (m : Mod) (h : Bool) (a size v : Nat) (r : Ran) (halign : a % size = 0) (hregion : region a = .sram)
    (hallows : (m.worker h).core.pmpAllows a size 1 = true) : m.pairStore h a size v r = m.sramStore h a size v r := by
  simp [pairStore, halign, hregion, hallows]

/-- A store of a word to a register page joins the commit queue. -/
theorem pairStore_of_page (m : Mod) (h : Bool) (a v : Nat) (r : Ran) (halign : a % 4 = 0) (hregion : region a = .page)
    (hallows : (m.worker h).core.pmpAllows a 4 1 = true) (hroom : (m.worker h).cq.length < 256) :
    m.pairStore h a 4 v r = (m.onWorker h fun w => { w with cq := w.cq ++ [⟨a, v, 4⟩] }).retire h r := by
  simp [pairStore, halign, hregion, hallows, hroom, queueStore]

/-- The undo log once the word at `w` has been kept (R404). -/
def keptUndo (m : Mod) (w : Nat) : List (Nat × Nat) :=
  if m.pair.undo.any (fun e => e.1 = w) then m.pair.undo else (w, m.load w 4) :: m.pair.undo

/-- A store to SRAM keeps the old word once. -/
theorem sramStore_of_room (m : Mod) (h : Bool) (a size v : Nat) (r : Ran) (hlock : m.split = false) (hroom : m.pair.undo.length < 512) :
    m.sramStore h a size v r = ((m.onPair fun x => { x with undo := m.keptUndo (a - a % 4) }).store a size v).retire h r := by
  by_cases hkept : m.pair.undo.any (fun e => e.1 = a - a % 4) = true
  · have hsame : (m.onPair fun x => { x with undo := m.keptUndo (a - a % 4) }) = m := by
      rw [keptUndo, if_pos hkept]
      rfl
    rw [hsame, sramStore, if_pos (.inr hkept)]
  · rw [sramStore, if_neg (by simp only [hlock, Bool.false_eq_true, false_or]; exact hkept), if_neg (by omega), keptUndo, if_neg hkept]
    rfl

/-! #### Loads -/

theorem pairLoad_of_misaligned (m : Mod) (h : Bool) (a size rd : Nat) (signed : Bool) (r : Ran) (halign : a % size ≠ 0)
    (hregion : region a = .sram) : m.pairLoad h a size signed rd none r = m.accessTrap h 4 a := by simp [pairLoad, halign, hregion]

/-- A permitted load of SRAM answers the word's lanes. -/
theorem pairLoad_of_sram (m : Mod) (h : Bool) (a size rd : Nat) (signed : Bool) (r : Ran) (halign : a % size = 0) (hregion : region a = .sram)
    (hallows : (m.worker h).core.pmpAllows a size 0 = true) :
    m.pairLoad h a size signed rd none r = (m.loadDone h ⟨a, size, signed, rd, r.short⟩ (m.load (a - a % 4) 4)).retire h r := by
  simp [pairLoad, halign, hregion, hallows, logged, loadEcc, loadTarget, target]

/-- The address of SLICE (R418). -/
def sliceAddr : Nat := regAddr 0x09 0x12C

/-- The core's work once a read of SLICE has taken the slice `x`. -/
def tookSlice (m : Mod) (x : Slice) (rest : List Slice) : Mod :=
  (m.onWorker false fun w => { w with slices := rest, taken := w.taken.take w.redo ++ [x], redo := w.redo + 1, cur := some x,
                                      mark := w.cq.length }).showSlice (some x)

/-- The word that shows a slice. -/
theorem wordOf_showSlice (m : Mod) (x : Slice) :
    (m.showSlice (some x)).wordOf 0x09 0x12C = x.task % 2 ^ 10 + x.budget % 2 ^ 11 * 2 ^ 16 + 2 ^ 31 := by
  have hfields : fieldsAt 0x09 0x12C = [PAIR.SLICE_TASK, PAIR.SLICE_BUDGET, PAIR.SLICE_VALID] := by decide
  have htask : (m.showSlice (some x)).rd PAIR.SLICE_TASK = x.task % 2 ^ 10 := by
    simp only [showSlice]
    rw [rd_wr_other _ _ _ _ (by decide), rd_wr_other _ _ _ _ (by decide), rd_wr_same]
    rfl
  have hbudget : (m.showSlice (some x)).rd PAIR.SLICE_BUDGET = x.budget % 2 ^ 11 := by
    simp only [showSlice]
    rw [rd_wr_other _ _ _ _ (by decide), rd_wr_same]
    rfl
  have hvalid : (m.showSlice (some x)).rd PAIR.SLICE_VALID = 1 := by
    simp only [showSlice]
    rw [rd_wr_same]
    rfl
  simp only [wordOf, hfields, List.foldl_cons, List.foldl_nil, htask, hbudget, hvalid]
  simp [PAIR.SLICE_TASK, PAIR.SLICE_BUDGET, PAIR.SLICE_VALID]

/-- A read of SLICE by a core takes the next slice of its tick. -/
theorem regRead_slice (m : Mod) (x : Slice) (rest : List Slice) (hslices : m.pair.w0.slices = x :: rest) :
    m.regRead 0x09 0x12C (some false) =
      ((m.tookSlice x rest).clearRc 0x09 0x12C, x.task % 2 ^ 10 + x.budget % 2 ^ 11 * 2 ^ 16 + 2 ^ 31) := by
  have hlatch : m.readLatch 0x09 0x12C (some false) = m.tookSlice x rest := by simp [readLatch, slicePop, worker, hslices, tookSlice]
  have hindex : snapIndex 0x09 0x12C = none := by decide
  have hmapped : mapped 0x09 = true := by decide
  simp only [regRead, hlatch, snapShow, hindex]
  simp [regShow, hmapped, tookSlice, wordOf_showSlice]

/-- A permitted first read of SLICE takes the slice, keeps its entry in the replay log and loads the word. -/
theorem pairLoad_slice (m : Mod) (rd : Nat) (r : Ran) (x : Slice) (rest : List Slice) (hlock : m.split = false)
    (hallows : (m.worker false).core.pmpAllows sliceAddr 4 0 = true) (hfirst : m.pair.reexec = false) (hroom : m.pair.replay.length < 128)
    (hslices : m.pair.w0.slices = x :: rest) (hawake : m.awake 30 = true) (v : Nat)
    (hv : v = x.task % 2 ^ 10 + x.budget % 2 ^ 11 * 2 ^ 16 + 2 ^ 31) :
    m.pairLoad false sliceAddr 4 false rd none r =
      ((((m.tookSlice x rest).clearRc 0x09 0x12C).onPair fun p => { p with replay := p.replay ++ [⟨sliceAddr, v⟩], rpos := p.replay.length + 1 }).loadDone
        false ⟨sliceAddr, 4, false, rd, r.short⟩ v).retire false r := by
  have halign : sliceAddr % 4 = 0 := by decide
  have hregion : region sliceAddr = .page := by decide
  have hpage : (sliceAddr - 0x40000000) / 0x1000 = 0x09 := by decide
  have hoff : sliceAddr % 0x1000 = 0x12C := by decide
  have hasleep : m.pageAsleep 0x09 0x12C = false := by simp [pageAsleep, pageDomain, hawake]
  have hoos : m.pageOos 0x09 0x12C = false := by simp [pageOos, pageDomain]
  have htarget : m.target false sliceAddr = m.regRead 0x09 0x12C (some false) := by simp [target, hregion, hpage, halign, hoff, hoos]
  have hfull : ¬ 128 ≤ m.pair.replay.length := by omega
  simp only [pairLoad, halign, hallows, hregion, hpage, hoff, hasleep, hoos, hfirst, loadEcc, loadTarget, hlock, hfull, htarget,
    regRead_slice m x rest hslices, logged, ← hv]
  simp

theorem clearRc_slice (m : Mod) :
    m.clearRc 0x09 0x12C = ((m.wr PAIR.SLICE_TASK 0).wr PAIR.SLICE_BUDGET 0).wr PAIR.SLICE_VALID 0 := by
  have hfields : fieldsAt 0x09 0x12C = [PAIR.SLICE_TASK, PAIR.SLICE_BUDGET, PAIR.SLICE_VALID] := by decide
  simp [clearRc, hfields, PAIR.SLICE_TASK, PAIR.SLICE_BUDGET, PAIR.SLICE_VALID]

/-- A load of a whole word returns all of it. -/
theorem loadLanes_slice (v : Nat) (h : v < 2 ^ 32) : loadLanes v sliceAddr 4 false = v := by
  have halign : sliceAddr % 4 = 0 := by decide
  simp [loadLanes, halign]
  omega

/-- Settles O50: each access of a core in lockstep is one change of its work, of the logs and of its bytes. -/
theorem coreAccessesAreLogged : Obligations.CoreAccessesAreLogged := by
  intro s holly a k r hruns hlock hearly c n
  have hrun {i : Instr} {f : Mod → Bool → Mod} {P : Mod → Mod → Prop} (hexec : exec i s = s.next fun m => m.instr holly r f)
      (hP : P s.mod (f (s.mod.ran false r) false).follow.settle) : s.Runs i P := runs_lockstep hexec hruns hlock hearly hP
  have hran : ((s.mod.ran false r).worker false).core = c := rfl
  have hlockRan : (s.mod.ran false r).split = false := hlock
  refine ⟨fun v halign hregion => hrun rfl ?_, fun signed rd halign hregion => hrun rfl ?_,
    fun v halign hregion hallows hroom => hrun rfl ?_, fun v hn halign hregion hallows hroom => hrun rfl ?_,
    fun signed rd halign hregion hallows => hrun rfl ?_, fun rd x rest hallows hfirst hroom hslices hawake => hrun rfl ?_⟩
  · rw [pairStore_of_misaligned _ _ _ _ _ _ halign hregion]
    refine ⟨?_, ?_, ?_, ?_⟩
    · simp [accessTrap, trapCore, onWorker, ran_w0, c]
    · simp [accessTrap, trapCore, ran]
    · simp [accessTrap, trapCore, ran, onWorker]
    · rw [keepsRegs_settle, keepsRegs_follow]
      exact (keepsRegs_refl _ _).of_regs _ _ _ _ rfl
  · rw [pairLoad_of_misaligned _ _ _ _ _ _ _ halign hregion]
    refine ⟨?_, ?_, ?_⟩
    · simp [accessTrap, trapCore, onWorker, ran_w0, c]
    · simp [accessTrap, trapCore, ran]
    · rw [keepsRegs_settle, keepsRegs_follow]
      exact (keepsRegs_refl _ _).of_regs _ _ _ _ rfl
  · rw [pairStore_of_sram _ _ _ _ _ _ halign hregion (by rw [hran]; exact hallows), sramStore_of_room (s.mod.ran false r) _ _ _ _ _ hlockRan hroom]
    refine ⟨?_, ?_, fun b hb => ?_, ?_, ?_⟩
    · rw [load_congr (settle_mem _), load_congr (follow_mem _), load_congr (retire_mem _ _ _), load_store_same]
    · simp [retire, onWorker, ran_w0, c]
    · rw [byte_congr (settle_mem _), byte_congr (follow_mem _), byte_congr (retire_mem _ _ _), byte_store_other _ _ _ _ _ hb]
      rfl
    · have hkept (w : Nat) : (s.mod.ran false r).keptUndo w = s.mod.keptUndo w := by
        rw [keptUndo, keptUndo, load_congr (show (s.mod.ran false r).mem = s.mod.mem from rfl)]
        rfl
      simp only [settle_pair, follow_undo, retire, onWorker_undo, store_pair, onPair_pair, hkept]
      rfl
    · rw [keepsRegs_settle, keepsRegs_follow]
      exact (keepsRegs_refl _ _).of_regs _ _ _ _ (by simp [retire, ran])
  · have hn' : accessBytes k = 4 := hn
    rw [hn', pairStore_of_page (s.mod.ran false r) _ _ _ _ halign hregion (by rw [hran]; exact hallows) (by exact hroom)]
    refine ⟨?_, ?_, ?_, ?_⟩
    · simp [retire, onWorker, ran_w0]
    · simp [retire, onWorker, ran_w0, c]
    · simp [retire, ran]
    · rw [keepsRegs_settle, keepsRegs_follow]
      exact (keepsRegs_refl _ _).of_regs _ _ _ _ rfl
  · rw [pairLoad_of_sram _ _ _ _ _ _ _ halign hregion (by rw [hran]; exact hallows)]
    refine ⟨?_, ?_, ?_⟩
    · simp [retire, loadDone, onWorker, ran_w0, c]
      rfl
    · simp [retire, loadDone, ran]
    · rw [keepsRegs_settle, keepsRegs_follow]
      exact (keepsRegs_refl _ _).of_regs _ _ _ _ rfl
  · have htook := pairLoad_slice (s.mod.ran false r) rd r x rest hlockRan (by rw [hran]; exact hallows) hfirst hroom hslices hawake
    have hword : x.task % 2 ^ 10 + x.budget % 2 ^ 11 * 2 ^ 16 + 2 ^ 31 < 2 ^ 32 := by omega
    generalize x.task % 2 ^ 10 + x.budget % 2 ^ 11 * 2 ^ 16 + 2 ^ 31 = v at htook hword
    replace htook := htook v rfl
    rw [show regAddr 0x09 0x12C = sliceAddr from rfl, htook, clearRc_slice]
    refine ⟨?_, ?_, ?_, ?_, ?_, ?_, ?_⟩
    · simp [retire, loadDone, onWorker, tookSlice, showSlice]
    · simp [retire, loadDone, onWorker, tookSlice, showSlice]
    · simp [retire, loadDone, onWorker, tookSlice, showSlice, ran_w0]
    · simp [retire, loadDone, onWorker, tookSlice, showSlice, ran]
    · simp [retire, loadDone, onWorker, tookSlice, showSlice, ran_w0, loadLanes_slice _ hword, c]
    · simp [tookSlice, showSlice, ran]
    · rw [keepsRegs_settle, keepsRegs_follow]
      simp only [keepsRegs_iff, retire_regs, loadDone_regs, onPair_regs, tookSlice, showSlice]
      simp [ran]

end Mod

end Sys2Proof.Machine

/-! ### The tick's work of the pair in lockstep (R397 to R401) -/
namespace Sys2Proof.Machine

namespace Mod
open Reg

/-- The tick interrupt of the pair in lockstep: the checkpoint, the trap entry, all the tick's slices. -/
theorem tickInterrupt_of_lockstep (m : Mod) (hlock : m.split = false) (hup : m.pairUp = true) (hirq : m.pair.w0.irq = true)
    (hphase : m.pair.w0.phase = .idle) (hfirst : m.pair.reagreed = false) (hcheck : m.rd PAIR.CHK_BUSY = 0) :
    m.tickInterrupt false = (((m.onFrm fun x => { x with dispNow := [] }).onPair fun x => { x with check := m.pair.w0.core }).onWorker false fun w =>
      { w with core := { w.core.trap 0x8000000B 0 with mtickcyc := 0 }, phase := .work, tick := m.tick, irq := false, slices := m.frm.dispNow,
               taken := [], redo := 0, cur := none, stall := none }).follow := by
  have hall (l : List Slice) : (l.filter fun s => !m.split || decide (decide (512 ≤ s.task) = false)) = l :=
    List.filter_eq_self.2 fun s _ => by simp [hlock]
  have hnone (l : List Slice) : (l.filter fun s => m.split && decide (512 ≤ s.task) != false) = [] :=
    List.filter_eq_nil_iff.2 fun s _ => by simp [hlock]
  have hgo : m.pairUp = true ∧ (m.worker false).irq = true ∧ ((m.worker false).phase = .idle ∨ (m.worker false).phase = .agreed) ∧
      ¬ m.pair.reagreed = true ∧ ¬ m.on PAIR.CHK_BUSY = true := ⟨hup, hirq, .inl hphase, by simp [hfirst], by simp [on, hcheck]⟩
  simp only [tickInterrupt, hgo, hall, hnone, and_self]
  rfl

/-- A running slice is dropped with its commit entries; the event, the count and the promise's cause. -/
theorem sliceDrop_counted (m : Mod) (x : Slice) (hcur : m.pair.w0.cur = some x) :
    m.sliceDrop false true = (((m.onWorker false fun w => { w with cur := none, cq := w.cq.take w.mark, core := { w.core with mslice := 0 } }).inc
      PAIR.BUDGET_CNT).ev 0x09 warn 0x0E05 [sj16 x.task]).blameBudget x.prm := by
  simp [sliceDrop, worker, hcur]

@[simp] theorem blameBudget_regs (m : Mod) (n : Nat) : (m.blameBudget n).regs = m.regs := rfl
@[simp] theorem blameBudget_mem (m : Mod) (n : Nat) : (m.blameBudget n).mem = m.mem := rfl
@[simp] theorem blameBudget_pair (m : Mod) (n : Nat) : (m.blameBudget n).pair = m.pair := rfl
@[simp] theorem blameBudget_evt (m : Mod) (n : Nat) : (m.blameBudget n).evt = m.evt := rfl

/-- What the end of a running slice leaves: the work of the core, the event, the count, nothing else of registers and memory. -/
theorem sliceCut_leaves (m : Mod) (x : Slice) (hcur : m.pair.w0.cur = some x) (hroom : m.Room 1) :
    let t := m.sliceCut false
    t.pair.w0 = { m.pair.w0 with cur := none, cq := m.pair.w0.cq.take m.pair.w0.mark,
                                 core := { m.pair.w0.core.trap 24 0 with mslice := 0 } } ∧
      t.rd PAIR.BUDGET_CNT = Nat.min (m.rd PAIR.BUDGET_CNT + 1) PAIR.BUDGET_CNT.max ∧ m.Reported t 0x09 warn 0x0E05 [sj16 x.task] ∧
      t.mem = m.mem ∧ m.KeepsRegs ([PAIR.BUDGET_CNT] ++ evtFlds 0x09) t := by
  have hcut : m.sliceCut false = _ := sliceDrop_counted (m.trapCore false 24 0) x hcur
  rw [hcut]
  refine ⟨by simp [onWorker, trapCore], ?_, ?_, by simp [trapCore], ?_⟩
  · have hev := rd_ev_other (((m.trapCore false 24 0).onWorker false fun w =>
      { w with cur := none, cq := w.cq.take w.mark, core := { w.core with mslice := 0 } }).inc PAIR.BUDGET_CNT) 0x09 warn 0x0E05 [sj16 x.task]
      PAIR.BUDGET_CNT (by decide) (by decide)
    exact hev.trans (rd_inc_same _ _)
  · rw [Reported, blameBudget_evt, ev_intake _ _ _ _ _ (by exact Nat.lt_of_succ_le hroom), mkEvt_of_tick (m := m) rfl]
    rfl
  · rw [keepsRegs_iff, blameBudget_regs, keptIn_ev (by simp) (by decide), keptIn_inc (by simp)]
    simp [trapCore]

/-- The trailing core's state and nothing else follows. -/
theorem follow_only (m : Mod) : m.follow = { m with pair := { m.pair with w1 := m.follow.pair.w1 } } := by
  unfold follow
  split <;> rfl

@[simp] theorem follow_frm (m : Mod) : m.follow.frm = m.frm := by rw [follow_only]
@[simp] theorem follow_check (m : Mod) : m.follow.pair.check = m.pair.check := by rw [follow_only]
@[simp] theorem follow_sig (m : Mod) : m.follow.pair.sig = m.pair.sig := by rw [follow_only]

theorem split_of_keeps {l : List Fld} {m t : Mod} (h : m.KeepsRegs l t) (hmode : ∀ f ∈ shown ++ l, f.key ≠ PAIR.MODE.key) :
    t.split = m.split := by simp only [split, on, h _ hmode]

/-- A register that keeps its largest value. -/
@[simp] theorem keptIn_peak {l : List Fld} {f : Fld} (hf : f ∈ l) (m t : Mod) (v : Nat) : m.KeptIn l (t.peak f v).regs ↔ m.KeptIn l t.regs := by
  unfold peak
  split
  · exact keptIn_wr hf m t v
  · exact Iff.rfl

theorem peak_only (m : Mod) (f : Fld) (v : Nat) : m.peak f v = { m with regs := (m.peak f v).regs } := by
  unfold peak
  split <;> rfl

@[simp] theorem peak_pair (m : Mod) (f : Fld) (v : Nat) : (m.peak f v).pair = m.pair := by rw [peak_only]
@[simp] theorem peak_mem (m : Mod) (f : Fld) (v : Nat) : (m.peak f v).mem = m.mem := by rw [peak_only]

/-- The end of tick in lockstep forms the signature (R402). -/
theorem endTick_of_lockstep (m : Mod) (hlock : m.split = false) :
    m.endTick false = (m.onWorker false fun w => { w with phase := .ended, cur := none }).onPair fun x => { x with sig := x.w0.core.signature } := by
  rw [endTick, if_neg (by rw [split_of_regs (onWorker_regs ..), hlock]; decide)]

/-- TICK_METER_LIMIT of a running slice in lockstep. -/
theorem meterLimit_of_lockstep (m : Mod) (x : Slice) (hlock : m.split = false) (hup : m.pairUp = true) (hphase : m.pair.w0.phase = .work)
    (hcur : m.pair.w0.cur = some x) (hroom : m.Room 1) :
    m.meterLimit false = (((((m.onWorker false fun w => { w with core := { w.core with mtickcyc := 2040 }, stall := none }).sliceCut false).onWorker
      false fun w => { w with slices := [] }).onWorker false fun w => { w with phase := .ended, cur := none }).onPair fun x =>
        { x with sig := x.w0.core.signature }).follow := by
  have hwork : (m.worker false).phase = .work := hphase
  have hruns : (m.worker false).cur.isSome = true := by simp [worker, hcur]
  obtain ⟨_, _, _, _, hkeeps⟩ :=
    sliceCut_leaves (m.onWorker false fun w => { w with core := { w.core with mtickcyc := 2040 }, stall := none }) x hcur hroom
  rw [meterLimit, if_pos ⟨hup, hwork⟩]
  simp only [hruns, if_true]
  rw [endTick_of_lockstep]
  exact (split_of_keeps hkeeps (by decide)).trans hlock

/-- Settles O51: each command is one change of the pair's work; the end of a slice also counts and reports. -/
theorem pairWorksTickByTick : Obligations.PairWorksTickByTick := by
  intro s holly hlock hup
  have hpick := pick_of_lockstep s.mod holly hlock
  refine ⟨fun hirq hphase hfirst hcheck => ?_, fun x hphase hcur hroom => ⟨fun hslice => ?_, ?_⟩, fun hphase => ?_⟩
  · refine State.runs_next s _ _ _ rfl ?_
    rw [hpick, tickInterrupt_of_lockstep _ hlock hup hirq hphase hfirst hcheck]
    have hfollow := fun t : Mod => fun ht : t.regs = s.mod.regs => follow_of_lockstep t ((split_of_regs ht).trans hlock)
    refine ⟨?_, ?_, ?_, ?_, ?_, ?_, ?_, ?_, ?_, ?_, ?_⟩
    case refine_9 => exact (settle_pair _).symm ▸ hfollow _ rfl
    case refine_11 => simp [keepsRegs_iff]
    all_goals simp [onWorker]
  · refine State.runs_next s _ _ _ rfl ?_
    rw [hpick, sliceBudget, if_pos ⟨hup, hphase, hslice⟩]
    obtain ⟨hw0, hcnt, hreported, hmem, hkeeps⟩ :=
      sliceCut_leaves (s.mod.onWorker false fun w => { w with core := { w.core with mslice := 0 }, stall := none }) x hcur hroom
    generalize (s.mod.onWorker false fun w => { w with core := { w.core with mslice := 0 }, stall := none }).sliceCut false = u at *
    refine ⟨?_, ?_, ?_, ?_, ?_, ?_, ?_, ?_⟩
    · simp [hw0]
    · simp [hw0, onWorker]
    · rw [rd_settle _ _ (by decide)]
      simpa only [rd, follow_regs, onWorker_regs] using hcnt
    · rw [Reported, settle_evt, follow_evt]
      exact hreported
    · simp [hw0, CoreX.trap]
    · simp [hw0]
    · rw [settle_mem, follow_mem, hmem, onWorker_mem]
    · rw [keepsRegs_settle, keepsRegs_follow]
      exact hkeeps
  · refine State.runs_next s _ _ _ rfl ?_
    rw [hpick, meterLimit_of_lockstep _ x hlock hup hphase hcur hroom]
    obtain ⟨hw0, hcnt, hreported, hmem, hkeeps⟩ :=
      sliceCut_leaves (s.mod.onWorker false fun w => { w with core := { w.core with mtickcyc := 2040 }, stall := none }) x hcur hroom
    generalize (s.mod.onWorker false fun w => { w with core := { w.core with mtickcyc := 2040 }, stall := none }).sliceCut false = u at *
    refine ⟨⟨?_, ?_, ?_, ?_, ?_, ?_, ?_, ?_⟩, ?_, ?_, ?_, ?_, ?_⟩
    · simp [onWorker]
    · simp [hw0, onWorker]
    · rw [rd_settle _ _ (by decide)]
      simpa only [rd, follow_regs, onPair_regs, onWorker_regs] using hcnt
    · rw [Reported, settle_evt, follow_evt]
      exact hreported
    · simp [hw0, onWorker, CoreX.trap]
    · simp [hw0, onWorker]
    · simpa using hmem
    · rw [keepsRegs_settle, keepsRegs_follow]
      exact hkeeps
    · simp [onWorker]
    · simp [onWorker]
    · simp [hw0, onWorker, CoreX.trap]
    · simp [onWorker]
    · have hpages : s.mod.OnlyPages [0x09, 0x08] u := hkeeps.onlyPages (by decide)
      rw [onlyPages_settle]
      exact fun g hp hg => (by simp only [rd, follow_regs, onPair_regs, onWorker_regs] : _ = u.rd g).trans (hpages g hp hg)
  · refine State.runs_next s _ _ _ rfl ?_
    rw [tickAgreed, if_neg (by simp [hlock, hup, hphase])]
    have hwindow (t : Mod) (c : Prop) [Decidable c] : (if c then t.wr PAIR.WINDOW 0 else t).pair = t.pair ∧
        (if c then t.wr PAIR.WINDOW 0 else t).mem = t.mem ∧
        (s.mod.KeptIn [PAIR.UNDO_MAX, PAIR.CQ_MAX, PAIR.REPLAY_MAX, PAIR.WINDOW] (if c then t.wr PAIR.WINDOW 0 else t).regs ↔
          s.mod.KeptIn [PAIR.UNDO_MAX, PAIR.CQ_MAX, PAIR.REPLAY_MAX, PAIR.WINDOW] t.regs) := by
      split <;> simp
    simp only [keepsRegs_iff, settle_pair, settle_mem, keptIn_settle, onPair_pair, onPair_mem, onPair_regs, hwindow]
    simp

end Mod

end Sys2Proof.Machine

/-! ### The write lock (R481, R482) -/
namespace Sys2Proof.Machine

namespace Mod
open Reg

/-- The fields of PAGE_KEY: none is an RWL field. -/
theorem fieldsAt_key (pg : Nat) : fieldsAt pg 0x01C = [COM.KEY_CMD pg, COM.KEY pg, COM.LOCKDOWN pg] := by simp [fieldsAt, COM.fieldsAt, at0]

/-- No window is denied a common word. -/
theorem vinkoDenied_common (m : Mod) (pg off : Nat) (hoff : off < 0x100) : m.vinkoDenied pg off = none := by
  unfold vinkoDenied
  dsimp only
  iterate 8 rw [if_neg (by omega)]

/-- A write of PAGE_KEY through a window acts at once. -/
theorem regCommand_key (m : Mod) (pg v mask : Nat) (hpage : mapped pg = true) :
    m.regCommand pg 0x01C v mask .vinko = m.keyWrite pg (v &&& mask) mask := by
  have hplain : ∀ f ∈ fieldsAt pg 0x01C, decide (f.acc = .rwl) = false := by
    rw [fieldsAt_key]
    simp [COM.KEY_CMD, COM.KEY, COM.LOCKDOWN]
  have htouched : Mod.rwlTouched pg 0x01C mask = false := by
    rw [rwlTouched, List.any_eq_false]
    exact fun f hf => by simp [hplain f hf]
  have hchanges : m.rwlChanges pg 0x01C v mask = false := by
    rw [rwlChanges, List.any_eq_false]
    exact fun f hf => by simp [hplain f hf]
  have hfields : fieldsAt pg 0x01C ≠ [] := by simp [fieldsAt_key]
  simp [regCommand, hpage, pageOos, pageAsleep, vinkoDenied_common, htouched, wordWrite, hchanges, hfields]

theorem key_not_derived : ∀ pg : Fin 64, (COM.KEY pg).key ∉ derivedKeys ∧ (COM.LOCKDOWN pg).key ∉ derivedKeys := by decide

/-- Settles O5: each of the three commands is one write of PAGE_KEY, `keyWrite`. -/
theorem writeKeyOpensClosesLocks : Obligations.WriteKeyOpensClosesLocks := by
  intro s pg hpage
  obtain ⟨hkey, hlockdown⟩ := key_not_derived pg
  have hwrite {i : Instr} {v mask : Nat} {P : Mod → Mod → Prop} (hexec : exec i s = s.next fun m => m.regCommand pg 0x01C v mask .vinko)
      (hP : P s.mod (s.mod.keyWrite pg (v &&& mask) mask).settle) : s.Runs i P :=
    State.runs_next s i _ P hexec (regCommand_key s.mod pg v mask hpage ▸ hP)
  refine ⟨hwrite rfl ?_, fun v => hwrite rfl ?_, fun cmd => hwrite rfl ?_⟩
  · rw [rd_settle _ _ hkey, keyWrite, if_neg (by decide), if_neg (by decide), if_neg (by decide)]
    split
    · exact ⟨rfl, (OnlyRegs.refl _ _).settle _ _ _⟩
    · exact ⟨rd_wr_same _ _ _, ((OnlyRegs.refl _ _).wr _ _ _ _ _ (by simp)).settle _ _ _⟩
  · have hother : ∀ v : Byte, fld ((if v = 0x4B#8 then 0 else v.toNat) &&& 0xFF) 7 0 ≠ 0x4B ∧
        ((if v = 0x4B#8 then 0 else v.toNat) &&& 0xFF).testBit 9 = false := by decide
    obtain ⟨hcmd, hbit⟩ := hother v
    rw [rd_settle _ _ hkey, keyWrite, if_neg (by simp [hbit]), if_neg (by decide), if_pos hcmd]
    exact ⟨rd_wr_same _ _ _, ((OnlyRegs.refl _ _).wr _ _ _ _ _ (by simp)).settle _ _ _⟩
  · have hbit : ∀ c : Byte, ((c.toNat + 0x200) &&& 0x2FF).testBit 9 = true := by decide
    rw [rd_settle _ _ hkey, rd_settle _ _ hlockdown, keyWrite, if_pos (hbit cmd)]
    refine ⟨rd_wr_same _ _ _, ?_, (((OnlyRegs.refl _ _).wr _ _ _ _ _ (by simp)).wr _ _ _ _ _ (by simp)).settle _ _ _⟩
    rw [rd_wr_other _ _ _ _ (key_ne (by simp only [COM.KEY, COM.LOCKDOWN]; omega)), rd_wr_same]
    rfl

end Mod

end Sys2Proof.Machine

/-! ### What the CAN controllers and the promises leave alone: the registers of the pages below theirs -/
namespace Sys2Proof.Machine

namespace Mod
open Reg

/-- The register map `r` agrees with `m` in every field below page `p`. -/
structure Below (p : Nat) (m : Mod) (r : SMap Nat) : Prop where
  get : ∀ g : Fld, g.key < p * 524288 → SMap.get g.rst r g.key = m.rd g

@[simp] theorem below_refl (p : Nat) (m : Mod) : m.Below p m.regs := ⟨fun _ _ => rfl⟩

theorem Below.trans {p : Nat} {m t u : Mod} (h : m.Below p t.regs) (hu : t.Below p u.regs) : m.Below p u.regs :=
  ⟨fun g hg => (hu.get g hg).trans (h.get g hg)⟩

theorem key_ge_of_page {p : Nat} {f : Fld} (h : p ≤ f.page) : p * 524288 ≤ f.key := by
  have hcode : 0 ≤ f.cls.code := Nat.zero_le _
  simp only [Fld.key]
  omega

theorem below_congr {p : Nat} {m t u : Mod} (h : ∀ g : Fld, g.key < p * 524288 → u.rd g = t.rd g) : m.Below p u.regs ↔ m.Below p t.regs :=
  ⟨fun hu => ⟨fun g hg => (h g hg).symm.trans (hu.get g hg)⟩, fun ht => ⟨fun g hg => (h g hg).trans (ht.get g hg)⟩⟩

theorem below_wr {p : Nat} {f : Fld} (hf : p ≤ f.page) (m t : Mod) (v : Nat) : m.Below p (t.wr f v).regs ↔ m.Below p t.regs :=
  below_congr fun _ hg => rd_wr_other _ _ _ _ fun he => absurd (key_ge_of_page hf) (by omega)

theorem below_wrB {p : Nat} {f : Fld} (hf : p ≤ f.page) (m t : Mod) (b : Bool) : m.Below p (t.wrB f b).regs ↔ m.Below p t.regs := below_wr hf _ _ _

theorem below_inc {p : Nat} {f : Fld} (hf : p ≤ f.page) (m t : Mod) : m.Below p (t.inc f).regs ↔ m.Below p t.regs := below_wr hf _ _ _

theorem below_wrBit {p : Nat} {f : Fld} (hf : p ≤ f.page) (m t : Mod) (i : Nat) (b : Bool) : m.Below p (t.wrBit f i b).regs ↔ m.Below p t.regs :=
  below_congr fun _ hg => rd_wrBit_other _ _ _ _ _ fun he => absurd (key_ge_of_page hf) (by omega)

theorem below_irq {p pg : Nat} (hpg : p ≤ pg) (m t : Mod) (i : Nat) : m.Below p (t.irq pg i).regs ↔ m.Below p t.regs := by
  unfold irq
  split
  · exact below_wrBit (f := COM.PAGE_IRQ pg) hpg _ _ _ _
  · exact Iff.rfl

theorem below_ev {p pg cls : Nat} (hpg : p ≤ pg) (hp : p ≤ 0x08) (hc : cls < 4) (m t : Mod) (code : Nat) (items : List Item) :
    m.Below p (t.ev pg cls code items).regs ↔ m.Below p t.regs :=
  below_congr fun g hg => rd_ev_other _ _ _ _ _ _ hc fun f hf he => by
    have hpage : p ≤ f.page := by
      simp only [evtFlds, List.mem_cons, List.not_mem_nil, or_false] at hf
      rcases hf with rfl | rfl | rfl | rfl | rfl | rfl | rfl
      · exact hpg
      · exact hpg
      all_goals exact hp
    exact absurd (key_ge_of_page hpage) (by omega)

theorem below_foldl {α : Type} {p : Nat} {f : Mod → α → Mod} (hf : ∀ (m : Mod) a, m.Below p (f m a).regs) :
    ∀ (l : List α) (m : Mod), m.Below p (l.foldl f m).regs
  | [], m => below_refl p m
  | a :: l, m => (hf m a).trans (below_foldl hf l (f m a))

theorem below_forN {p n : Nat} {f : Mod → Nat → Mod} (hf : ∀ (m : Mod) i, m.Below p (f m i).regs) (m : Mod) : m.Below p (forN n f m).regs :=
  below_foldl hf _ m

theorem below_of_regs {p : Nat} {m t : Mod} (h : t.regs = m.regs) : m.Below p t.regs := h ▸ below_refl p m

/-! #### Promises and notices -/

theorem below_notice (m : Mod) (slot kind : Nat) (body : List Nat) : m.Below 4 (m.notice slot kind body).regs := by
  simp only [notice]
  repeat' split
  all_goals simp (disch := decide) only [onVnk_regs, below_inc, below_refl]

theorem below_promiseNotice (m : Mod) (slot kind cls num ref code detail deadline : Nat) :
    m.Below 4 (m.promiseNotice slot kind cls num ref code detail deadline).regs := below_notice ..

theorem below_keepPromise (m : Mod) (p : Promise) : m.Below 4 (m.keepPromise p).regs := by
  have hkept : m.Below 4 ((m.closePromise { p with state := 1 }).inc PRM.KEPT_CNT).regs := by
    rw [below_inc (by decide)]
    exact below_refl _ _
  simp only [keepPromise]
  split
  · exact hkept.trans (below_promiseNotice ..)
  · exact hkept

theorem below_breachWith (m : Mod) (p : Promise) (cause d16 : Nat) (withdrawn : Bool) : m.Below 4 (m.breachWith p cause d16 withdrawn).regs := by
  have hlate (t : Mod) (c : Bool) (f : PrmX → PrmX) : (if c then t.onPrm f else t).regs = t.regs := by split <;> rfl
  have hby : 4 ≤ (PRM.BREACH_BY cause).page := show 4 ≤ 0x0B by decide
  simp only [breachWith]
  split
  · refine Below.trans ?_ (below_promiseNotice ..)
    simp (disch := decide) only [hlate, below_ev, below_wr, below_inc, below_inc hby, closePromise, onPrm_regs, below_refl]
  · simp (disch := decide) only [hlate, below_ev, below_wr, below_inc, below_inc hby, closePromise, onPrm_regs, below_refl]

theorem below_promiseReleased (m : Mod) (num : Nat) : m.Below 4 (m.promiseReleased num).regs := by
  unfold promiseReleased
  split
  · split
    · exact below_keepPromise ..
    · exact below_breachWith ..
  · exact below_refl ..

/-! #### Objects -/

@[simp] theorem setObjBit_regs (m : Mod) (o b : Nat) (v : Bool) : (m.setObjBit o b v).regs = m.regs := store_regs ..

@[simp] theorem stepSeq_regs (m : Mod) (o : Nat) : (m.stepSeq o).regs = m.regs := store_regs ..

theorem setBytes_only (l : List Nat) : ∀ (m : Mod) (a : Nat), m.setBytes a l = { m with mem := (m.setBytes a l).mem } := by
  induction l with
  | nil => intro m a; rfl
  | cons b l ih =>
    intro m a
    rw [setBytes, ih]
    rfl

@[simp] theorem setBytes_regs (m : Mod) (a : Nat) (l : List Nat) : (m.setBytes a l).regs = m.regs := by rw [setBytes_only]

@[simp] theorem putChain_regs : ∀ (l d : List Nat) (m : Mod), (m.putChain l d).regs = m.regs
  | [], _, _ => rfl
  | s :: l, d, m => by rw [putChain, putChain_regs l, store_regs, setBytes_regs]

@[simp] theorem onPromises_regs (m : Mod) (p : Promise → Bool) (f : Promise → Promise) : (m.onPromises p f).regs = m.regs := rfl

theorem below_poolSet (m : Mod) (l : List Nat) : m.Below 4 (m.poolSet l).regs := by
  rw [poolSet, below_wr (by decide)]
  exact below_of_regs rfl

theorem below_putFrame (m : Mod) (o : Nat) (f : CanFrame) : m.Below 4 (m.putFrame o f).regs := by
  have hset (t : Mod) (l : List Nat) (ht : t.regs = m.regs) : m.Below 4 (t.poolSet l).regs := (below_of_regs ht).trans (below_poolSet t l)
  simp only [putFrame]
  repeat' split
  · exact below_of_regs (by simp only [putChain_regs, setBytes_regs, store_regs, stepSeq_regs])
  · exact hset _ _ (by simp only [putChain_regs, setBytes_regs, store_regs, stepSeq_regs])
  · exact below_of_regs (by simp only [setBytes_regs, store_regs, stepSeq_regs])
  · exact hset _ _ (by simp only [setBytes_regs, store_regs, stepSeq_regs])

theorem below_poolDrop (m : Mod) (n o : Nat) (f : CanFrame) : m.Below 4 (m.poolDrop n o f).regs := by
  rw [poolDrop, below_ev (by omega) (by decide) (by decide), below_inc (by decide)]
  exact below_refl ..

theorem below_e2cStore (m : Mod) (o : Nat) (f : CanFrame) (prm : Nat) : m.Below 4 (m.e2cStore o f prm).regs := by
  simp only [e2cStore]
  split
  · exact below_putFrame ..
  · exact below_poolDrop ..

theorem below_landWrites (m : Mod) (n : Nat) : m.Below 4 (m.landWrites n).regs := by
  simp only [landWrites]
  refine Below.trans (t := m.onCan n _) (below_of_regs (onCan_regs ..)) (below_foldl (fun t d => ?_) _ _)
  split
  · exact below_of_regs (by simp)
  · split
    · exact below_e2cStore ..
    · exact below_refl ..

/-! #### The queue and the modes -/

theorem page_can (n : Nat) : 4 ≤ 0x20 + n := by omega

theorem below_setQueue (m : Mod) (n : Nat) (q : List (Nat × Nat)) : m.Below 4 (m.setQueue n q).regs := by
  rw [setQueue, below_wr (page_can n)]
  exact below_of_regs (onCan_regs ..)

theorem below_emptyQueue (m : Mod) (n : Nat) : m.Below 4 (m.emptyQueue n).regs := by
  have hpend (q : List (Nat × Nat)) (t : Mod) : t.Below 4 (q.foldl (fun m e => m.setObjBit e.1 21 false) t).regs :=
    below_foldl (fun _ _ => below_of_regs (setObjBit_regs ..)) q t
  simp only [emptyQueue]
  exact (((hpend _ _).trans (below_of_regs (onPromises_regs ..))).trans (below_setQueue ..)).trans (below_landWrites ..)

theorem below_canOff (m : Mod) (n : Nat) : m.Below 4 (m.canOff n).regs := by
  have hpage := page_can n
  simp only [canOff]
  refine (below_emptyQueue m n).trans ?_
  rw [onCan_regs]
  iterate 6 rw [below_wr (by exact hpage)]
  exact below_refl ..

theorem below_arbitrate (m : Mod) (n : Nat) : m.Below 4 (m.arbitrate n).regs := by
  simp only [arbitrate]
  split
  · exact below_of_regs (onCan_regs ..)
  · exact below_refl ..

theorem below_modeTake (m : Mod) (n mode : Nat) : m.Below 4 (m.modeTake n mode).regs := by
  have hpage := page_can n
  have herr (t : Mod) (c : Prop) [Decidable c] : t.Below 4 (if c then t.wr (CAN.ERRST n) 3 else t).regs := by
    split
    · exact (below_wr hpage ..).2 (below_refl ..)
    · exact below_refl ..
  have hempty (c : Prop) [Decidable c] : m.Below 4 (if c then m.emptyQueue n else m).regs := by
    split
    · exact below_emptyQueue ..
    · exact below_refl ..
  simp only [modeTake]
  split
  · exact below_canOff ..
  · exact (((hempty _).trans (herr _ _)).trans ((below_wr hpage ..).2 (below_refl ..))).trans (below_arbitrate ..)

theorem below_endAttempt (m : Mod) (n : Nat) : m.Below 4 (m.endAttempt n).regs := by
  have hland : m.Below 4 ((m.landWrites n).onCan n fun y => { y with modePend := none }).regs := by
    rw [onCan_regs]
    exact below_landWrites ..
  simp only [endAttempt]
  refine Below.trans ?_ (below_arbitrate ..)
  split
  · exact hland.trans (below_modeTake ..)
  · exact hland

theorem below_objContent (m : Mod) (o a v : Nat) : m.Below 4 (m.objContent o a v).regs := by
  simp only [objContent]
  split <;> exact below_of_regs (by simp)

theorem below_badObj (m : Mod) (o cause : Nat) : m.Below 4 (m.badObj o cause).regs := by
  simp (disch := decide) only [badObj, below_wr, below_inc, below_refl]

theorem below_canEnter (m : Mod) (n o : Nat) : m.Below 4 (m.canEnter n o).regs := by
  have hpage := page_can n
  have hkept (t : Mod) : t.Below 4 (match t.openPromise (m.objPromise o) with
      | some p => if p.cls = 3 then t.promiseReleased (m.objPromise o) else t
      | none => t).regs := by
    split
    · split
      · exact below_promiseReleased ..
      · exact below_refl ..
    · exact below_refl ..
  simp only [canEnter]
  split
  · exact below_badObj ..
  split
  · rw [onPromises_regs, below_inc (f := CAN.TXQ_FULL_CNT n) hpage]
    exact below_refl ..
  split
  · exact hkept m
  split
  · rw [below_inc (f := CAN.TXQ_FULL_CNT n) hpage]
    exact below_refl ..
  · exact (((below_setQueue ..).trans (below_of_regs (setObjBit_regs ..))).trans (hkept _)).trans (below_arbitrate ..)

theorem below_nmCanSend (m : Mod) (n : Nat) (b : List Nat) : m.Below 4 (m.nmCanSend n b).regs := by
  simp only [nmCanSend]
  exact (below_objContent ..).trans (below_canEnter ..)

/-! #### Errors -/

theorem below_ite {p : Nat} {m a b : Mod} {c : Prop} [Decidable c] (ha : m.Below p a.regs) (hb : m.Below p b.regs) :
    m.Below p (if c then a else b).regs := by split <;> assumption

/-- A part that may act changes nothing below the page either way. -/
theorem below_then {p : Nat} {m a b : Mod} {c : Prop} [Decidable c] (hb : m.Below p b.regs) (ha : b.Below p a.regs) :
    m.Below p (if c then a else b).regs := below_ite (hb.trans ha) hb

theorem below_confine (m : Mod) (n tec : Nat) : m.Below 4 (m.confine n tec).regs := by
  have hpage := page_can n
  simp only [confine]
  split
  · rw [onCan_regs]
    refine Below.trans (t := (((((m.wr (CAN.TEC n) 255).wr (CAN.ERRST n) 2).inc (CAN.BO_CNT n)).irq (0x20 + n) 0).ev (0x20 + n) err 0x0901
      [sj n, vl 255])) ?_ (below_ite ?_ ?_)
    · rw [below_ev hpage (by decide) (by decide), below_irq hpage, below_inc (by exact hpage), below_wr (by exact hpage), below_wr (by exact hpage)]
      exact below_refl ..
    · rw [below_wr (by exact hpage)]
      exact below_of_regs (onPromises_regs ..)
    · exact below_of_regs (onPromises_regs ..)
  · have htec : m.Below 4 (m.wr (CAN.TEC n) tec).regs := (below_wr hpage ..).2 (below_refl ..)
    refine htec.trans ?_
    split
    · refine below_ite ?_ (below_refl ..)
      rw [below_ev hpage (by decide) (by decide), below_irq hpage, below_wr (by exact hpage)]
      exact below_refl ..
    · refine below_ite ?_ (below_refl ..)
      rw [below_wr (by exact hpage)]
      exact below_refl ..

theorem below_ackMiss (m : Mod) (n o : Nat) : m.Below 4 (m.ackMiss n o).regs := by
  have hpage := page_can n
  simp only [ackMiss]
  refine Below.trans (t := m.inc (CAN.ACK_RUN n)) ((below_inc hpage ..).2 (below_refl ..)) (below_ite ?_ (below_refl ..))
  rw [below_ev hpage (by decide) (by decide), below_irq hpage, below_inc (by exact hpage), below_wr (by exact hpage)]
  exact below_refl ..

theorem below_collision (m : Mod) (n o : Nat) : m.Below 4 (m.collision n o).regs := by
  have hpage := page_can n
  simp only [collision]
  rw [below_ev hpage (by decide) (by decide), below_irq hpage, onCan_regs, below_wr (by exact hpage)]
  split
  · exact (below_inc hpage ..).2 (below_refl ..)
  · rw [below_wr (by exact hpage), below_wr (by exact hpage), below_wrB (by exact hpage), below_wr (by exact hpage)]
    exact below_refl ..

theorem below_attemptFailed (m : Mod) (n o : Nat) : m.Below 4 (m.attemptFailed n o).regs := by
  have hpage := page_can n
  simp only [attemptFailed]
  refine below_ite ?_ (below_setQueue ..)
  rw [below_ev hpage (by decide) (by decide), below_irq hpage, below_inc (by exact hpage), onPromises_regs, setObjBit_regs]
  exact below_setQueue ..

theorem below_recAdd (m : Mod) (n k : Nat) : m.Below 4 (m.recAdd n k).regs := by
  have hpage := page_can n
  simp only [recAdd]
  refine below_ite ?_ ?_
  · rw [below_wr (by exact hpage), below_wr (by exact hpage)]
    exact below_refl ..
  · exact (below_wr hpage ..).2 (below_refl ..)

theorem below_canFault (m : Mod) (n : Nat) (tx : Bool) (code : Nat) (dataPhase : Bool) (region : Nat) (dom : Bool) (flags : Nat) :
    m.Below 4 (m.canFault n tx code dataPhase region dom flags).regs := by
  have hpage := page_can n
  have hcode : m.Below 4 (((m.inc (CAN.ERRF_CNT n)).wr (CAN.LEC n) code).wrB (CAN.LEC_DATA n) dataPhase).regs := by
    rw [below_wrB (by exact hpage), below_wr (by exact hpage), below_inc (by exact hpage)]
    exact below_refl ..
  simp only [canFault]
  refine hcode.trans ?_
  generalize ((m.inc (CAN.ERRF_CNT n)).wr (CAN.LEC n) code).wrB (CAN.LEC_DATA n) dataPhase = u
  split
  next o _ =>
    have hstep := below_then (c := code = 3) (below_then (c := (code = 4 ∨ code = 5) ∧ region = 1 ∧ ¬ (u.objXl o ∧ dataPhase ∧ u.on (CAN.TMS n)))
      (below_refl 4 u) (below_collision u n o)) (below_ackMiss _ n o)
    exact ((below_ite hstep (hstep.trans (below_attemptFailed ..))).trans (below_confine ..)).trans (below_endAttempt ..)
  next => exact below_refl ..
  next => exact ((below_recAdd ..).trans (below_confine ..)).trans (below_endAttempt ..)

theorem below_canCut (m : Mod) (n : Nat) : m.Below 4 (m.canCut n).regs := by
  simp only [canCut]
  exact below_ite (below_canFault ..) (below_refl ..)

/-- What a transceiver's new state brings. -/
theorem below_trxSettled (m : Mod) (p : Nat) : m.Below 4 (m.trxSettled p).regs := by
  simp only [trxSettled]
  refine below_ite (Below.trans (Below.trans ?_ (below_canCut ..)) (below_arbitrate ..)) (below_refl ..)
  split
  · exact below_ite (Below.trans (t := m.onNm (p - 4) _) (below_of_regs (onNm_regs ..)) (below_nmCanSend ..)) (below_refl ..)
  · exact below_refl ..

end Mod

end Sys2Proof.Machine

/-! ### What a command shows, counts and reports at its end -/
namespace Sys2Proof.Machine

namespace Mod
open Reg

theorem OnlyRegs.mono {l k : List Fld} {m t : Mod} (h : m.OnlyRegs l t) (hl : l ⊆ k) : m.OnlyRegs k t := ⟨h.1, h.2.mono hl⟩

/-- An event raised while the writer's queue has room is reported, stamped with the tick. -/
theorem reported_ev {m u : Mod} (pg cls code : Nat) (l : List Item) (hevt : u.evt = m.evt) (htick : u.tick = m.tick) (hroom : m.Room 1) :
    m.Reported (u.ev pg cls code l) pg cls code l := by
  have hlen : u.evt.intake.length < 64 := by
    rw [hevt]
    exact hroom
  rw [Reported, ev_intake _ _ _ _ _ hlen, hevt, mkEvt_of_tick htick]

theorem reported_congr {m t u : Mod} {pg cls code : Nat} {l : List Item} (h : u.evt.intake = t.evt.intake) :
    m.Reported u pg cls code l ↔ m.Reported t pg cls code l := by rw [Reported, Reported, h]

theorem reported_settle {m t : Mod} {pg cls code : Nat} {l : List Item} : m.Reported t.settle pg cls code l ↔ m.Reported t pg cls code l :=
  reported_congr (by rw [settle_evt])

/-- The registers that count an event are no block's own. -/
theorem evtFlds_ne {pg : Nat} {g : Fld} (hpage : g.key / 524288 ≠ 8) (hoff : 0x100 ≤ g.key / 128 % 4096) : ∀ f ∈ evtFlds pg, f.key ≠ g.key := by
  generalize g.key = k at *
  simp only [evtFlds, List.mem_cons, List.not_mem_nil, or_false, forall_eq_or_imp, forall_eq, COM.RAISED, COM.LAST_CODE, EVT.INTAKE_FULL_CNT,
    EVT.DROPPED, Fld.key, ResetClass.code]
  omega

/-- A block's own register keeps its value when an event is raised. -/
theorem rd_ev_own (m : Mod) (pg cls code : Nat) (l : List Item) (g : Fld) (hc : cls < 4) (hpage : g.key / 524288 ≠ 8)
    (hoff : 0x100 ≤ g.key / 128 % 4096) : (m.ev pg cls code l).rd g = m.rd g :=
  rd_ev_other _ _ _ _ _ _ hc (evtFlds_ne hpage hoff)

end Mod

end Sys2Proof.Machine

/-! ### The logic and auxiliary supplies (R369 to R372) -/
namespace Sys2Proof.Machine

namespace Mod
open Reg

/-- The readings, and nothing else. -/
theorem supplySeen_onlyRegs (m : Mod) (vpod vbl : Nat) : m.OnlyRegs [PWR.VPOD_V, PWR.VBL_V] (m.supplySeen vpod vbl) :=
  ((OnlyRegs.refl _ _).wr _ _ _ _ _ (by simp)).wr _ _ _ _ _ (by simp)

theorem rd_supplySeen_vpod (m : Mod) (vpod : BitVec 12) (vbl : Nat) : (m.supplySeen vpod.toNat vbl).rd PWR.VPOD_V = vpod.toNat := by
  rw [supplySeen, rd_wr_other _ _ _ _ (by decide), rd_wr_same]
  exact Nat.mod_eq_of_lt vpod.isLt

theorem rd_supplySeen_vbl (m : Mod) (vpod : Nat) (vbl : BitVec 12) : (m.supplySeen vpod vbl.toNat).rd PWR.VBL_V = vbl.toNat := by
  rw [supplySeen, rd_wr_same]
  exact Nat.mod_eq_of_lt vbl.isLt

theorem rd_supplySeen_other (m : Mod) (vpod vbl : Nat) (g : Fld) (hvpod : PWR.VPOD_V.key ≠ g.key) (hvbl : PWR.VBL_V.key ≠ g.key) :
    (m.supplySeen vpod vbl).rd g = m.rd g := by rw [supplySeen, rd_wr_other _ _ _ _ hvbl, rd_wr_other _ _ _ _ hvpod]

/-- What a supply command shows, whatever it selects. -/
def Seen (m : Mod) (vpod vbl : BitVec 12) (t : Mod) : Prop :=
  t.rd PWR.VPOD_V = vpod.toNat ∧ t.rd PWR.VBL_V = vbl.toNat ∧ t.mem = m.mem

theorem seen_supplySeen (m : Mod) (vpod vbl : BitVec 12) : m.Seen vpod vbl (m.supplySeen vpod.toNat vbl.toNat) :=
  ⟨rd_supplySeen_vpod .., rd_supplySeen_vbl .., rfl⟩

/-- The registers of a supply that is selected are not the readings. -/
theorem seen_wr {m t : Mod} {vpod vbl : BitVec 12} (h : m.Seen vpod vbl t) (f : Fld) (v : Nat) (hvpod : f.key ≠ PWR.VPOD_V.key)
    (hvbl : f.key ≠ PWR.VBL_V.key) : m.Seen vpod vbl (t.wr f v) := by
  obtain ⟨hp, hb, hmem⟩ := h
  exact ⟨(rd_wr_other _ _ _ _ hvpod).trans hp, (rd_wr_other _ _ _ _ hvbl).trans hb, hmem⟩

theorem seen_settle {m t : Mod} {vpod vbl : BitVec 12} : m.Seen vpod vbl t.settle ↔ m.Seen vpod vbl t := by
  simp only [Seen, rd_settle t PWR.VPOD_V (by decide), rd_settle t PWR.VBL_V (by decide), settle_mem]

/-- A changeover shows its source, counts and is reported (R369). -/
theorem changeover_shows (m : Mod) (vpod vbl : BitVec 12) (src : Nat) (hsrc : src < 4) (hroom : m.Room 1) (t : Mod)
    (ht : t = ((m.supplySeen vpod.toNat vbl.toNat).changeover src).settle) :
    m.Seen vpod vbl t ∧ t.rd PWR.SRC = src ∧ t.rd PWR.CHG_CNT = Nat.min (m.rd PWR.CHG_CNT + 1) PWR.CHG_CNT.max ∧
      m.Reported t 0x03 info 0x0D01 [sj src, vl16 vpod.toNat, vl16 vbl.toNat] ∧
      m.KeepsRegs ([PWR.VPOD_V, PWR.VBL_V, PWR.SRC, PWR.CHG_CNT] ++ evtFlds 0x03) t := by
  subst ht
  have hother (t : Mod) (l : List Item) (g : Fld) (h : ∀ f ∈ evtFlds 3, f.key ≠ g.key) : (t.ev 0x03 info 0x0D01 l).rd g = t.rd g :=
    rd_ev_other _ _ _ _ _ _ (by decide) h
  have hcnt := rd_supplySeen_other m vpod.toNat vbl.toNat PWR.CHG_CNT (by decide) (by decide)
  obtain ⟨hvpod, hvbl, hmem⟩ := seen_supplySeen m vpod vbl
  have hkeep := (supplySeen_onlyRegs m vpod.toNat vbl.toNat).2.mono (k := [PWR.VPOD_V, PWR.VBL_V, PWR.SRC, PWR.CHG_CNT] ++ evtFlds 0x03) (by simp)
  have hevt : (m.supplySeen vpod.toNat vbl.toNat).evt = m.evt := rfl
  have htick : (m.supplySeen vpod.toNat vbl.toNat).tick = m.tick := rfl
  generalize m.supplySeen vpod.toNat vbl.toNat = u at *
  rw [seen_settle, rd_settle _ _ (by decide), rd_settle _ _ (by decide), reported_settle, keepsRegs_settle, changeover, hvpod, hvbl]
  refine ⟨⟨?_, ?_, ?_⟩, ?_, ?_, ?_, ?_⟩
  · rw [hother _ _ _ (by decide), rd_inc_other _ _ _ (by decide), rd_wr_other _ _ _ _ (by decide), hvpod]
  · rw [hother _ _ _ (by decide), rd_inc_other _ _ _ (by decide), rd_wr_other _ _ _ _ (by decide), hvbl]
  · rw [ev_mem, inc_mem, wr_mem, hmem]
  · rw [hother _ _ _ (by decide), rd_inc_other _ _ _ (by decide), rd_wr_same]
    exact Nat.mod_eq_of_lt hsrc
  · rw [hother _ _ _ (by decide), rd_inc_same, rd_wr_other _ _ _ _ (by decide), hcnt]
  · exact reported_ev _ _ _ _ (by rw [inc_evt, wr_evt, hevt]) htick hroom
  · rw [keepsRegs_ev (List.subset_append_right _ _) (by decide), keepsRegs_inc (by simp), keepsRegs_wr (by simp)]
    exact hkeep

/-- The hold-up shows that no input is usable (R371). -/
theorem holdUp_shows (m : Mod) (vpod vbl : BitVec 12) (t : Mod) (ht : t = ((m.supplySeen vpod.toNat vbl.toNat).holdUp).settle) :
    m.Seen vpod vbl t ∧ t.rd PWR.SRC = 0 ∧ t.rd PWR.VBL_LOW = 1 ∧ m.OnlyRegs [PWR.VPOD_V, PWR.VBL_V, PWR.SRC, PWR.VBL_LOW] t := by
  subst ht
  rw [seen_settle, rd_settle _ _ (by decide), rd_settle _ _ (by decide), holdUp]
  refine ⟨seen_wr (seen_wr (seen_supplySeen ..) _ _ (by decide) (by decide)) _ _ (by decide) (by decide), ?_, ?_, ?_⟩
  · rw [rd_wr_other _ _ _ _ (by decide), rd_wr_same]; rfl
  · rw [rd_wr_same]; rfl
  · exact ((((supplySeen_onlyRegs ..).mono (by simp)).wr _ _ _ _ _ (by simp)).wr _ _ _ _ _ (by simp)).settle _ _ _

/-- Where nothing is selected the readings are all that changes. -/
theorem supplySeen_shows (m : Mod) (vpod vbl : BitVec 12) (t : Mod) (ht : t = (m.supplySeen vpod.toNat vbl.toNat).settle) :
    m.Seen vpod vbl t ∧ m.OnlyRegs [PWR.VPOD_V, PWR.VBL_V] t := by
  subst ht
  exact ⟨seen_settle.2 (seen_supplySeen ..), (supplySeen_onlyRegs ..).settle _ _ _⟩

theorem supplySeen_on (m : Mod) (vpod vbl : Nat) (g : Fld) (hvpod : PWR.VPOD_V.key ≠ g.key) (hvbl : PWR.VBL_V.key ≠ g.key) :
    (m.supplySeen vpod vbl).on g = m.on g := by rw [on, on, rd_supplySeen_other _ _ _ _ hvpod hvbl]

end Mod

open Machine.Mod Reg

theorem vpodLoss_runs (s : State) (vpod vbl : BitVec 12) (hroom : s.mod.Room 1) : s.Runs (.vpodLoss vpod vbl) fun m t => m.Seen vpod vbl t ∧
    (if m.rd PWR.SRC ≠ 1 ∨ 8500 ≤ 16 * vpod.toNat then m.OnlyRegs [PWR.VPOD_V, PWR.VBL_V] t
     else if 188 ≤ vbl.toNat then t.rd PWR.SRC = 2 ∧ t.rd PWR.CHG_CNT = Nat.min (m.rd PWR.CHG_CNT + 1) PWR.CHG_CNT.max ∧
       m.Reported t 0x03 info 0x0D01 [sj 2, vl16 vpod.toNat, vl16 vbl.toNat] ∧
       m.KeepsRegs ([PWR.VPOD_V, PWR.VBL_V, PWR.SRC, PWR.CHG_CNT] ++ evtFlds 0x03) t
     else t.rd PWR.SRC = 0 ∧ t.rd PWR.VBL_LOW = 1 ∧ m.OnlyRegs [PWR.VPOD_V, PWR.VBL_V, PWR.SRC, PWR.VBL_LOW] t) := by
  refine State.runs_next s _ _ _ rfl ?_
  have hsrc := rd_supplySeen_other s.mod vpod.toNat vbl.toNat PWR.SRC (by decide) (by decide)
  have hlow : ¬ Mod.vpodLow vpod.toNat = true ↔ 8500 ≤ 16 * vpod.toNat := by simp [Mod.vpodLow]
  have husable : Mod.vblUsable vbl.toNat = true ↔ 188 ≤ vbl.toNat := by simp [Mod.vblUsable]
  simp only [hsrc, hlow, husable]
  by_cases hstay : s.mod.rd PWR.SRC ≠ 1 ∨ 8500 ≤ 16 * vpod.toNat
  · simp only [if_pos hstay]
    exact supplySeen_shows s.mod vpod vbl _ rfl
  · by_cases hvbl : 188 ≤ vbl.toNat
    · simp only [if_neg hstay, if_pos hvbl]
      exact changeover_shows s.mod vpod vbl 2 (by decide) hroom _ rfl
    · simp only [if_neg hstay, if_neg hvbl]
      exact holdUp_shows s.mod vpod vbl _ rfl

theorem vpodReturn_runs (s : State) (vpod vbl : BitVec 12) (hroom : s.mod.Room 1) (hfree : s.mod.pwr.vpodBlocked = false) :
    s.Runs (.vpodReturn vpod vbl) fun m t => m.Seen vpod vbl t ∧
    (if 16 * vpod.toNat < 9000 then m.OnlyRegs [PWR.VPOD_V, PWR.VBL_V] t
     else if m.rd PWR.SRC = 2 then t.rd PWR.SRC = 1 ∧ t.rd PWR.CHG_CNT = Nat.min (m.rd PWR.CHG_CNT + 1) PWR.CHG_CNT.max ∧
       m.Reported t 0x03 info 0x0D01 [sj 1, vl16 vpod.toNat, vl16 vbl.toNat] ∧
       m.KeepsRegs ([PWR.VPOD_V, PWR.VBL_V, PWR.SRC, PWR.CHG_CNT] ++ evtFlds 0x03) t
     else t.rd PWR.SRC = 1 ∧ t.rd PWR.VBL_LOW = 0 ∧ m.OnlyRegs [PWR.VPOD_V, PWR.VBL_V, PWR.SRC, PWR.VBL_LOW] t) := by
  refine State.runs_next s _ _ _ rfl ?_
  have hsrc := rd_supplySeen_other s.mod vpod.toNat vbl.toNat PWR.SRC (by decide) (by decide)
  have hblocked : ((s.mod.supplySeen vpod.toNat vbl.toNat).pwr.vpodBlocked = true) = False := by
    rw [show (s.mod.supplySeen vpod.toNat vbl.toNat).pwr = s.mod.pwr from rfl, hfree]
    simp
  simp only [hsrc, hblocked, false_or]
  by_cases hlow : 16 * vpod.toNat < 9000
  · simp only [if_pos hlow]
    exact supplySeen_shows s.mod vpod vbl _ rfl
  · by_cases hvbl : s.mod.rd PWR.SRC = 2
    · simp only [if_neg hlow, if_pos hvbl]
      exact changeover_shows s.mod vpod vbl 1 (by decide) hroom _ rfl
    · simp only [if_neg hlow, if_neg hvbl]
      rw [seen_settle, rd_settle _ _ (by decide), rd_settle _ _ (by decide)]
      refine ⟨seen_wr (seen_wr (seen_supplySeen ..) _ _ (by decide) (by decide)) _ _ (by decide) (by decide), ?_, ?_, ?_⟩
      · rw [rd_wr_other _ _ _ _ (by decide), rd_wr_same]; rfl
      · rw [rd_wr_same]; rfl
      · exact ((((supplySeen_onlyRegs ..).mono (by simp)).wr _ _ _ _ _ (by simp)).wr _ _ _ _ _ (by simp)).settle _ _ _

theorem holdupStart_runs (s : State) (vpod vbl : BitVec 12) : s.Runs (.holdupStart vpod vbl) fun m t => m.Seen vpod vbl t ∧
    (if 16 * vpod.toNat < 8500 ∧ vbl.toNat < 188 then t.rd PWR.SRC = 0 ∧ t.rd PWR.VBL_LOW = 1 ∧
       m.OnlyRegs [PWR.VPOD_V, PWR.VBL_V, PWR.SRC, PWR.VBL_LOW] t
     else m.OnlyRegs [PWR.VPOD_V, PWR.VBL_V] t) := by
  refine State.runs_next s _ _ _ rfl ?_
  have hboth : (Mod.vpodLow vpod.toNat = true ∧ ¬ Mod.vblUsable vbl.toNat = true) ↔ 16 * vpod.toNat < 8500 ∧ vbl.toNat < 188 := by
    simp [Mod.vpodLow, Mod.vblUsable]
  simp only [hboth]
  by_cases hlow : 16 * vpod.toNat < 8500 ∧ vbl.toNat < 188
  · simp only [if_pos hlow]
    exact holdUp_shows s.mod vpod vbl _ rfl
  · simp only [if_neg hlow]
    exact supplySeen_shows s.mod vpod vbl _ rfl

theorem holdupEnd_runs (s : State) (vpod vbl : BitVec 12) : s.Runs (.holdupEnd vpod vbl) fun m t => m.Seen vpod vbl t ∧
    (if m.on PWR.VBL_LOW = true ∧ (188 ≤ vbl.toNat ∨ (m.pwr.vpodBlocked = false ∧ 8500 ≤ 16 * vpod.toNat)) then
       t.rd PWR.SRC = (if 188 ≤ vbl.toNat then 2 else 1) ∧ t.rd PWR.VBL_LOW = 0 ∧ m.OnlyRegs [PWR.VPOD_V, PWR.VBL_V, PWR.SRC, PWR.VBL_LOW] t
     else m.OnlyRegs [PWR.VPOD_V, PWR.VBL_V] t) := by
  refine State.runs_next s _ _ _ rfl ?_
  have hon := supplySeen_on s.mod vpod.toNat vbl.toNat PWR.VBL_LOW (by decide) (by decide)
  have husable : Mod.vblUsable vbl.toNat = true ↔ 188 ≤ vbl.toNat := by simp [Mod.vblUsable]
  have hstay : (¬ (s.mod.supplySeen vpod.toNat vbl.toNat).on PWR.VBL_LOW = true ∨
      (((s.mod.supplySeen vpod.toNat vbl.toNat).pwr.vpodBlocked = true ∨ Mod.vpodLow vpod.toNat = true) ∧ ¬ Mod.vblUsable vbl.toNat = true)) ↔
      ¬ (s.mod.on PWR.VBL_LOW = true ∧ (188 ≤ vbl.toNat ∨ (s.mod.pwr.vpodBlocked = false ∧ 8500 ≤ 16 * vpod.toNat))) := by
    rw [hon, show (s.mod.supplySeen vpod.toNat vbl.toNat).pwr = s.mod.pwr from rfl]
    simp only [Mod.vpodLow, Mod.vblUsable, decide_eq_true_eq]
    cases s.mod.on PWR.VBL_LOW
    · simp
    · cases s.mod.pwr.vpodBlocked <;> simp
      omega
  simp only [hstay]
  by_cases hback : s.mod.on PWR.VBL_LOW = true ∧ (188 ≤ vbl.toNat ∨ (s.mod.pwr.vpodBlocked = false ∧ 8500 ≤ 16 * vpod.toNat))
  · simp only [if_neg (not_not_intro hback), if_pos hback, husable]
    rw [seen_settle, rd_settle _ _ (by decide), rd_settle _ _ (by decide)]
    refine ⟨seen_wr (seen_wr (seen_supplySeen ..) _ _ (by decide) (by decide)) _ _ (by decide) (by decide), ?_, ?_, ?_⟩
    · rw [rd_wr_same]
      split <;> rfl
    · rw [rd_wr_other _ _ _ _ (by decide), rd_wr_same]; rfl
    · exact ((((supplySeen_onlyRegs ..).mono (by simp)).wr _ _ _ _ _ (by simp)).wr _ _ _ _ _ (by simp)).settle _ _ _
  · simp only [if_pos hback, if_neg hback]
    exact supplySeen_shows s.mod vpod vbl _ rfl

/-- A controller that sends nothing has nothing to cut short. -/
theorem Mod.canCut_idle {m : Mod} {n : Nat} (h : (m.can n).sending = none) : m.canCut n = m := by
  rw [canCut, if_neg fun hcut => by simp [h] at hcut]

theorem Mod.forN_canCut_idle (k : Nat) (m : Mod) (h : ∀ n, n < k → (m.can n).sending = none) : forN k (fun (m : Mod) n => m.canCut n) m = m := by
  induction k with
  | zero => rfl
  | succ k ih => rw [forN, List.range_succ, List.foldl_append, ← forN, ih fun n hn => h n (by omega), List.foldl_cons, canCut_idle (h k (by omega)), List.foldl_nil]

theorem auxLow_runs (s : State) (feed : BitVec 12) (hroom : s.mod.Room 1) (hidle : ∀ n, n < 12 → (s.mod.can n).sending = none) :
    s.Runs (.auxLow feed) fun m t => if m.on PWR.AUX_LOW = true ∨ 4500 ≤ Mod.auxOut feed.toNat then m.OnlyRegs [] t else
      t.rd PWR.AUX_LOW = 1 ∧ m.Reported t 0x03 warn 0x0D06 [vl16 feed.toNat] ∧ t.mem = m.mem ∧ m.KeepsRegs ([PWR.AUX_LOW] ++ evtFlds 0x03) t := by
  refine State.runs_next s _ _ _ rfl ?_
  by_cases hstay : s.mod.on PWR.AUX_LOW = true ∨ 4500 ≤ Mod.auxOut feed.toNat
  · simp only [if_pos hstay]
    exact (OnlyRegs.refl _ _).settle _ _ _
  · simp only [if_neg hstay]
    rw [forN_canCut_idle 12 _ fun n hn => by rw [can, ev_cans, wr_cans]; exact hidle n hn]
    rw [rd_settle _ _ (by decide), reported_settle, settle_mem, keepsRegs_settle]
    refine ⟨?_, reported_ev _ _ _ _ (wr_evt ..) rfl hroom, by rw [ev_mem, wr_mem], ?_⟩
    · rw [rd_ev_other _ _ _ _ _ _ (by decide) (by decide), rd_wr_same]; rfl
    · rw [keepsRegs_ev (List.subset_append_right _ _) (by decide), keepsRegs_wr (by simp)]
      exact KeepsRegs.refl _ _

theorem auxRecover_runs (s : State) : s.Runs .auxRecover fun m t => t.rd PWR.AUX_LOW = 0 ∧ (m.rd PWR.AUX_LOW = 0 → m.OnlyRegs [] t) := by
  refine State.runs_next s _ _ _ rfl ?_
  rw [rd_settle _ _ (by decide)]
  by_cases hlow : s.mod.on PWR.AUX_LOW = true
  · have hbelow := below_forN (n := 24) (fun t p => below_trxSettled t p) (s.mod.wr PWR.AUX_LOW 0)
    rw [if_pos hlow]
    refine ⟨(hbelow.get PWR.AUX_LOW (by decide)).trans ?_, fun h => by simp [on, h] at hlow⟩
    rw [rd_wr_same]; rfl
  · rw [if_neg hlow]
    exact ⟨by simpa [on] using hlow, fun _ => (OnlyRegs.refl _ _).settle _ _ _⟩

/-- Settles O45, command by command. -/
theorem suppliesAreSelected : Obligations.SuppliesAreSelected := by
  intro s
  refine ⟨fun vpod vbl => ⟨fun hroom => ?_, fun hroom hfree => ?_, ?_, ?_⟩, fun feed hroom hidle => auxLow_runs s feed hroom hidle, auxRecover_runs s⟩
  · exact vpodLoss_runs s vpod vbl hroom
  · exact vpodReturn_runs s vpod vbl hroom hfree
  · exact holdupStart_runs s vpod vbl
  · exact holdupEnd_runs s vpod vbl

end Sys2Proof.Machine

/-! ### Folds, and the parts of the state that are kept by number -/
namespace Sys2Proof.Machine

/-- What no step of a fold changes, the fold does not change. -/
theorem foldl_leaves {α β γ : Type} (π : β → γ) {f : β → α → β} (hf : ∀ b a, π (f b a) = π b) (l : List α) : ∀ b, π (l.foldl f b) = π b := by
  induction l with
  | nil => exact fun _ => rfl
  | cons a l ih => exact fun b => (ih (f b a)).trans (hf b a)

namespace Mod
open Reg

/-- A read looks at the registers alone. -/
theorem rd_congr {t u : Mod} (h : t.regs = u.regs) (g : Fld) : t.rd g = u.rd g := by rw [rd, rd, h]

@[simp] theorem can_onCan_same (m : Mod) (n : Nat) (f : CanX → CanX) : (m.onCan n f).can n = f (m.can n) := SMap.get_set_same _ _ _ _

theorem can_congr {t u : Mod} (h : t.cans = u.cans) (n : Nat) : t.can n = u.can n := by rw [can, can, h]

/-! #### The queue of a controller that sends nothing -/

theorem landWrites_idle {m : Mod} {n : Nat} (h : (m.can n).sending = none) :
    (m.landWrites n).regs = m.regs ∧ (m.landWrites n).can n = { m.can n with sending := none, deferred := [] } := by
  simp only [landWrites, h]
  refine ⟨(foldl_leaves Mod.regs (fun t d => ?_) _ _).trans (onCan_regs ..), (foldl_leaves (Mod.can · n) (fun t d => ?_) _ _).trans (can_onCan_same ..)⟩
  · cases d with
    | inl w => simp only [stepSeq_regs, setObjBit_regs, store_regs]
    | inr f => rfl
  · cases d with
    | inl w =>
      refine can_congr ?_ n
      simp only [stepSeq, setObjBit]
      rw [store_only, store_only, store_only]
    | inr f => rfl

theorem emptyQueue_idle {m : Mod} {n : Nat} (h : (m.can n).sending = none) : (m.emptyQueue n).regs = (m.wr (CAN.TXQ_LVL n) 0).regs ∧
    (m.emptyQueue n).can n = { m.can n with queue := [], sending := none, deferred := [] } := by
  have hpend (q : List (Nat × Nat)) : (q.foldl (fun m e => m.setObjBit e.1 21 false) m).regs = m.regs ∧
      (q.foldl (fun m e => m.setObjBit e.1 21 false) m).cans = m.cans :=
    ⟨foldl_leaves Mod.regs (fun t e => setObjBit_regs ..) q m,
      foldl_leaves Mod.cans (fun t e => by rw [setObjBit, store_only]) q m⟩
  simp only [emptyQueue]
  obtain ⟨hregs, hcans⟩ := hpend (m.can n).queue
  generalize (m.can n).queue.foldl (fun m e => m.setObjBit e.1 21 false) m = t at *
  have hq (p : Promise → Bool) (f : Promise → Promise) : (((t.onPromises p f).setQueue n []).can n) = { m.can n with queue := [] } := by
    rw [setQueue, can, wr_cans, ← can, can_onCan_same, ← can_congr hcans]
    rfl
  have hland (u : Mod) (hu : u.can n = { m.can n with queue := [] }) := landWrites_idle (m := u) (n := n) (by rw [hu]; exact h)
  refine ⟨(hland _ (hq _ _)).1.trans ?_, (hland _ (hq _ _)).2.trans (by rw [hq])⟩
  simp only [setQueue, wr, onCan_regs, onPromises_regs, hregs, List.length_nil]

end Mod

end Sys2Proof.Machine

/-! ### The modes of a CAN controller and its lookup index (R264, R266, R270) -/
namespace Sys2Proof.Machine

namespace Mod
open Reg

/-- The registers that a controller's way off the bus writes. -/
def offFlds (n : Nat) : List Fld := [CAN.MODE n, CAN.TEC n, CAN.REC n, CAN.RP n, CAN.ERRST n, CAN.RECOV n, CAN.TXQ_LVL n, CAN.CFG_ERR n]

theorem offFlds_derived : ∀ n : Fin 12, ∀ f ∈ offFlds n, f.key ∉ derivedKeys := by decide

/-- Off the bus with no frame being sent: the counts, the queue and the recovery are cleared. -/
theorem canOff_shows {m t : Mod} {n : Nat} (h : (m.can n).sending = none) (ht : t = m.canOff n) :
    t.rd (CAN.MODE n) = 0 ∧ t.rd (CAN.TEC n) = 0 ∧ t.rd (CAN.REC n) = 0 ∧ t.rd (CAN.RP n) = 0 ∧ t.rd (CAN.ERRST n) = 3 ∧
    t.rd (CAN.RECOV n) = 0 ∧ t.rd (CAN.TXQ_LVL n) = 0 ∧ t.rd (CAN.CFG_ERR n) = m.rd (CAN.CFG_ERR n) ∧ (t.can n).queue = [] ∧
    (t.can n).monitor = false ∧ m.KeepsRegs (offFlds n) t := by
  subst ht
  obtain ⟨hregs, hcan⟩ := emptyQueue_idle h
  simp only [canOff]
  generalize m.emptyQueue n = e at *
  have hrd (u : Mod) (f : CanX → CanX) (g : Fld) : (u.onCan n f).rd g = u.rd g := rfl
  have hqueue (u : Mod) (hu : u.cans = e.cans) (f : CanX → CanX) : (u.onCan n f).can n = f { m.can n with queue := [], sending := none, deferred := [] } := by
    rw [can_onCan_same, can_congr hu, hcan]
  have hlvl := rd_congr hregs (CAN.TXQ_LVL n)
  have herr := rd_congr hregs (CAN.CFG_ERR n)
  refine ⟨?_, ?_, ?_, ?_, ?_, ?_, ?_, ?_, ?_, ?_, ?_⟩
  iterate 6
    simp (disch := (simp only [Fld.key, CAN.MODE, CAN.TEC, CAN.REC, CAN.RP, CAN.ERRST, CAN.RECOV, ResetClass.code]; omega)) only
      [hrd, rd_wr_other, rd_wr_same]
    rfl
  · simp (disch := (simp only [Fld.key, CAN.MODE, CAN.TEC, CAN.REC, CAN.RP, CAN.ERRST, CAN.RECOV, CAN.TXQ_LVL, ResetClass.code]; omega)) only
      [hrd, rd_wr_other, hlvl, rd_wr_same]
    rfl
  · simp (disch := (simp only [Fld.key, CAN.MODE, CAN.TEC, CAN.REC, CAN.RP, CAN.ERRST, CAN.RECOV, CAN.TXQ_LVL, CAN.CFG_ERR, ResetClass.code]; omega)) only
      [hrd, rd_wr_other, herr]
  · rw [hqueue _ (by simp only [wr_cans])]
  · rw [hqueue _ (by simp only [wr_cans])]
  · have hkept : m.KeepsRegs (offFlds n) e := keepsRegs_iff.2 (hregs ▸ (keptIn_wr (by simp [offFlds]) m m 0).2 (keptIn_refl _ _))
    refine KeepsRegs.of_regs _ _ _ _ ?_ (onCan_regs ..)
    iterate 6 rw [keepsRegs_wr (by simp [offFlds])]
    exact hkept

/-- An index of at most one entry has no duplicate. -/
theorem duplicate_of_length_le_one {l : List (Nat × Nat)} (h : l.length ≤ 1) : duplicate l = none := by
  match l, h with
  | [], _ => rfl
  | [_], _ => rfl

/-- BUILD of a controller that is off with at most one enabled object (R270). -/
theorem canBuild_single {m : Mod} {n : Nat} (hoff : m.rd (CAN.MODE n) = 0) (hlen : (m.enabledObjs n).length ≤ 1) :
    m.canBuild n = ((m.wr (CAN.BUILT n) 1).wr (CAN.DUP n) 0).onCan n fun x => { x with
      index := (m.enabledObjs n).map fun o => (objKey (if m.objTx o then 1 else 0) (m.objIde o) (m.objId o), o) } := by
  simp only [canBuild, hoff, ne_eq, not_true_eq_false, if_false]
  rw [duplicate_of_length_le_one (by simpa using hlen)]

/-- A controller with an invalid configuration takes no mode but OFF (R264). -/
theorem canMode_bad {m : Mod} {n : Nat} (mode : Nat) (busy : Bool) (hmode : mode = 1 ∨ mode = 2) (h : m.canCfgOk n = false) :
    m.canMode n mode busy = m.wr (CAN.CFG_ERR n) 1 := by
  rcases hmode with rfl | rfl <;> simp [canMode, h]

/-- From OFF, with a valid configuration and no frame of its own, a controller starts to integrate (R266). -/
theorem canMode_fromOff {m : Mod} {n : Nat} (mode : Nat) (busy : Bool) (hmode : mode = 1 ∨ mode = 2) (hcfg : m.canCfgOk n = true)
    (hoff : m.rd (CAN.MODE n) = 0) (hidle : (m.can n).sending = none) :
    m.canMode n mode busy = (((m.wr (CAN.CFG_ERR n) 0).wr (CAN.ERRST n) 3).wr (CAN.MODE n) mode) := by
  have hoff' : (m.wr (CAN.CFG_ERR n) 0).rd (CAN.MODE n) = 0 := by
    rw [rd_wr_other _ _ _ _ (key_ne (by simp only [CAN.CFG_ERR, CAN.MODE]; omega)), hoff]
  have hlive : (m.wr (CAN.CFG_ERR n) 0).canLive n = false := by simp [canLive, on, hoff']
  have hidle' : ((m.wr (CAN.CFG_ERR n) 0).can n).sending = none := by rw [can, wr_cans]; exact hidle
  have htake : (m.wr (CAN.CFG_ERR n) 0).modeTake n mode = (((m.wr (CAN.CFG_ERR n) 0).wr (CAN.ERRST n) 3).wr (CAN.MODE n) mode) := by
    have hstate : ((((m.wr (CAN.CFG_ERR n) 0).wr (CAN.ERRST n) 3).wr (CAN.MODE n) mode)).rd (CAN.ERRST n) = 3 := by
      rw [rd_wr_other _ _ _ _ (key_ne (by simp only [CAN.MODE, CAN.ERRST]; omega)), rd_wr_same]
      rfl
    rcases hmode with rfl | rfl <;> simp [modeTake, hoff', arbitrate, hstate]
  rcases hmode with rfl | rfl <;> simp [canMode, hcfg, hoff', hidle', hlive, htake]

end Mod

open Machine.Mod Reg

/-- A mode that a controller takes from OFF shows integration and changes nothing but its three registers. -/
theorem mode_shows {m : Mod} (n : Fin 12) {mode : Nat} (hmode : mode < 4) {t : Mod}
    (ht : t = (((m.wr (CAN.CFG_ERR n) 0).wr (CAN.ERRST n) 3).wr (CAN.MODE n) mode).settle) :
    t.rd (CAN.MODE n) = mode ∧ t.rd (CAN.ERRST n) = 3 ∧ t.rd (CAN.CFG_ERR n) = 0 ∧ m.OnlyRegs [CAN.MODE n, CAN.ERRST n, CAN.CFG_ERR n] t := by
  subst ht
  have hder := offFlds_derived n
  rw [rd_settle _ _ (hder _ (by simp [offFlds])), rd_settle _ _ (hder _ (by simp [offFlds])), rd_settle _ _ (hder _ (by simp [offFlds]))]
  refine ⟨?_, ?_, ?_, ((((OnlyRegs.refl _ _).wr _ _ _ _ _ (by simp)).wr _ _ _ _ _ (by simp)).wr _ _ _ _ _ (by simp)).settle _ _ _⟩
  · rw [rd_wr_same]
    exact Nat.mod_eq_of_lt hmode
  · rw [rd_wr_other _ _ _ _ (key_ne (by simp only [CAN.MODE, CAN.ERRST]; omega)), rd_wr_same]
    rfl
  · rw [rd_wr_other _ _ _ _ (key_ne (by simp only [CAN.MODE, CAN.CFG_ERR]; omega)), rd_wr_other _ _ _ _ (key_ne (by simp only [CAN.ERRST, CAN.CFG_ERR]; omega)), rd_wr_same]
    rfl

/-- CFG_ERR is in no check of what the controller may do. -/
theorem canLive_cfgErr (m : Mod) (n v : Nat) : (m.wr (CAN.CFG_ERR n) v).canLive n = m.canLive n := by
  have hother (g : Fld) (hg : (CAN.CFG_ERR n).key ≠ g.key) : (m.wr (CAN.CFG_ERR n) v).rd g = m.rd g := rd_wr_other _ _ _ _ hg
  have hmode := hother (CAN.MODE n) (by simp only [CAN.CFG_ERR, CAN.MODE, Fld.key, ResetClass.code]; omega)
  have herr := hother (CAN.ERRST n) (by simp only [CAN.CFG_ERR, CAN.ERRST, Fld.key, ResetClass.code]; omega)
  have hstate := hother (TRX.STATE (0x20 + n)) (by simp only [CAN.CFG_ERR, TRX.STATE, Fld.key, ResetClass.code]; omega)
  have hdom := hother PWR.DOM_STAT (by simp only [CAN.CFG_ERR, PWR.DOM_STAT, Fld.key, ResetClass.code]; omega)
  simp only [canLive, on, hmode, herr, hstate, awake, bit, hdom, trx, wr_trxs]

theorem rd_mode_cfgErr (m : Mod) (n v : Nat) : (m.wr (CAN.CFG_ERR n) v).rd (CAN.MODE n) = m.rd (CAN.MODE n) :=
  rd_wr_other _ _ _ _ (by simp only [CAN.CFG_ERR, CAN.MODE, Fld.key, ResetClass.code]; omega)

/-- OFF of an idle controller (R266). -/
theorem canMode_off {m : Mod} {n : Nat} (busy : Bool) (hmode : m.rd (CAN.MODE n) = 1) (hidle : (m.can n).sending = none)
    (hbusy : busy = true → m.canLive n = false) : m.canMode n 0 busy = (m.wr (CAN.CFG_ERR n) 0).canOff n := by
  have hidle' : ((m.wr (CAN.CFG_ERR n) 0).can n).sending = none := by rw [can, wr_cans]; exact hidle
  have hgo : ¬ (busy = true ∧ (m.wr (CAN.CFG_ERR n) 0).canLive n = true) := by
    rw [canLive_cfgErr]
    exact fun ⟨hb, hl⟩ => by simp [hbusy hb] at hl
  simp [canMode, rd_mode_cfgErr, hmode, hidle', hgo, modeTake]

/-- OFF with a frame in progress waits for its end (R266). -/
theorem canMode_offBusy {m : Mod} {n : Nat} (hmode : m.rd (CAN.MODE n) = 1) (hbusy : (m.can n).sending ≠ none ∨ m.canLive n = true) :
    m.canMode n 0 true = (m.wr (CAN.CFG_ERR n) 0).onCan n fun x => { x with modePend := some 0 } := by
  have hgo : ((m.wr (CAN.CFG_ERR n) 0).can n).sending.isSome = true ∨ (true = true ∧ (m.wr (CAN.CFG_ERR n) 0).canLive n = true) := by
    rw [canLive_cfgErr, can, wr_cans, ← can]
    simpa [Option.isSome_iff_ne_none] using hbusy
  simp only [canMode, reduceIte, ne_eq, not_true_eq_false, false_and, rd_mode_cfgErr, hmode, Nat.reduceEqDiff, show ¬ (0 : Nat) = 2 by decide]
  rw [if_pos (by simpa using hgo)]

/-- Settles O29: OFF by `canOff_shows`, the other modes by `canMode_fromOff` and `canMode_bad`, BUILD by `canBuild_single`. -/
theorem canModesTakeEffect : Obligations.CanModesTakeEffect := by
  intro s n
  have hshown : ∀ f ∈ offFlds n, ∀ t : Mod, t.settle.rd f = t.rd f := fun f hf t => rd_settle _ _ (offFlds_derived n f hf)
  have hcfg (t : Mod) : t.settle.rd (CAN.CFG_ERR n) = t.rd (CAN.CFG_ERR n) := hshown _ (by simp [offFlds]) t
  refine ⟨fun busy hmode hidle hbusy => State.runs_next s _ _ _ rfl ?_, fun hmode hbusy => State.runs_next s _ _ _ rfl ?_,
    fun busy hoff hcfg hidle => ⟨State.runs_next s _ _ _ rfl ?_, State.runs_next s _ _ _ rfl ?_⟩,
    fun busy hbad => ⟨State.runs_next s _ _ _ rfl ?_, State.runs_next s _ _ _ rfl ?_⟩, fun hoff hlen => State.runs_next s _ _ _ rfl ?_⟩
  · obtain ⟨h1, h2, h3, h4, h5, h6, h7, h8, h9, h10, hkeep⟩ :=
      canOff_shows (m := s.mod.wr (CAN.CFG_ERR n) 0) (by rw [can, wr_cans]; exact hidle) (canMode_off busy hmode hidle hbusy)
    have hsettled (f : Fld) (v : Nat) (h : (s.mod.canMode n 0 busy).rd f = v) (hf : f ∈ offFlds n) :
        (s.mod.canMode n 0 busy).settle.rd f = v := (hshown f hf _).trans h
    refine ⟨hsettled _ _ h1 ?_, hsettled _ _ h2 ?_, hsettled _ _ h3 ?_, hsettled _ _ h4 ?_, hsettled _ _ h5 ?_, hsettled _ _ h6 ?_,
      hsettled _ _ h7 ?_, hsettled _ _ (h8.trans ?_) ?_, by rw [can, settle_cans]; exact h9, by rw [can, settle_cans]; exact h10,
      (keepsRegs_settle ..).2 (KeepsRegs.trans (t := s.mod.wr (CAN.CFG_ERR n) 0) ?_ hkeep)⟩
    iterate 7 simp [offFlds]
    · rw [rd_wr_same]
      rfl
    · simp [offFlds]
    · exact (KeepsRegs.refl _ _).wr _ _ _ _ _ (by simp)
  · rw [hcfg, canMode_offBusy hmode hbusy]
    refine ⟨?_, ?_, ?_, ?_⟩
    · rw [can, settle_cans, ← can, can_onCan_same]
    · rw [rd_congr (onCan_regs ..), rd_wr_same]
      rfl
    · rw [settle_mem, onCan_mem, wr_mem]
    · rw [keepsRegs_settle]
      exact KeepsRegs.of_regs _ _ _ _ ((KeepsRegs.refl _ _).wr _ _ _ _ _ (by simp)) (onCan_regs ..)
  · exact mode_shows n (by decide) (congrArg settle (canMode_fromOff 1 busy (.inl rfl) hcfg hoff hidle))
  · exact mode_shows n (by decide) (congrArg settle (canMode_fromOff 2 busy (.inr rfl) hcfg hoff hidle))
  · rw [hcfg, canMode_bad 1 busy (.inl rfl) hbad, rd_wr_same]
    exact ⟨rfl, ((OnlyRegs.refl _ _).wr _ _ _ _ _ (by simp)).settle _ _ _⟩
  · rw [hcfg, canMode_bad 2 busy (.inr rfl) hbad, rd_wr_same]
    exact ⟨rfl, ((OnlyRegs.refl _ _).wr _ _ _ _ _ (by simp)).settle _ _ _⟩
  · have hder : ∀ n : Fin 12, (CAN.BUILT n).key ∉ derivedKeys ∧ (CAN.DUP n).key ∉ derivedKeys := by decide
    rw [canBuild_single hoff hlen, rd_settle _ _ (hder n).1, rd_settle _ _ (hder n).2]
    refine ⟨?_, ?_, ?_, ?_, ?_⟩
    · rw [rd_congr (onCan_regs ..), rd_wr_other _ _ _ _ (by simp only [CAN.DUP, CAN.BUILT, Fld.key, ResetClass.code]; omega), rd_wr_same]
      rfl
    · rw [rd_congr (onCan_regs ..), rd_wr_same]
      rfl
    · rw [can, settle_cans, ← can, can_onCan_same]
    · rw [settle_mem, onCan_mem, wr_mem, wr_mem]
    · rw [keepsRegs_settle]
      exact KeepsRegs.of_regs _ _ _ _ (((KeepsRegs.refl _ _).wr _ _ _ _ _ (by simp)).wr _ _ _ _ _ (by simp)) (onCan_regs ..)

end Sys2Proof.Machine

/-! ### Conditional clears and locks of receive objects (R273, R274) -/
namespace Sys2Proof.Machine

namespace Mod
open Reg

/-- A bit that is cleared was a power of two of the number. -/
theorem two_pow_add_sub_of_testBit {v i : Nat} (h : v.testBit i = true) : 2 ^ i + (v - 2 ^ i) = v := by
  have := Nat.ge_two_pow_of_testBit h
  omega

@[simp] theorem setBit_testBit_same (v i : Nat) (b : Bool) : (setBit v i b).testBit i = b := by
  rw [setBit]
  split
  next hsame => exact hsame
  split
  · rw [Nat.add_comm, Nat.testBit_two_pow_add_eq]
    cases b <;> simp_all
  · have hold : v.testBit i = true := by cases b <;> simp_all
    have hnew := Nat.testBit_two_pow_add_eq (v - 2 ^ i) i
    rw [two_pow_add_sub_of_testBit hold, hold] at hnew
    cases b <;> simp_all

/-- The bits below the one written stay. -/
theorem setBit_testBit_lt {v i j : Nat} (b : Bool) (hj : j < i) : (setBit v i b).testBit j = v.testBit j := by
  rw [setBit]
  split
  · rfl
  split
  · rw [Nat.add_comm, Nat.testBit_two_pow_add_gt hj]
  · have hold : v.testBit i = true := by cases b <;> simp_all
    conv => rhs; rw [← two_pow_add_sub_of_testBit hold, Nat.testBit_two_pow_add_gt hj]

/-- Bytes 8 to 11 of object `o` are all of memory that differs. -/
def WordOnly (o : Nat) (m t : Mod) : Prop := ∀ a, (a < objAddr o + 8 ∨ objAddr o + 12 ≤ a) → t.byte a = m.byte a

theorem wordOnly_refl (o : Nat) (m : Mod) : m.WordOnly o m := fun _ _ => rfl

theorem WordOnly.setObjBit {o : Nat} {m t : Mod} (h : m.WordOnly o t) (b : Nat) (v : Bool) : m.WordOnly o (t.setObjBit o b v) :=
  fun a ha => (byte_store_other 4 t _ _ a (by omega)).trans (h a ha)

theorem WordOnly.of_mem {o : Nat} {m t u : Mod} (h : m.WordOnly o t) (hu : u.mem = t.mem) : m.WordOnly o u :=
  fun a ha => (byte_congr hu a).trans (h a ha)

theorem objWord_setObjBit (m : Mod) (o b : Nat) (v : Bool) : (m.setObjBit o b v).objWord o 2 = setBit (m.objWord o 2) b v % 2 ^ 32 :=
  load_store_same 4 m _ _

theorem objBit_setObjBit_same (m : Mod) (o b : Nat) (v : Bool) (hb : b < 32) : (m.setObjBit o b v).objBit o b = v := by
  rw [objBit, objWord_setObjBit, Nat.testBit_mod_two_pow, setBit_testBit_same]
  simp [hb]

theorem objBit_setObjBit_lt (m : Mod) (o : Nat) {b c : Nat} (v : Bool) (hc : c < b) (hb : b < 32) :
    (m.setObjBit o b v).objBit o c = m.objBit o c := by
  rw [objBit, objWord_setObjBit, Nat.testBit_mod_two_pow, setBit_testBit_lt _ hc]
  simp [show c < 32 by omega, objBit]

theorem objBit_congr {m t : Mod} (h : t.mem = m.mem) (o b : Nat) : t.objBit o b = m.objBit o b := by rw [objBit, objWord, load_congr h, objBit, objWord]

theorem setObjBit_cans (m : Mod) (o b : Nat) (v : Bool) : (m.setObjBit o b v).cans = m.cans := by rw [setObjBit, store_only]

theorem setObjBit_evt (m : Mod) (o b : Nat) (v : Bool) : (m.setObjBit o b v).evt = m.evt := by rw [setObjBit, store_only]

/-! #### The clear -/

/-- A clear under the current sequence number. -/
theorem condClear_same {m : Mod} {o v : Nat} (h : fld v 25 22 = m.objSeq o) :
    (v.testBit 18 = true → (m.condClear o v).objBit o 18 = false) ∧ (v.testBit 19 = true → (m.condClear o v).objBit o 19 = false) ∧
      m.WordOnly o (m.condClear o v) ∧ (m.condClear o v).regs = m.regs := by
  have hnew : (v.testBit 18 = true → (if v.testBit 18 then m.setObjBit o 18 false else m).objBit o 18 = false) ∧
      m.WordOnly o (if v.testBit 18 then m.setObjBit o 18 false else m) ∧ (if v.testBit 18 then m.setObjBit o 18 false else m).regs = m.regs := by
    split
    · exact ⟨fun _ => objBit_setObjBit_same _ _ _ _ (by decide), (wordOnly_refl o m).setObjBit _ _, setObjBit_regs ..⟩
    · exact ⟨fun h => absurd h ‹_›, wordOnly_refl o m, rfl⟩
  simp only [condClear, if_pos h]
  obtain ⟨hbit, honly, hregs⟩ := hnew
  generalize (if v.testBit 18 then m.setObjBit o 18 false else m) = t at *
  split
  · exact ⟨fun h18 => (objBit_setObjBit_lt _ _ _ (by decide) (by decide)).trans (hbit h18), fun _ => objBit_setObjBit_same _ _ _ _ (by decide),
      honly.setObjBit _ _, (setObjBit_regs ..).trans hregs⟩
  · exact ⟨hbit, fun h => absurd h ‹_›, honly, hregs⟩

/-! #### The lock -/

theorem WordOnly.trans {o : Nat} {m t u : Mod} (h : m.WordOnly o t) (hu : t.WordOnly o u) : m.WordOnly o u :=
  fun a ha => (hu a ha).trans (h a ha)

/-- At the end of a read LOST clears unless a frame was lost under the lock. -/
theorem lostCleared_shows (m : Mod) (o : Nat) (lost : Bool) {t : Mod} (ht : t = if lost then m else m.setObjBit o 19 false) :
    t.objBit o 18 = m.objBit o 18 ∧ m.WordOnly o t ∧ t.regs = m.regs ∧ t.cans = m.cans := by
  subst ht
  split
  · exact ⟨rfl, wordOnly_refl o m, rfl, rfl⟩
  · exact ⟨objBit_setObjBit_lt _ _ _ (by decide) (by decide), (wordOnly_refl o m).setObjBit _ _, setObjBit_regs .., setObjBit_cans ..⟩

/-- The end of a lock without a shadow frame: LOCKED clears and the register shows none. -/
theorem lockEnd_shows {m : Mod} {n : Nat} {l : CanLock} (cyc : Nat) (hlock : (m.can n).lock = some l) (hshadow : (m.can n).shadow = none) :
    ((m.lockEnd n cyc).can n).lock = none ∧ (m.lockEnd n cyc).regs = (m.wr (CAN.LOCK_OBJ n) 0xFFF).regs ∧
      (m.lockEnd n cyc).mem = (m.setObjBit l.obj 20 false).mem ∧ (m.lockEnd n cyc).evt = m.evt := by
  simp only [lockEnd, hlock, hshadow]
  refine ⟨by rw [can_onCan_same], ?_, by rw [onCan_mem, wr_mem], by rw [onCan_evt, wr_evt, setObjBit_evt]⟩
  rw [onCan_regs]
  simp only [wr, setObjBit_regs]

end Mod

open Machine.Mod Reg

theorem lockFlds_derived : ∀ n : Fin 12, (CAN.LOCK_OBJ n).key ∉ derivedKeys ∧ (CAN.LOCK_BROKEN_CNT n).key ∉ derivedKeys := by decide

theorem lockTake_runs (s : State) (o : BitVec 12) (r : Option (Fin 16)) (htx : s.mod.objTx o.toNat = false) (hctrl : s.mod.objCtrl o.toNat < 12)
    (hmode : s.mod.rd (CAN.LOCK_MODE (s.mod.objCtrl o.toNat)) = 1) (hfree : (s.mod.can (s.mod.objCtrl o.toNat)).lock = none) :
    s.Runs (.lockTake o r) fun m t => t.rd (CAN.LOCK_OBJ (s.mod.objCtrl o.toNat)) = o.toNat ∧ t.objBit o.toNat 20 = true ∧
      (∃ l, (t.can (s.mod.objCtrl o.toNat)).lock = some l ∧ l.obj = o.toNat ∧ l.reader = r.map (·.val)) ∧
      m.WordOnly o.toNat t ∧ m.KeepsRegs [CAN.LOCK_OBJ (s.mod.objCtrl o.toNat)] t := by
  refine State.runs_next s _ _ _ rfl ?_
  have hgo : ¬ (s.mod.objTx o.toNat = true ∨ 12 ≤ s.mod.objCtrl o.toNat ∨ s.mod.rd (CAN.LOCK_MODE (s.mod.objCtrl o.toNat)) = 0 ∨
      (s.mod.can (s.mod.objCtrl o.toNat)).lock.isSome = true) := by
    simp [htx, hmode, hfree]
    omega
  simp only [lockTake, if_neg hgo]
  have hlock := (lockFlds_derived ⟨_, hctrl⟩).1
  generalize s.mod.objCtrl o.toNat = n at *
  rw [rd_settle _ _ hlock]
  refine ⟨?_, ?_, ?_, ?_, ?_⟩
  · rw [rd_congr (onCan_regs ..), rd_wr_same]
    exact Nat.mod_eq_of_lt o.isLt
  · rw [objBit_congr (m := s.mod.setObjBit o.toNat 20 true) (by rw [settle_mem, onCan_mem, wr_mem])]
    exact objBit_setObjBit_same _ _ _ _ (by decide)
  · rw [can_congr (settle_cans _), can_onCan_same]
    exact ⟨_, rfl, rfl, rfl⟩
  · exact WordOnly.of_mem ((wordOnly_refl _ _).setObjBit 20 true) (by rw [settle_mem, onCan_mem, wr_mem])
  · rw [keepsRegs_settle]
    refine KeepsRegs.of_regs _ _ _ _ ((keepsRegs_wr (by simp) _ (s.mod.setObjBit o.toNat 20 true) _).2 ?_) (onCan_regs ..)
    exact KeepsRegs.of_regs _ _ _ _ (KeepsRegs.refl _ _) (setObjBit_regs ..)

theorem lockRelease_runs (s : State) (o : BitVec 12) (r : Option (Fin 16)) (cyc : BitVec 11) (l : CanLock) (hctrl : s.mod.objCtrl o.toNat < 12)
    (hlock : (s.mod.can (s.mod.objCtrl o.toNat)).lock = some l) (hobj : l.obj = o.toNat) (hreader : l.reader = r.map (·.val))
    (hshadow : (s.mod.can (s.mod.objCtrl o.toNat)).shadow = none) :
    s.Runs (.lockRelease o ⟨r, cyc⟩) fun m t => (t.can (s.mod.objCtrl o.toNat)).lock = none ∧ t.rd (CAN.LOCK_OBJ (s.mod.objCtrl o.toNat)) = 0xFFF ∧
      t.objBit o.toNat 18 = false ∧ t.objBit o.toNat 20 = false ∧ m.WordOnly o.toNat t ∧ m.KeepsRegs [CAN.LOCK_OBJ (s.mod.objCtrl o.toNat)] t := by
  refine State.runs_next s _ _ _ rfl ?_
  simp only [lockRelease, hlock, if_pos (And.intro hobj hreader)]
  have hder := (lockFlds_derived ⟨_, hctrl⟩).1
  generalize s.mod.objCtrl o.toNat = n at *
  obtain ⟨hbit, hword, hregs', hcans'⟩ := lostCleared_shows (s.mod.setObjBit o.toNat 18 false) o.toNat l.lost rfl
  have hnew := hbit.trans (objBit_setObjBit_same s.mod o.toNat 18 false (by decide))
  have honly := ((wordOnly_refl o.toNat s.mod).setObjBit 18 false).trans hword
  have hregs := hregs'.trans (setObjBit_regs ..)
  have hcans := hcans'.trans (setObjBit_cans ..)
  generalize (if l.lost = true then s.mod.setObjBit o.toNat 18 false else (s.mod.setObjBit o.toNat 18 false).setObjBit o.toNat 19 false) = t at *
  obtain ⟨hend, hreg, hmem, -⟩ := lockEnd_shows (m := t) cyc.toNat ((congrArg CanX.lock (can_congr hcans n)).trans hlock)
    ((congrArg CanX.shadow (can_congr hcans n)).trans hshadow)
  rw [hobj] at hmem
  have hmem' : (t.lockEnd n cyc.toNat).settle.mem = (t.setObjBit o.toNat 20 false).mem := (settle_mem _).trans hmem
  rw [rd_settle _ _ hder]
  refine ⟨by rw [can_congr (settle_cans _)]; exact hend, ?_, ?_, ?_, WordOnly.of_mem (honly.setObjBit 20 false) hmem', ?_⟩
  · rw [rd_congr hreg, rd_wr_same]
    rfl
  · rw [objBit_congr hmem', objBit_setObjBit_lt _ _ _ (by decide) (by decide), hnew]
  · rw [objBit_congr hmem', objBit_setObjBit_same _ _ _ _ (by decide)]
  · rw [keepsRegs_settle]
    exact KeepsRegs.of_regs _ _ _ _ ((keepsRegs_wr (by simp) _ t _).2 (KeepsRegs.of_regs _ _ _ _ (KeepsRegs.refl _ _) hregs)) hreg

theorem lockTimeout_runs (s : State) (o : BitVec 12) (k : Fin 12) (cyc : BitVec 11) (l : CanLock) (hk : k.val = s.mod.objCtrl o.toNat)
    (hlock : (s.mod.can (s.mod.objCtrl o.toNat)).lock = some l) (hobj : l.obj = o.toNat) (hreader : l.reader ≠ none)
    (hshadow : (s.mod.can (s.mod.objCtrl o.toNat)).shadow = none) (hroom : s.mod.Room 1) :
    s.Runs (.lockTimeout ⟨k, cyc⟩) fun m t => (t.can (s.mod.objCtrl o.toNat)).lock = none ∧ t.rd (CAN.LOCK_OBJ (s.mod.objCtrl o.toNat)) = 0xFFF ∧
      t.rd (CAN.LOCK_BROKEN_CNT (s.mod.objCtrl o.toNat)) =
        Nat.min (m.rd (CAN.LOCK_BROKEN_CNT (s.mod.objCtrl o.toNat)) + 1) (CAN.LOCK_BROKEN_CNT (s.mod.objCtrl o.toNat)).max ∧
      t.objBit o.toNat 20 = false ∧ m.Reported t (0x20 + s.mod.objCtrl o.toNat) info 0x090B [sj (s.mod.objCtrl o.toNat), sj16 o.toNat] ∧
      m.WordOnly o.toNat t ∧ m.OnlyPages [0x20 + s.mod.objCtrl o.toNat, 0x08] t := by
  refine State.runs_next s _ _ _ rfl ?_
  rw [← hk] at *
  have hany : (s.mod.can k).lock.any (fun l => l.reader ≠ none) = true := by simp [hlock, hreader]
  rw [if_pos hany]
  simp only [lockBreak, hlock, hobj]
  have hcounted : ∀ t : Mod, t = (s.mod.inc (CAN.LOCK_BROKEN_CNT k)).ev (0x20 + k) info 0x090B [sj k, sj16 o.toNat] →
      t.cans = s.mod.cans ∧ t.mem = s.mod.mem ∧ s.mod.Reported t (0x20 + k) info 0x090B [sj k, sj16 o.toNat] ∧
      t.rd (CAN.LOCK_BROKEN_CNT k) = Nat.min (s.mod.rd (CAN.LOCK_BROKEN_CNT k) + 1) (CAN.LOCK_BROKEN_CNT k).max ∧
      s.mod.OnlyPages [0x20 + k.val, 0x08] t := by
    rintro t rfl
    refine ⟨by rw [ev_cans, inc_cans], by rw [ev_mem, inc_mem], reported_ev _ _ _ _ (inc_evt ..) rfl hroom, ?_, ?_⟩
    · rw [rd_ev_own _ _ _ _ _ _ (by decide) (by simp only [CAN.LOCK_BROKEN_CNT, Fld.key, ResetClass.code]; omega)
        (by simp only [CAN.LOCK_BROKEN_CNT, Fld.key, ResetClass.code]; omega), rd_inc_same]
    · rw [onlyPages_ev (by simp) (by simp) (by decide), onlyPages_inc]
      · exact onlyPages_refl _ _
      · exact page_mem (by simp) (by omega) (by omega)
  generalize (s.mod.inc (CAN.LOCK_BROKEN_CNT k)).ev (0x20 + k) info 0x090B [sj k, sj16 o.toNat] = t at *
  obtain ⟨hcans, hmem, hrep, hcnt, honly⟩ := hcounted t rfl
  obtain ⟨hend, hreg, hmem', hevt⟩ := lockEnd_shows (m := t) cyc.toNat ((congrArg CanX.lock (can_congr hcans k)).trans hlock)
    ((congrArg CanX.shadow (can_congr hcans k)).trans hshadow)
  rw [hobj] at hmem'
  have hword : (t.lockEnd k cyc.toNat).settle.mem = (t.setObjBit o.toNat 20 false).mem := (settle_mem _).trans hmem'
  rw [rd_settle _ _ (lockFlds_derived k).1, rd_settle _ _ (lockFlds_derived k).2, rd_congr hreg, rd_congr hreg, rd_wr_same,
    rd_wr_other _ _ _ _ (by simp only [CAN.LOCK_OBJ, CAN.LOCK_BROKEN_CNT, Fld.key, ResetClass.code]; omega), reported_settle,
    reported_congr (congrArg _ hevt), onlyPages_settle]
  refine ⟨by rw [can_congr (settle_cans _)]; exact hend, rfl, hcnt, ?_, hrep, ?_, ?_⟩
  · rw [objBit_congr hword, objBit_setObjBit_same _ _ _ _ (by decide)]
  · exact WordOnly.of_mem (((wordOnly_refl _ _).of_mem hmem).setObjBit 20 false) hword
  · have hlast : s.mod.OnlyPages [0x20 + k.val, 0x08] (t.wr (CAN.LOCK_OBJ k) 0xFFF) :=
      (onlyPages_wr (page_mem (by simp) (by omega) (by omega)) _ _ _).2 honly
    exact fun g hp hg => (rd_congr hreg g).trans (hlast g hp hg)

/-- Settles O31. -/
theorem clearsAndLocksTouchOneWord : Obligations.ClearsAndLocksTouchOneWord := by
  intro s o htx hctrl
  refine ⟨fun v hseq => State.runs_next s _ _ _ rfl ?_, fun v hseq => State.runs_next s _ _ _ rfl ?_, fun v hroom => State.runs_next s _ _ _ rfl ?_,
    fun r hmode hfree => lockTake_runs s o r htx hctrl hmode hfree,
    fun r cyc l hlock hobj hreader hshadow => lockRelease_runs s o r cyc l hctrl hlock hobj hreader hshadow,
    fun k cyc l hk hlock hobj hreader hshadow hroom => lockTimeout_runs s o k cyc l hk hlock hobj hreader hshadow hroom⟩
  · obtain ⟨hnew, hlost, honly, hregs⟩ := condClear_same hseq
    simp only [htx, Bool.false_eq_true, if_false]
    refine ⟨fun h => ?_, fun h => ?_, honly.of_mem (settle_mem _), ?_⟩
    · rw [objBit_congr (settle_mem _)]; exact hnew h
    · rw [objBit_congr (settle_mem _)]; exact hlost h
    · rw [keepsRegs_settle]
      exact KeepsRegs.of_regs _ _ _ _ (KeepsRegs.refl _ _) hregs
  · simp only [htx, Bool.false_eq_true, if_false, condClear, if_neg hseq]
    exact (OnlyRegs.refl _ _).settle _ _ _
  · simp only [htx, Bool.false_eq_true, if_false]
    exact queued_pairCommit _ _ _ hroom

end Sys2Proof.Machine

/-! ### Reception (R271, R272) -/
namespace Sys2Proof.Machine

/-- The field of a number, in arithmetic. -/
theorem fld_eq (v hi lo : Nat) : fld v hi lo = v / 2 ^ lo % 2 ^ (hi + 1 - lo) := by rw [fld, Nat.shiftRight_eq_div_pow]

namespace Mod
open Reg

/-! #### A frame in its object -/

theorem load_of_bytes {m t : Mod} {a n : Nat} (h : ∀ b, a ≤ b → b < a + n → t.byte b = m.byte b) : t.load a n = m.load a n := by
  induction n generalizing a with
  | zero => rfl
  | succ n ih => rw [load_succ, load_succ, h a (by omega) (by omega), ih fun b hb hlt => h b (by omega) (by omega)]

/-- Bytes 8 to 11 of an object when a frame of `len` bytes is stored: its length, NEW, and SEQ one on. -/
def receivedWord (w len : Nat) : Nat :=
  let v := setBit (w - w % 2 ^ 12 + len) 18 true % 2 ^ 32
  (v - fld v 25 22 * 2 ^ 22 + (fld v 25 22 + 1) % 16 * 2 ^ 22) % 2 ^ 32

/-- The arithmetic of `receivedWord`: SEQ stands above NEW, and NEW above the length. -/
theorem receivedWord_arith {w len v x : Nat} (hw : w < 4294967296) (hbit : w / 262144 % 2 = 0) (hlen : len < 4096)
    (hv : v = (w - w % 4096 + len + 262144) % 4294967296)
    (hx : x = (v - v / 4194304 % 16 * 4194304 + (v / 4194304 % 16 + 1) % 16 * 4194304) % 4294967296) :
    x / 262144 % 2 = 1 ∧ x / 1 % 4096 = len ∧ x / 4194304 % 16 = (w / 4194304 % 16 + 1) % 16 := by
  obtain ⟨q, hq⟩ : ∃ q, q = w / 4194304 := ⟨_, rfl⟩
  obtain ⟨r, hr⟩ : ∃ r, r = w % 4194304 := ⟨_, rfl⟩
  obtain ⟨y, hy⟩ : ∃ y, y = r - r % 4096 + len + 262144 := ⟨_, rfl⟩
  obtain ⟨z, hz⟩ : ∃ z, z = q - q % 16 + (q % 16 + 1) % 16 := ⟨_, rfl⟩
  have hvq : v = 4194304 * q + y := by omega
  have hlow : y < 4194304 ∧ y / 262144 % 2 = 1 ∧ y % 4096 = len := by omega
  have hdiv : v / 4194304 = q := by omega
  rw [hdiv] at hx
  have hword : x = 4194304 * z + y := by omega
  have hseq : z % 16 = (q % 16 + 1) % 16 := by omega
  rw [← hq]
  clear hv hx hvq hy hz hr hbit hw hdiv
  omega

theorem receivedWord_parts {w len : Nat} (hw : w < 2 ^ 32) (hnew : w.testBit 18 = false) (hlen : len < 2 ^ 12) :
    (receivedWord w len).testBit 18 = true ∧ fld (receivedWord w len) 11 0 = len ∧ fld (receivedWord w len) 25 22 = (fld w 25 22 + 1) % 16 := by
  have hclear (u : Nat) (hu : u / 2 ^ 12 = w / 2 ^ 12) : u.testBit 18 = false := by
    rw [← hnew, Nat.testBit_eq_decide_div_mod_eq, Nat.testBit_eq_decide_div_mod_eq, show 2 ^ 18 = 2 ^ 12 * 2 ^ 6 by decide,
      ← Nat.div_div_eq_div_mul, ← Nat.div_div_eq_div_mul, hu]
  have hset : setBit (w - w % 2 ^ 12 + len) 18 true = w - w % 2 ^ 12 + len + 2 ^ 18 := by
    rw [setBit, if_neg (by rw [hclear _ (by omega)]; decide), if_pos rfl]
  have hbit : w / 262144 % 2 = 0 := by
    rw [Nat.testBit_eq_decide_div_mod_eq] at hnew
    have := of_decide_eq_false hnew
    omega
  simp only [receivedWord, hset, fld_eq, Nat.testBit_eq_decide_div_mod_eq, decide_eq_true_eq]
  exact receivedWord_arith hw hbit hlen rfl rfl

/-- A classic frame in an object without a chain (Table 09-3). -/
theorem putFrame_classic {m : Mod} {o : Nat} {f : CanFrame} (hf : f.xlf = false) (hxl : m.objXl o = false) :
    m.putFrame o f = ((let u := (m.store (objAddr o) 4 (frameWord0 f)).store (objAddr o + 4) 4 (frameWord1 f)
      u.store (objAddr o + 8) 4 (setBit (u.objWord o 2 - u.objWord o 2 % 2 ^ 12 + f.len) 18 true)).stepSeq o).setBytes (objAddr o + 16)
        (f.data.take 64) := by
  have hchain : m.objChain o = [] := by simp [objChain, hxl]
  simp only [putFrame, hf, hchain, Bool.false_eq_true, if_false, and_self, if_true]

/-- What an object holds once a classic frame is stored in it with its time stamp. -/
theorem stored_classic {m t : Mod} {o ts : Nat} {f : CanFrame} (hf : f.xlf = false) (hxl : m.objXl o = false)
    (ht : t = (m.putFrame o f).store (objAddr o + 12) 4 ts) :
    t.objWord o 2 = receivedWord (m.objWord o 2) f.len ∧ t.objWord o 3 = ts % 2 ^ 32 ∧
      (∀ a, (a < objAddr o ∨ objAddr o + 80 ≤ a) → t.byte a = m.byte a) := by
  subst ht
  rw [putFrame_classic hf hxl]
  have hhead : ((m.store (objAddr o) 4 (frameWord0 f)).store (objAddr o + 4) 4 (frameWord1 f)).objWord o 2 = m.objWord o 2 :=
    load_of_bytes fun b hb _ => by rw [byte_store_other _ _ _ _ _ (by omega), byte_store_other _ _ _ _ _ (by omega)]
  have hout (a : Nat) (ha : a < objAddr o ∨ objAddr o + 80 ≤ a) :
      ((m.store (objAddr o) 4 (frameWord0 f)).store (objAddr o + 4) 4 (frameWord1 f)).byte a = m.byte a := by
    rw [byte_store_other _ _ _ _ _ (by omega), byte_store_other _ _ _ _ _ (by omega)]
  have hlen : (f.data.take 64).length ≤ 64 := List.length_take_le ..
  generalize (m.store (objAddr o) 4 (frameWord0 f)).store (objAddr o + 4) 4 (frameWord1 f) = u at *
  refine ⟨?_, load_store_same 4 _ _ _, fun a ha => ?_⟩
  · have hpayload (x : Mod) : ((x.setBytes (objAddr o + 16) (f.data.take 64)).store (objAddr o + 12) 4 ts).objWord o 2 = x.objWord o 2 :=
      load_of_bytes fun b hb hlt => by rw [byte_store_other _ _ _ _ _ (by omega), byte_setBytes_other _ _ _ _ (by omega)]
    have hword (x : Mod) (v : Nat) : (x.store (objAddr o + 8) 4 v).objWord o 2 = v % 2 ^ 32 := load_store_same 4 x _ _
    simp only [hpayload, stepSeq, hword, hhead, receivedWord]
  · rw [byte_store_other _ _ _ _ _ (by omega), byte_setBytes_other _ _ _ _ (by omega), stepSeq, byte_store_other _ _ _ _ _ (by omega)]
    exact (byte_store_other _ _ _ _ _ (by omega)).trans (hout a ha)

/-! #### A good frame before its store -/

/-- The registers that a good frame moves, whatever becomes of its content. -/
def goodFlds (n : Nat) : List Fld := [CAN.RP n, CAN.REC n, CAN.TEC n, CAN.ERRST n, CAN.ACK_RUN n, CAN.LONELY n]

/-- What the handling of a good frame leaves alone before its content is stored. -/
structure Passed (n : Nat) (m t : Mod) : Prop where
  mem : t.mem = m.mem
  frm : t.frm = m.frm
  img : t.img = m.img
  index : (t.can n).index = (m.can n).index
  lock : (t.can n).lock = (m.can n).lock
  deferred : (t.can n).deferred = (m.can n).deferred
  modePend : (t.can n).modePend = (m.can n).modePend
  regs : m.KeepsRegs (goodFlds n) t

theorem passed_refl (n : Nat) (m : Mod) : Passed n m m := ⟨rfl, rfl, rfl, rfl, rfl, rfl, rfl, KeepsRegs.refl _ _⟩

theorem Passed.trans {n : Nat} {m t u : Mod} (h : Passed n m t) (hu : Passed n t u) : Passed n m u :=
  ⟨hu.mem.trans h.mem, hu.frm.trans h.frm, hu.img.trans h.img, hu.index.trans h.index, hu.lock.trans h.lock, hu.deferred.trans h.deferred,
    hu.modePend.trans h.modePend, h.regs.trans hu.regs⟩

/-- A write of a register of a good frame. -/
theorem passed_wr {n : Nat} {f : Fld} (hf : f ∈ goodFlds n) (m : Mod) (v : Nat) : Passed n m (m.wr f v) := by
  have hcan : (m.wr f v).can n = m.can n := can_congr (wr_cans ..) n
  exact ⟨wr_mem .., wr_frm .., wr_img .., by rw [hcan], by rw [hcan], by rw [hcan], by rw [hcan], (KeepsRegs.refl _ _).wr _ _ _ _ _ hf⟩

/-- With RP clear and a TEC below the passive limit a good frame lowers REC (R279). -/
theorem passed_recGood {m : Mod} {n : Nat} (hrp : m.rd (CAN.RP n) = 0) (htec : m.rd (CAN.TEC n) ≤ 127) : Passed n m (m.recGood n) := by
  have hon : m.on (CAN.RP n) = false := by simp [on, hrp]
  have hrec := passed_wr (n := n) (f := CAN.REC n) (by simp [goodFlds]) m (m.rd (CAN.REC n) - 1)
  have hrp' : (m.wr (CAN.REC n) (m.rd (CAN.REC n) - 1)).rd (CAN.RP n) = 0 := by
    rw [rd_wr_other _ _ _ _ (by simp only [CAN.REC, CAN.RP, Fld.key, ResetClass.code]; omega), hrp]
  have htec' : (m.wr (CAN.REC n) (m.rd (CAN.REC n) - 1)).rd (CAN.TEC n) ≤ 127 := by
    rw [rd_wr_other _ _ _ _ (by simp only [CAN.REC, CAN.TEC, Fld.key, ResetClass.code]; omega)]
    exact htec
  simp only [recGood, hon, Bool.false_eq_true, if_false]
  generalize m.wr (CAN.REC n) (m.rd (CAN.REC n) - 1) = u at *
  have hcount := passed_wr (n := n) (f := CAN.TEC n) (by simp [goodFlds]) u (u.rd (CAN.TEC n))
  have hstay : ¬ (127 < u.rd (CAN.TEC n) ∨ (u.wr (CAN.TEC n) (u.rd (CAN.TEC n))).on (CAN.RP n) = true) := by
    rw [on, rd_wr_other _ _ _ _ (by simp only [CAN.TEC, CAN.RP, Fld.key, ResetClass.code]; omega), hrp']
    simp only [bne_self_eq_false, Bool.false_eq_true, or_false]
    omega
  simp only [confine, if_neg (show ¬ 255 < u.rd (CAN.TEC n) by omega), if_neg hstay]
  split
  · exact (hrec.trans hcount).trans (passed_wr (by simp [goodFlds]) _ _)
  · exact hrec.trans hcount

theorem passed_ackReset (m : Mod) (n : Nat) : Passed n m (m.ackReset n) :=
  (passed_wr (by simp [goodFlds]) _ _).trans (passed_wr (by simp [goodFlds]) _ _)

/-- The network's engine hears of the frame outside memory, registers and controllers. -/
theorem nmHear_leaves (m : Mod) (n p : Nat) (msg : Option (Bool × Option Nat)) : Passed n m (m.nmHear p msg) ∧ (m.nmHear p msg).regs = m.regs := by
  unfold nmHear
  split
  · exact ⟨passed_refl n m, rfl⟩
  · split
    · split
      · exact ⟨⟨rfl, rfl, rfl, rfl, rfl, rfl, rfl, KeepsRegs.of_regs _ _ _ _ (KeepsRegs.refl _ _) rfl⟩, rfl⟩
      · exact ⟨passed_refl n m, rfl⟩
    · exact ⟨⟨rfl, rfl, rfl, rfl, rfl, rfl, rfl, KeepsRegs.of_regs _ _ _ _ (KeepsRegs.refl _ _) rfl⟩, rfl⟩

/-- With no write and no mode waiting, the end of an attempt only starts the next one. -/
theorem endAttempt_leaves {m : Mod} {n : Nat} (hdef : (m.can n).deferred = []) (hpend : (m.can n).modePend = none) :
    Passed n m (m.endAttempt n) ∧ (m.endAttempt n).regs = m.regs := by
  have hon (t : Mod) (f : CanX → CanX) (hf : ∀ x, (f x).index = x.index ∧ (f x).lock = x.lock)
      (hd : (f (t.can n)).deferred = (t.can n).deferred) (hp : (f (t.can n)).modePend = (t.can n).modePend) : Passed n t (t.onCan n f) := by
    obtain ⟨hindex, hlock⟩ := hf (t.can n)
    exact ⟨onCan_mem .., onCan_frm .., onCan_img .., by rw [can_onCan_same, hindex], by rw [can_onCan_same, hlock], by rw [can_onCan_same, hd],
      by rw [can_onCan_same, hp], KeepsRegs.of_regs _ _ _ _ (KeepsRegs.refl _ _) (onCan_regs ..)⟩
  have hland : Passed n m ((m.landWrites n).onCan n fun y => { y with modePend := none }) ∧
      ((m.landWrites n).onCan n fun y => { y with modePend := none }).regs = m.regs := by
    simp only [landWrites, hdef, List.foldl_nil]
    refine ⟨(hon m (fun y => { y with sending := none, deferred := [] }) (fun x => ⟨rfl, rfl⟩) hdef.symm rfl).trans (hon _ _ (fun x => ⟨rfl, rfl⟩) rfl ?_), by rw [onCan_regs, onCan_regs]⟩
    rw [can_onCan_same]
    exact hpend.symm
  simp only [endAttempt, hpend]
  obtain ⟨hpassed, hregs⟩ := hland
  generalize (m.landWrites n).onCan n (fun y => { y with modePend := none }) = t at *
  simp only [arbitrate]
  split
  · exact ⟨hpassed.trans (hon _ _ (fun x => ⟨rfl, rfl⟩) rfl rfl), (onCan_regs ..).trans hregs⟩
  · exact ⟨hpassed, hregs⟩

/-- A good classic frame up to its store. -/
theorem goodFrame {m : Mod} {n : Nat} (msg : Option (Bool × Option Nat)) (hdef : (m.can n).deferred = []) (hpend : (m.can n).modePend = none)
    (hrp : m.rd (CAN.RP n) = 0) (htec : m.rd (CAN.TEC n) ≤ 127) {t : Mod}
    (ht : t = (((m.recGood n).ackReset n).nmHear (4 + n) msg).endAttempt n) : Passed n m t ∧ t.rd (CAN.ACK_RUN n) = 0 := by
  subst ht
  have hgood := passed_recGood hrp htec
  generalize m.recGood n = a at *
  have hack := hgood.trans (passed_ackReset a n)
  have hrun : (a.ackReset n).rd (CAN.ACK_RUN n) = 0 := by
    rw [ackReset, rd_wr_other _ _ _ _ (by simp only [CAN.ACK_RUN, CAN.LONELY, Fld.key, ResetClass.code]; omega), rd_wr_same]
    rfl
  generalize a.ackReset n = b at *
  obtain ⟨hhear, hregs⟩ := nmHear_leaves b n (4 + n) msg
  have hheard := hack.trans hhear
  rw [← rd_congr hregs] at hrun
  generalize b.nmHear (4 + n) msg = c at *
  obtain ⟨hend, hregs'⟩ := endAttempt_leaves (m := c) (hheard.deferred.trans hdef) (hheard.modePend.trans hpend)
  exact ⟨hheard.trans hend, (rd_congr hregs' _).trans hrun⟩

theorem goodFlds_ne : ∀ n : Fin 12, ∀ f ∈ shown ++ goodFlds n,
    f.key ≠ (CAN.UNMATCH_CNT n).key ∧ f.key ≠ (CAN.RX_OK_CNT n).key ∧ f.key ≠ (CAN.DEF_OBJ n).key := by decide

theorem goodFlds_page : ∀ n : Fin 12, ∀ f ∈ goodFlds n, f.key / 524288 = 0x20 + n := by decide

theorem Passed.onlyPages {n : Fin 12} {m t : Mod} (h : Passed n m t) : m.OnlyPages [0x20 + n, 0x08] t :=
  h.regs.onlyPages fun f hf => by simp [goodFlds_page n f hf]

end Mod

open Machine.Mod Reg

/-- The bus time that a frame ends is no part of what its reception reads. -/
theorem canSpan_leaves (m : Mod) (n : Nat) (sp : Span) : (m.canSpan n sp).regs = m.regs ∧ (m.canSpan n sp).mem = m.mem ∧
    (m.canSpan n sp).cans = m.cans ∧ (m.canSpan n sp).frm = m.frm ∧ (m.canSpan n sp).img = m.img ∧ (m.canSpan n sp).trxs = m.trxs := by
  unfold canSpan
  split <;> exact ⟨rfl, rfl, rfl, rfl, rfl, rfl⟩

theorem canLive_congr {m t : Mod} (hregs : t.regs = m.regs) (htrx : t.trxs = m.trxs) (n : Nat) : t.canLive n = m.canLive n := by
  simp only [canLive, on, awake, bit, rd_congr hregs, trx, htrx]

/-- A classic frame that is valid: counted where nothing matches it, else delivered (R271). -/
theorem canReceive_classic {m : Mod} {n : Fin 12} {f : CanFrame} (cyc : Nat) (hfd : f.fdf = false) (hxl : f.xlf = false)
    (hdef : (m.can n).deferred = []) (hpend : (m.can n).modePend = none) (hrp : m.rd (CAN.RP n) = 0) (htec : m.rd (CAN.TEC n) ≤ 127) :
    ∃ t, Passed n m t ∧ t.rd (CAN.ACK_RUN n) = 0 ∧
      (((m.can n).index.find? fun e => e.1 = objKey 0 f.ide f.id) = none → m.rd (CAN.DEF_OBJ n) = 0xFFF →
        m.canReceive n f cyc = t.inc (CAN.UNMATCH_CNT n)) ∧
      (∀ e, ((m.can n).index.find? fun e => e.1 = objKey 0 f.ide f.id) = some e → m.canReceive n f cyc = t.canDeliver n e.2 f cyc) := by
  obtain ⟨hpassed, hrun⟩ := goodFrame (m.canNmMsg n f) hdef hpend hrp htec rfl
  have hdefobj := hpassed.regs (CAN.DEF_OBJ n) fun g hg => (goodFlds_ne n g hg).2.2
  refine ⟨_, hpassed, hrun, fun hmiss hno => ?_, fun e hhit => ?_⟩
  · simp only [canReceive, hfd, hxl, Bool.false_eq_true, false_and, or_self, if_false, hpassed.index, hdefobj, hmiss, hno, if_true]
  · simp only [canReceive, hfd, hxl, Bool.false_eq_true, false_and, or_self, if_false, hpassed.index, hhit]

theorem store_img (m : Mod) (a n v : Nat) : (m.store a n v).img = m.img := by rw [store_only]

theorem stored_img {m : Mod} {o ts : Nat} {f : CanFrame} (hf : f.xlf = false) (hxl : m.objXl o = false) :
    ((m.putFrame o f).store (objAddr o + 12) 4 ts).img = m.img := by
  have hbytes (u : Mod) (a : Nat) (l : List Nat) : (u.setBytes a l).img = u.img := by rw [setBytes_only]
  rw [putFrame_classic hf hxl, store_img, hbytes, stepSeq, store_img, store_img, store_img, store_img]

/-- A classic frame stored in an unlocked object that is not NEW and has no route (R272). -/
theorem canDeliver_classic {m : Mod} {n : Fin 12} {o cyc : Nat} {f : CanFrame} (hxlf : f.xlf = false) (hlock : (m.can n).lock = none)
    (hxl : m.objXl o = false) (hnew : m.objBit o 18 = false) (hroutes : m.img.routes = []) :
    m.canDeliver n o f cyc = ((m.putFrame o f).store (objAddr o + 12) 4 (m.stamp cyc % 2 ^ 32)).inc (CAN.RX_OK_CNT n) := by
  have himg := stored_img (ts := m.stamp cyc % 2 ^ 32) hxlf hxl
  have hfits : m.poolFits f = true := by simp [poolFits, hxlf]
  have hunlocked : ¬ (m.can n).lock.any (fun l => l.obj = o) = true := by simp [hlock]
  rw [canDeliver]
  simp only [if_neg hunlocked, canStore, if_pos hfits, hnew, Bool.false_eq_true, if_false]
  generalize (m.putFrame o f).store (objAddr o + 12) 4 (m.stamp cyc % 2 ^ 32) = u at *
  rw [routedStore, inc_img, himg, hroutes]
  rfl

theorem putFrame_classic_regs {m : Mod} {o : Nat} {f : CanFrame} (hf : f.xlf = false) (hxl : m.objXl o = false) : (m.putFrame o f).regs = m.regs := by
  rw [putFrame_classic hf hxl]
  simp

theorem objWord_lt (m : Mod) (o w : Nat) : m.objWord o w < 2 ^ 32 := by
  rw [objWord, load_succ, load_succ, load_succ, load_succ]
  have hbyte (a : Nat) : m.byte a < 256 := BitVec.isLt _
  have h0 := hbyte (objAddr o + 4 * w)
  have h1 := hbyte (objAddr o + 4 * w + 1)
  have h2 := hbyte (objAddr o + 4 * w + 1 + 1)
  have h3 := hbyte (objAddr o + 4 * w + 1 + 1 + 1)
  have hnone (a : Nat) : m.load a 0 = 0 := rfl
  rw [hnone]
  omega

/-- The length that a well-formed classic frame shows is that of its data. -/
theorem busFrame_len {f : BusFrame} (hfd : f.fdf = false) (hxl : f.xlf = false) (hwf : f.wf = true) : (busFrame f).len = f.data.length ∧ f.data.length ≤ 8 := by
  simp only [BusFrame.wf, hfd, hxl, Bool.false_eq_true, if_false, Bool.and_eq_true, decide_eq_true_eq] at hwf
  obtain ⟨-, hlen⟩ := hwf
  rw [hlen]
  cases hr : f.rtr
  · exact ⟨by simp [busFrame, hr, hlen], Nat.min_le_left _ _⟩
  · exact ⟨by simp [busFrame, hr], by simp⟩

/-- Settles O30: the frame is handled by `canReceive_classic`, then counted, or stored by `stored_classic`. -/
theorem receivedFramesAreStored : Obligations.ReceivedFramesAreStored := by
  intro s n f cyc sp hfd hxl hlive hdef hpend hrp htec
  obtain ⟨hregs, hmem, hcans, hfrm, himg, htrx⟩ := canSpan_leaves s.mod n sp
  have hlive' := (canLive_congr hregs htrx n).trans hlive
  have hcan := can_congr hcans n
  obtain ⟨t, hpassed, hrun, hreceive⟩ := canReceive_classic (m := s.mod.canSpan n sp) (n := n) (f := busFrame f) cyc.toNat hfd hxl
    (by rw [hcan, hdef]) (by rw [hcan, hpend]) (by rw [rd_congr hregs, hrp]) (by rw [rd_congr hregs]; exact htec)
  rw [hcan, rd_congr hregs] at hreceive
  obtain ⟨hcount, hdeliver⟩ := hreceive
  have hmem' := hpassed.mem.trans hmem
  have hpages : s.mod.OnlyPages [0x20 + n, 0x08] t := fun g hp hg => (hpassed.onlyPages g hp hg).trans (rd_congr hregs g)
  have hkept (f : Fld) (hf : ∀ g ∈ shown ++ goodFlds n, g.key ≠ f.key) : t.rd f = s.mod.rd f := (hpassed.regs f hf).trans (rd_congr hregs f)
  have hpage : ∀ n : Fin 12, (CAN.UNMATCH_CNT n).key / 524288 ∈ [0x20 + n.val, 0x08] ∧ (CAN.RX_OK_CNT n).key / 524288 ∈ [0x20 + n.val, 0x08] := by decide
  have hder : ∀ n : Fin 12, (CAN.UNMATCH_CNT n).key ∉ derivedKeys ∧ (CAN.ACK_RUN n).key ∉ derivedKeys ∧ (CAN.RX_OK_CNT n).key ∉ derivedKeys := by
    decide
  obtain ⟨hunmatch, hack, hok⟩ := hder n
  refine ⟨fun hmiss hno => ?_, fun o k hhit hlock hobj hnew hwf hroutes => ?_⟩
  · refine State.runs_next s _ _ _ rfl ?_
    simp only [hlive', if_true]
    rw [hcount hmiss hno, rd_settle _ _ hunmatch, rd_settle _ _ hack, settle_mem, onlyPages_settle, onlyPages_inc (hpage n).1,
      rd_inc_same, rd_inc_other _ _ _ (by simp only [CAN.UNMATCH_CNT, CAN.ACK_RUN, Fld.key, ResetClass.code]; omega),
      hkept _ fun g hg => (goodFlds_ne n g hg).1, inc_mem]
    exact ⟨rfl, hrun, hmem', hpages⟩
  · refine State.runs_next s _ _ _ rfl ?_
    have hword (w : Nat) : t.objWord o w = s.mod.objWord o w := load_congr hmem' _ _
    have hxl' : t.objXl o = false := by rw [objXl, hword]; exact hobj
    have hnew' : t.objBit o 18 = false := by rw [objBit, hword]; exact hnew
    have hstamp : t.stamp cyc.toNat = s.mod.stamp cyc.toNat := by rw [stamp, stamp, hpassed.frm, hfrm]
    have hregs' := putFrame_classic_regs (f := busFrame f) hxl hxl'
    simp only [hlive', if_true]
    rw [hdeliver _ hhit, canDeliver_classic (f := busFrame f) hxl (hpassed.lock.trans ((congrArg CanX.lock hcan).trans hlock)) hxl' hnew'
      (by rw [hpassed.img, himg, hroutes]), hstamp]
    obtain ⟨hlen, hle⟩ := busFrame_len hfd hxl hwf
    obtain ⟨h2, h3, hout⟩ := stored_classic (ts := s.mod.stamp cyc.toNat % 2 ^ 32) (f := busFrame f) hxl hxl' rfl
    obtain ⟨hbit, hlow, hseq⟩ := receivedWord_parts (len := (busFrame f).len) (objWord_lt t o 2) hnew' (by rw [hlen]; omega)
    have hst : ((t.putFrame o (busFrame f)).store (objAddr o + 12) 4 (s.mod.stamp cyc.toNat % 2 ^ 32)).regs = t.regs := (store_regs ..).trans hregs'
    generalize (t.putFrame o (busFrame f)).store (objAddr o + 12) 4 (s.mod.stamp cyc.toNat % 2 ^ 32) = u at *
    have hsettled (w : Nat) : ((u.inc (CAN.RX_OK_CNT n)).settle).objWord o w = u.objWord o w := load_congr (by rw [settle_mem, inc_mem]) _ _
    have hbytes (a : Nat) : ((u.inc (CAN.RX_OK_CNT n)).settle).byte a = u.byte a := byte_congr (by rw [settle_mem, inc_mem]) a
    rw [objBit, objSeq, hsettled, hsettled, h2, h3, objSeq, ← hword, hbit, hlow, hseq, hlen, rd_settle _ _ hok, rd_inc_same, rd_congr hst,
      hkept _ fun g hg => (goodFlds_ne n g hg).2.1, onlyPages_settle, onlyPages_inc (hpage n).2]
    refine ⟨rfl, rfl, rfl, Nat.mod_mod _ _, rfl, fun a ha => ?_, fun g hp hg => (rd_congr hst g).trans (hpages g hp hg)⟩
    rw [hbytes, hout a ha]
    exact byte_congr hmem' a

end Sys2Proof.Machine

/-! ### Switching steps of a power channel (R96, R107, R110, R114) -/
namespace Sys2Proof.Machine

namespace Mod
open Reg

@[simp] theorem chan_onChan_same (m : Mod) (q c : Nat) (f : ChanX → ChanX) : (m.onChan q c f).chan q c = f (m.chan q c) := SMap.get_set_same _ _ _ _

theorem chan_congr {t u : Mod} (h : t.chans = u.chans) (q c : Nat) : t.chan q c = u.chan q c := by rw [chan, chan, h]

theorem cellFlds_derived : ∀ (q : Fin 4) (c : Fin 20), (HQ.CELLS_ON q c).key ∉ derivedKeys ∧ (HQ.SLEWING q c).key ∉ derivedKeys := by decide

theorem rd_slewing_cells (m : Mod) (q c v : Nat) : (m.wr (HQ.CELLS_ON q c) v).rd (HQ.SLEWING q c) = m.rd (HQ.SLEWING q c) :=
  rd_wr_other _ _ _ _ (by simp only [HQ.CELLS_ON, HQ.SLEWING, Fld.key, ResetClass.code]; omega)

theorem rd_cells_slewing (m : Mod) (q c v : Nat) : (m.wr (HQ.SLEWING q c) v).rd (HQ.CELLS_ON q c) = m.rd (HQ.CELLS_ON q c) :=
  rd_wr_other _ _ _ _ (by simp only [HQ.CELLS_ON, HQ.SLEWING, Fld.key, ResetClass.code]; omega)

/-- A change of a channel's own state is in no register and in no byte of memory. -/
theorem onChan_shows {l : List Fld} {m u : Mod} {q c : Nat} {f : ChanX → ChanX} {t : Mod} (hkeep : m.KeepsRegs l u) (hmem : u.mem = m.mem)
    (hchan : u.chans = m.chans) (ht : t = (u.onChan q c f).settle) :
    t.chan q c = f (m.chan q c) ∧ t.mem = m.mem ∧ m.KeepsRegs l t := by
  subst ht
  refine ⟨?_, by rw [settle_mem, onChan_mem, hmem], ?_⟩
  · rw [chan_congr (settle_chans _), chan_onChan_same, chan_congr hchan]
  · rw [keepsRegs_settle]
    exact KeepsRegs.of_regs _ _ _ _ hkeep (onChan_regs ..)

theorem cellTurn_lt (m : Mod) (q : Nat) (c : Fin 20) : m.cellTurn q c < 20 := by
  unfold cellTurn
  repeat' split
  all_goals omega

/-- Where an off-phase test starts, only the diagnostic state of its channel changes. -/
theorem offPhaseStart_leaves (m : Mod) (q c : Nat) : (m.offPhaseStart q c).regs = m.regs ∧ (m.offPhaseStart q c).mem = m.mem ∧
    ((m.offPhaseStart q c).chan q c).tran = (m.chan q c).tran := by
  simp only [offPhaseStart]
  split
  · exact ⟨onChan_regs .., onChan_mem .., by rw [chan_onChan_same]⟩
  · exact ⟨rfl, rfl, rfl⟩

end Mod

open Machine.Mod Reg

theorem cellStep_runs (s : State) (q : Fin 4) (c : Fin 20) : s.Runs (.cellStep q c) fun m t =>
    let k := m.cellTurn q c
    t.rd (HQ.CELLS_ON q k) = (if (m.chan q k).tran = .on ∧ m.rd (HQ.CELLS_ON q k) < nCells k then (m.rd (HQ.CELLS_ON q k) + 1) % 2 ^ (HQ.CELLS_ON q k).w
      else m.rd (HQ.CELLS_ON q k)) ∧ m.OnlyRegs [HQ.CELLS_ON q k] t := by
  refine State.runs_next s _ _ _ rfl ?_
  have hder := (cellFlds_derived q ⟨_, cellTurn_lt s.mod q c⟩).1
  simp only
  rw [rd_settle _ _ hder]
  split
  · exact ⟨rd_wr_same _ _ _, ((OnlyRegs.refl _ _).wr _ _ _ _ _ (by simp)).settle _ _ _⟩
  · exact ⟨rfl, (OnlyRegs.refl _ _).settle _ _ _⟩

theorem slewEnd_on_runs (s : State) (q : Fin 4) (c : Fin 20) (h : (s.mod.chan q c).tran = .on) : s.Runs (.slewEnd q c) fun m t =>
    t.rd (HQ.SLEWING q c) = 0 ∧ t.rd (HQ.CELLS_ON q c) = nCells c ∧ t.chan q c = { m.chan q c with tran := .idle } ∧ t.mem = m.mem ∧
    m.KeepsRegs [HQ.SLEWING q c, HQ.CELLS_ON q c] t := by
  refine State.runs_next s _ _ _ rfl ?_
  have hcells : ∀ c : Fin 20, nCells c % 2 ^ 4 = nCells c := by decide
  obtain ⟨hcell, hslew⟩ := cellFlds_derived q c
  simp only [h]
  refine ⟨?_, ?_, onChan_shows (((KeepsRegs.refl _ _).wr _ _ _ _ _ (by simp)).wr _ _ _ _ _ (by simp)) rfl rfl rfl⟩
  · rw [rd_settle _ _ hslew, rd_congr (onChan_regs ..), rd_slewing_cells, rd_wr_same]
    rfl
  · rw [rd_settle _ _ hcell, rd_congr (onChan_regs ..), rd_wr_same]
    exact hcells c

theorem slewEnd_off_runs (s : State) (q : Fin 4) (c : Fin 20) (h : (s.mod.chan q c).tran = .off) :
    ((s.mod.chan q c).next ≠ none → s.Runs (.slewEnd q c) fun m t =>
      t.rd (HQ.CELLS_ON q c) = 0 ∧ t.chan q c = { m.chan q c with tran := .dead } ∧ t.mem = m.mem ∧ m.KeepsRegs [HQ.CELLS_ON q c] t) ∧
    ((s.mod.chan q c).next = none → s.Runs (.slewEnd q c) fun m t =>
      t.rd (HQ.CELLS_ON q c) = 0 ∧ t.rd (HQ.SLEWING q c) = 0 ∧ (t.chan q c).tran = .idle ∧ t.mem = m.mem ∧
      m.KeepsRegs [HQ.SLEWING q c, HQ.CELLS_ON q c] t) := by
  obtain ⟨hcell, hslew⟩ := cellFlds_derived q c
  refine ⟨fun hnext => State.runs_next s _ _ _ rfl ?_, fun hnext => State.runs_next s _ _ _ rfl ?_⟩
  · simp only [h, if_pos (Option.isSome_iff_ne_none.2 hnext)]
    refine ⟨?_, onChan_shows ((KeepsRegs.refl _ _).wr _ _ _ _ _ (by simp)) rfl rfl rfl⟩
    rw [rd_settle _ _ hcell, rd_congr (onChan_regs ..), rd_wr_same]
    rfl
  · simp only [h, hnext, Option.isSome_none, Bool.false_eq_true, if_false]
    have hkeep : s.mod.KeepsRegs [HQ.SLEWING q c, HQ.CELLS_ON q c] ((s.mod.wr (HQ.CELLS_ON q c) 0).wr (HQ.SLEWING q c) 0) :=
      ((KeepsRegs.refl _ _).wr _ _ _ _ _ (by simp)).wr _ _ _ _ _ (by simp)
    obtain ⟨hregs, hmem, htran⟩ := offPhaseStart_leaves
      (((s.mod.wr (HQ.CELLS_ON q c) 0).wr (HQ.SLEWING q c) 0).onChan q c fun x => { x with tran := .idle }) q c
    rw [rd_settle _ _ hcell, rd_settle _ _ hslew, rd_congr hregs, rd_congr hregs, chan_congr (settle_chans _), htran, chan_onChan_same, settle_mem, hmem,
      keepsRegs_settle]
    refine ⟨?_, ?_, rfl, rfl, KeepsRegs.of_regs _ _ _ _ hkeep (hregs.trans (onChan_regs ..))⟩
    · rw [rd_congr (onChan_regs ..), rd_cells_slewing, rd_wr_same]
      rfl
    · rw [rd_congr (onChan_regs ..), rd_wr_same]
      rfl

theorem deadTimeEnd_low_runs (s : State) (q : Fin 4) (c : Fin 20) (n : Cmd) (h : (s.mod.chan q c).tran = .dead) (hnext : (s.mod.chan q c).next = some n)
    (hout : n.out = 5) (hphase : (s.mod.chan q c).onPhase = false) : s.Runs (.deadTimeEnd q c) fun m t =>
      t.rd (HQ.SLEWING q c) = 1 ∧ t.rd (HQ.CELLS_ON q c) = 1 ∧
      t.chan q c = { m.chan q c with tran := .on, next := none, low := true } ∧ t.mem = m.mem ∧
      m.KeepsRegs [HQ.SLEWING q c, HQ.CELLS_ON q c] t := by
  refine State.runs_next s _ _ _ rfl ?_
  obtain ⟨hcell, hslew⟩ := cellFlds_derived q c
  have hkeep : s.mod.KeepsRegs [HQ.SLEWING q c, HQ.CELLS_ON q c] ((s.mod.wr (HQ.SLEWING q c) 1).wr (HQ.CELLS_ON q c) 1) :=
    ((KeepsRegs.refl _ _).wr _ _ _ _ _ (by simp)).wr _ _ _ _ _ (by simp)
  simp only [h, hnext, hout, if_true]
  rw [if_neg (by simp [hphase])]
  refine ⟨?_, ?_, onChan_shows hkeep rfl rfl rfl⟩
  · rw [rd_settle _ _ hslew, rd_congr (onChan_regs ..), rd_slewing_cells, rd_wr_same]
    rfl
  · rw [rd_settle _ _ hcell, rd_congr (onChan_regs ..), rd_wr_same]
    rfl

theorem deadTimeEnd_barred_runs (s : State) (q : Fin 4) (c : Fin 20) (n : Cmd) (h : (s.mod.chan q c).tran = .dead)
    (hnext : (s.mod.chan q c).next = some n) (hout : n.out ≠ 5) (hpermit : s.mod.permitted q c = false) : s.Runs (.deadTimeEnd q c) fun m t =>
      t.rd (HQ.SLEWING q c) = 0 ∧ t.chan q c = { m.chan q c with tran := .idle, next := none } ∧ t.mem = m.mem ∧ m.KeepsRegs [HQ.SLEWING q c] t := by
  refine State.runs_next s _ _ _ rfl ?_
  simp only [h, hnext, if_neg hout, hpermit, Bool.false_eq_true, if_false]
  refine ⟨?_, onChan_shows ((KeepsRegs.refl _ _).wr _ _ _ _ _ (by simp)) rfl rfl rfl⟩
  rw [rd_settle _ _ (cellFlds_derived q c).2, rd_congr (onChan_regs ..), rd_wr_same]
  rfl

/-- Settles O11, transition by transition. -/
theorem channelTransitionsStep : Obligations.ChannelTransitionsStep := by
  intro s q c
  refine ⟨cellStep_runs s q c, fun hpair => by simp [cellTurn, hpair], slewEnd_on_runs s q c, fun h hnext => (slewEnd_off_runs s q c h).1 hnext,
    fun h hnext => (slewEnd_off_runs s q c h).2 hnext, ?_, ?_⟩
  · rintro h ⟨n, hnext, hout⟩ hphase
    exact deadTimeEnd_low_runs s q c n h hnext hout hphase
  · rintro h ⟨n, hnext, hout⟩ hpermit
    exact deadTimeEnd_barred_runs s q c n h hnext hout hpermit

end Sys2Proof.Machine

/-! ### Sinks and thermal groups (R208 to R217) -/
namespace Sys2Proof.Machine

/-- An invariant of every step of a bounded loop holds at its end. -/
theorem forN_induction {α : Type} {P : α → Prop} (n : Nat) {f : α → Nat → α} (hstep : ∀ i, i < n → ∀ a, P a → P (f a i)) {a : α} (h : P a) :
    P (forN n f a) := by
  induction n with
  | zero => exact h
  | succ n ih =>
    rw [forN, List.range_succ, List.foldl_append]
    exact hstep n (by omega) _ (ih fun i hi => hstep i (by omega))

/-- A power of two that a number lacks shows in its own bit alone. -/
theorem testBit_two_pow_add_of_ne {u i j : Nat} (hu : u.testBit i = false) (hij : j ≠ i) : (2 ^ i + u).testBit j = u.testBit j := by
  rcases Nat.lt_or_gt_of_ne hij with hlt | hgt
  · exact Nat.testBit_two_pow_add_gt hlt u
  · obtain ⟨k, rfl⟩ : ∃ k, j = i + 1 + k := ⟨j - (i + 1), by omega⟩
    have hlow : u % 2 ^ (i + 1) < 2 ^ i := by
      rw [Nat.pow_succ, Nat.mod_mul, ← Nat.toNat_testBit, hu]
      simpa using Nat.mod_lt u (Nat.two_pow_pos i)
    have hdiv : (2 ^ i + u) / 2 ^ (i + 1) = u / 2 ^ (i + 1) := by
      conv => lhs; rw [← Nat.div_add_mod u (2 ^ (i + 1))]
      rw [show 2 ^ i + (2 ^ (i + 1) * (u / 2 ^ (i + 1)) + u % 2 ^ (i + 1)) = 2 ^ i + u % 2 ^ (i + 1) + 2 ^ (i + 1) * (u / 2 ^ (i + 1)) by omega,
        Nat.add_mul_div_left _ _ (Nat.two_pow_pos _), Nat.div_eq_of_lt, Nat.zero_add]
      rw [Nat.pow_succ] at hlow ⊢
      omega
    rw [Nat.testBit_eq_decide_div_mod_eq, Nat.testBit_eq_decide_div_mod_eq, Nat.pow_add, ← Nat.div_div_eq_div_mul, ← Nat.div_div_eq_div_mul, hdiv]

namespace Mod
open Reg

/-- A written bit of a field reads back. -/
theorem bit_wrBit_same (m : Mod) (f : Fld) {i : Nat} (b : Bool) (hi : i < f.w) : (m.wrBit f i b).bit f i = b := by
  have hset := setBit_testBit_same (m.rd f) i b
  rw [bit, wrBit]
  rw [setBit] at hset
  split
  next hsame => exact hsame
  rw [if_neg ‹_›] at hset
  split
  next hb =>
    rw [if_pos hb] at hset
    rw [rd_wr_same, Nat.testBit_mod_two_pow, hset]
    simp [hi]
  next hb =>
    rw [if_neg hb] at hset
    rw [rd_wr_same, Nat.testBit_mod_two_pow, hset]
    simp [hi]

/-- A cleared bit leaves the field's other bits. -/
theorem bit_wrBit_false {m : Mod} {f : Fld} {i j : Nat} (hij : j ≠ i) (hj : j < f.w) : (m.wrBit f i false).bit f j = m.bit f j := by
  rw [bit, wrBit]
  simp only [Bool.false_eq_true, if_false]
  split
  · rfl
  next hsame =>
    have hold : (m.rd f).testBit i = true := by simpa using hsame
    have hclear : (m.rd f - 2 ^ i).testBit i = false := by
      have hnew := Nat.testBit_two_pow_add_eq (m.rd f - 2 ^ i) i
      rw [two_pow_add_sub_of_testBit hold, hold] at hnew
      simpa using hnew.symm
    rw [rd_wr_same, Nat.testBit_mod_two_pow, bit]
    conv => rhs; rw [← two_pow_add_sub_of_testBit hold, testBit_two_pow_add_of_ne hclear hij]
    simp [hj]

theorem wrBit_only (m : Mod) (f : Fld) (i : Nat) (b : Bool) : m.wrBit f i b = { m with regs := (m.wrBit f i b).regs } := by
  unfold wrBit
  simp only
  split <;> rfl

@[simp] theorem wrBit_mem (m : Mod) (f : Fld) (i : Nat) (b : Bool) : (m.wrBit f i b).mem = m.mem := by rw [wrBit_only]

@[simp] theorem wrBit_led (m : Mod) (f : Fld) (i : Nat) (b : Bool) : (m.wrBit f i b).led = m.led := by rw [wrBit_only]

@[simp] theorem sink_onSink_same (m : Mod) (n : Nat) (f : SinkX → SinkX) : (m.onSink n f).sink n = f (m.sink n) := SMap.get_set_same _ _ _ _

theorem sink_congr {t u : Mod} (h : t.sinks = u.sinks) (n : Nat) : t.sink n = u.sink n := by rw [sink, sink, h]

/-! #### The lighting block's events and owners -/

/-- What the lighting block's reports and owner states leave alone: memory, the groups' state and the two registers of the groups. -/
structure GroupKept (m t : Mod) : Prop where
  mem : t.mem = m.mem
  led : t.led = m.led
  ot : t.rd LED.GROUP_OT = m.rd LED.GROUP_OT
  latched : t.rd LED.LATCHED = m.rd LED.LATCHED
  pages : m.OnlyPages [0x18, 0x08] t

theorem groupKept_refl (m : Mod) : m.GroupKept m := ⟨rfl, rfl, rfl, rfl, onlyPages_refl _ _⟩

theorem GroupKept.trans {m t u : Mod} (h : m.GroupKept t) (hu : t.GroupKept u) : m.GroupKept u :=
  ⟨hu.mem.trans h.mem, hu.led.trans h.led, hu.ot.trans h.ot, hu.latched.trans h.latched, h.pages.trans hu.pages⟩

theorem groupKept_of_regs {m t : Mod} (hregs : t.regs = m.regs) (hmem : t.mem = m.mem) (hled : t.led = m.led) : m.GroupKept t :=
  ⟨hmem, hled, rd_congr hregs _, rd_congr hregs _, fun g _ _ => rd_congr hregs g⟩

theorem groupKept_wr {f : Fld} (m : Mod) (v : Nat) (hpage : f.key / 524288 = 0x18) (hot : f.key ≠ LED.GROUP_OT.key)
    (hlatched : f.key ≠ LED.LATCHED.key) : m.GroupKept (m.wr f v) :=
  ⟨wr_mem .., wr_led .., rd_wr_other _ _ _ _ hot, rd_wr_other _ _ _ _ hlatched, (onlyPages_wr (by simp [hpage]) _ _ _).2 (onlyPages_refl _ _)⟩

theorem groupKept_ledEv (m : Mod) (cls code : Nat) (l : List Item) (hc : cls < 4) : m.GroupKept (m.ledEv 0x18 cls code l) := by
  have hcount : m.GroupKept (m.countEvt 0x18 code) := by
    have hother (g : Fld) (hr : (COM.RAISED 0x18).key ≠ g.key) (hl : (COM.LAST_CODE 0x18).key ≠ g.key) := rd_countEvt_other m 0x18 code g hr hl
    refine ⟨by rw [countEvt_only], by rw [countEvt_only], hother _ (by decide) (by decide), hother _ (by decide) (by decide), fun g hp _ => hother g ?_ ?_⟩
    · exact fun he => hp (by rw [← he]; decide)
    · exact fun he => hp (by rw [← he]; decide)
  unfold ledEv blockEv
  simp only
  repeat' split
  · exact hcount.trans (groupKept_of_regs (onWatch_regs ..) (onWatch_mem ..) (onWatch_led ..))
  · exact hcount.trans (groupKept_wr _ _ (by decide) (by decide) (by decide))
  · exact ⟨ev_mem .., ev_led .., rd_ev_own _ _ _ _ _ _ hc (by decide) (by decide), rd_ev_own _ _ _ _ _ _ hc (by decide) (by decide),
      (onlyPages_ev (by simp) (by simp) hc _ _ _ _).2 (onlyPages_refl _ _)⟩

/-- The registers of a sink are none of the groups'. -/
theorem sinkFlds_kept : ∀ n : Fin 48, ((LED.APPLIED n).key / 524288 = 0x18 ∧ (LED.APPLIED n).key ≠ LED.GROUP_OT.key ∧
    (LED.APPLIED n).key ≠ LED.LATCHED.key) ∧ (LED.OWN_EFF n).key / 524288 = 0x18 ∧ (LED.OWN_EFF n).key ≠ LED.GROUP_OT.key ∧
    (LED.OWN_EFF n).key ≠ LED.LATCHED.key := by decide

theorem groupKept_onSink (m : Mod) (n : Nat) (f : SinkX → SinkX) : m.GroupKept (m.onSink n f) :=
  groupKept_of_regs (onSink_regs ..) (onSink_mem ..) (onSink_led ..)

theorem groupKept_sinkOff (m : Mod) {n : Nat} (hn : n < 48) : m.GroupKept (m.sinkOff n) := by
  obtain ⟨⟨hpage, hot, hlatched⟩, -⟩ := sinkFlds_kept ⟨n, hn⟩
  exact (groupKept_wr m 0 hpage hot hlatched).trans (groupKept_onSink ..)

theorem groupKept_ownEff (m : Mod) {n : Nat} (v : Nat) (hn : n < 48) : m.GroupKept (m.wr (LED.OWN_EFF n) v) := by
  obtain ⟨-, hpage, hot, hlatched⟩ := sinkFlds_kept ⟨n, hn⟩
  exact groupKept_wr m v hpage hot hlatched

theorem groupKept_sinkAssert (m : Mod) {n : Nat} (o : Nat) (hn : n < 48) : m.GroupKept (m.sinkAssert n o) := by
  simp only [sinkAssert]
  split
  · exact groupKept_refl m
  · split
    · exact ((groupKept_onSink ..).trans (groupKept_ownEff _ _ hn)).trans (groupKept_sinkOff _ hn)
    · exact (groupKept_onSink ..).trans (groupKept_ownEff _ _ hn)

theorem groupKept_sinkRelease (m : Mod) {n : Nat} (o : Nat) (hn : n < 48) : m.GroupKept (m.sinkRelease n o) := by
  simp only [sinkRelease]
  split
  · exact (groupKept_onSink ..).trans (groupKept_ownEff _ _ hn)
  · exact groupKept_refl m

theorem groupKept_forN {k : Nat} {f : Mod → Nat → Mod} (hf : ∀ i, i < k → ∀ t : Mod, t.GroupKept (f t i)) (m : Mod) : m.GroupKept (forN k f m) :=
  forN_induction (P := m.GroupKept) k (fun i hi t ht => ht.trans (hf i hi t)) (groupKept_refl m)

theorem groupKept_groupLock (m : Mod) (g : Fin 6) : m.GroupKept (m.groupLock g) :=
  groupKept_forN (fun i hi t => groupKept_sinkAssert t 3 (by omega)) m

/-! #### A hot group -/

theorem onlyPages_group {f : Fld} {l : List Nat} (m t : Mod) (i : Nat) (b : Bool) (hf : f.key / 524288 = 0x18) (hl : 0x18 ∈ l) (h : m.OnlyPages l t) :
    m.OnlyPages l (t.wrBit f i b) := (onlyPages_wrBit (by rw [hf]; exact hl) _ _ _ _).2 h

/-- A group that trips shows its bit and counts. -/
theorem groupHot_shows {m : Mod} {g : Fin 6} (h : m.bit LED.GROUP_OT g = false) {t : Mod} (ht : t = m.groupHot g) :
    t.bit LED.GROUP_OT g = true ∧ SMap.get 0 t.led.trips g = SMap.get 0 m.led.trips g + 1 ∧ t.mem = m.mem ∧ m.OnlyPages [0x18, 0x08] t := by
  subst ht
  have hset := bit_wrBit_same m LED.GROUP_OT true (i := g) g.isLt
  have hpages : m.OnlyPages [0x18, 0x08] (m.wrBit LED.GROUP_OT g true) := onlyPages_group m m g true (by decide) (by simp) (onlyPages_refl _ _)
  simp only [groupHot, h, Bool.false_eq_true, if_false]
  have hparts : (m.wrBit LED.GROUP_OT g true).mem = m.mem ∧ (m.wrBit LED.GROUP_OT g true).led = m.led := ⟨wrBit_mem .., wrBit_led ..⟩
  obtain ⟨hmem, hled⟩ := hparts
  generalize m.wrBit LED.GROUP_OT g true = a at *
  have hkept := (groupKept_ledEv a warn 0x0703 [sj g] (by decide)).trans
    (groupKept_forN (k := 8) (f := fun m i => m.sinkOff (8 * g + i)) (fun i hi t => groupKept_sinkOff t (by omega)) _)
  generalize forN 8 (fun m i => m.sinkOff (8 * g + i)) (a.ledEv 0x18 warn 0x0703 [sj g]) = b at *
  have hcounted (c : Mod) (hc : c = { b with led := { b.led with trips := SMap.set 0 b.led.trips g (SMap.get 0 b.led.trips g + 1) } }) :
      c.bit LED.GROUP_OT g = true ∧ SMap.get 0 c.led.trips g = SMap.get 0 m.led.trips g + 1 ∧ c.mem = m.mem ∧ m.OnlyPages [0x18, 0x08] c := by
    subst hc
    refine ⟨?_, ?_, hkept.mem.trans hmem, hpages.trans (hkept.pages)⟩
    · rw [bit, rd_of_regs, hkept.ot]
      exact hset
    · have hcount := SMap.get_set_same 0 b.led.trips g (SMap.get 0 b.led.trips g + 1)
      rw [hkept.led, hled] at hcount
      rw [hkept.led, hled]
      exact hcount
  generalize ({ b with led := { b.led with trips := SMap.set 0 b.led.trips g (SMap.get 0 b.led.trips g + 1) } } : Mod) = c at *
  obtain ⟨hbit, htrips, hmemc, hpagesc⟩ := hcounted c rfl
  split
  · have hlast := (groupKept_ledEv (c.wrBit LED.LATCHED g true) err 0x0704 [sj g] (by decide)).trans (groupKept_groupLock _ g)
    refine ⟨?_, ?_, hlast.mem.trans ((wrBit_mem ..).trans hmemc), (onlyPages_group m c g true (by decide) (by simp) hpagesc).trans hlast.pages⟩
    · rw [bit, hlast.ot, rd_wrBit_other _ _ _ _ _ (by decide)]
      exact hbit
    · rw [hlast.led, wrBit_led]
      exact htrips
  · exact ⟨hbit, htrips, hmemc, hpagesc⟩

/-! #### The latches -/

/-- One group's latch is cleared where its sensor has cooled. -/
def thClearOne (m : Mod) (g : Nat) : Mod :=
  if m.bit LED.LATCHED g ∧ m.led.warm.testBit g = false then
    forN 8 (fun m i => m.sinkRelease (8 * g + i) 3) (m.wrBit LED.LATCHED g false)
  else m

theorem thClear_eq (m : Mod) : m.thClear = { forN 6 thClearOne m with led := { (forN 6 thClearOne m).led with trips := [] } } := rfl

/-- What has become of the latches once the first `k` groups have been looked at. -/
structure LatchesCleared (k : Nat) (m t : Mod) : Prop where
  mem : t.mem = m.mem
  led : t.led = m.led
  latched : ∀ g, g < 6 → t.bit LED.LATCHED g = (m.bit LED.LATCHED g && (decide (k ≤ g) || m.led.warm.testBit g))
  pages : m.OnlyPages [0x18] t

theorem onlyPages_sinkRelease (m : Mod) {n : Nat} (o : Nat) (hn : n < 48) : m.OnlyPages [0x18] (m.sinkRelease n o) := by
  obtain ⟨-, hpage, -, -⟩ := sinkFlds_kept ⟨n, hn⟩
  simp only [sinkRelease]
  split
  · exact (onlyPages_wr (by simp [hpage]) _ _ _).2 fun g _ _ => rd_congr (onSink_regs ..) g
  · exact onlyPages_refl _ _

theorem latchesCleared_step {k : Nat} (hk : k < 6) {m t : Mod} (h : LatchesCleared k m t) : LatchesCleared (k + 1) m (t.thClearOne k) := by
  obtain ⟨hmem, hled, hlatched, hpages⟩ := h
  have hat := hlatched k hk
  simp only [Nat.le_refl, decide_true, Bool.true_or, Bool.and_true] at hat
  have hothers (g : Nat) (hg : g < 6) (hne : g ≠ k) : t.bit LED.LATCHED g = (m.bit LED.LATCHED g && (decide (k + 1 ≤ g) || m.led.warm.testBit g)) := by
    rw [hlatched g hg]
    congr 2
    exact decide_eq_decide.2 (by omega)
  simp only [thClearOne]
  split
  next hgo =>
    obtain ⟨hset, hcool⟩ := hgo
    have hkept : (t.wrBit LED.LATCHED k false).GroupKept (forN 8 (fun m i => m.sinkRelease (8 * k + i) 3) (t.wrBit LED.LATCHED k false)) :=
      groupKept_forN (fun i hi u => groupKept_sinkRelease u 3 (by omega)) _
    have honly : (t.wrBit LED.LATCHED k false).OnlyPages [0x18] (forN 8 (fun m i => m.sinkRelease (8 * k + i) 3) (t.wrBit LED.LATCHED k false)) :=
      forN_induction (P := (t.wrBit LED.LATCHED k false).OnlyPages [0x18]) 8
        (fun i hi u hu => hu.trans (onlyPages_sinkRelease u 3 (by omega))) (onlyPages_refl _ _)
    refine ⟨hkept.mem.trans ((wrBit_mem ..).trans hmem), hkept.led.trans ((wrBit_led ..).trans hled), fun g hg => ?_,
      (onlyPages_group m t k false (by decide) (by simp) hpages).trans honly⟩
    rw [bit, hkept.latched, ← bit]
    by_cases hne : g = k
    · subst hne
      rw [bit_wrBit_same t LED.LATCHED false hk, ← hled, hcool]
      simp
    · rw [bit_wrBit_false hne hg]
      exact hothers g hg hne
  next hstay =>
    refine ⟨hmem, hled, fun g hg => ?_, hpages⟩
    by_cases hne : g = k
    · subst hne
      rw [hat]
      rw [hat, hled] at hstay
      cases hm : m.bit LED.LATCHED g <;> simp_all
    · exact hothers g hg hne

theorem latchesCleared_forN (m : Mod) (k : Nat) (hk : k ≤ 6) : LatchesCleared k m (forN k thClearOne m) := by
  induction k with
  | zero => exact ⟨rfl, rfl, fun g _ => by simp [forN], onlyPages_refl _ _⟩
  | succ k ih =>
    rw [forN, List.range_succ, List.foldl_append]
    exact latchesCleared_step (by omega) (ih (by omega))

end Mod

open Machine.Mod Reg

theorem sinkPeriodStart_runs (s : State) (n : Fin 48) : s.Runs (.sinkPeriodStart n) fun m t => t.rd (LED.APPLIED n) = m.sinkWant n % 65536 ∧
    (t.sink n).on = decide (m.ledOn (m.sinkWant n) ≠ 0) ∧ t.mem = m.mem ∧ m.KeepsRegs [LED.APPLIED n] t := by
  have hder : ∀ n : Fin 48, (LED.APPLIED n).key ∉ derivedKeys := by decide
  refine State.runs_next s _ _ _ rfl ?_
  have hskip (u : Mod) (hu : u = if s.mod.on LED.NB_BUSY = true ∧ s.mod.led.nbNext = n.val ∧ s.mod.sinkWant n ≠ 0 then
      { s.mod with led := { s.mod.led with nbSkip := true } } else s.mod) : u.regs = s.mod.regs ∧ u.mem = s.mod.mem := by
    subst hu
    split <;> exact ⟨rfl, rfl⟩
  simp only [sinkStart]
  generalize hu : (if s.mod.on LED.NB_BUSY = true ∧ s.mod.led.nbNext = n.val ∧ s.mod.sinkWant n ≠ 0 then
      { s.mod with led := { s.mod.led with nbSkip := true } } else s.mod) = u
  obtain ⟨hregs, hmem⟩ := hskip u hu.symm
  have hon : u.ledOn (s.mod.sinkWant n) = s.mod.ledOn (s.mod.sinkWant n) := by rw [ledOn, ledTicks, rd_congr hregs, ledOn, ledTicks]
  rw [rd_settle _ _ (hder n), rd_congr (onSink_regs ..), rd_wr_same, sink_congr (settle_sinks _), sink_onSink_same, settle_mem, onSink_mem, wr_mem, hon,
    keepsRegs_settle]
  exact ⟨rfl, rfl, hmem, KeepsRegs.of_regs _ _ _ _ ((KeepsRegs.of_regs _ _ _ _ (KeepsRegs.refl _ _) hregs).wr _ _ _ _ _ (by simp)) (onSink_regs ..)⟩

theorem sinkMeasure_runs (s : State) (n : Fin 48) (drop : BitVec 8) (cur : BitVec 10) (hon : (s.mod.sink n).on = true)
    (hlong : 400 ≤ s.mod.ledOn (s.mod.rd (LED.APPLIED n))) (hdrop : 4 ≤ drop.toNat) : s.Runs (.sinkMeasure n drop cur) fun m t =>
      t.rd (LED.DROP n) = drop.toNat ∧ (t.sink n).openRun = 0 ∧
      (t.sink n).clearRun = Nat.min 4 ((m.sink n).clearRun + 1) ∧ t.mem = m.mem ∧ m.KeepsRegs [LED.DROP n, LED.OPEN n] t := by
  have hder : ∀ n : Fin 48, (LED.DROP n).key ∉ derivedKeys := by decide
  refine State.runs_next s _ _ _ rfl ?_
  have hgo : ¬ ((s.mod.sink n).on = false ∨ s.mod.ledOn (s.mod.rd (LED.APPLIED n)) < 400) := by
    rw [hon]
    simp only [Bool.true_eq_false, false_or]
    omega
  have hhigh (c : Bool) : ¬ (drop.toNat < 4 ∧ c = true) := fun h => by omega
  have hread (u : Mod) (hu : u.regs = (s.mod.wr (LED.DROP n) drop.toNat).regs) : u.rd (LED.DROP n) = drop.toNat := by
    rw [rd_congr hu, rd_wr_same]
    exact Nat.mod_eq_of_lt drop.isLt
  have hkeep (u : Mod) (hu : u.regs = (s.mod.wr (LED.DROP n) drop.toNat).regs) : s.mod.KeepsRegs [LED.DROP n, LED.OPEN n] u :=
    KeepsRegs.of_regs _ _ _ _ ((KeepsRegs.refl _ _).wr _ _ _ _ _ (by simp)) hu
  simp only [sinkMeasure, if_neg hgo, if_neg (hhigh _), settle_mem, keepsRegs_settle, rd_settle _ _ (hder n), sink_congr (settle_sinks _)]
  split
  · rw [rd_wr_other _ _ _ _ (by simp only [LED.OPEN, LED.DROP, Fld.key, ResetClass.code]; omega), sink_congr (wr_sinks ..), sink_onSink_same, wr_mem,
      keepsRegs_wr (by simp)]
    exact ⟨hread _ rfl, rfl, rfl, rfl, hkeep _ rfl⟩
  · rw [sink_onSink_same]
    exact ⟨hread _ rfl, rfl, rfl, rfl, hkeep _ rfl⟩

/-- Settles O24. -/
theorem sinksFollowTheirOwner : Obligations.SinksFollowTheirOwner := by
  intro s
  refine ⟨sinkPeriodStart_runs s, fun n hshort => State.runs_next s _ _ _ rfl ?_, fun n hfull => State.runs_next s _ _ _ rfl ?_,
    fun n drop cur hon hlong hdrop => sinkMeasure_runs s n drop cur hon hlong hdrop, fun g c hhot hoff => State.runs_next s _ _ _ rfl ?_,
    fun g c hcool => State.runs_next s _ _ _ rfl ?_, fun g => State.runs_next s _ _ _ rfl ?_, State.runs_next s _ _ _ rfl ?_,
    fun n v => State.runs_next s _ _ _ rfl ?_⟩
  · rw [if_neg (by omega), sink_congr (settle_sinks _), sink_onSink_same, settle_mem, keepsRegs_settle]
    exact ⟨rfl, rfl, KeepsRegs.of_regs _ _ _ _ (KeepsRegs.refl _ _) (onSink_regs ..)⟩
  · rw [if_pos hfull]
    exact (OnlyRegs.refl _ _).settle _ _ _
  · have hwarm : (s.mod.setWarm g true).bit LED.GROUP_OT g = false := hoff
    obtain ⟨hbit, htrips, hmem, hpages⟩ := groupHot_shows hwarm rfl
    simp only [if_pos (show 135 < c.toNat by omega), if_pos hhot]
    rw [rd_settle _ _ (by decide), settle_led, settle_mem, onlyPages_settle]
    exact ⟨hbit, htrips, hmem, hpages⟩
  · simp only [if_neg (show ¬ 150 ≤ c.toNat by omega)]
    rw [settle_led, settle_mem, keepsRegs_settle]
    split
    · exact ⟨fun _ => setBit_testBit_same _ _ _, rfl, KeepsRegs.of_regs _ _ _ _ (KeepsRegs.refl _ _) rfl⟩
    · exact ⟨fun h => absurd h ‹_›, rfl, KeepsRegs.refl _ _⟩
  · rw [rd_settle _ _ (by decide), settle_led, settle_mem, keepsRegs_settle, wrBit_led, wrBit_mem, keepsRegs_wrBit (by simp)]
    exact ⟨bit_wrBit_same _ _ _ g.isLt, setBit_testBit_same _ _ _, rfl, KeepsRegs.of_regs _ _ _ _ (KeepsRegs.refl _ _) rfl⟩
  · obtain ⟨hmem, hled, hlatched, hpages⟩ := latchesCleared_forN s.mod 6 (Nat.le_refl 6)
    rw [thClear_eq, settle_led, settle_mem, onlyPages_settle]
    refine ⟨rfl, fun g => ?_, hmem, hpages⟩
    rw [bit, rd_settle _ _ (by decide)]
    refine (hlatched g g.isLt).trans ?_
    rw [decide_eq_false (by omega), Bool.false_or]
  · rw [rd_settle _ _ (by decide), rd_settle _ _ (by decide), rd_inc_other _ _ _ (by decide), rd_inc_same, rd_inc_same, rd_inc_other _ _ _ (by decide)]
    exact ⟨rfl, rfl, (((OnlyRegs.refl _ _).wr _ _ _ _ _ (by simp)).wr _ _ _ _ _ (by simp)).settle _ _ _⟩

end Sys2Proof.Machine

/-! ### What a watched block's report leaves alone, and the page's interrupt bits -/
namespace Sys2Proof.Machine

namespace Mod
open Reg

@[simp] theorem wrBit_evt (m : Mod) (f : Fld) (i : Nat) (b : Bool) : (m.wrBit f i b).evt = m.evt := by rw [wrBit_only]
@[simp] theorem wrBit_fio (m : Mod) (f : Fld) (i : Nat) (b : Bool) : (m.wrBit f i b).fio = m.fio := by rw [wrBit_only]
@[simp] theorem wrBit_lss (m : Mod) (f : Fld) (i : Nat) (b : Bool) : (m.wrBit f i b).lss = m.lss := by rw [wrBit_only]

theorem bit_settle (m : Mod) (f : Fld) (i : Nat) (h : f.key ∉ derivedKeys) : m.settle.bit f i = m.bit f i := by rw [bit, rd_settle _ _ h, bit]

/-- A write of a bit changes one register alone. -/
theorem OnlyRegs.wrBit (l : List Fld) (m t : Mod) (f : Fld) (i : Nat) (b : Bool) (h : m.OnlyRegs l t) (hf : f ∈ l) : m.OnlyRegs l (t.wrBit f i b) := by
  unfold Mod.wrBit
  simp only
  split
  · exact h
  · exact h.wr _ _ _ _ _ hf

/-- An interrupt bit of a page is one bit of PAGE_IRQ, or nothing. -/
theorem irq_only (m : Mod) (pg i : Nat) : m.irq pg i = { m with regs := (m.irq pg i).regs } := by
  unfold irq
  split
  · exact wrBit_only ..
  · rfl

@[simp] theorem irq_mem (m : Mod) (pg i : Nat) : (m.irq pg i).mem = m.mem := by rw [irq_only]
@[simp] theorem irq_evt (m : Mod) (pg i : Nat) : (m.irq pg i).evt = m.evt := by rw [irq_only]
@[simp] theorem irq_fio (m : Mod) (pg i : Nat) : (m.irq pg i).fio = m.fio := by rw [irq_only]
@[simp] theorem irq_lss (m : Mod) (pg i : Nat) : (m.irq pg i).lss = m.lss := by rw [irq_only]

theorem rd_irq_other (m : Mod) (pg i : Nat) (g : Fld) (h : (COM.PAGE_IRQ pg).key ≠ g.key) : (m.irq pg i).rd g = m.rd g := by
  unfold irq
  split
  · exact rd_wrBit_other _ _ _ _ _ h
  · rfl

theorem onlyPages_irq {l : List Nat} {pg : Nat} (hpg : pg ∈ l) (m t : Mod) (i : Nat) : m.OnlyPages l (t.irq pg i) ↔ m.OnlyPages l t := by
  have hmem : (COM.PAGE_IRQ pg).key / 524288 ∈ l := by
    have hpage : (COM.PAGE_IRQ pg).key / 524288 = pg := by
      simp only [COM.PAGE_IRQ, Fld.key, ResetClass.code]
      omega
    rwa [hpage]
  exact onlyPages_congr fun g hp _ => rd_irq_other _ _ _ _ fun he => hp (he ▸ hmem)

theorem keepsRegs_irq {l : List Fld} {pg : Nat} (hpg : COM.PAGE_IRQ pg ∈ l) (m t : Mod) (i : Nat) : m.KeepsRegs l (t.irq pg i) ↔ m.KeepsRegs l t :=
  keepsRegs_congr fun _ hg => rd_irq_other _ _ _ _ (hg _ (List.mem_append_right _ hpg))

/-- A watched block's event, raised or held, changes registers, the event log, what a probation has seen and the watches, and nothing else. -/
theorem blockEv_only (m : Mod) (b pg : Nat) (lost : Fld) (cls code : Nat) (l : List Item) : m.blockEv b pg lost cls code l =
    { m with regs := (m.blockEv b pg lost cls code l).regs, evt := (m.blockEv b pg lost cls code l).evt,
             upd := (m.blockEv b pg lost cls code l).upd, watches := (m.blockEv b pg lost cls code l).watches } := by
  unfold blockEv
  simp only
  rw [countEvt_only]
  repeat' split
  · rfl
  · rfl
  · conv => lhs; rw [ev_only]
    rw [ev_watches]

/-- A block's own register, its count of lost events aside, keeps its value when the block reports. -/
theorem rd_blockEv_own (m : Mod) (b pg : Nat) (lost : Fld) (cls code : Nat) (l : List Item) (g : Fld) (hc : cls < 4) (hlost : lost.key ≠ g.key)
    (hpage : g.key / 524288 ≠ 8) (hoff : 0x100 ≤ g.key / 128 % 4096) : (m.blockEv b pg lost cls code l).rd g = m.rd g := by
  have hne := evtFlds_ne (pg := pg) hpage hoff
  have hcount : (m.countEvt pg code).rd g = m.rd g := rd_countEvt_other _ _ _ _ (hne _ (by simp [evtFlds])) (hne _ (by simp [evtFlds]))
  unfold blockEv
  simp only
  repeat' split
  · exact hcount
  · exact (rd_inc_other _ _ _ hlost).trans hcount
  · exact rd_ev_own _ _ _ _ _ _ hc hpage hoff

theorem onlyPages_blockEv {l : List Nat} {pg : Nat} (hpg : pg ∈ l) (hevt : 0x08 ∈ l) (m t : Mod) (b : Nat) (lost : Fld) (cls code : Nat)
    (items : List Item) (hc : cls < 4) (hlost : lost.key / 524288 ∈ l) (h : m.OnlyPages l t) : m.OnlyPages l (t.blockEv b pg lost cls code items) := by
  have hcount : t.OnlyPages l (t.countEvt pg code) := fun g hp _ => rd_countEvt_other _ _ _ _
    (fun he => hp (by rw [← he, show (COM.RAISED pg).key / 524288 = pg by simp only [COM.RAISED, Fld.key, ResetClass.code]; omega]; exact hpg))
    (fun he => hp (by rw [← he, show (COM.LAST_CODE pg).key / 524288 = pg by simp only [COM.LAST_CODE, Fld.key, ResetClass.code]; omega]; exact hpg))
  unfold blockEv
  simp only
  repeat' split
  · exact h.trans hcount
  · exact (onlyPages_inc hlost _ _).2 (h.trans hcount)
  · exact (onlyPages_ev hpg hevt hc _ _ _ _).2 h

end Mod

end Sys2Proof.Machine

/-! ### Field inputs (R235, R239 to R246) -/
namespace Sys2Proof.Machine

namespace Mod
open Reg

/-- What the fault bit and a report of the field I/O block leave alone. -/
structure FioKept (m t : Mod) : Prop where
  mem : t.mem = m.mem
  fio : t.fio = m.fio
  lss : t.lss = m.lss
  regs : ∀ g : Fld, g.key / 524288 ≠ 8 → 0x100 ≤ g.key / 128 % 4096 → FIO.FAULT.key ≠ g.key → FIO.FAULT_CNT.key ≠ g.key →
    FIO.QEVT_LOST.key ≠ g.key → t.rd g = m.rd g
  pages : m.OnlyPages [0x16, 0x08] t

theorem fioKept_refl (m : Mod) : m.FioKept m := ⟨rfl, rfl, rfl, fun _ _ _ _ _ _ => rfl, onlyPages_refl _ _⟩

theorem FioKept.trans {m t u : Mod} (h : m.FioKept t) (hu : t.FioKept u) : m.FioKept u :=
  ⟨hu.mem.trans h.mem, hu.fio.trans h.fio, hu.lss.trans h.lss,
    fun g h1 h2 h3 h4 h5 => (hu.regs g h1 h2 h3 h4 h5).trans (h.regs g h1 h2 h3 h4 h5), h.pages.trans hu.pages⟩

theorem fioKept_fioEv (m : Mod) (cls code : Nat) (l : List Item) (hc : cls < 4) : m.FioKept (m.fioEv cls code l) := by
  refine ⟨by rw [fioEv, blockEv_only], by rw [fioEv, blockEv_only], by rw [fioEv, blockEv_only],
    fun g hp ho _ _ hlost => rd_blockEv_own _ _ _ _ _ _ _ _ hc hlost hp ho,
    onlyPages_blockEv (by simp) (by simp) _ _ _ _ _ _ _ hc (by decide) (onlyPages_refl _ _)⟩

theorem fioKept_irq (m : Mod) (i : Nat) : m.FioKept (m.irq 0x16 i) := by
  refine ⟨irq_mem .., irq_fio .., irq_lss .., fun g hp ho _ _ _ => rd_irq_other _ _ _ _ fun he => ?_, (onlyPages_irq (by simp) _ _ _).2 (onlyPages_refl _ _)⟩
  rw [← he] at ho
  revert ho
  decide

/-- The bit FAULT follows the latches and is all that a block's own registers show of it. -/
theorem fioFault_kept (m : Mod) : m.FioKept m.fioFault := by
  have hwr (t : Mod) (v : Nat) : t.FioKept (t.wr FIO.FAULT v) := ⟨wr_mem .., wr_fio .., wr_lss .., fun g _ _ hf _ _ => rd_wr_other _ _ _ _ hf,
    (onlyPages_wr (by decide) _ _ _).2 (onlyPages_refl _ _)⟩
  have hinc (t : Mod) : t.FioKept (t.inc FIO.FAULT_CNT) := ⟨inc_mem .., inc_fio .., inc_lss .., fun g _ _ _ hf _ => rd_inc_other _ _ _ hf,
    (onlyPages_inc (by decide) _ _).2 (onlyPages_refl _ _)⟩
  unfold fioFault
  repeat' split
  · exact fioKept_refl m
  · exact (((hwr m 1).trans (fioKept_irq ..)).trans (hinc _)).trans (fioKept_fioEv _ _ _ _ (by decide))
  · exact hwr m 0

/-- Some latch set: FAULT shows it. -/
theorem fioFault_set {m : Mod} (h : m.anyLatch = true) : m.fioFault.rd FIO.FAULT ≠ 0 := by
  simp only [fioFault, h, if_true]
  split
  next hon => simpa [on] using hon
  next =>
    rw [fioEv, rd_blockEv_own _ _ _ _ _ _ _ _ (by decide) (by decide) (by decide) (by decide), rd_inc_other _ _ _ (by decide),
      rd_irq_other _ _ _ _ (by decide), rd_wr_same]
    decide

/-- A bit of a disjunction of latches. -/
theorem or_ne_zero_of_testBit {a b : Nat} {i : Nat} (h : a.testBit i = true) : a ||| b ≠ 0 := fun he => by
  have := congrArg (Nat.testBit · i) he
  simp [h] at this

theorem anyLatch_ov {m : Mod} {i : Nat} (h : m.fio.ov.testBit i = true) : m.anyLatch = true := by
  have hor : m.fio.ov ||| m.fio.oc ||| m.fio.th ||| m.fio.ol ≠ 0 := by
    rw [Nat.or_assoc, Nat.or_assoc]
    exact or_ne_zero_of_testBit h
  exact decide_eq_true hor

/-! #### The filtered state -/

/-- The registers that a filtered state moves. -/
def filtFlds : List Fld := [FIO.DI_FILT, FIO.DI_EDGE, FIO.CLEAN_DEFER_CNT, COM.PAGE_IRQ 0x16]

/-- A cleaning pulse that starts or waits moves the block's queues and its count alone. -/
theorem cleanStart_leaves (m : Mod) (i : Nat) : (m.cleanStart i).mem = m.mem ∧ (m.cleanStart i).fio.edges = m.fio.edges ∧
    ∀ g : Fld, FIO.CLEAN_DEFER_CNT.key ≠ g.key → (m.cleanStart i).rd g = m.rd g := by
  unfold cleanStart
  repeat' split
  · exact ⟨rfl, rfl, fun _ _ => rfl⟩
  · exact ⟨rfl, rfl, fun _ _ => rfl⟩
  · exact ⟨rfl, rfl, fun _ _ => rfl⟩
  · exact ⟨rfl, rfl, fun _ _ => rfl⟩
  · exact ⟨rfl, rfl, fun g hg => (rd_congr rfl g).trans (rd_inc_other _ _ _ hg)⟩

/-- The filtered state takes the raw level; a change is an edge. -/
theorem filtTake_shows {m : Mod} {i : Nat} (hi : i < 32) {t : Mod} (ht : t = m.filtTake i) :
    t.bit FIO.DI_FILT i = m.bit FIO.DI_RAW i ∧ t.rd FIO.DI_RAW = m.rd FIO.DI_RAW ∧ t.mem = m.mem ∧ m.KeepsRegs filtFlds t ∧
      (m.bit FIO.DI_FILT i ≠ m.bit FIO.DI_RAW i → t.bit FIO.DI_EDGE i = true ∧ t.fio.edges.testBit i = true) := by
  subst ht
  simp only [filtTake]
  split
  next hsame => exact ⟨hsame, rfl, rfl, KeepsRegs.refl _ _, fun h => absurd hsame h⟩
  next hdiff =>
    have hedge (u : Mod) (hu : u = (((m.wrBit FIO.DI_FILT i (m.bit FIO.DI_RAW i)).wrBit FIO.DI_EDGE i true).irq 0x16 2).onFio
        fun x => { x with edges := setBit x.edges i true }) :
        u.bit FIO.DI_FILT i = m.bit FIO.DI_RAW i ∧ u.rd FIO.DI_RAW = m.rd FIO.DI_RAW ∧ u.mem = m.mem ∧ m.KeepsRegs filtFlds u ∧
          u.bit FIO.DI_EDGE i = true ∧ u.fio.edges.testBit i = true := by
      subst hu
      refine ⟨?_, ?_, ?_, ?_, ?_, setBit_testBit_same _ _ _⟩
      · rw [bit, rd_congr (onFio_regs ..), rd_irq_other _ _ _ _ (by decide), rd_wrBit_other _ _ _ _ _ (by decide)]
        exact bit_wrBit_same _ _ _ hi
      · rw [rd_congr (onFio_regs ..), rd_irq_other _ _ _ _ (by decide), rd_wrBit_other _ _ _ _ _ (by decide), rd_wrBit_other _ _ _ _ _ (by decide)]
      · rw [onFio_mem, irq_mem, wrBit_mem, wrBit_mem]
      · refine KeepsRegs.of_regs _ _ _ _ ?_ (onFio_regs ..)
        rw [keepsRegs_irq (by simp [filtFlds]), keepsRegs_wrBit (by simp [filtFlds]), keepsRegs_wrBit (by simp [filtFlds])]
        exact KeepsRegs.refl _ _
      · rw [bit, rd_congr (onFio_regs ..), rd_irq_other _ _ _ _ (by decide)]
        exact bit_wrBit_same _ _ _ hi
    generalize (((m.wrBit FIO.DI_FILT i (m.bit FIO.DI_RAW i)).wrBit FIO.DI_EDGE i true).irq 0x16 2).onFio
      (fun x => { x with edges := setBit x.edges i true }) = u at *
    obtain ⟨hfilt, hraw, hmem, hkeep, hbit, hedges⟩ := hedge u rfl
    obtain ⟨hcmem, hcedges, hcregs⟩ := cleanStart_leaves u i
    split
    · refine ⟨?_, (hcregs _ (by decide)).trans hraw, hcmem.trans hmem, hkeep.trans fun g hg => hcregs g (hg _ (by simp [filtFlds])), fun _ => ⟨?_, ?_⟩⟩
      · rw [bit, hcregs _ (by decide)]; exact hfilt
      · rw [bit, hcregs _ (by decide)]; exact hbit
      · rw [hcedges]; exact hedges
    · split
      · exact ⟨hfilt, hraw, hmem, KeepsRegs.of_regs _ _ _ _ hkeep (onFio_regs ..), fun _ => ⟨hbit, hedges⟩⟩
      · exact ⟨hfilt, hraw, hmem, hkeep, fun _ => ⟨hbit, hedges⟩⟩

theorem filtFlds_page : ∀ f ∈ filtFlds, f.key / 524288 ∈ [0x16, 0x08] := by decide

/-- A raw level is shown with its inversion; without debounce the filtered state follows it. -/
theorem rawLevel_eq (m : Mod) (i : Fin 32) (on : Bool) : m.rawLevel i on =
    let u := (m.onFio fun x => { x with level := setBit x.level i on }).wrBit FIO.DI_RAW i (on != m.on (FIO.INV i))
    if m.rd (FIO.DEB i) = 0 then u.filtTake i else u := by
  have hdeb : ∀ i : Fin 32, FIO.DI_RAW.key ≠ (FIO.DEB i).key := by decide
  have hlevel : (m.onFio fun x => { x with level := setBit x.level i on }).fio.level.testBit i = on := setBit_testBit_same _ _ _
  have hinv (u : Mod) (hu : u.regs = m.regs) : u.on (FIO.INV i) = m.on (FIO.INV i) := by rw [Mod.on, Mod.on, rd_congr hu]
  simp only [rawLevel, rawShow, hlevel, hinv _ (onFio_regs ..), rd_wrBit_other _ _ _ _ _ (hdeb i), rd_congr (onFio_regs m _)]

/-- The raw level of an input, and what the command keeps. -/
theorem rawShown {m u : Mod} (i : Fin 32) (on : Bool)
    (hu : u = (m.onFio fun x => { x with level := setBit x.level i on }).wrBit FIO.DI_RAW i (on != m.on (FIO.INV i))) :
    u.bit FIO.DI_RAW i = (on != m.on (FIO.INV i)) ∧ u.fio.level.testBit i = on ∧ u.mem = m.mem ∧ m.KeepsRegs [FIO.DI_RAW] u := by
  subst hu
  refine ⟨bit_wrBit_same _ _ _ i.isLt, ?_, by rw [wrBit_mem, onFio_mem], ?_⟩
  · rw [wrBit_fio]
    exact setBit_testBit_same _ _ _
  · rw [keepsRegs_wrBit (by simp)]
    exact KeepsRegs.of_regs _ _ _ _ (KeepsRegs.refl _ _) (onFio_regs ..)

/-! #### Counting inputs -/

@[simp] theorem ci_onCi_same (m : Mod) (j : Nat) (f : CiX → CiX) : (m.onCi j f).ci j = f (m.ci j) := SMap.get_set_same _ _ _ _

theorem ci_congr {t u : Mod} (h : t.cis = u.cis) (j : Nat) : t.ci j = u.ci j := by rw [ci, ci, h]

theorem ciFlds_derived : ∀ j : Fin 8, (FIO.CI_COUNT j).key ∉ derivedKeys ∧ (FIO.CI_PERIOD j).key ∉ derivedKeys ∧ (FIO.STALE j).key ∉ derivedKeys ∧
    (FIO.NWIN j).key ∉ derivedKeys ∧ (FIO.SAT j).key ∉ derivedKeys := by decide

end Mod

open Machine.Mod Reg

theorem rawLevelChange_runs (s : State) (i : Fin 32) (on : Bool) :
    (s.mod.pstate < 2 → s.mod.rd (FIO.DEB i) ≠ 0 → s.Runs (.rawLevelChange i on) (fun m t =>
      (t.rd FIO.DI_RAW).testBit i = (on != m.on (FIO.INV i)) ∧ t.fio.level.testBit i = on ∧ t.mem = m.mem ∧ m.KeepsRegs [FIO.DI_RAW] t)) ∧
    (2 ≤ s.mod.pstate → s.Runs (.rawLevelChange i on) (fun m t => m.OnlyRegs [] t)) ∧
    (s.mod.pstate < 2 → s.mod.rd (FIO.DEB i) = 0 → s.Runs (.rawLevelChange i on) (fun m t =>
      (t.rd FIO.DI_RAW).testBit i = (on != m.on (FIO.INV i)) ∧ (t.rd FIO.DI_FILT).testBit i = (on != m.on (FIO.INV i)) ∧ t.mem = m.mem ∧
        m.OnlyPages [0x16, 0x08] t)) := by
  obtain ⟨hraw, hlevel, hmem, hkeep⟩ := rawShown (m := s.mod) i on rfl
  refine ⟨fun hup hdeb => State.runs_next s _ _ _ rfl ?_, fun hdown => State.runs_next s _ _ _ rfl ?_,
    fun hup hdeb => State.runs_next s _ _ _ rfl ?_⟩
  · simp only [if_neg (show ¬ 2 ≤ s.mod.pstate by omega), rawLevel_eq, if_neg hdeb]
    rw [rd_settle _ _ (by decide), settle_fio, settle_mem, keepsRegs_settle]
    exact ⟨hraw, hlevel, hmem, hkeep⟩
  · rw [if_pos hdown]
    exact (OnlyRegs.refl _ _).settle _ _ _
  · simp only [if_neg (show ¬ 2 ≤ s.mod.pstate by omega), rawLevel_eq, if_pos hdeb]
    obtain ⟨hfilt, hraw', hmem', hkeep', -⟩ := filtTake_shows (m := (s.mod.onFio fun x => { x with level := Mod.setBit x.level i on }).wrBit FIO.DI_RAW i
      (on != s.mod.on (FIO.INV i))) i.isLt rfl
    rw [rd_settle _ _ (by decide), rd_settle _ _ (by decide), settle_mem, onlyPages_settle, hraw']
    exact ⟨hraw, hfilt.trans hraw, hmem'.trans hmem, (hkeep.onlyPages (by decide)).trans (hkeep'.onlyPages filtFlds_page)⟩

theorem neighbourStep_runs (s : State) (low : Bool) (hbusy : s.mod.rd LED.NB_BUSY = 1) (hlast : s.mod.led.nbNext = 47) :
    (s.mod.led.nbSkip = false → s.Runs (.neighbourStep low false false) (fun m t =>
      t.rd LED.NB_BUSY = 0 ∧ (low = true → (t.rd (LED.NB_LOW 1)).testBit 23 = true) ∧ m.OnlyRegs [LED.NB_BUSY, LED.NB_LOW 1] t)) ∧
    (∀ below above, s.mod.led.nbSkip = true → s.Runs (.neighbourStep low below above) (fun m t =>
      t.rd LED.NB_BUSY = 0 ∧ (t.rd (LED.NB_SKIP 1)).testBit 23 = true ∧ m.OnlyRegs [LED.NB_BUSY, LED.NB_SKIP 1] t)) := by
  have hdone (u : Mod) (f : Fld) (l : List Fld) (hf : LED.NB_BUSY.key ≠ f.key) (hder : f.key ∉ derivedKeys) (hl : LED.NB_BUSY ∈ l) (h : s.mod.OnlyRegs l u) :
      (u.wr LED.NB_BUSY 0).settle.rd LED.NB_BUSY = 0 ∧ (u.wr LED.NB_BUSY 0).settle.rd f = u.rd f ∧ s.mod.OnlyRegs l (u.wr LED.NB_BUSY 0).settle := by
    refine ⟨?_, ?_, (h.wr _ _ _ _ _ hl).settle _ _ _⟩
    · rw [rd_settle _ _ (by decide), rd_wr_same]
      rfl
    · rw [rd_settle _ _ hder, rd_wr_other _ _ _ _ hf]
  refine ⟨fun hskip => State.runs_next s _ _ _ rfl ?_, fun below above hskip => State.runs_next s _ _ _ rfl ?_⟩
  · simp only [nbStep, hbusy, hlast, hskip, Bool.false_eq_true, if_false, false_and, Nat.one_ne_zero, Nat.le_refl, if_true, Nat.reduceDiv, Nat.reduceMod]
    cases low
    · simp only [Bool.false_eq_true, if_false]
      obtain ⟨hend, -, honly⟩ := hdone s.mod (LED.NB_LOW 1) [LED.NB_BUSY, LED.NB_LOW 1] (by decide) (by decide) (by simp) (OnlyRegs.refl _ _)
      exact ⟨hend, fun h => h.elim, honly⟩
    · simp only [if_true]
      obtain ⟨hend, hlow, honly⟩ := hdone (s.mod.wrBit (LED.NB_LOW 1) 23 true) (LED.NB_LOW 1) [LED.NB_BUSY, LED.NB_LOW 1] (by decide) (by decide)
        (by simp) ((OnlyRegs.refl _ _).wrBit _ _ _ _ _ _ (by simp))
      refine ⟨hend, fun _ => ?_, honly⟩
      rw [hlow]
      exact bit_wrBit_same _ _ _ (by decide)
  · simp only [nbStep, hbusy, hlast, hskip, if_false, Nat.one_ne_zero, if_true, Nat.reduceLeDiff, Nat.reduceDiv, Nat.reduceMod]
    obtain ⟨hend, hbit, honly⟩ := hdone (s.mod.wrBit (LED.NB_SKIP 1) 23 true) (LED.NB_SKIP 1) [LED.NB_BUSY, LED.NB_SKIP 1] (by decide) (by decide)
      (by simp) ((OnlyRegs.refl _ _).wrBit _ _ _ _ _ _ (by simp))
    refine ⟨hend, ?_, honly⟩
    rw [hbit]
    exact bit_wrBit_same _ _ _ (by decide)

theorem ciEdge_runs (s : State) (j : Fin 8) (rising : Bool) (cyc : BitVec 11) (hup : s.mod.pstate < 2) (hen : s.mod.rd (FIO.CI_EN j) = 1)
    (hedge : s.mod.rd (FIO.EDGE j) = 2 ∨ (s.mod.rd (FIO.EDGE j) = 0 ∧ rising = true)) : s.Runs (.ciEdge j rising cyc) fun m t =>
      t.rd (FIO.CI_COUNT j) = (m.rd (FIO.CI_COUNT j) + 1) % 2 ^ 32 ∧
      t.ci j = { m.ci j with k := (m.ci j).k + 1, last := m.stamp cyc.toNat } ∧ t.mem = m.mem ∧ m.KeepsRegs [FIO.CI_COUNT j] t := by
  refine State.runs_next s _ _ _ rfl ?_
  have hgo : ¬ (s.mod.rd (FIO.CI_EN j) = 0 ∨ (s.mod.rd (FIO.EDGE j) = 0 ∧ rising = false) ∨ (s.mod.rd (FIO.EDGE j) = 1 ∧ rising = true)) := by
    rcases hedge with h | ⟨h, hr⟩ <;> simp_all
  simp only [if_neg (show ¬ 2 ≤ s.mod.pstate by omega), Mod.ciEdge, if_neg hgo]
  rw [rd_settle _ _ (ciFlds_derived j).1, rd_congr (onCi_regs ..), rd_wr_same, ci_congr (settle_cis _), ci_onCi_same, settle_mem, onCi_mem, wr_mem,
    keepsRegs_settle]
  exact ⟨rfl, rfl, rfl, KeepsRegs.of_regs _ _ _ _ ((KeepsRegs.refl _ _).wr _ _ _ _ _ (by simp)) (onCi_regs ..)⟩

/-- The registers of a counting window. -/
theorem ciFlds_ne : ∀ j : Fin 8, (FIO.NWIN j).key ≠ (FIO.SAT j).key ∧ (FIO.SAT j).key ≠ (FIO.CI_PERIOD j).key ∧ (FIO.SAT j).key ≠ (FIO.NWIN j).key ∧
    (FIO.CI_PERIOD j).key ≠ (FIO.NWIN j).key ∧ (FIO.STALE j).key ≠ (FIO.NWIN j).key ∧ (FIO.STALE j).key ≠ (FIO.CI_PERIOD j).key ∧
    (FIO.STALE j).key ≠ (FIO.SAT j).key ∧ (FIO.CI_PERIOD j).key ≠ (FIO.SAT j).key := by decide

theorem ciWindowEnd_stale_runs (s : State) (j : Fin 8) (hen : s.mod.rd (FIO.CI_EN j) = 1) (hgate : s.mod.tick % (100 * s.mod.rd (FIO.GATE j)) = 0)
    (hnone : (s.mod.ci j).k = 0) : s.Runs (.ciWindowEnd j) fun m t =>
      t.rd (FIO.CI_PERIOD j) = 0xFFFFFFFF ∧ t.rd (FIO.STALE j) = 1 ∧ t.rd (FIO.NWIN j) = 0 ∧ t.mem = m.mem ∧
      m.KeepsRegs [FIO.CI_PERIOD j, FIO.STALE j, FIO.NWIN j, FIO.SAT j] t := by
  refine State.runs_next s _ _ _ rfl ?_
  obtain ⟨-, hper, hstale, hnwin, -⟩ := ciFlds_derived j
  obtain ⟨-, -, hsn, hpn, htn, htp, -, -⟩ := ciFlds_ne j
  simp only [Mod.ciWindow, hen, hgate, hnone, Nat.one_ne_zero, ne_eq, not_true_eq_false, or_self, if_false, if_true]
  rw [rd_settle _ _ hper, rd_settle _ _ hstale, rd_settle _ _ hnwin, settle_mem, keepsRegs_settle, rd_wr_other _ _ _ _ htp, rd_wr_same, rd_wr_same,
    rd_wr_other _ _ _ _ htn, rd_wr_other _ _ _ _ hpn, rd_wr_other _ _ _ _ hsn, sat, rd_wr_same]
  refine ⟨rfl, rfl, by rw [show Nat.min 0 (FIO.NWIN j).max = 0 from Nat.zero_min _, Nat.zero_mod], rfl, ?_⟩
  exact (((((KeepsRegs.refl _ _).wr _ _ _ _ _ (by simp)).wr _ _ _ _ _ (by simp)).wr _ _ _ _ _ (by simp)).wr _ _ _ _ _ (by simp))

theorem ciWindowEnd_mean_runs (s : State) (j : Fin 8) (r : Nat) (hen : s.mod.rd (FIO.CI_EN j) = 1)
    (hgate : s.mod.tick % (100 * s.mod.rd (FIO.GATE j)) = 0) (hsome : (s.mod.ci j).k ≠ 0) (href : (s.mod.ci j).ref = some r)
    (hfits : (32 * ((s.mod.ci j).last - r) + (s.mod.ci j).k) / (2 * (s.mod.ci j).k) ≤ 0xFFFFFFFE) : s.Runs (.ciWindowEnd j) fun m t =>
      t.rd (FIO.CI_PERIOD j) = (32 * ((m.ci j).last - r) + (m.ci j).k) / (2 * (m.ci j).k) ∧ t.rd (FIO.STALE j) = 0 ∧ t.rd (FIO.SAT j) = 0 ∧
      t.ci j = { m.ci j with k := 0, ref := some (m.ci j).last } ∧ t.mem = m.mem ∧
      m.KeepsRegs [FIO.CI_PERIOD j, FIO.STALE j, FIO.NWIN j, FIO.SAT j] t := by
  refine State.runs_next s _ _ _ rfl ?_
  obtain ⟨-, hper, hstale, -, hsat⟩ := ciFlds_derived j
  obtain ⟨-, -, -, -, -, htp, hts, hps⟩ := ciFlds_ne j
  simp only [Mod.ciWindow, hen, hgate, if_neg hsome, href, Nat.one_ne_zero, ne_eq, not_true_eq_false, or_self, if_false]
  rw [if_neg (by omega), rd_settle _ _ hper, rd_settle _ _ hstale, rd_settle _ _ hsat, settle_mem, keepsRegs_settle, ci_congr (settle_cis _), ci_onCi_same,
    rd_congr (onCi_regs ..), rd_congr (onCi_regs ..), rd_congr (onCi_regs ..), rd_wr_other _ _ _ _ htp, rd_wr_same, rd_wr_same,
    rd_wr_other _ _ _ _ hts, rd_wr_other _ _ _ _ hps, rd_wr_same]
  refine ⟨Nat.mod_eq_of_lt (show _ < 4294967296 by omega), rfl, rfl, rfl, rfl, KeepsRegs.of_regs _ _ _ _ ?_ (onCi_regs ..)⟩
  exact (((((KeepsRegs.refl _ _).wr _ _ _ _ _ (by simp)).wr _ _ _ _ _ (by simp)).wr _ _ _ _ _ (by simp)).wr _ _ _ _ _ (by simp))

/-- Settles O27. -/
theorem inputsFilterAndMeasure : Obligations.InputsFilterAndMeasure := by
  refine ⟨fun s => ⟨fun i on => (rawLevelChange_runs s i on).1, fun i on => (rawLevelChange_runs s i on).2.1, fun i on => (rawLevelChange_runs s i on).2.2,
    fun i hup hdiff => State.runs_next s _ _ _ rfl ?_, fun i hclean => State.runs_next s _ _ _ rfl ?_, fun ch => State.runs_next s _ _ _ rfl ?_,
    fun ch => State.runs_next s _ _ _ rfl ?_, fun hidle => State.runs_next s _ _ _ rfl ?_,
    fun low hbusy hlast hskip => (neighbourStep_runs s low hbusy hlast).1 hskip,
    fun low below above hbusy hlast hskip => (neighbourStep_runs s low hbusy hlast).2 below above hskip⟩,
    fun s j => ⟨ciEdge_runs s j, ciWindowEnd_stale_runs s j, fun hgate => State.runs_next s _ _ _ rfl ?_, ciWindowEnd_mean_runs s j⟩⟩
  · rw [if_neg (by omega)]
    obtain ⟨hfilt, -, hmem, hkeep, hedge⟩ := filtTake_shows (m := s.mod) i.isLt rfl
    obtain ⟨hbit, hedges⟩ := hedge hdiff
    rw [bit_settle _ _ _ (by decide), bit_settle _ _ _ (by decide), settle_fio, settle_mem, keepsRegs_settle]
    exact ⟨hfilt, hbit, hedges, hmem, hkeep⟩
  · simp only [cleanEnd, hclean, if_true]
    have hwait (f : FioX → FioX) : (s.mod.onFio f).fio = f s.mod.fio := rfl
    rw [settle_fio, settle_mem, keepsRegs_settle]
    simp only [hwait]
    cases s.mod.fio.waiting.min? with
    | none => exact ⟨by simp, onFio_mem .., KeepsRegs.of_regs _ _ _ _ (KeepsRegs.refl _ _) (onFio_regs ..)⟩
    | some n => exact ⟨by simp [onFio], rfl, KeepsRegs.of_regs _ _ _ _ (KeepsRegs.refl _ _) rfl⟩
  · simp only [Bool.false_eq_true, if_false]
    rw [settle_fio, settle_mem, keepsRegs_settle]
    exact ⟨setBit_testBit_same _ _ _, rfl, onFio_mem .., KeepsRegs.of_regs _ _ _ _ (KeepsRegs.refl _ _) (onFio_regs ..)⟩
  · simp only [if_true]
    have hov (u : Mod) (hu : u = (s.mod.onFio fun x => { x with ovNow := Mod.setBit x.ovNow ch true }).onFio fun x => { x with ov := Mod.setBit x.ov ch true }) :
        u.fio.ovNow.testBit ch = true ∧ u.fio.ov.testBit ch = true ∧ u.mem = s.mod.mem ∧ u.regs = s.mod.regs := by
      subst hu
      exact ⟨setBit_testBit_same _ _ _, setBit_testBit_same _ _ _, rfl, rfl⟩
    generalize (s.mod.onFio fun x => { x with ovNow := Mod.setBit x.ovNow ch true }).onFio (fun x => { x with ov := Mod.setBit x.ov ch true }) = u at *
    obtain ⟨hnow, hset, hmem, hregs⟩ := hov u rfl
    have hkept := fioFault_kept u
    rw [settle_fio, settle_mem, onlyPages_settle, rd_settle _ _ (by decide), hkept.fio]
    exact ⟨hnow, hset, fioFault_set (anyLatch_ov hset), hkept.mem.trans hmem, fun g hp hg => (hkept.pages g hp hg).trans (rd_congr hregs g)⟩
  · have hoff : s.mod.on LED.NB_BUSY = false := by simp [on, hidle]
    simp only [nbGo, hoff, Bool.false_eq_true, if_false]
    rw [settle_led, settle_mem, keepsRegs_settle]
    exact ⟨rfl, rfl, KeepsRegs.of_regs _ _ _ _ (KeepsRegs.refl _ _) rfl⟩
  · simp only [Mod.ciWindow, if_pos (Or.inr hgate)]
    exact (OnlyRegs.refl _ _).settle _ _ _

end Sys2Proof.Machine

/-! ### Low-side outputs and the diagnostic command (R247 to R256) -/
namespace Sys2Proof.Machine

namespace Mod
open Reg

@[simp] theorem ls_onLs_same (m : Mod) (k : Nat) (f : LsX → LsX) : (m.onLs k f).ls k = f (m.ls k) := SMap.get_set_same _ _ _ _

theorem ls_congr {t u : Mod} (h : t.lss = u.lss) (k : Nat) : t.ls k = u.ls k := by rw [ls, ls, h]

/-- A latch set makes the fault bit rise (R254). -/
theorem anyLatch_of {m : Mod} {i : Nat} (h : m.fio.oc.testBit i = true ∨ m.fio.th.testBit i = true ∨ m.fio.ol.testBit i = true) : m.anyLatch = true := by
  have hor : m.fio.ov ||| m.fio.oc ||| m.fio.th ||| m.fio.ol ≠ 0 := by
    have hbit : (m.fio.ov ||| m.fio.oc ||| m.fio.th ||| m.fio.ol).testBit i = true := by
      rcases h with h | h | h <;> simp [h]
    intro he
    rw [he, Nat.zero_testBit] at hbit
    exact absurd hbit (by decide)
  exact decide_eq_true hor

theorem lsWant_congr {m t : Mod} {k : Nat} (hls : t.ls k = m.ls k) (hlock : t.rd FIO.LS_LOCK = m.rd FIO.LS_LOCK) (hval : t.rd FIO.LS_VAL = m.rd FIO.LS_VAL) :
    t.lsWant k = m.lsWant k := by
  simp only [lsWant, lsOwned, hls, bit, hlock, hval]
  rfl

/-- An output takes the state wanted, and LS_OWN shows its owner. -/
theorem lsApply_shows {m t : Mod} {k : Nat} (hk : k < 8) (ht : t = m.lsApply k) : t.bit FIO.LS_OUT k = m.lsWant k ∧ t.mem = m.mem ∧ t.lss = m.lss ∧
    t.fio.oc = m.fio.oc ∧ t.fio.th = m.fio.th ∧ t.fio.ol = m.fio.ol ∧ m.KeepsRegs [FIO.LS_OUT, FIO.LS_OWN] t := by
  subst ht
  simp only [lsApply]
  have hown (o : Nat) (u : Mod) (hu : u = m.wr FIO.LS_OWN o) : u.lsWant k = m.lsWant k ∧ m.KeepsRegs [FIO.LS_OUT, FIO.LS_OWN] u ∧ u.mem = m.mem ∧
      u.lss = m.lss ∧ u.fio = m.fio := by
    subst hu
    exact ⟨lsWant_congr rfl (rd_wr_other _ _ _ _ (by decide)) (rd_wr_other _ _ _ _ (by decide)), (KeepsRegs.refl _ _).wr _ _ _ _ _ (by simp), rfl, rfl, rfl⟩
  generalize hu : m.wr FIO.LS_OWN _ = u
  obtain ⟨hwant, hkeep, hmem, hlss, hfio⟩ := hown _ u hu.symm
  have hout := bit_wrBit_same u FIO.LS_OUT (u.lsWant k) (i := k) hk
  have hkeep' : m.KeepsRegs [FIO.LS_OUT, FIO.LS_OWN] (u.wrBit FIO.LS_OUT k (u.lsWant k)) := (keepsRegs_wrBit (by simp) _ _ _ _).2 hkeep
  split
  · refine ⟨hout.trans hwant, ?_, ?_, ?_, ?_, ?_, KeepsRegs.of_regs _ _ _ _ hkeep' (onFio_regs ..)⟩
    · rw [onFio_mem, wrBit_mem, hmem]
    · rw [onFio_lss, wrBit_lss, hlss]
    · simp only [onFio, wrBit_fio, hfio]
    · simp only [onFio, wrBit_fio, hfio]
    · simp only [onFio, wrBit_fio, hfio]
  · exact ⟨hout.trans hwant, by rw [wrBit_mem, hmem], by rw [wrBit_lss, hlss], by rw [wrBit_fio, hfio], by rw [wrBit_fio, hfio], by rw [wrBit_fio, hfio], hkeep'⟩

/-- What a latched fault leaves of an output: its state, and FAULT. -/
theorem fioFault_out {u : Mod} (hlatch : u.anyLatch = true) {t : Mod} (ht : t = u.fioFault.settle) : t.fio = u.fio ∧ t.lss = u.lss ∧
    t.rd FIO.FAULT ≠ 0 ∧ t.mem = u.mem ∧ (∀ k, t.bit FIO.LS_OUT k = u.bit FIO.LS_OUT k) ∧ (∀ k, t.bit FIO.LS_LOCK k = u.bit FIO.LS_LOCK k) ∧
    u.OnlyPages [0x16, 0x08] t := by
  subst ht
  have hkept := fioFault_kept u
  have hout : ∀ k, u.fioFault.settle.bit FIO.LS_OUT k = u.bit FIO.LS_OUT k := fun k => by
    rw [bit_settle _ _ _ (by decide), bit, hkept.regs _ (by decide) (by decide) (by decide) (by decide) (by decide), bit]
  have hlock : ∀ k, u.fioFault.settle.bit FIO.LS_LOCK k = u.bit FIO.LS_LOCK k := fun k => by
    rw [bit_settle _ _ _ (by decide), bit, hkept.regs _ (by decide) (by decide) (by decide) (by decide) (by decide), bit]
  rw [settle_fio, settle_lss, settle_mem, onlyPages_settle, rd_settle _ _ (by decide)]
  exact ⟨hkept.fio, hkept.lss, fioFault_set hlatch, hkept.mem, hout, hlock, hkept.pages⟩

theorem lsFlds_page : ∀ f ∈ [FIO.LS_OUT, FIO.LS_OWN], f.key / 524288 ∈ [0x16, 0x08] := by decide

/-- A locked output wants to be off. -/
theorem lsWant_locked {m : Mod} {k : Nat} (h : m.bit FIO.LS_LOCK k = true) : m.lsWant k = false := by simp [lsWant, lsOwned, h]

/-- A hot output wants to be off. -/
theorem lsWant_hot {m : Mod} {k : Nat} (h : (m.ls k).hot = true) : m.lsWant k = false := by simp [lsWant, h]

end Mod

open Machine.Mod Reg

theorem lsCurrentLimit_runs (s : State) (k : Fin 8) (hon : s.mod.bit FIO.LS_OUT k = true) : s.Runs (.lsCurrentLimit k) fun m t =>
    t.bit FIO.LS_LOCK k = true ∧ t.bit FIO.LS_OUT k = false ∧ t.fio.oc.testBit (40 + k) = true ∧ t.rd FIO.FAULT ≠ 0 ∧ t.mem = m.mem ∧
    m.OnlyPages [0x16, 0x08] t := by
  refine State.runs_next s _ _ _ rfl ?_
  simp only [lsLimit, hon, Bool.true_eq_false, if_false]
  have hlatched (u : Mod) (hu : u = (s.mod.onFio fun x => { x with oc := Mod.setBit x.oc (40 + k) true }).wrBit FIO.LS_LOCK k true) :
      u.bit FIO.LS_LOCK k = true ∧ u.fio.oc.testBit (40 + k) = true ∧ u.mem = s.mod.mem ∧ s.mod.OnlyPages [0x16, 0x08] u := by
    subst hu
    refine ⟨bit_wrBit_same _ _ _ k.isLt, ?_, by rw [wrBit_mem, onFio_mem], ?_⟩
    · rw [wrBit_fio]
      exact setBit_testBit_same _ _ _
    · rw [onlyPages_wrBit (by decide)]
      exact fun g _ _ => rd_congr (onFio_regs ..) g
  generalize (s.mod.onFio fun x => { x with oc := Mod.setBit x.oc (40 + k) true }).wrBit FIO.LS_LOCK k true = u at *
  obtain ⟨hlock, hoc, hmem, hpages⟩ := hlatched u rfl
  obtain ⟨hout, hmem', -, hoc', -, -, hkeep⟩ := lsApply_shows (m := u) k.isLt rfl
  have hlock' : (u.lsApply k).bit FIO.LS_LOCK k = true := by rw [bit, hkeep _ (by decide)]; exact hlock
  obtain ⟨hfio, -, hfault, hmem'', hout', hlock'', hpages'⟩ := fioFault_out (anyLatch_of (i := 40 + k.val) (.inl (by rw [hoc']; exact hoc))) rfl
  rw [hlock'', hout', hfio, hmem'', hmem', hmem, hoc', hlock', hout, lsWant_locked hlock]
  exact ⟨rfl, rfl, hoc, hfault, rfl, (hpages.trans (hkeep.onlyPages lsFlds_page)).trans hpages'⟩

theorem lsThermal_runs (s : State) (k : Fin 8) : s.Runs (.lsThermal k) fun m t => (t.ls k).hot = true ∧ t.bit FIO.LS_OUT k = false ∧
    t.fio.th.testBit (40 + k) = true ∧ t.rd FIO.FAULT ≠ 0 ∧ t.mem = m.mem ∧ m.OnlyPages [0x16, 0x08] t := by
  refine State.runs_next s _ _ _ rfl ?_
  simp only [lsHot]
  have hlatched (u : Mod) (hu : u = (s.mod.onFio fun x => { x with th := Mod.setBit x.th (40 + k) true }).onLs k fun x => { x with hot := true }) :
      (u.ls k).hot = true ∧ u.fio.th.testBit (40 + k) = true ∧ u.mem = s.mod.mem ∧ u.regs = s.mod.regs := by
    subst hu
    exact ⟨by rw [ls_onLs_same], setBit_testBit_same _ _ _, rfl, rfl⟩
  generalize (s.mod.onFio fun x => { x with th := Mod.setBit x.th (40 + k) true }).onLs k (fun x => { x with hot := true }) = u at *
  obtain ⟨hhot, hth, hmem, hregs⟩ := hlatched u rfl
  obtain ⟨hout, hmem', hlss, -, hth', -, hkeep⟩ := lsApply_shows (m := u) k.isLt rfl
  obtain ⟨hfio, hlss', hfault, hmem'', hout', -, hpages'⟩ := fioFault_out (anyLatch_of (i := 40 + k.val) (.inr (.inl (by rw [hth']; exact hth)))) rfl
  rw [ls_congr (hlss'.trans hlss), hout', hfio, hmem'', hmem', hmem, hth', hout, lsWant_hot hhot]
  exact ⟨hhot, rfl, hth, hfault, rfl, fun g hp hg => (((hkeep.onlyPages lsFlds_page).trans hpages') g hp hg).trans (rd_congr hregs g)⟩

theorem lsThermalResume_runs (s : State) (k : Fin 8) : s.Runs (.lsThermalResume k) fun m t => (t.ls k).hot = false ∧
    (effOf (m.ls k).own = 0 → m.bit FIO.LS_LOCK k = false → t.bit FIO.LS_OUT k = m.bit FIO.LS_VAL k) ∧ t.mem = m.mem ∧
    m.KeepsRegs [FIO.LS_OUT, FIO.LS_OWN] t := by
  refine State.runs_next s _ _ _ rfl ?_
  obtain ⟨hout, hmem, hlss, -, -, -, hkeep⟩ := lsApply_shows (m := s.mod.onLs k fun x => { x with hot := false }) k.isLt rfl
  rw [ls_congr ((settle_lss _).trans hlss), ls_onLs_same, settle_mem, keepsRegs_settle, bit_settle _ _ _ (by decide), hout, hmem]
  refine ⟨rfl, fun hown hlock => ?_, onLs_mem .., hkeep⟩
  have hlock' : (s.mod.onLs k fun x => { x with hot := false }).bit FIO.LS_LOCK k = false := hlock
  simp only [lsWant, lsOwned, ls_onLs_same, hown, hlock', Bool.false_eq_true, if_false, Bool.not_false, Bool.true_and]
  rfl

theorem lsOpenLoad_runs (s : State) (k : Fin 8) (hen : s.mod.rd (FIO.OL_EN k) = 1) (hoff : s.mod.bit FIO.LS_OUT k = false)
    (hsag : ∀ q, q < 4 → s.mod.rd (HQ.SAG q) = 0) : s.Runs (.lsOpenLoad ⟨k, true⟩) fun m t => t.fio.ol.testBit (40 + k) = true ∧
      t.fio.olNow.testBit k = true ∧ t.rd FIO.FAULT ≠ 0 ∧ t.mem = m.mem ∧ m.OnlyPages [0x16, 0x08] t := by
  refine State.runs_next s _ _ _ rfl ?_
  have hgo : ¬ (s.mod.rd (FIO.OL_EN k) = 0 ∨ s.mod.bit FIO.LS_OUT k = true ∨ [0, 1, 2, 3].any (fun q => s.mod.on (HQ.SAG q)) = true) := by
    simp [hen, hoff, on, hsag]
  simp only [Bool.true_eq_false, if_false, if_neg hgo]
  have hlatched (u : Mod) (hu : u = s.mod.onFio fun x => { x with ol := Mod.setBit x.ol (40 + k) true, olNow := Mod.setBit x.olNow k true }) :
      u.fio.ol.testBit (40 + k) = true ∧ u.fio.olNow.testBit k = true ∧ u.mem = s.mod.mem ∧ u.regs = s.mod.regs := by
    subst hu
    exact ⟨setBit_testBit_same _ _ _, setBit_testBit_same _ _ _, rfl, rfl⟩
  generalize s.mod.onFio (fun x => { x with ol := Mod.setBit x.ol (40 + k) true, olNow := Mod.setBit x.olNow k true }) = u at *
  obtain ⟨hol, hnow, hmem, hregs⟩ := hlatched u rfl
  obtain ⟨hfio, -, hfault, hmem', -, -, hpages⟩ := fioFault_out (anyLatch_of (i := 40 + k.val) (.inr (.inr hol))) rfl
  rw [hfio, hmem', hmem]
  exact ⟨hol, hnow, hfault, rfl, fun g hp hg => (hpages g hp hg).trans (rd_congr hregs g)⟩

/-! #### The diagnostic command -/

/-- A diagnostic command that is released where none runs (R255). -/
theorem diagRelease_runs (s : State) (ch : Fin 64) (kind : Nat) (hkind : kind < 4) (i : Instr) (hexec : exec i s = s.next fun m => m.fioDiag ch kind) :
    s.Runs i fun m t => if m.rd FIO.DIAG_BUSY = 0 then
      t.rd FIO.DIAG_BUSY = 1 ∧ t.rd FIO.RES_VALID = 0 ∧ t.rd FIO.DIAG_CH = ch ∧ t.rd FIO.DIAG_KIND = kind ∧ t.fio.diagRun = some (ch.val, kind) ∧
      t.fio.diagDue = m.tick + 100 ∧ t.mem = m.mem ∧ m.KeepsRegs [FIO.DIAG_BUSY, FIO.RES_VALID, FIO.DIAG_CH, FIO.DIAG_KIND] t
    else t.rd FIO.DIAG_REJ_CNT = Nat.min (m.rd FIO.DIAG_REJ_CNT + 1) FIO.DIAG_REJ_CNT.max ∧ m.OnlyRegs [FIO.DIAG_REJ_CNT] t := by
  refine State.runs_next s _ _ _ hexec ?_
  split
  next hidle =>
    simp only [fioDiag, on, hidle, bne_self_eq_false, Bool.false_eq_true, if_false]
    have hch : ch.val % 2 ^ 6 = ch.val := Nat.mod_eq_of_lt ch.isLt
    have hk : kind % 2 ^ 2 = kind := Nat.mod_eq_of_lt hkind
    rw [settle_fio, settle_mem, keepsRegs_settle]
    refine ⟨?_, ?_, ?_, ?_, rfl, rfl, ?_, ?_⟩
    · rw [rd_settle _ _ (by decide), rd_congr (onFio_regs ..), rd_wr_other _ _ _ _ (by decide), rd_wr_other _ _ _ _ (by decide),
        rd_wr_other _ _ _ _ (by decide), rd_wr_same]
      rfl
    · rw [rd_settle _ _ (by decide), rd_congr (onFio_regs ..), rd_wr_other _ _ _ _ (by decide), rd_wr_other _ _ _ _ (by decide), rd_wr_same]
      rfl
    · rw [rd_settle _ _ (by decide), rd_congr (onFio_regs ..), rd_wr_other _ _ _ _ (by decide), rd_wr_same]
      exact hch
    · rw [rd_settle _ _ (by decide), rd_congr (onFio_regs ..), rd_wr_same]
      exact hk
    · rw [onFio_mem, wr_mem, wr_mem, wr_mem, wr_mem]
    · refine KeepsRegs.of_regs _ _ _ _ ?_ (onFio_regs ..)
      exact ((((KeepsRegs.refl _ _).wr _ _ _ _ _ (by simp)).wr _ _ _ _ _ (by simp)).wr _ _ _ _ _ (by simp)).wr _ _ _ _ _ (by simp)
  next hbusy =>
    have hon : s.mod.on FIO.DIAG_BUSY = true := by simpa [on] using hbusy
    simp only [fioDiag, hon, if_true]
    rw [rd_settle _ _ (by decide), rd_inc_same]
    exact ⟨rfl, ((OnlyRegs.refl _ _).wr _ _ _ _ _ (by simp)).settle _ _ _⟩

/-- The cause bits fit their field. -/
theorem causeBits_lt (m : Mod) (ch : Nat) (test : Bool) : m.causeBits ch test < 64 := by
  have hbit (p : Bool) (v : Nat) : (if p = true then v else 0) ≤ v := by split <;> omega
  have h0 := hbit (m.fio.ov.testBit ch) (2 ^ 0)
  have h1 := hbit (m.fio.oc.testBit ch) (2 ^ 1)
  have h2 := hbit (m.fio.th.testBit ch) (2 ^ 2)
  have h3 := hbit (m.fio.ol.testBit ch) (2 ^ 3)
  have h4 := hbit test (2 ^ 4)
  have h5 := hbit (40 ≤ ch && m.bit FIO.LS_LOCK (ch - 40)) (2 ^ 5)
  simp only [causeBits]
  omega

/-- The registers in which an answer shows. -/
def resFlds : List Fld := [FIO.RES_CH, FIO.RES_KIND, FIO.RES_CAUSE, FIO.RES_VALUE, FIO.RES_VALID, FIO.DIAG_BUSY]

theorem resFlds_own : ∀ f ∈ resFlds, f.key ∉ derivedKeys ∧ f.key / 524288 ≠ 8 ∧ 0x100 ≤ f.key / 128 % 4096 ∧ FIO.QEVT_LOST.key ≠ f.key ∧
    (COM.PAGE_IRQ 0x16).key ≠ f.key := by decide

/-- The registers and the run's end of an answer, before its report. -/
def answered (m : Mod) (ch cause value : Nat) : Mod :=
  ((((((m.wr FIO.RES_CH ch).wr FIO.RES_KIND 0).wr FIO.RES_CAUSE cause).wr FIO.RES_VALUE value).wr FIO.RES_VALID 1).wr FIO.DIAG_BUSY 0 |>.irq 0x16 1).onFio
    fun x => { x with diagRun := none }

/-- The answer to a READ. -/
theorem fioAnswer_read {m : Mod} {ch : Nat} (v : Nat) (fail : Bool) (hrun : m.fio.diagRun = some (ch, 0)) (hdue : m.fio.diagDue ≤ m.tick) {cause : Nat}
    (hcause : cause = if 48 ≤ ch then 64 else m.causeBits ch false) : m.fioAnswer v fail =
      if cause = 0 then answered m ch cause v else (answered m ch cause v).fioEv info 0x0802 [sj ch, sj cause] := by
  subst hcause
  simp [fioAnswer, hrun, if_neg (show ¬ m.tick < m.fio.diagDue by omega), answered]

theorem answered_shows (m : Mod) {ch cause value : Nat} (hch : ch < 64) (hcause : cause < 256) (hvalue : value < 1024) {t : Mod}
    (ht : t = answered m ch cause value) : t.rd FIO.DIAG_BUSY = 0 ∧ t.rd FIO.RES_VALID = 1 ∧ t.rd FIO.RES_CH = ch ∧ t.rd FIO.RES_KIND = 0 ∧
      t.rd FIO.RES_VALUE = value ∧ t.rd FIO.RES_CAUSE = cause ∧ t.fio.diagRun = none ∧ t.mem = m.mem ∧ m.OnlyPages [0x16, 0x08] t := by
  subst ht
  have hirq (u : Mod) (g : Fld) (hg : g ∈ resFlds) : ((u.irq 0x16 1).onFio fun x => { x with diagRun := none }).rd g = u.rd g :=
    (rd_congr (onFio_regs ..) g).trans (rd_irq_other _ _ _ _ (resFlds_own g hg).2.2.2.2)
  rw [answered]
  refine ⟨?_, ?_, ?_, ?_, ?_, ?_, rfl, ?_, ?_⟩
  · rw [hirq _ _ (by simp [resFlds]), rd_wr_same]; rfl
  · rw [hirq _ _ (by simp [resFlds]), rd_wr_other _ _ _ _ (by decide), rd_wr_same]; rfl
  · rw [hirq _ _ (by simp [resFlds]), rd_wr_other _ _ _ _ (by decide), rd_wr_other _ _ _ _ (by decide), rd_wr_other _ _ _ _ (by decide),
      rd_wr_other _ _ _ _ (by decide), rd_wr_other _ _ _ _ (by decide), rd_wr_same]
    exact Nat.mod_eq_of_lt hch
  · rw [hirq _ _ (by simp [resFlds]), rd_wr_other _ _ _ _ (by decide), rd_wr_other _ _ _ _ (by decide), rd_wr_other _ _ _ _ (by decide),
      rd_wr_other _ _ _ _ (by decide), rd_wr_same]
    rfl
  · rw [hirq _ _ (by simp [resFlds]), rd_wr_other _ _ _ _ (by decide), rd_wr_other _ _ _ _ (by decide), rd_wr_same]
    exact Nat.mod_eq_of_lt hvalue
  · rw [hirq _ _ (by simp [resFlds]), rd_wr_other _ _ _ _ (by decide), rd_wr_other _ _ _ _ (by decide), rd_wr_other _ _ _ _ (by decide), rd_wr_same]
    exact Nat.mod_eq_of_lt hcause
  · simp only [onFio_mem, irq_mem, wr_mem]
  · have hwr : m.OnlyPages [0x16, 0x08] ((((((m.wr FIO.RES_CH ch).wr FIO.RES_KIND 0).wr FIO.RES_CAUSE cause).wr FIO.RES_VALUE value).wr FIO.RES_VALID 1).wr
        FIO.DIAG_BUSY 0 |>.irq 0x16 1) := by
      rw [onlyPages_irq (by simp), onlyPages_wr (by decide), onlyPages_wr (by decide), onlyPages_wr (by decide), onlyPages_wr (by decide),
        onlyPages_wr (by decide), onlyPages_wr (by decide)]
      exact onlyPages_refl _ _
    exact fun g hp hg => (rd_congr (onFio_regs ..) g).trans (hwr g hp hg)

theorem diagAnswer_runs (s : State) (ch : Fin 64) (v : BitVec 10) (fail : Bool) (hrun : s.mod.fio.diagRun = some (ch.val, 0))
    (hdue : s.mod.fio.diagDue ≤ s.mod.tick) : s.Runs (.diagAnswer v fail) fun m t => t.rd FIO.DIAG_BUSY = 0 ∧ t.rd FIO.RES_VALID = 1 ∧
    t.rd FIO.RES_CH = ch ∧ t.rd FIO.RES_KIND = 0 ∧ t.rd FIO.RES_VALUE = v.toNat ∧
    t.rd FIO.RES_CAUSE = (if 48 ≤ ch.val then 64 else m.causeBits ch false) ∧ t.fio.diagRun = none ∧ t.mem = m.mem ∧ m.OnlyPages [0x16, 0x08] t := by
  refine State.runs_next s _ _ _ rfl ?_
  obtain ⟨cause, hcause⟩ : ∃ cause, cause = if 48 ≤ ch.val then 64 else s.mod.causeBits ch false := ⟨_, rfl⟩
  have hlt : cause < 256 := by
    have := causeBits_lt s.mod ch false
    rw [hcause]
    split <;> omega
  rw [fioAnswer_read v.toNat fail hrun hdue hcause, ← hcause]
  obtain ⟨hbusy, hvalid, hch, hkind, hvalue, hc, hdone, hmem, hpages⟩ := answered_shows s.mod ch.isLt hlt v.isLt rfl
  generalize answered s.mod ch cause v.toNat = u at *
  have hreport : ∀ t : Mod, t = (if cause = 0 then u else u.fioEv info 0x0802 [sj ch, sj cause]).settle →
      (∀ f ∈ resFlds, t.rd f = u.rd f) ∧ t.fio = u.fio ∧ t.mem = u.mem ∧ u.OnlyPages [0x16, 0x08] t := by
    rintro t rfl
    rw [settle_fio, settle_mem, onlyPages_settle]
    split
    · exact ⟨fun f hf => rd_settle _ _ (resFlds_own f hf).1, rfl, rfl, onlyPages_refl _ _⟩
    · have hkept := fioKept_fioEv u info 0x0802 [sj ch, sj cause] (by decide)
      refine ⟨fun f hf => ?_, hkept.fio, hkept.mem, hkept.pages⟩
      obtain ⟨hder, hpage, hoff, hlost, -⟩ := resFlds_own f hf
      rw [rd_settle _ _ hder, fioEv, rd_blockEv_own _ _ _ _ _ _ _ _ (by decide) hlost hpage hoff]
  obtain ⟨hrd, hfio, hmem', hpages'⟩ := hreport _ rfl
  generalize (if cause = 0 then u else u.fioEv info 0x0802 [sj ch, sj cause]).settle = t at *
  rw [hrd _ (by simp [resFlds]), hrd _ (by simp [resFlds]), hrd _ (by simp [resFlds]), hrd _ (by simp [resFlds]), hrd _ (by simp [resFlds]),
    hrd _ (by simp [resFlds]), hfio, hmem', hmem]
  exact ⟨hbusy, hvalid, hch, hkind, hvalue, hc, hdone, rfl, hpages.trans hpages'⟩

/-- Settles O28. -/
theorem lowSideLatchesAndDiagnosticAnswers : Obligations.LowSideLatchesAndDiagnosticAnswers := by
  refine ⟨fun s => ⟨lsCurrentLimit_runs s, lsThermal_runs s, lsThermalResume_runs s, lsOpenLoad_runs s, fun k => State.runs_next s _ _ _ rfl ?_,
    fun v => State.runs_next s _ _ _ rfl ?_⟩, fun s ch => ⟨diagRelease_runs s ch 0 (by decide) _ rfl, diagRelease_runs s ch 1 (by decide) _ rfl,
    diagRelease_runs s ch 2 (by decide) _ rfl, fun v fail hrun hdue => diagAnswer_runs s ch v fail hrun hdue⟩⟩
  · rw [settle_fio, settle_mem, keepsRegs_settle]
    exact ⟨setBit_testBit_same _ _ _, rfl, onFio_mem .., KeepsRegs.of_regs _ _ _ _ (KeepsRegs.refl _ _) (onFio_regs ..)⟩
  · rw [rd_settle _ _ (by decide), rd_settle _ _ (by decide), rd_inc_other _ _ _ (by decide), rd_inc_same, rd_inc_same, rd_inc_other _ _ _ (by decide)]
    exact ⟨rfl, rfl, (((OnlyRegs.refl _ _).wr _ _ _ _ _ (by simp)).wr _ _ _ _ _ (by simp)).settle _ _ _⟩

end Sys2Proof.Machine

/-! ### LIN frames and pulses (R296, R300, R301) -/
namespace Sys2Proof.Machine

theorem leNum_lt {l : List Nat} (h : ∀ b ∈ l, b < 256) : leNum l < 256 ^ l.length := by
  induction l with
  | nil => exact Nat.one_pos
  | cons b l ih =>
    have hb := h b (by simp)
    have hl := ih fun c hc => h c (by simp [hc])
    have hcons : leNum (b :: l) = b + 256 * leNum l := rfl
    rw [hcons, List.length_cons, Nat.pow_succ]
    omega

/-- A word of bytes fits a register. -/
theorem leNum_word {l : List Nat} (h : ∀ b ∈ l, b < 256) (hlen : l.length ≤ 4) : leNum l % 2 ^ 32 = leNum l := by
  refine Nat.mod_eq_of_lt (Nat.lt_of_lt_of_le (leNum_lt h) ?_)
  calc 256 ^ l.length ≤ 256 ^ 4 := Nat.pow_le_pow_right (by decide) hlen
    _ = 2 ^ 32 := by decide

theorem leBytes_lt (n : Nat) : ∀ v, ∀ b ∈ leBytes n v, b < 256 := by
  induction n with
  | zero => intro v b hb; cases hb
  | succ n ih =>
    intro v b hb
    rcases List.mem_cons.1 hb with rfl | hb
    · exact Nat.mod_lt _ (by decide)
    · exact ih _ b hb

namespace Mod
open Reg

@[simp] theorem lin_onLin_same (m : Mod) (p : Nat) (f : LinX → LinX) : (m.onLin p f).lin p = f (m.lin p) := SMap.get_set_same _ _ _ _

theorem lin_congr {t u : Mod} (h : t.lins = u.lins) (p : Nat) : t.lin p = u.lin p := by rw [lin, lin, h]

/-- The registers that show a response, and its count. -/
def linCounted (m : Mod) (p id k : Nat) : Mod :=
  let m := (((m.wr (LIN.BUSY p) 0).wr (LIN.LAST_RES p) k).wr (LIN.RES p id) k).wr (LIN.TICK16 p id) m.tick
  if k = 1 then m.inc (LIN.OK_CNT p) else (m.inc (LIN.ERR_CNT p)).ev (0x30 + p) info 0x0A01 [sj (16 + p), sj id, vl k]

/-- The bytes that a subscriber then holds. -/
def linHeld (m : Mod) (p id : Nat) (d : List Nat) : List Nat :=
  let b := d.take (m.rd (LIN.FT_LEN p id))
  b ++ (leBytes 4 (m.rd (LIN.SUB p id 0)) ++ leBytes 4 (m.rd (LIN.SUB p id 1))).drop b.length

/-- A subscriber's good bytes stored. -/
def linStored (m : Mod) (p id : Nat) (d : List Nat) : Mod :=
  let b := m.linHeld p id d
  let m := if m.on (LIN.NEW p id) then (m.wr (LIN.LOST p id) 1).inc (LIN.LOST_CNT p) else m
  let m := (m.wr (LIN.SUB p id 0) (leNum (b.take 4))).wr (LIN.SUB p id 1) (leNum ((b.drop 4).take 4))
  (m.wr (LIN.NEW p id) 1).wr (LIN.SEQ p id) (m.rd (LIN.SEQ p id) + 1)

/-- Occupancy is in no register and no byte of memory. -/
theorem linOccupy_leaves (m : Mod) (p cyc : Nat) : (m.linOccupy p cyc).regs = m.regs ∧ (m.linOccupy p cyc).mem = m.mem ∧ (m.linOccupy p cyc).evt = m.evt ∧
    (m.linOccupy p cyc).frm = m.frm ∧ (m.linOccupy p cyc).img = m.img ∧ (m.linOccupy p cyc).nms = m.nms := by
  unfold linOccupy
  split <;> exact ⟨rfl, rfl, rfl, rfl, rfl, rfl⟩

theorem linCounted_img (m : Mod) (p id k : Nat) : (m.linCounted p id k).img = m.img := by
  simp only [linCounted]
  split
  · simp only [inc_img, wr_img]
  · simp only [ev_img, inc_img, wr_img]

theorem nmHear_img (m : Mod) (p : Nat) (msg : Option (Bool × Option Nat)) : (m.nmHear p msg).img = m.img := (nmHear_leaves m 0 p msg).1.img

/-- A frame in progress ends, with no transaction, no promise and no route that wait for it. -/
theorem linEnd_eq {m : Mod} {p id res : Nat} {d : List Nat} {chk cyc : Nat} (hcur : (m.lin p).cur = some id) (hdiag : (m.lin p).diag = none) (hid : id ≠ 0x3D)
    (hprm : SMap.get 0 (m.lin p).pubPrm id = 0) (hroutes : m.img.routes = []) {k : Nat} (hk : k = m.linResult p id res d chk) {a b : Mod}
    (ha : a = ((m.linOccupy p cyc).onLin p fun y => { y with cur := none, pub := [], diag := none }).linCounted p id k)
    (hb : b = if k = 1 then a.nmHear (16 + p) none else a) :
    m.linEnd p res d chk cyc = if b.rd (LIN.DIR p id) = 2 ∧ k = 1 then b.linStored p id d else b := by
  have himg : b.img.routes = [] := by
    have ha' : a.img = m.img := by rw [ha, linCounted_img, onLin_img, (linOccupy_leaves m p cyc).2.2.2.2.1]
    rw [hb]
    split
    · rw [nmHear_img, ha', hroutes]
    · rw [ha', hroutes]
  have hstored : (b.linStored p id d).img.routes = [] := by
    simp only [linStored, wr_img]
    split
    · rw [inc_img, wr_img, himg]
    · exact himg
  simp only [linEnd, hcur, hdiag, hprm, ← hk, or_true, if_true, if_neg hid]
  simp only [linCounted] at ha
  rw [← ha, ← hb]
  obtain ⟨w, hw⟩ : ∃ w, w = b.linStored p id d := ⟨_, rfl⟩
  rw [← hw] at hstored ⊢
  simp only [linStored, linHeld] at hw
  rw [← hw, hstored]
  rfl

/-- The keys of a port's frame registers differ. -/
theorem linFlds_ne (p id : Nat) :
    (LIN.LAST_RES p).key ≠ (LIN.BUSY p).key ∧ (LIN.RES p id).key ≠ (LIN.BUSY p).key ∧ (LIN.TICK16 p id).key ≠ (LIN.BUSY p).key ∧
    (LIN.RES p id).key ≠ (LIN.LAST_RES p).key ∧ (LIN.TICK16 p id).key ≠ (LIN.LAST_RES p).key ∧ (LIN.TICK16 p id).key ≠ (LIN.RES p id).key := by
  simp only [LIN.LAST_RES, LIN.BUSY, LIN.RES, LIN.TICK16, Fld.key, ResetClass.code]
  omega

/-- The registers that show an end of a frame, whatever its result. -/
def endFlds (p id : Nat) : List Fld := [LIN.BUSY p, LIN.LAST_RES p, LIN.RES p id, LIN.TICK16 p id]

/-- The registers that a good frame stores for a subscriber. -/
def subFlds (p id : Nat) : List Fld := [LIN.SUB p id 0, LIN.SUB p id 1, LIN.NEW p id, LIN.LOST p id, LIN.LOST_CNT p, LIN.SEQ p id]

theorem linFlds_disjoint (p : Nat) {id : Nat} (hid : id < 64) :
    ∀ f ∈ subFlds p id ++ [LIN.DIR p id, LIN.FT_LEN p id], ∀ g ∈ endFlds p id ++ [LIN.OK_CNT p, LIN.ERR_CNT p], f.key ≠ g.key := by
  simp only [LIN.DIR, LIN.FT_LEN, subFlds, endFlds, List.mem_cons, List.mem_append, List.not_mem_nil, or_false, forall_eq, or_imp, forall_and, LIN.BUSY,
    LIN.LAST_RES, LIN.RES, LIN.TICK16, LIN.SUB, LIN.NEW, LIN.LOST, LIN.LOST_CNT, LIN.SEQ, LIN.OK_CNT, LIN.ERR_CNT, Fld.key, ResetClass.code]
  omega

/-- The frame registers are the port's own, and nothing derived. -/
theorem linFlds_own (p : Fin 8) (id : Fin 64) : ∀ f ∈ subFlds p id ++ endFlds p id ++ [LIN.OK_CNT p, LIN.ERR_CNT p, LIN.DIR p id, LIN.FT_LEN p id],
    f.key ∉ derivedKeys ∧ f.key / 524288 = 0x30 + p ∧ 0x100 ≤ f.key / 128 % 4096 := by
  have hp := p.isLt
  have hi := id.isLt
  have hpage : ∀ k ∈ derivedKeys, k / 524288 < 0x30 ∨ 0x38 ≤ k / 524288 := by decide
  have hown : ∀ f ∈ subFlds p id ++ endFlds p id ++ [LIN.OK_CNT p, LIN.ERR_CNT p, LIN.DIR p id, LIN.FT_LEN p id],
      f.key / 524288 = 0x30 + p ∧ 0x100 ≤ f.key / 128 % 4096 := by
    simp only [subFlds, endFlds, List.mem_cons, List.mem_append, List.not_mem_nil, or_false, forall_eq, or_imp, forall_and, LIN.BUSY,
      LIN.LAST_RES, LIN.RES, LIN.TICK16, LIN.SUB, LIN.NEW, LIN.LOST, LIN.LOST_CNT, LIN.SEQ, LIN.OK_CNT, LIN.ERR_CNT, LIN.DIR, LIN.FT_LEN, Fld.key,
      ResetClass.code]
    omega
  intro f hf
  obtain ⟨hpg, hoff⟩ := hown f hf
  refine ⟨fun hd => ?_, hpg, hoff⟩
  have := hpage _ hd
  omega

/-- The end of a frame in its registers. -/
theorem linCounted_shows {m : Mod} (p : Fin 8) (id : Fin 64) {k : Nat} (hk : k < 8) {t : Mod} (ht : t = m.linCounted p id k) :
    t.rd (LIN.BUSY p) = 0 ∧ t.rd (LIN.LAST_RES p) = k ∧ t.rd (LIN.RES p id) = k ∧ t.rd (LIN.TICK16 p id) = m.tick % 2 ^ 16 ∧ t.mem = m.mem ∧ t.lins = m.lins ∧
      (if k = 1 then t.rd (LIN.OK_CNT p) = Nat.min (m.rd (LIN.OK_CNT p) + 1) (LIN.OK_CNT p).max
        else t.rd (LIN.ERR_CNT p) = Nat.min (m.rd (LIN.ERR_CNT p) + 1) (LIN.ERR_CNT p).max) ∧
      m.KeepsRegs (endFlds p id ++ [LIN.OK_CNT p, LIN.ERR_CNT p] ++ evtFlds (0x30 + p)) t := by
  subst ht
  obtain ⟨hlb, hrb, htb, hrl, htl, htr⟩ := linFlds_ne p id
  have hend (u : Mod) (hu : u = (((m.wr (LIN.BUSY p) 0).wr (LIN.LAST_RES p) k).wr (LIN.RES p id) k).wr (LIN.TICK16 p id) m.tick) :
      u.rd (LIN.BUSY p) = 0 ∧ u.rd (LIN.LAST_RES p) = k ∧ u.rd (LIN.RES p id) = k ∧ u.rd (LIN.TICK16 p id) = m.tick % 2 ^ 16 ∧ u.mem = m.mem ∧
        u.lins = m.lins ∧ u.rd (LIN.OK_CNT p) = m.rd (LIN.OK_CNT p) ∧ u.rd (LIN.ERR_CNT p) = m.rd (LIN.ERR_CNT p) ∧
        m.KeepsRegs (endFlds p id ++ [LIN.OK_CNT p, LIN.ERR_CNT p] ++ evtFlds (0x30 + p)) u := by
    subst hu
    have hk' : k % 2 ^ 3 = k := Nat.mod_eq_of_lt hk
    refine ⟨?_, ?_, ?_, ?_, by simp only [wr_mem], by simp only [wr_lins], ?_, ?_, ?_⟩
    · rw [rd_wr_other _ _ _ _ htb, rd_wr_other _ _ _ _ hrb, rd_wr_other _ _ _ _ hlb, rd_wr_same]
      rfl
    · rw [rd_wr_other _ _ _ _ htl, rd_wr_other _ _ _ _ hrl, rd_wr_same]
      exact hk'
    · rw [rd_wr_other _ _ _ _ htr, rd_wr_same]
      exact hk'
    · rw [rd_wr_same]
      rfl
    · simp (disch := (simp only [LIN.BUSY, LIN.LAST_RES, LIN.RES, LIN.TICK16, LIN.OK_CNT, Fld.key, ResetClass.code]; omega)) only [rd_wr_other]
    · simp (disch := (simp only [LIN.BUSY, LIN.LAST_RES, LIN.RES, LIN.TICK16, LIN.ERR_CNT, Fld.key, ResetClass.code]; omega)) only [rd_wr_other]
    · exact ((((KeepsRegs.refl _ _).wr _ _ _ _ _ (by simp [endFlds])).wr _ _ _ _ _ (by simp [endFlds])).wr _ _ _ _ _ (by simp [endFlds])).wr _ _ _ _ _
        (by simp [endFlds])
  simp only [linCounted]
  generalize (((m.wr (LIN.BUSY p) 0).wr (LIN.LAST_RES p) k).wr (LIN.RES p id) k).wr (LIN.TICK16 p id) m.tick = u at *
  obtain ⟨h1, h2, h3, h4, h5, h6, h7, h8, h9⟩ := hend u rfl
  have hcnt (f : Fld) (hf : f ∈ endFlds p id) (g : Fld) (hg : g = LIN.OK_CNT p ∨ g = LIN.ERR_CNT p) : (u.inc g).rd f = u.rd f := by
    refine rd_inc_other _ _ _ ?_
    revert f
    rcases hg with rfl | rfl
    · simp only [endFlds, List.mem_cons, List.not_mem_nil, or_false, forall_eq_or_imp, forall_eq, LIN.BUSY, LIN.LAST_RES, LIN.RES, LIN.TICK16, LIN.OK_CNT,
        Fld.key, ResetClass.code]
      omega
    · simp only [endFlds, List.mem_cons, List.not_mem_nil, or_false, forall_eq_or_imp, forall_eq, LIN.BUSY, LIN.LAST_RES, LIN.RES, LIN.TICK16, LIN.ERR_CNT,
        Fld.key, ResetClass.code]
      omega
  split
  next hgood =>
    rw [hcnt _ (by simp [endFlds]) _ (.inl rfl), hcnt _ (by simp [endFlds]) _ (.inl rfl), hcnt _ (by simp [endFlds]) _ (.inl rfl),
      hcnt _ (by simp [endFlds]) _ (.inl rfl), rd_inc_same, h7, keepsRegs_inc (by simp), inc_mem, inc_lins]
    exact ⟨h1, h2, h3, h4, h5, h6, rfl, h9⟩
  next hbad =>
    have hev (f : Fld) (hf : f ∈ endFlds p id ++ [LIN.ERR_CNT p]) (l : List Item) :
        ((u.inc (LIN.ERR_CNT p)).ev (0x30 + p) info 0x0A01 l).rd f = (u.inc (LIN.ERR_CNT p)).rd f := by
      obtain ⟨-, hpg, hoff⟩ := linFlds_own p id f (by
        simp only [List.mem_append, List.mem_cons, List.not_mem_nil, or_false] at hf ⊢
        rcases hf with hf | hf
        · exact .inl (.inr hf)
        · exact .inr (.inr (.inl hf)))
      exact rd_ev_own _ _ _ _ _ _ (by decide) (by omega) hoff
    rw [hev _ (by simp [endFlds]), hev _ (by simp [endFlds]), hev _ (by simp [endFlds]), hev _ (by simp [endFlds]), hev _ (by simp),
      hcnt _ (by simp [endFlds]) _ (.inr rfl), hcnt _ (by simp [endFlds]) _ (.inr rfl), hcnt _ (by simp [endFlds]) _ (.inr rfl),
      hcnt _ (by simp [endFlds]) _ (.inr rfl), rd_inc_same, h8, keepsRegs_ev (List.subset_append_right _ _) (by decide), keepsRegs_inc (by simp), ev_mem,
      inc_mem, ev_lins, inc_lins]
    exact ⟨h1, h2, h3, h4, h5, h6, rfl, h9⟩

/-- The report of a frame that failed. -/
theorem linCounted_reports {m : Mod} (p id k : Nat) (hk : k ≠ 1) {u : Mod} (hevt : u.evt = m.evt) (htick : u.tick = m.tick) (hroom : m.Room 1) :
    m.Reported (u.linCounted p id k) (0x30 + p) info 0x0A01 [sj (16 + p), sj id, vl k] := by
  simp only [linCounted, if_neg hk]
  refine reported_ev _ _ _ _ ?_ htick hroom
  simp only [inc_evt, wr_evt]
  exact hevt

/-- A subscriber's store (R296). -/
theorem linStored_shows {m : Mod} (p : Fin 8) (id : Fin 64) (d : List Nat) (hd : ∀ b ∈ d, b < 256) {t : Mod} (ht : t = m.linStored p id d) :
    t.rd (LIN.SUB p id 0) = leNum ((m.linHeld p id d).take 4) ∧ t.rd (LIN.SUB p id 1) = leNum (((m.linHeld p id d).drop 4).take 4) ∧
      t.rd (LIN.NEW p id) = 1 ∧ (t.rd (LIN.LOST p id) = if m.on (LIN.NEW p id) then 1 else m.rd (LIN.LOST p id)) ∧ t.mem = m.mem ∧ t.lins = m.lins ∧
      m.KeepsRegs (subFlds p id) t := by
  subst ht
  have hbytes : ∀ b ∈ m.linHeld p id d, b < 256 := by
    intro b hb
    simp only [linHeld, List.mem_append] at hb
    rcases hb with hb | hb
    · exact hd b (List.mem_of_mem_take hb)
    · rcases List.mem_append.1 (List.mem_of_mem_drop hb) with hb | hb <;> exact leBytes_lt _ _ b hb
  simp only [linStored]
  generalize m.linHeld p id d = b at *
  have hword (l : List Nat) (hl : ∀ x ∈ l, x ∈ b) : leNum (l.take 4) % 2 ^ 32 = leNum (l.take 4) :=
    leNum_word (fun x hx => hbytes x (hl x (List.mem_of_mem_take hx))) (List.length_take_le ..)
  have hlost (u : Mod) (hu : u = if m.on (LIN.NEW p id) then (m.wr (LIN.LOST p id) 1).inc (LIN.LOST_CNT p) else m) :
      (u.rd (LIN.LOST p id) = if m.on (LIN.NEW p id) then 1 else m.rd (LIN.LOST p id)) ∧ u.mem = m.mem ∧ u.lins = m.lins ∧ m.KeepsRegs (subFlds p id) u := by
    subst hu
    split
    · refine ⟨?_, by rw [inc_mem, wr_mem], by rw [inc_lins, wr_lins], ?_⟩
      · rw [rd_inc_other _ _ _ (by simp only [LIN.LOST, LIN.LOST_CNT, Fld.key, ResetClass.code]; omega), rd_wr_same]
        rfl
      · rw [keepsRegs_inc (by simp [subFlds]), keepsRegs_wr (by simp [subFlds])]
        exact KeepsRegs.refl _ _
    · exact ⟨rfl, rfl, rfl, KeepsRegs.refl _ _⟩
  generalize (if m.on (LIN.NEW p id) = true then (m.wr (LIN.LOST p id) 1).inc (LIN.LOST_CNT p) else m) = u at *
  obtain ⟨hl, hmem, hlins, hkeep⟩ := hlost u rfl
  refine ⟨?_, ?_, ?_, ?_, by simp only [wr_mem, hmem], by simp only [wr_lins, hlins], ?_⟩
  · simp (disch := (simp only [LIN.SUB, LIN.NEW, LIN.SEQ, Fld.key, ResetClass.code]; omega)) only [rd_wr_other, rd_wr_same]
    exact hword b fun _ h => h
  · simp (disch := (simp only [LIN.SUB, LIN.NEW, LIN.SEQ, Fld.key, ResetClass.code]; omega)) only [rd_wr_other, rd_wr_same]
    exact hword _ fun _ h => List.mem_of_mem_drop h
  · rw [rd_wr_other _ _ _ _ (by simp only [LIN.NEW, LIN.SEQ, Fld.key, ResetClass.code]; omega), rd_wr_same]
    rfl
  · simp (disch := (simp only [LIN.SUB, LIN.NEW, LIN.SEQ, LIN.LOST, Fld.key, ResetClass.code]; omega)) only [rd_wr_other]
    exact hl
  · exact (((hkeep.wr _ _ _ _ _ (by simp [subFlds])).wr _ _ _ _ _ (by simp [subFlds])).wr _ _ _ _ _ (by simp [subFlds])).wr _ _ _ _ _ (by simp [subFlds])

/-- A result that is good came with all its bytes, or from the module itself. -/
theorem linResult_lt {m : Mod} {p id res : Nat} {d : List Nat} {chk : Nat} (hres : res < 8) : m.linResult p id res d chk < 8 := by
  unfold linResult
  simp only
  repeat' split
  all_goals omega

theorem linResult_good {m : Mod} {p id res : Nat} {d : List Nat} {chk : Nat} (h : m.linResult p id res d chk = 1) (hdir : m.rd (LIN.DIR p id) = 2) :
    m.rd (LIN.FT_LEN p id) ≤ d.length := by
  unfold linResult at h
  simp only [hdir] at h
  repeat' split at h
  all_goals omega

/-- A frame's end up to a subscriber's store. -/
theorem linEnd_counted {m : Mod} (p : Fin 8) (id : Fin 64) {k : Nat} (hk : k < 8) (cyc : Nat) {b : Mod}
    (hb : b = (let a := ((m.linOccupy p cyc).onLin p fun y => { y with cur := none, pub := [], diag := none }).linCounted p id k
      if k = 1 then a.nmHear (16 + p) none else a)) :
    (b.rd (LIN.BUSY p) = 0 ∧ b.rd (LIN.LAST_RES p) = k ∧ b.rd (LIN.RES p id) = k ∧ b.rd (LIN.TICK16 p id) = m.tick % 2 ^ 16) ∧
      (b.lin p).cur = none ∧ b.mem = m.mem ∧
      (if k = 1 then b.rd (LIN.OK_CNT p) = Nat.min (m.rd (LIN.OK_CNT p) + 1) (LIN.OK_CNT p).max
        else b.rd (LIN.ERR_CNT p) = Nat.min (m.rd (LIN.ERR_CNT p) + 1) (LIN.ERR_CNT p).max) ∧
      (k ≠ 1 → m.Room 1 → m.Reported b (0x30 + p) info 0x0A01 [sj (16 + p), sj id, vl k]) ∧
      m.KeepsRegs (endFlds p id ++ [LIN.OK_CNT p, LIN.ERR_CNT p] ++ evtFlds (0x30 + p)) b := by
  obtain ⟨hregs, hmem, hevt, hfrm, -, -⟩ := linOccupy_leaves m p cyc
  have hu : ∀ u : Mod, u = (m.linOccupy p cyc).onLin p (fun y => { y with cur := none, pub := [], diag := none }) →
      u.regs = m.regs ∧ u.mem = m.mem ∧ u.evt = m.evt ∧ u.tick = m.tick ∧ (u.lin p).cur = none := by
    rintro u rfl
    exact ⟨hregs, hmem, hevt, congrArg FrmX.tick hfrm, by rw [lin_onLin_same]⟩
  simp only at hb
  generalize (m.linOccupy p cyc).onLin p (fun y => { y with cur := none, pub := [], diag := none }) = u at *
  obtain ⟨hregs, hmem, hevt, htick, hcur⟩ := hu u rfl
  obtain ⟨h1, h2, h3, h4, h5, h6, h7, h8⟩ := linCounted_shows (m := u) p id hk rfl
  have hrep : k ≠ 1 → m.Room 1 → m.Reported (u.linCounted p id k) (0x30 + p) info 0x0A01 [sj (16 + p), sj id, vl k] :=
    fun hne hroom => linCounted_reports p id k hne hevt htick hroom
  generalize u.linCounted p id k = a at *
  have hkeep : m.KeepsRegs (endFlds p id ++ [LIN.OK_CNT p, LIN.ERR_CNT p] ++ evtFlds (0x30 + p)) a := fun g hg => (h8 g hg).trans (rd_congr hregs g)
  rw [rd_congr hregs, rd_congr hregs] at h7
  have hcur' : (a.lin p).cur = none := by rw [lin_congr h6]; exact hcur
  by_cases hgood : k = 1
  · rw [if_pos hgood] at hb
    obtain ⟨hpassed, hbregs⟩ := nmHear_leaves a 0 (16 + p) none
    have hblins : (a.nmHear (16 + p) none).lins = a.lins := by
      unfold nmHear
      split
      · rfl
      · split
        · split <;> rfl
        · rfl
    subst hb
    rw [rd_congr hbregs, rd_congr hbregs, rd_congr hbregs, rd_congr hbregs, rd_congr hbregs, rd_congr hbregs, lin_congr hblins, hpassed.mem]
    exact ⟨⟨h1, h2, h3, htick ▸ h4⟩, hcur', h5.trans hmem, h7, fun hne => absurd hgood hne, KeepsRegs.of_regs _ _ _ _ hkeep hbregs⟩
  · rw [if_neg hgood] at hb
    subst hb
    exact ⟨⟨h1, h2, h3, htick ▸ h4⟩, hcur', h5.trans hmem, h7, hrep, hkeep⟩

/-- The end of a frame leaves what a subscriber holds, and the frame's table. -/
theorem linCounted_keeps {m b : Mod} (p : Fin 8) (id : Fin 64)
    (h : m.KeepsRegs (endFlds p id ++ [LIN.OK_CNT p, LIN.ERR_CNT p] ++ evtFlds (0x30 + p)) b) :
    ∀ g ∈ subFlds p id ++ [LIN.DIR p id, LIN.FT_LEN p id], b.rd g = m.rd g := by
  intro g hg
  obtain ⟨hder, hpg, hoff⟩ := linFlds_own p id g (by
    simp only [List.mem_append, List.mem_cons, List.not_mem_nil, or_false] at hg ⊢
    rcases hg with hg | hg | hg <;> simp [hg])
  refine h g fun f hf => ?_
  rcases List.mem_append.1 hf with hf | hf
  · exact fun he => hder (he ▸ List.mem_map_of_mem hf)
  · rcases List.mem_append.1 hf with hf | hf
    · exact (linFlds_disjoint p id.isLt g hg f hf).symm
    · exact evtFlds_ne (by omega) hoff f hf

/-- What a subscriber holds when the frame has ended. -/
theorem linSubscribed_shows {m b : Mod} (p : Fin 8) (id : Fin 64) {k : Nat} {d : List Nat} (hd : ∀ x ∈ d, x < 256)
    (hlen : k = 1 → m.rd (LIN.DIR p id) = 2 → m.rd (LIN.FT_LEN p id) ≤ d.length)
    (h : m.KeepsRegs (endFlds p id ++ [LIN.OK_CNT p, LIN.ERR_CNT p] ++ evtFlds (0x30 + p)) b) {t : Mod}
    (ht : t = if b.rd (LIN.DIR p id) = 2 ∧ k = 1 then b.linStored p id d else b) :
    (∀ f ∈ endFlds p id ++ [LIN.OK_CNT p, LIN.ERR_CNT p], t.rd f = b.rd f) ∧ t.mem = b.mem ∧ t.lins = b.lins ∧ (k ≠ 1 → t = b) ∧
      (if m.rd (LIN.DIR p id) = 2 ∧ k = 1 then
        let old := leBytes 4 (m.rd (LIN.SUB p id 0)) ++ leBytes 4 (m.rd (LIN.SUB p id 1))
        let l := d.take (m.rd (LIN.FT_LEN p id)) ++ old.drop (m.rd (LIN.FT_LEN p id))
        t.rd (LIN.SUB p id 0) = leNum (l.take 4) ∧ t.rd (LIN.SUB p id 1) = leNum ((l.drop 4).take 4) ∧ t.rd (LIN.NEW p id) = 1 ∧
          (t.rd (LIN.LOST p id) = if m.on (LIN.NEW p id) then 1 else m.rd (LIN.LOST p id))
        else t.rd (LIN.SUB p id 0) = m.rd (LIN.SUB p id 0) ∧ t.rd (LIN.SUB p id 1) = m.rd (LIN.SUB p id 1) ∧ t.rd (LIN.NEW p id) = m.rd (LIN.NEW p id)) ∧
      m.KeepsRegs (endFlds p id ++ [LIN.OK_CNT p, LIN.ERR_CNT p] ++ subFlds p id ++ evtFlds (0x30 + p)) t := by
  have hreads := linCounted_keeps p id h
  have hkeep : m.KeepsRegs (endFlds p id ++ [LIN.OK_CNT p, LIN.ERR_CNT p] ++ subFlds p id ++ evtFlds (0x30 + p)) b :=
    h.mono fun f hf => by
      rcases List.mem_append.1 hf with hf | hf
      · exact List.mem_append_left _ (List.mem_append_left _ hf)
      · exact List.mem_append_right _ hf
  rw [hreads _ (by simp)] at ht
  by_cases hsub : m.rd (LIN.DIR p id) = 2 ∧ k = 1
  · rw [if_pos hsub] at ht ⊢
    obtain ⟨h0, h1, hnew, hlost, hmem, hlins, hstored⟩ := linStored_shows p id d hd ht
    have hheld : b.linHeld p id d = d.take (m.rd (LIN.FT_LEN p id)) ++
        (leBytes 4 (m.rd (LIN.SUB p id 0)) ++ leBytes 4 (m.rd (LIN.SUB p id 1))).drop (m.rd (LIN.FT_LEN p id)) := by
      simp only [linHeld, hreads (LIN.FT_LEN p id) (by simp), hreads (LIN.SUB p id 0) (by simp [subFlds]), hreads (LIN.SUB p id 1) (by simp [subFlds]),
        List.length_take, Nat.min_eq_left (hlen hsub.2 hsub.1)]
    rw [hheld] at h0 h1
    rw [on, hreads _ (by simp [subFlds]), hreads _ (by simp [subFlds])] at hlost
    refine ⟨fun f hf => hstored f fun g hg => ?_, hmem, hlins, fun hne => absurd hsub.2 hne, ⟨h0, h1, hnew, hlost⟩,
      hkeep.trans (hstored.mono fun f hf => List.mem_append_left _ (List.mem_append_right _ hf))⟩
    rcases List.mem_append.1 hg with hg | hg
    · have hder := (linFlds_own p id f (by
        simp only [List.mem_append, List.mem_cons, List.not_mem_nil, or_false] at hf ⊢
        rcases hf with hf | hf | hf <;> simp [hf])).1
      exact fun he => hder (he ▸ List.mem_map_of_mem hg)
    · exact linFlds_disjoint p id.isLt g (List.mem_append_left _ hg) f hf
  · rw [if_neg hsub] at ht ⊢
    subst ht
    exact ⟨fun _ _ => rfl, rfl, rfl, fun _ => rfl,
      ⟨hreads _ (by simp [subFlds]), hreads _ (by simp [subFlds]), hreads _ (by simp [subFlds])⟩, hkeep⟩

/-- A frame's end when everything that shows it is up to date. -/
theorem linEnd_settled {m : Mod} (p : Fin 8) (id : Fin 64) {k : Nat} (hk : k < 8) {d : List Nat} (hd : ∀ x ∈ d, x < 256) (cyc : Nat)
    (hlen : k = 1 → m.rd (LIN.DIR p id) = 2 → m.rd (LIN.FT_LEN p id) ≤ d.length) (hroom : m.Room 1) {b t : Mod}
    (hb : b = (let a := ((m.linOccupy p cyc).onLin p fun y => { y with cur := none, pub := [], diag := none }).linCounted p id k
      if k = 1 then a.nmHear (16 + p) none else a))
    (ht : t = (if b.rd (LIN.DIR p id) = 2 ∧ k = 1 then b.linStored p id d else b).settle) :
    t.rd (LIN.BUSY p) = 0 ∧ t.rd (LIN.LAST_RES p) = k ∧ t.rd (LIN.RES p id) = k ∧ t.rd (LIN.TICK16 p id) = m.tick % 2 ^ 16 ∧
      (t.lin p).cur = none ∧ t.mem = m.mem ∧
      (if k = 1 then t.rd (LIN.OK_CNT p) = Nat.min (m.rd (LIN.OK_CNT p) + 1) (LIN.OK_CNT p).max
        else t.rd (LIN.ERR_CNT p) = Nat.min (m.rd (LIN.ERR_CNT p) + 1) (LIN.ERR_CNT p).max ∧
          m.Reported t (0x30 + p) info 0x0A01 [sj (16 + p), sj id, vl k]) ∧
      (if m.rd (LIN.DIR p id) = 2 ∧ k = 1 then
        let old := leBytes 4 (m.rd (LIN.SUB p id 0)) ++ leBytes 4 (m.rd (LIN.SUB p id 1))
        let l := d.take (m.rd (LIN.FT_LEN p id)) ++ old.drop (m.rd (LIN.FT_LEN p id))
        t.rd (LIN.SUB p id 0) = leNum (l.take 4) ∧ t.rd (LIN.SUB p id 1) = leNum ((l.drop 4).take 4) ∧ t.rd (LIN.NEW p id) = 1 ∧
          (t.rd (LIN.LOST p id) = if m.on (LIN.NEW p id) then 1 else m.rd (LIN.LOST p id))
        else t.rd (LIN.SUB p id 0) = m.rd (LIN.SUB p id 0) ∧ t.rd (LIN.SUB p id 1) = m.rd (LIN.SUB p id 1) ∧ t.rd (LIN.NEW p id) = m.rd (LIN.NEW p id)) ∧
      m.KeepsRegs ([LIN.BUSY p, LIN.LAST_RES p, LIN.RES p id, LIN.TICK16 p id, LIN.OK_CNT p, LIN.ERR_CNT p, LIN.SUB p id 0, LIN.SUB p id 1,
        LIN.NEW p id, LIN.LOST p id, LIN.LOST_CNT p, LIN.SEQ p id] ++ evtFlds (0x30 + p)) t := by
  obtain ⟨⟨h1, h2, h3, h4⟩, h5, h6, h7, h8, h9⟩ := linEnd_counted p id hk cyc hb
  clear hb
  obtain ⟨u, hu⟩ : ∃ u, u = if b.rd (LIN.DIR p id) = 2 ∧ k = 1 then b.linStored p id d else b := ⟨_, rfl⟩
  obtain ⟨hends, hmem, hlins, hbad, hsub, hkeep⟩ := linSubscribed_shows p id hd hlen h9 hu
  rw [← hu] at ht
  clear hu h9
  have hset : ∀ f ∈ subFlds p id ++ endFlds p id ++ [LIN.OK_CNT p, LIN.ERR_CNT p], t.rd f = u.rd f := fun f hf => by
    rw [ht]
    refine rd_settle _ _ (linFlds_own p id f ?_).1
    simp only [List.mem_append, List.mem_cons, List.not_mem_nil, or_false] at hf ⊢
    rcases hf with (hf | hf) | hf | hf <;> simp [hf]
  have hsub' := hsub
  rw [← hset (LIN.SUB p id 0) (by simp [subFlds]), ← hset (LIN.SUB p id 1) (by simp [subFlds]), ← hset (LIN.NEW p id) (by simp [subFlds]),
    ← hset (LIN.LOST p id) (by simp [subFlds])] at hsub'
  have hread : ∀ f ∈ endFlds p id ++ [LIN.OK_CNT p, LIN.ERR_CNT p], t.rd f = b.rd f := fun f hf =>
    (hset f (by rw [List.append_assoc]; exact List.mem_append_right _ hf)).trans (hends f hf)
  refine ⟨(hread _ (by simp [endFlds])).trans h1, (hread _ (by simp [endFlds])).trans h2, (hread _ (by simp [endFlds])).trans h3,
    (hread _ (by simp [endFlds])).trans h4, ?_, ?_, ?_, hsub', ?_⟩
  · rw [ht, lin_congr ((settle_lins u).trans hlins), h5]
  · rw [ht, settle_mem, hmem, h6]
  · rw [hread (LIN.OK_CNT p) (by simp), hread (LIN.ERR_CNT p) (by simp), ht, reported_settle]
    by_cases hgood : k = 1
    · rw [if_pos hgood] at h7 ⊢
      exact h7
    · rw [if_neg hgood] at h7 ⊢
      rw [hbad hgood]
      exact ⟨h7, h8 hgood hroom⟩
  · rw [ht]
    refine KeepsRegs.settle _ _ _ (hkeep.mono fun f hf => ?_)
    simp only [endFlds, subFlds, List.cons_append, List.nil_append] at hf ⊢
    exact hf

/-- The occupancy of a pulse is in no register and no byte of memory. -/
theorem pulseOccupy_leaves (m : Mod) (p : Nat) : (m.pulseOccupy p).regs = m.regs ∧ (m.pulseOccupy p).mem = m.mem ∧ (m.pulseOccupy p).frm = m.frm ∧
    ((m.lin p).pulse = none → m.pulseOccupy p = m) := by
  unfold pulseOccupy
  split
  next h => exact ⟨rfl, rfl, rfl, fun hn => by rw [hn] at h; cases h⟩
  next => exact ⟨rfl, rfl, rfl, fun _ => rfl⟩

end Mod

open Machine.Mod Reg

theorem linFrameEnd_runs (s : State) (p : Fin 8) (id : Fin 64) (res : Fin 6) (bytes : List Byte) (chk : Byte) (cyc : BitVec 11)
    (hcur : (s.mod.lin p).cur = some id.val) (hdiag : (s.mod.lin p).diag = none) (hid : id ≠ 0x3D) (hprm : SMap.get 0 (s.mod.lin p).pubPrm id = 0)
    (hroutes : s.mod.img.routes = []) (hroom : s.mod.Room 1) : s.Runs (.linFrameEnd p res ⟨bytes, chk⟩ cyc) fun m t =>
      let k := m.linResult p id (res + 1) (bytes.map (·.toNat)) chk.toNat
      t.rd (LIN.BUSY p) = 0 ∧ t.rd (LIN.LAST_RES p) = k ∧ t.rd (LIN.RES p id) = k ∧ t.rd (LIN.TICK16 p id) = m.tick % 2 ^ 16 ∧
      (t.lin p).cur = none ∧ t.mem = m.mem ∧
      (if k = 1 then t.rd (LIN.OK_CNT p) = Nat.min (m.rd (LIN.OK_CNT p) + 1) (LIN.OK_CNT p).max
        else t.rd (LIN.ERR_CNT p) = Nat.min (m.rd (LIN.ERR_CNT p) + 1) (LIN.ERR_CNT p).max ∧
          m.Reported t (0x30 + p) info 0x0A01 [sj (16 + p), sj id, vl k]) ∧
      (if m.rd (LIN.DIR p id) = 2 ∧ k = 1 then
        let old := leBytes 4 (m.rd (LIN.SUB p id 0)) ++ leBytes 4 (m.rd (LIN.SUB p id 1))
        let b := (bytes.map (·.toNat)).take (m.rd (LIN.FT_LEN p id)) ++ old.drop (m.rd (LIN.FT_LEN p id))
        t.rd (LIN.SUB p id 0) = leNum (b.take 4) ∧ t.rd (LIN.SUB p id 1) = leNum ((b.drop 4).take 4) ∧ t.rd (LIN.NEW p id) = 1 ∧
          (t.rd (LIN.LOST p id) = if m.on (LIN.NEW p id) then 1 else m.rd (LIN.LOST p id))
        else t.rd (LIN.SUB p id 0) = m.rd (LIN.SUB p id 0) ∧ t.rd (LIN.SUB p id 1) = m.rd (LIN.SUB p id 1) ∧
          t.rd (LIN.NEW p id) = m.rd (LIN.NEW p id)) ∧
      m.KeepsRegs ([LIN.BUSY p, LIN.LAST_RES p, LIN.RES p id, LIN.TICK16 p id, LIN.OK_CNT p, LIN.ERR_CNT p, LIN.SUB p id 0, LIN.SUB p id 1,
        LIN.NEW p id, LIN.LOST p id, LIN.LOST_CNT p, LIN.SEQ p id] ++ evtFlds (0x30 + p)) t := by
  refine State.runs_next s _ _ _ rfl ?_
  have hid' : id.val ≠ 0x3D := fun h => hid (Fin.ext h)
  obtain ⟨k, hk⟩ : ∃ k, k = s.mod.linResult p id (res + 1) (bytes.map (·.toNat)) chk.toNat := ⟨_, rfl⟩
  have hlt : k < 8 := hk ▸ linResult_lt (by omega)
  simp only
  rw [linEnd_eq hcur hdiag hid' hprm hroutes hk rfl rfl, ← hk]
  exact linEnd_settled p id hlt (fun x hx => by obtain ⟨y, -, rfl⟩ := List.mem_map.1 hx; exact y.isLt) cyc.toNat
    (fun hgood hdir => linResult_good (hk ▸ hgood) hdir) hroom rfl rfl

/-- WAKE_TX of a port that is free, and of one that is not. -/
theorem wakeTx_runs (s : State) (p : Fin 8) : s.Runs (.wakeTx p) fun m t => t.mem = m.mem ∧
    (if m.rd (TRX.STATE (0x30 + p)) = 3 ∧ (m.lin p).cur = none then
      ((m.lin p).pulse = none → (t.lin p).pulse = some (m.stamp 0, m.stamp 0 + m.rd (LIN.WAKE_LEN p) * 10000)) ∧ m.KeepsRegs [] t
    else t.rd (LIN.HDR_SKIP_CNT p) = Nat.min (m.rd (LIN.HDR_SKIP_CNT p) + 1) (LIN.HDR_SKIP_CNT p).max ∧ m.OnlyRegs [LIN.HDR_SKIP_CNT p] t) := by
  refine State.runs_next s _ _ _ rfl ?_
  simp only [linWakeTx, Option.isNone_iff_eq_none]
  by_cases hfree : s.mod.rd (TRX.STATE (0x30 + p)) = 3 ∧ (s.mod.lin p).cur = none
  · obtain ⟨hregs, hmem, hfrm, hnone⟩ := pulseOccupy_leaves s.mod p
    rw [if_pos hfree, if_pos hfree]
    refine ⟨by rw [settle_mem, onLin_mem, hmem], fun hp => ?_, KeepsRegs.settle _ _ _ (KeepsRegs.of_regs _ _ s.mod _ (KeepsRegs.refl _ _) hregs)⟩
    rw [lin_congr (settle_lins _), lin_onLin_same, hnone hp, hp]
  · rw [if_neg hfree, if_neg hfree]
    have hder : ∀ q : Fin 8, (LIN.HDR_SKIP_CNT q).key ∉ derivedKeys := by decide
    refine ⟨by rw [settle_mem, inc_mem], ?_, OnlyRegs.settle _ _ _ (OnlyRegs.refl _ _ |>.wr _ _ _ _ _ (by simp))⟩
    rw [rd_settle _ _ (hder p), rd_inc_same]

/-- A dominant phase that is a wake, and one that is not (R300). -/
theorem unexplainedDominant_runs (s : State) (p : Fin 8) (len : BitVec 9) (sp : Span) (hroom : s.mod.Room 1) :
    s.Runs (.unexplainedDominant p ⟨len, sp⟩) fun m t =>
      if 25 ≤ len.toNat ∧ len.toNat ≤ 500 ∧ m.rd (TRX.STATE (0x30 + p)) = 3 ∧ m.on (TRX.WAKE_EN (0x30 + p)) = true ∧ (m.lin p).cur = none then
        t.rd (TRX.KIND (0x30 + p)) = 1 ∧ t.rd (TRX.WAKE_TICK (0x30 + p)) = m.tick % 2 ^ (TRX.WAKE_TICK (0x30 + p)).w ∧
          m.Reported t (0x30 + p) info 0x0A03 [sj (16 + p), vl len.toNat] ∧ t.mem = m.mem ∧
          m.KeepsRegs ([TRX.KIND (0x30 + p), TRX.WAKE_TICK (0x30 + p)] ++ evtFlds (0x30 + p)) t
      else t.mem = m.mem ∧ m.KeepsRegs [] t := by
  refine State.runs_next s _ _ _ rfl ?_
  have hu : ∀ u : Mod, u = s.mod.envAdd (16 + p) sp.occ.toNat 0 → u.regs = s.mod.regs ∧ u.mem = s.mod.mem ∧ u.lins = s.mod.lins ∧ u.evt = s.mod.evt ∧
      u.tick = s.mod.tick := by
    rintro u rfl
    exact ⟨rfl, rfl, rfl, rfl, rfl⟩
  simp only
  generalize s.mod.envAdd (16 + p) sp.occ.toNat 0 = u at *
  obtain ⟨hregs, hmem, hlins, hevt, htick⟩ := hu u rfl
  rw [rd_congr hregs, on, on, rd_congr hregs, lin_congr hlins]
  simp only [Option.isNone_iff_eq_none]
  split
  next hwake =>
    have hw : ∀ w : Mod, w = (u.wr (TRX.KIND (0x30 + p)) 1).wr (TRX.WAKE_TICK (0x30 + p)) u.tick →
        w.rd (TRX.KIND (0x30 + p)) = 1 ∧ w.rd (TRX.WAKE_TICK (0x30 + p)) = u.tick % 2 ^ (TRX.WAKE_TICK (0x30 + p)).w ∧ w.mem = u.mem ∧ w.evt = u.evt ∧
        w.tick = u.tick ∧ u.KeepsRegs ([TRX.KIND (0x30 + p), TRX.WAKE_TICK (0x30 + p)] ++ evtFlds (0x30 + p)) w := by
      rintro w rfl
      refine ⟨?_, rd_wr_same _ _ _, by rw [wr_mem, wr_mem], by rw [wr_evt, wr_evt], rfl, ?_⟩
      · rw [rd_wr_other _ _ _ _ (by simp only [TRX.KIND, TRX.WAKE_TICK, Fld.key, ResetClass.code]; omega), rd_wr_same]
        rfl
      · rw [keepsRegs_wr (by simp), keepsRegs_wr (by simp)]
        exact KeepsRegs.refl _ _
    generalize (u.wr (TRX.KIND (0x30 + p)) 1).wr (TRX.WAKE_TICK (0x30 + p)) u.tick = w at *
    obtain ⟨hkind, htk, hwmem, hwevt, hwtick, hkeep⟩ := hw w rfl
    have hown : ∀ q : Fin 8, (TRX.KIND (0x30 + q)).key ∉ derivedKeys ∧ (TRX.WAKE_TICK (0x30 + q)).key ∉ derivedKeys := by decide
    have hv : ∀ v : Mod, v.regs = w.regs → v.mem = w.mem → v.evt = w.evt → v.tick = w.tick → ∀ t : Mod,
        t = (v.ev (0x30 + p) info 0x0A03 [sj (16 + p), vl len.toNat]).settle →
        t.rd (TRX.KIND (0x30 + p)) = 1 ∧ t.rd (TRX.WAKE_TICK (0x30 + p)) = s.mod.tick % 2 ^ (TRX.WAKE_TICK (0x30 + p)).w ∧
          s.mod.Reported t (0x30 + p) info 0x0A03 [sj (16 + p), vl len.toNat] ∧ t.mem = s.mod.mem ∧
          s.mod.KeepsRegs ([TRX.KIND (0x30 + p), TRX.WAKE_TICK (0x30 + p)] ++ evtFlds (0x30 + p)) t := by
      rintro v hvregs hvmem hvevt hvtick t rfl
      have hrd (f : Fld) (hder : f.key ∉ derivedKeys) (hpg : f.key / 524288 ≠ 8) (hoff : 0x100 ≤ f.key / 128 % 4096) (l : List Item) :
          (v.ev (0x30 + p) info 0x0A03 l).settle.rd f = w.rd f :=
        ((rd_settle _ _ hder).trans (rd_ev_own _ _ _ _ _ _ (by decide) hpg hoff)).trans (rd_congr hvregs f)
      refine ⟨(hrd _ (hown p).1 ?_ ?_ _).trans hkind, (hrd _ (hown p).2 ?_ ?_ _).trans (htick ▸ htk),
        reported_settle.2 (reported_ev _ _ _ _ (hvevt.trans (hwevt.trans hevt)) (hvtick.trans (hwtick.trans htick)) hroom),
        by rw [settle_mem, ev_mem, hvmem, hwmem, hmem], KeepsRegs.settle _ _ _ ?_⟩
      iterate 4 simp only [TRX.KIND, TRX.WAKE_TICK, Fld.key, ResetClass.code]; omega
      rw [keepsRegs_ev (List.subset_append_right _ _) (by decide)]
      exact KeepsRegs.of_regs _ _ w _ (fun g hg => (hkeep g hg).trans (rd_congr hregs g)) hvregs
    refine hv _ ?_ ?_ ?_ ?_ _ rfl <;> split <;> rfl
  next => exact ⟨by rw [settle_mem, hmem], KeepsRegs.settle _ _ _ (KeepsRegs.of_regs _ _ s.mod _ (KeepsRegs.refl _ _) hregs)⟩

/-- Settles O34. -/
theorem linFramesEnd : Obligations.LinFramesEnd := fun s p =>
  ⟨fun id res bytes chk cyc hcur hdiag hid hprm hroutes hroom => linFrameEnd_runs s p id res bytes chk cyc hcur hdiag hid hprm hroutes hroom,
    wakeTx_runs s p, fun len sp hroom => unexplainedDominant_runs s p len sp hroom⟩

end Sys2Proof.Machine

/-! ### Frames of the backbone and MACsec (R314, R315) -/
namespace Sys2Proof.Machine

namespace Mod
open Reg

@[simp] theorem bb_onBb_same (m : Mod) (n : Nat) (f : BbX → BbX) : (m.onBb n f).bb n = f (m.bb n) := SMap.get_set_same _ _ _ _

theorem bb_congr {t u : Mod} (h : t.bbs = u.bbs) (n : Nat) : t.bb n = u.bb n := by rw [bb, bb, h]

/-- A port that may not be woken takes a wake for nothing. -/
theorem busWakeSeen_off {m : Mod} (n : Nat) (podl : Bool) (h : m.rd (TRX.WAKE_EN (portPage n)) = 0) : m.busWakeSeen n podl = m := by
  unfold busWakeSeen
  simp only [h, if_true]

/-- Before MACsec a port that hears, and is not to be woken, does nothing to a frame. -/
theorem bbReceive_eq {m : Mod} {n : Nat} (hn : portPage n = 0x3A + n) (hears : m.bbHears n = true) (hwake : m.rd (TRX.WAKE_EN (0x3A + n)) = 0)
    (tag : Option SecTag) (host : Bool) (f : EthFrame) {u : Mod} {ok : Bool} (hsec : m.secCheck n tag f.etype.toNat = (u, ok)) :
    m.bbReceive n tag host f = if ok then
      if host then match f.rtag with
        | some r => (u.inc (BB.RX_OK_CNT n)).recover f.src.toNat ((f.vlan.map (·.2.toNat)).getD 0) r.toNat
        | none => (u.inc (BB.RX_OK_CNT n)).inc ETS.TAGLESS_CNT
      else (u.inc (BB.RX_OK_CNT n)).switchFrame n f
    else u := by
  have hwake' := busWakeSeen_off (m := m) n false (by rw [hn]; exact hwake)
  unfold bbReceive
  rw [if_neg (by simp only [hears]; decide), hwake']
  simp only [hsec]
  cases ok
  · rfl
  · rfl

/-- A dropped frame in its registers. -/
theorem secDrop_shows {m : Mod} (n : Fin 2) (g : Fld) (hpage : g.key / 524288 = 0x3A + n) (hoff : 0x100 ≤ g.key / 128 % 4096)
    (hder : g.key ∉ derivedKeys) {t : Mod} (ht : t = ((m.inc g).secDrop n).settle) :
    t.rd g = Nat.min (m.rd g + 1) g.max ∧ (t.bb n).dropSf = (m.bb n).dropSf + 1 ∧ t.mem = m.mem ∧ m.KeepsRegs ([g] ++ evtFlds (0x3A + n)) t := by
  obtain ⟨u, hu⟩ : ∃ u, u = (m.inc g).onBb n fun x => { x with dropSf := x.dropSf + 1 } := ⟨_, rfl⟩
  have hcount : u.rd g = Nat.min (m.rd g + 1) g.max := by
    rw [hu]
    exact rd_inc_same _ _
  have hdrop : (u.bb n).dropSf = (m.bb n).dropSf + 1 := by
    rw [hu, bb_onBb_same, bb_congr (inc_bbs m g)]
  have hmem : u.mem = m.mem := by rw [hu, onBb_mem, inc_mem]
  have hkeep : m.KeepsRegs ([g] ++ evtFlds (0x3A + n)) u := by
    rw [hu]
    refine KeepsRegs.of_regs _ _ (m.inc g) _ ?_ rfl
    rw [keepsRegs_inc (by simp)]
    exact KeepsRegs.refl _ _
  simp only [secDrop, ← hu] at ht
  clear hu
  subst ht
  split
  · refine ⟨?_, ?_, by rw [settle_mem, ev_mem, hmem], KeepsRegs.settle _ _ _ ?_⟩
    · rw [rd_settle _ _ hder, rd_ev_own _ _ _ _ _ _ (by decide) (by omega) hoff, hcount]
    · rw [bb_congr ((settle_bbs _).trans (ev_bbs _ _ _ _ _)), hdrop]
    · rw [keepsRegs_ev (List.subset_append_right _ _) (by decide)]
      exact hkeep
  · exact ⟨(rd_settle _ _ hder).trans hcount, by rw [bb_congr (settle_bbs _), hdrop], by rw [settle_mem, hmem], KeepsRegs.settle _ _ _ hkeep⟩

/-- The counters of dropped frames are the port's own. -/
theorem secFlds_own (n : Fin 2) : ∀ g ∈ [BB.ICV_FAIL_CNT n, BB.REPLAY_CNT n, BB.UNTAGGED_CNT n],
    g.key / 524288 = 0x3A + n ∧ 0x100 ≤ g.key / 128 % 4096 ∧ g.key ∉ derivedKeys := by
  revert n
  decide

/-- A frame that passes, without an R-TAG, in its registers. -/
theorem bbPassed_shows {m u : Mod} (n : Fin 2) (hregs : u.regs = m.regs) {t : Mod} (ht : t = ((u.inc (BB.RX_OK_CNT n)).inc ETS.TAGLESS_CNT).settle) :
    t.rd (BB.RX_OK_CNT n) = Nat.min (m.rd (BB.RX_OK_CNT n) + 1) (BB.RX_OK_CNT n).max ∧
      t.rd ETS.TAGLESS_CNT = Nat.min (m.rd ETS.TAGLESS_CNT + 1) ETS.TAGLESS_CNT.max ∧ u.OnlyRegs [BB.RX_OK_CNT n, ETS.TAGLESS_CNT] t := by
  subst ht
  have hkeys : ∀ k : Fin 2, (BB.RX_OK_CNT k).key ∉ derivedKeys ∧ (BB.RX_OK_CNT k).key ≠ ETS.TAGLESS_CNT.key := by decide
  obtain ⟨hder, hne⟩ := hkeys n
  refine ⟨?_, ?_, OnlyRegs.settle _ _ _ (OnlyRegs.wr _ _ _ _ _ (OnlyRegs.wr _ _ _ _ _ (OnlyRegs.refl _ _) (by simp)) (by simp))⟩
  · rw [rd_settle _ _ hder, rd_inc_other _ _ _ hne.symm, rd_inc_same, rd_congr hregs]
  · rw [rd_settle _ _ (by decide), rd_inc_same, rd_inc_other _ _ _ hne, rd_congr hregs]

end Mod

open Machine.Mod Reg

/-- Settles O39: the branches of the MACsec check one by one. -/
theorem backboneFramesPassMacsec : Obligations.BackboneFramesPassMacsec := by
  intro s n f tag hen hlink hawake hwake
  have hears : s.mod.bbHears n = true := by simp [bbHears, hen, hlink, hawake]
  have hpage : portPage n = 0x3A + n := (by decide : ∀ k : Fin 2, portPage k = 0x3A + k) n
  refine ⟨fun hoff hrtag => State.runs_next s _ _ _ rfl ?_, fun hon hok htag hgptp heapol host => State.runs_next s _ _ _ rfl ?_,
    fun g hon hok htag hrtag => State.runs_next s _ _ _ rfl ?_⟩
  · have hsec : s.mod.secCheck n tag f.etype.toNat = (s.mod, true) := by
      unfold secCheck
      rw [if_pos (by simp [on, hoff])]
    rw [bbReceive_eq hpage hears hwake _ _ _ hsec]
    simp only [if_true, hrtag]
    exact bbPassed_shows n rfl rfl
  · have hsec : s.mod.secCheck n tag f.etype.toNat = ((s.mod.inc (BB.UNTAGGED_CNT n)).secDrop n, false) := by
      unfold secCheck
      rw [if_neg (by simp only [hon]; decide), htag]
      exact if_neg (not_or.2 ⟨hgptp, heapol⟩)
    rw [bbReceive_eq hpage hears hwake _ _ _ hsec]
    obtain ⟨hpg, hoff, hder⟩ := secFlds_own n (BB.UNTAGGED_CNT n) (by simp)
    exact secDrop_shows n _ hpg hoff hder rfl
  · have hsec : s.mod.secCheck n tag f.etype.toNat =
        if g.verifies = false then ((s.mod.inc (BB.ICV_FAIL_CNT n)).secDrop n, false)
        else if g.pn.toNat + s.mod.rd (BB.REPLAY_WIN n) ≤ (s.mod.bb n).sa.rxPn then ((s.mod.inc (BB.REPLAY_CNT n)).secDrop n, false)
        else (s.mod.onBb n fun x => { x with sa := { x.sa with rxPn := Nat.max (s.mod.bb n).sa.rxPn g.pn.toNat } }, true) := by
      unfold secCheck
      rw [if_neg (by simp only [hon]; decide), htag]
      simp only [hok, not_true_eq_false, if_false, Bool.not_eq_true]
    by_cases hicv : g.verifies = false
    · rw [if_pos hicv] at hsec
      rw [bbReceive_eq hpage hears hwake _ _ _ hsec, if_pos hicv]
      obtain ⟨hpg, hoff, hder⟩ := secFlds_own n (BB.ICV_FAIL_CNT n) (by simp)
      obtain ⟨h1, h2, h3, h4⟩ := secDrop_shows (m := s.mod) n _ hpg hoff hder rfl
      exact ⟨h3, h1, h2, h4⟩
    · rw [if_neg hicv] at hsec ⊢
      by_cases hold : g.pn.toNat + s.mod.rd (BB.REPLAY_WIN n) ≤ (s.mod.bb n).sa.rxPn
      · rw [if_pos hold] at hsec
        rw [bbReceive_eq hpage hears hwake _ _ _ hsec, if_pos hold]
        obtain ⟨hpg, hoff, hder⟩ := secFlds_own n (BB.REPLAY_CNT n) (by simp)
        obtain ⟨h1, h2, h3, h4⟩ := secDrop_shows (m := s.mod) n _ hpg hoff hder rfl
        exact ⟨h3, h1, h2, h4⟩
      · rw [if_neg hold] at hsec
        rw [bbReceive_eq hpage hears hwake _ _ _ hsec, if_neg hold]
        simp only [if_true, hrtag]
        obtain ⟨h1, -, -, hkeep⟩ := bbPassed_shows (m := s.mod) (u := s.mod.onBb n fun x =>
          { x with sa := { x.sa with rxPn := Nat.max (s.mod.bb n).sa.rxPn g.pn.toNat } }) n rfl rfl
        refine ⟨by rw [settle_mem, inc_mem, inc_mem, onBb_mem], h1, ?_, hkeep⟩
        rw [bb_congr ((settle_bbs _).trans ((inc_bbs _ _).trans (inc_bbs _ _))), bb_onBb_same]

end Sys2Proof.Machine

/-! ### Vehicle time and ACF frames (R320 to R322, R325) -/
namespace Sys2Proof.Machine

namespace Mod
open Reg

theorem signedField_lt (w : Nat) (hw : 0 < w) (v : Int) : signedField w v < 2 ^ w := by
  obtain ⟨k, rfl⟩ : ∃ k, w = k + 1 := ⟨w - 1, by omega⟩
  have hlim : (2 : Int) ^ (k + 1) = 2 * 2 ^ k := by rw [Int.pow_succ]; omega
  have hpos : (0 : Int) < 2 ^ k := Int.pow_pos (by decide)
  have hcast : ((2 ^ (k + 1) : Nat) : Int) = 2 * 2 ^ k := by rw [Int.natCast_pow]; exact hlim
  simp only [signedField, Nat.add_sub_cancel]
  generalize (2 : Int) ^ k = l at *
  omega

/-- The registers that an offset update of an unsynchronised Frame writes. -/
def phaseFlds : List Fld := [FRM.PHASE_ERR, FRM.SLEW_LEFT, FRM.SYNC]

/-- The first offset update of a Frame that is not synchronised. -/
theorem phaseUpdate_unsynced {m : Mod} (ph : Int) (hsync : m.rd FRM.SYNC = 0) {t : Mod} (ht : t = m.phaseUpdate ph) :
    t.rd FRM.SYNC = 1 ∧ t.mem = m.mem ∧ t.ets = m.ets ∧ (m.Room 1 → m.Reported t 0x0A info 0x0101 [sj 1]) ∧
      m.KeepsRegs (phaseFlds ++ evtFlds 0x0A) t := by
  have hu (a b : Nat) (f : FrmX) (u : Mod) (hu : u = (({ m with frm := f }.wr FRM.PHASE_ERR a).sat FRM.SLEW_LEFT b)) (hf : f.tick = m.tick) :
      u.rd FRM.SYNC = 0 ∧ u.mem = m.mem ∧ u.ets = m.ets ∧ u.evt = m.evt ∧ u.tick = m.tick ∧ m.KeepsRegs (phaseFlds ++ evtFlds 0x0A) u := by
    subst hu
    refine ⟨?_, rfl, rfl, rfl, hf, ?_⟩
    · rw [sat, rd_wr_other _ _ _ _ (by decide), rd_wr_other _ _ _ _ (by decide)]
      exact hsync
    · rw [keepsRegs_sat (by simp [phaseFlds]), keepsRegs_wr (by simp [phaseFlds])]
      exact KeepsRegs.refl _ _
  obtain ⟨u, hud⟩ : ∃ u, u = ((m.onFrm fun x => { x with lastUpd := x.tick, holdSf := 0, freq := m.freqNext ph }).wr FRM.PHASE_ERR
      (if ph < -32767 then 32769 else signedField 16 ph)).sat FRM.SLEW_LEFT ((ph.natAbs + 4) / 5) := ⟨_, rfl⟩
  obtain ⟨hs, hmem, hets, hevt, htick, hkeep⟩ := hu _ _ _ u hud rfl
  have hsplit : m.phaseUpdate ph = u.syncGo 1 false := by
    simp only [phaseUpdate, ← hud, hs]
  rw [hsplit] at ht
  subst ht
  simp only [syncGo, Bool.false_eq_true, if_false]
  refine ⟨?_, ?_, ?_, fun hroom => reported_ev _ _ _ _ hevt htick hroom, ?_⟩
  · rw [rd_ev_own _ _ _ _ _ _ (by decide) (by decide) (by decide)]
    exact (rd_congr (u := u.wr FRM.SYNC 1) rfl _).trans (rd_wr_same _ _ _)
  · rw [ev_mem]
    exact hmem
  · rw [ev_ets]
    exact hets
  · rw [keepsRegs_ev (List.subset_append_right _ _) (by decide)]
    refine KeepsRegs.of_regs _ _ (u.wr FRM.SYNC 1) _ ?_ rfl
    rw [keepsRegs_wr (by simp [phaseFlds])]
    exact hkeep

/-- A Follow_Up that the port hears notes the link delay and the time. -/
def linkTimed (m : Mod) (n mld : Nat) : Mod := (m.wr (PTP.MLD n) mld).onEts fun x => { x with heard := SMap.set 0 x.heard n m.tick }

/-- The link delay is in a register of its own. -/
theorem rd_linkTimed (m : Mod) (n : Fin 2) (mld : Nat) (g : Fld) (hg : (PTP.MLD n).key ≠ g.key) : (m.linkTimed n mld).rd g = m.rd g :=
  (rd_congr (u := m.wr (PTP.MLD n) mld) rfl g).trans (rd_wr_other _ _ _ _ hg)

theorem mld_ne (n : Fin 2) : ∀ g ∈ [PTP.SLAVE, PTP.DOMAIN, PTP.LOG_SYNC, PTP.OFFSET, FRM.SYNC, PTP.EPOCH_LO, PTP.EPOCH_HI], (PTP.MLD n).key ≠ g.key := by
  revert n
  decide

theorem followUp_heard {m : Mod} {n : Fin 2} {dom : Nat} (origin mld cyc : Nat) (hen : m.on PTP.EN = true) (hdom : m.rd PTP.DOMAIN = dom) (hears : m.bbHears n = true)
    (hslave : m.rd PTP.SLAVE ≠ n) : m.followUp n dom origin mld cyc = m.linkTimed n mld := by
  have hslave' : (m.linkTimed n mld).rd PTP.SLAVE ≠ n := by
    rw [rd_linkTimed _ _ _ _ (mld_ne n _ (by simp))]
    exact hslave
  simp only [followUp, hen, hears, hdom, not_true_eq_false, ne_eq, or_self, if_false]
  exact if_pos hslave'

/-- On the slave port of a Frame that is not synchronised a Follow_Up shows the offset and begins the synchronisation. -/
theorem followUp_slave {m : Mod} {n : Fin 2} {dom : Nat} (origin mld cyc : Nat) (hen : m.on PTP.EN = true) (hdom : m.rd PTP.DOMAIN = dom) (hears : m.bbHears n = true)
    (hslave : m.rd PTP.SLAVE = n) (hsync : m.rd FRM.SYNC = 0) (hepoch : m.ets.epochSet = false) :
    ∃ ph : Int, m.followUp n dom origin mld cyc = ((m.linkTimed n mld).wr PTP.OFFSET
      (signedField 32 ((m.epoch + m.tick * 10000 + cyc * 5 : Nat) - (origin + mld : Nat)))).phaseUpdate ph := by
  have hu : ∀ u : Mod, u = m.linkTimed n mld → u.rd PTP.SLAVE = n ∧ u.rd FRM.SYNC = 0 ∧ u.epoch = m.epoch ∧ u.tick = m.tick ∧ u.ets.epochSet = false := by
    rintro u rfl
    have hrd (g : Fld) (hg : g ∈ [PTP.SLAVE, PTP.DOMAIN, PTP.LOG_SYNC, PTP.OFFSET, FRM.SYNC, PTP.EPOCH_LO, PTP.EPOCH_HI]) :
        (m.linkTimed n mld).rd g = m.rd g := rd_linkTimed _ _ _ _ (mld_ne n _ hg)
    refine ⟨(hrd _ (by simp)).trans hslave, (hrd _ (by simp)).trans hsync, ?_, rfl, hepoch⟩
    rw [epoch, epoch, hrd _ (by simp), hrd _ (by simp)]
  obtain ⟨u, hud⟩ : ∃ u, u = m.linkTimed n mld := ⟨_, rfl⟩
  obtain ⟨hs, hf, he, ht, hes⟩ := hu u hud
  obtain ⟨off, hoff⟩ : ∃ o : Int, o = (m.epoch + m.tick * 10000 + cyc * 5 : Nat) - (origin + mld : Nat) := ⟨_, rfl⟩
  obtain ⟨v, hv⟩ : ∃ v, v = u.wr PTP.OFFSET (signedField 32 off) := ⟨_, rfl⟩
  have hvs : v.rd FRM.SYNC = 0 := by
    rw [hv, rd_wr_other _ _ _ _ (by decide)]
    exact hf
  obtain ⟨w, hw⟩ : ∃ w, w = v.phaseUpdate (off - (off + 5000) / 10000 * 10000) := ⟨_, rfl⟩
  obtain ⟨hws, -, hwe, -, -⟩ := phaseUpdate_unsynced _ hvs hw
  have hwes : w.ets.epochSet = false := by
    rw [hwe, hv]
    exact hes
  refine ⟨off - (off + 5000) / 10000 * 10000, ?_⟩
  rw [← hud, ← hoff, ← hv, ← hw]
  have hoff' : ((u.epoch + (u.tick * 10000 + cyc * 5) : Nat) : Int) - (origin + mld : Nat) = off := by
    rw [he, ht, ← Nat.add_assoc]
    exact hoff.symm
  simp only [followUp, hen, hears, hdom, not_true_eq_false, ne_eq, or_self, if_false]
  rw [show (m.wr (PTP.MLD n) mld).onEts (fun x => { x with heard := SMap.set 0 x.heard n m.tick }) = u from hud.symm]
  simp only [hs, hoff', ← hv, ← hw, hwes, hws, not_true_eq_false, if_false]
  rfl

/-- A frame that fits its queue's guaranteed part is queued. -/
theorem egressPut_fits {m : Mod} {e q len : Nat} (h : (SMap.get [] m.ets.queues (8 * e + q)).sum + len ≤ 4096) :
    SMap.get [] (m.egressPut e q len).ets.queues (8 * e + q) = SMap.get [] m.ets.queues (8 * e + q) ++ [len] ∧
      (m.egressPut e q len).regs = m.regs ∧ (m.egressPut e q len).mem = m.mem := by
  unfold egressPut
  rw [if_pos (.inl h)]
  exact ⟨SMap.get_set_same _ _ _ _, rfl, rfl⟩

/-- Sync and Follow_Up on a port whose queues are empty. -/
theorem syncQueued_shows {m u : Mod} (n : Nat) (hempty : ∀ q, SMap.get [] m.ets.queues (8 * (2 + n) + q) = []) (hregs : u.regs = m.regs)
    (hmem : u.mem = m.mem) (hqueues : u.ets.queues = m.ets.queues) {t : Mod}
    (ht : t = ((u.egressPut (2 + n) (u.rd ETS.DEF_PCP) 64).egressPut (2 + n) (u.rd ETS.DEF_PCP) 94).settle) :
    SMap.get [] t.ets.queues (8 * (2 + n) + m.rd ETS.DEF_PCP) = [64, 94] ∧ t.mem = m.mem ∧ m.KeepsRegs [] t := by
  subst ht
  rw [rd_congr hregs]
  generalize m.rd ETS.DEF_PCP = q
  have hnone : SMap.get [] u.ets.queues (8 * (2 + n) + q) = [] := by rw [hqueues, hempty q]
  obtain ⟨h1, hr1, hm1⟩ := egressPut_fits (m := u) (e := 2 + n) (q := q) (len := 64) (by rw [hnone]; decide)
  rw [hnone] at h1
  generalize u.egressPut (2 + n) q 64 = v at *
  obtain ⟨h2, hr2, hm2⟩ := egressPut_fits (m := v) (e := 2 + n) (q := q) (len := 94) (by rw [h1]; decide)
  refine ⟨?_, by rw [settle_mem, hm2, hm1, hmem], KeepsRegs.settle _ _ _ (KeepsRegs.of_regs _ _ m _ (KeepsRegs.refl _ _) (hr2.trans (hr1.trans hregs)))⟩
  rw [settle_ets, h2, h1]
  rfl

/-- The time of a Sync is in no register, no byte of memory and no queue. -/
theorem syncTimed_leaves (m : Mod) (n : Nat) (v : Nat × Bool) :
    (m.onEts fun x => { x with sync := SMap.set (0, false) x.sync n v }).regs = m.regs ∧
      (m.onEts fun x => { x with sync := SMap.set (0, false) x.sync n v }).mem = m.mem ∧
      (m.onEts fun x => { x with sync := SMap.set (0, false) x.sync n v }).ets.queues = m.ets.queues := ⟨rfl, rfl, rfl⟩

/-- A master port in Normal sends. -/
theorem syncTx_shows {m : Mod} (n cyc : Nat) (hen : m.on PTP.EN = true) (hmaster : m.bit PTP.TS_MASTER n = true)
    (hnormal : m.rd (TRX.STATE (0x38 + n)) = 3) (hempty : ∀ q, SMap.get [] m.ets.queues (8 * (2 + n) + q) = []) {t : Mod}
    (ht : t = (if m.on PTP.EN ∧ m.bit PTP.TS_MASTER n ∧ m.rd (TRX.STATE (0x38 + n)) = 3 then
      let raised := m.rd FRM.SYNC = 0 || m.rd FRM.SYNC = 3
      let m := m.onEts fun x => { x with sync := SMap.set (0, false) x.sync n (m.epoch + m.tick * 10000 + cyc * 5, raised) }
      (m.egressPut (2 + n) (m.rd ETS.DEF_PCP) 64).egressPut (2 + n) (m.rd ETS.DEF_PCP) 94
    else m).settle) :
    SMap.get [] t.ets.queues (8 * (2 + n) + m.rd ETS.DEF_PCP) = [64, 94] ∧ t.mem = m.mem ∧ m.KeepsRegs [] t := by
  rw [if_pos ⟨hen, hmaster, hnormal⟩] at ht
  obtain ⟨hregs, hmem, hqueues⟩ := syncTimed_leaves m n (m.epoch + m.tick * 10000 + cyc * 5, m.rd FRM.SYNC = 0 || m.rd FRM.SYNC = 3)
  exact syncQueued_shows n hempty hregs hmem hqueues ht

end Mod

open Machine.Mod Reg

/-- Settles O40. -/
theorem vehicleTimeAndAcfFrames : Obligations.VehicleTimeAndAcfFrames := by
  intro s n
  refine ⟨fun dom origin mld cyc hno => State.runs_next s _ _ _ rfl ?_, fun dom origin mld cyc hen hdom hears hslave => State.runs_next s _ _ _ rfl ?_,
    fun dom origin mld cyc hen hdom hears hslave hsync hepoch hroom => State.runs_next s _ _ _ rfl ?_,
    fun hen hstandby hslave hmissed hheard hroom => State.runs_next s _ _ _ rfl ?_,
    fun cyc hen hmaster hnormal hempty => State.runs_next s _ _ _ rfl ?_, fun sid seq cyc msgs htakes hrun hnone => State.runs_next s _ _ _ rfl ?_,
    fun i sid seq cyc htakes hrun hsome => State.runs_next s _ _ _ rfl ?_⟩
  · have hid : s.mod.followUp n dom.toNat origin.toNat mld.toNat cyc.toNat = s.mod := by
      unfold followUp
      refine if_pos (.inr ?_)
      rcases hno with hno | hno
      · exact .inr hno
      · exact .inl (by simp [hno])
    simp only
    rw [hid]
    exact OnlyRegs.settle _ _ _ (OnlyRegs.refl _ _)
  · simp only
    rw [followUp_heard _ _ _ hen hdom hears hslave]
    have hder : ∀ k : Fin 2, (PTP.MLD k).key ∉ derivedKeys := by decide
    refine ⟨?_, ?_, by rw [settle_mem]; rfl, KeepsRegs.settle _ _ _ (KeepsRegs.of_regs _ _ (s.mod.wr (PTP.MLD n) mld.toNat) _ ?_ rfl)⟩
    · rw [rd_settle _ _ (hder n)]
      exact (rd_congr (u := s.mod.wr (PTP.MLD n) mld.toNat) rfl _).trans (rd_wr_same _ _ _)
    · have hheard : SMap.get 0 (s.mod.linkTimed n mld.toNat).settle.ets.heard n = s.mod.tick := by
        rw [settle_ets]
        exact SMap.get_set_same _ _ _ _
      have hlog : (s.mod.linkTimed n mld.toNat).settle.updateTicks = s.mod.updateTicks := by
        rw [updateTicks, updateTicks, rd_settle _ _ (by decide), rd_linkTimed _ _ _ _ (mld_ne n _ (by simp))]
      have htick : (s.mod.linkTimed n mld.toNat).settle.tick = s.mod.tick := by
        rw [tick, settle_frm]
        rfl
      rw [missed, hheard, hlog, htick]
    · rw [keepsRegs_wr (by simp)]
      exact KeepsRegs.refl _ _
  · simp only
    obtain ⟨ph, hph⟩ := followUp_slave origin.toNat mld.toNat cyc.toNat hen hdom hears hslave hsync hepoch
    rw [hph]
    clear hph
    obtain ⟨off, hoff⟩ : ∃ o : Int, o = (s.mod.epoch + s.mod.tick * 10000 + cyc.toNat * 5 : Nat) - (origin.toNat + mld.toNat : Nat) := ⟨_, rfl⟩
    rw [← hoff]
    obtain ⟨v, hv⟩ : ∃ v, v = (s.mod.linkTimed n mld.toNat).wr PTP.OFFSET (signedField 32 off) := ⟨_, rfl⟩
    have hvs : v.rd FRM.SYNC = 0 := by
      rw [hv, rd_wr_other _ _ _ _ (by decide), rd_linkTimed _ _ _ _ (mld_ne n _ (by simp))]
      exact hsync
    have hvo : v.rd PTP.OFFSET = signedField 32 off := by
      rw [hv, rd_wr_same]
      exact Nat.mod_eq_of_lt (signedField_lt 32 (by decide) off)
    have hkeep : s.mod.KeepsRegs ([PTP.MLD n, PTP.OFFSET, FRM.PHASE_ERR, FRM.SLEW_LEFT, FRM.SYNC] ++ evtFlds 0x0A) v := by
      rw [hv, keepsRegs_wr (by simp)]
      refine KeepsRegs.of_regs _ _ (s.mod.wr (PTP.MLD n) mld.toNat) _ ?_ rfl
      rw [keepsRegs_wr (by simp)]
      exact KeepsRegs.refl _ _
    have hparts : v.mem = s.mod.mem ∧ v.evt = s.mod.evt ∧ v.tick = s.mod.tick := by
      rw [hv]
      exact ⟨rfl, rfl, rfl⟩
    rw [← hv]
    clear hv
    obtain ⟨hmem, hevt, htick⟩ := hparts
    obtain ⟨t, ht⟩ : ∃ t, t = v.phaseUpdate ph := ⟨_, rfl⟩
    obtain ⟨hts, htm, -, hrep, htk⟩ := phaseUpdate_unsynced ph hvs ht
    rw [← ht]
    refine ⟨?_, (rd_settle _ _ (by decide)).trans hts, ?_, by rw [settle_mem, htm, hmem], KeepsRegs.settle _ _ _ (hkeep.trans (htk.mono ?_))⟩
    · exact ((rd_settle _ _ (by decide)).trans (htk _ (by decide))).trans hvo
    · have hroom' : v.Room 1 := by
        rw [Room, hevt]
        exact hroom
      have hrep' := hrep hroom'
      rw [Reported, hevt, mkEvt_of_tick htick] at hrep'
      exact reported_settle.2 hrep'
    · simp only [phaseFlds]
      exact fun f hf => List.mem_cons_of_mem _ (List.mem_cons_of_mem _ hf)
  · simp only
    rw [if_pos ⟨hen, hstandby, hmissed, by simp [hheard]⟩]
    refine ⟨?_, ?_, reported_settle.2 (reported_ev _ _ _ _ rfl rfl hroom), by rw [settle_mem, ev_mem]; rfl, KeepsRegs.settle _ _ _ ?_⟩
    · rw [rd_settle _ _ (by decide), rd_ev_own _ _ _ _ _ _ (by decide) (by decide) (by decide), rd_inc_other _ _ _ (by decide), rd_wr_same]
      exact Nat.mod_eq_of_lt (by change _ < 2; omega)
    · rw [rd_settle _ _ (by decide), rd_ev_own _ _ _ _ _ _ (by decide) (by decide) (by decide), rd_inc_same, rd_wr_other _ _ _ _ (by decide)]
    · rw [keepsRegs_ev (List.subset_append_right _ _) (by decide), keepsRegs_inc (by simp), keepsRegs_wr (by simp)]
      exact KeepsRegs.refl _ _
  · exact syncTx_shows n cyc.toNat hen hmaster hnormal hempty rfl
  · rw [if_neg (not_or.2 ⟨by simp [htakes], by omega⟩), hnone]
    refine ⟨?_, OnlyRegs.settle _ _ _ (OnlyRegs.wr _ _ _ _ _ (OnlyRegs.refl _ _) (by simp))⟩
    rw [rd_settle _ _ (by decide)]
    exact rd_inc_same _ _
  · rw [if_neg (not_or.2 ⟨by simp [htakes], by omega⟩), hsome]
    simp only [acfMsgs, acfMsg]
    refine ⟨?_, ?_, OnlyRegs.settle _ _ _ (OnlyRegs.wr _ _ _ _ _ (OnlyRegs.wr _ _ _ _ _ (OnlyRegs.refl _ _) (by simp)) (by simp))⟩
    · rw [rd_settle _ _ (by decide), rd_inc_other _ _ _ (by decide), rd_inc_same]
    · rw [rd_settle _ _ (by decide), rd_inc_same, rd_inc_other _ _ _ (by decide)]

end Sys2Proof.Machine

/-! ### Vinko: what a response is, and how a request reaches its window (R328 to R333) -/
namespace Sys2Proof.Machine

namespace Mod
open Reg

/-- What the way of a transaction of slot `slot` to its response leaves: all but Vinko's state, the packet numbers of the ports and the
registers in which a response is counted. -/
def RspOnly (slot : Nat) (m t : Mod) : Prop := { t with regs := m.regs, vnk := m.vnk, bbs := m.bbs } = m ∧ m.KeepsRegs (rspFlds slot) t

theorem RspOnly.refl (slot : Nat) (m : Mod) : RspOnly slot m m := ⟨rfl, KeepsRegs.refl _ _⟩

theorem RspOnly.trans {slot : Nat} {m t u : Mod} (h : RspOnly slot m t) (hu : RspOnly slot t u) : RspOnly slot m u := by
  refine ⟨?_, h.2.trans hu.2⟩
  calc { u with regs := m.regs, vnk := m.vnk, bbs := m.bbs }
      = { ({ u with regs := t.regs, vnk := t.vnk, bbs := t.bbs } : Mod) with regs := m.regs, vnk := m.vnk, bbs := m.bbs } := rfl
    _ = { t with regs := m.regs, vnk := m.vnk, bbs := m.bbs } := by rw [hu.1]
    _ = m := h.1

theorem RspOnly.wr {slot : Nat} {m t : Mod} (h : RspOnly slot m t) (f : Fld) (v : Nat) (hf : f ∈ rspFlds slot) : RspOnly slot m (t.wr f v) :=
  ⟨h.1, (keepsRegs_wr hf _ _ _).2 h.2⟩

theorem RspOnly.onVnk {slot : Nat} {m t : Mod} (h : RspOnly slot m t) (f : VnkX → VnkX) : RspOnly slot m (t.onVnk f) := h

theorem RspOnly.onBb {slot : Nat} {m t : Mod} (h : RspOnly slot m t) (n : Nat) (f : BbX → BbX) : RspOnly slot m (t.onBb n f) := h

theorem RspOnly.mem {slot : Nat} {m t : Mod} (h : RspOnly slot m t) : t.mem = m.mem := (show ({ t with regs := m.regs, vnk := m.vnk, bbs := m.bbs } : Mod).mem = m.mem by rw [h.1])
theorem RspOnly.upd {slot : Nat} {m t : Mod} (h : RspOnly slot m t) : t.upd = m.upd := (show ({ t with regs := m.regs, vnk := m.vnk, bbs := m.bbs } : Mod).upd = m.upd by rw [h.1])
theorem RspOnly.boot {slot : Nat} {m t : Mod} (h : RspOnly slot m t) : t.boot = m.boot := (show ({ t with regs := m.regs, vnk := m.vnk, bbs := m.bbs } : Mod).boot = m.boot by rw [h.1])

/-- The copies of a frame on the backbone ports. -/
theorem bbCopies_leave (slot : Nat) (m : Mod) : ∀ t, t = forN 2 (fun m n => if m.bbSends n then m.bbSent n else m) m → t.vnk = m.vnk ∧ RspOnly slot m t := by
  rintro t rfl
  refine forN_induction (P := fun a : Mod => a.vnk = m.vnk ∧ RspOnly slot m a) 2 (fun i hi a ha => ?_) ⟨rfl, RspOnly.refl _ _⟩
  have hmem : BB.TX_OK_CNT i ∈ rspFlds slot := by
    obtain rfl | rfl : i = 0 ∨ i = 1 := by omega
    · simp [rspFlds]
    · simp [rspFlds]
  split
  · exact ⟨ha.1, (ha.2.wr _ _ hmem).onBb _ _⟩
  · exact ha

/-- A response of the host port. -/
theorem hostSend_shows (m : Mod) (slot seq : Nat) (body : List Nat) {t : Mod} (ht : t = m.hostSend .rsp slot seq body) :
    t.vnk.out = m.vnk.out ++ [⟨.rsp, slot, seq, SMap.get 0 m.vnk.rtag (16 + slot), body, (m.outAddr .rsp slot).1, (m.outAddr .rsp slot).2.1,
      (m.outAddr .rsp slot).2.2⟩] ∧ t.vnk.open_ = m.vnk.open_ ∧ RspOnly slot m t := by
  obtain ⟨u, hu⟩ : ∃ u, u = (m.outPut .rsp slot seq (SMap.get 0 m.vnk.rtag (16 + slot)) body).onVnk fun x =>
      { x with rtag := SMap.set 0 x.rtag (16 + slot) ((SMap.get 0 m.vnk.rtag (16 + slot) + 1) % 65536) } := ⟨_, rfl⟩
  have hparts : u.vnk.out = m.vnk.out ++ [⟨.rsp, slot, seq, SMap.get 0 m.vnk.rtag (16 + slot), body, (m.outAddr .rsp slot).1, (m.outAddr .rsp slot).2.1,
      (m.outAddr .rsp slot).2.2⟩] ∧ u.vnk.open_ = m.vnk.open_ ∧ RspOnly slot m u := by
    subst hu
    exact ⟨rfl, rfl, ((RspOnly.refl _ _).onVnk _).onVnk _⟩
  have hsend : m.hostSend .rsp slot seq body = forN 2 (fun m n => if m.bbSends n then m.bbSent n else m) u := by
    rw [hu]
    rfl
  obtain ⟨hout, hopen, honly⟩ := hparts
  obtain ⟨hv, hcopies⟩ := bbCopies_leave slot u t (ht.trans hsend)
  exact ⟨by rw [hv, hout], by rw [hv, hopen], honly.trans hcopies⟩

/-- The address of a slot, and the priority of a response, are not counted in. -/
theorem outAddr_keeps {m t : Mod} (slot : Fin 16) (h : m.KeepsRegs (rspFlds slot) t) : t.outAddr .rsp slot = m.outAddr .rsp slot := by
  have hkeys : ∀ k : Fin 16, (∀ f ∈ shown ++ rspFlds k, f.key ≠ (VNK.INIT_MAC_LO k).key) ∧ (∀ f ∈ shown ++ rspFlds k, f.key ≠ (VNK.INIT_MAC_HI k).key) ∧
      ∀ f ∈ shown ++ rspFlds k, f.key ≠ ETS.DEF_PCP.key := by decide
  obtain ⟨hlo, hhi, hpcp⟩ := hkeys slot
  simp only [outAddr, h _ hlo, h _ hhi, h _ hpcp]

/-- The response to a transaction that is not posted. -/
theorem complete_shows {m : Mod} {q : Txn} (hposted : q.posted = false) (code aux : Nat) (payload : List Nat) {t : Mod} (ht : t = m.complete q code aux payload) :
    (∃ u, t = u.hostSend .rsp q.slot q.seq (vnkHeader true false q.op q.seq q.win code payload.length q.addr aux ++ payload) ∧ u.vnk.out = m.vnk.out ∧
      u.vnk.rtag = m.vnk.rtag ∧ u.vnk.open_ = m.vnk.open_.erase q ∧ RspOnly q.slot m u) := by
  obtain ⟨a, ha⟩ : ∃ a, a = m.txnClose q := ⟨_, rfl⟩
  have ha' : a.vnk = { m.vnk with open_ := m.vnk.open_.erase q } ∧ RspOnly q.slot m a := by
    subst ha
    exact ⟨rfl, ((RspOnly.refl _ _).onVnk _).wr _ _ (by simp [rspFlds])⟩
  obtain ⟨b, hb⟩ : ∃ b, b = if code = 6 ∨ code = 0xA then a else a.remember q code := ⟨_, rfl⟩
  have hb' : b.vnk.out = m.vnk.out ∧ b.vnk.rtag = m.vnk.rtag ∧ b.vnk.open_ = m.vnk.open_.erase q ∧ RspOnly q.slot m b := by
    obtain ⟨hv, honly⟩ := ha'
    subst hb
    split
    · exact ⟨by rw [hv], by rw [hv], by rw [hv], honly⟩
    · refine ⟨?_, ?_, ?_, honly.onVnk _⟩
      all_goals
        simp only [remember, Mod.onVnk, hv]
  obtain ⟨u, hu⟩ : ∃ u, u = b.codeCount code := ⟨_, rfl⟩
  have hu' : u.vnk = b.vnk ∧ RspOnly q.slot m u := by
    subst hu
    unfold codeCount
    repeat' split
    · exact ⟨rfl, hb'.2.2.2.wr _ _ (by simp [rspFlds])⟩
    · exact ⟨rfl, hb'.2.2.2.wr _ _ (by simp [rspFlds])⟩
    · exact ⟨rfl, hb'.2.2.2.wr _ _ (by simp [rspFlds])⟩
    · exact ⟨rfl, hb'.2.2.2⟩
  obtain ⟨hout, hrtag, hopen, -⟩ := hb'
  refine ⟨u, ?_, by rw [hu'.1, hout], by rw [hu'.1, hrtag], by rw [hu'.1, hopen], hu'.2⟩
  rw [ht, complete]
  simp only [← ha, ← hb, hposted, Bool.false_eq_true, if_false, response, ← hu]

/-- A transaction is answered at the end of a way that sent nothing else. -/
theorem complete_answers {m u t : Mod} {q : Txn} (slot : Fin 16) (hslot : q.slot = slot) (hposted : q.posted = false) (code aux : Nat) (payload : List Nat)
    (ht : t = (u.complete q code aux payload).settle) (hout : u.vnk.out = m.vnk.out) (hrtag : u.vnk.rtag = m.vnk.rtag)
    (hopen : u.vnk.open_.erase q = m.vnk.open_.erase q) : m.Answers q code aux payload t ∧ RspOnly slot u t := by
  obtain ⟨v, hv⟩ : ∃ v, v = u.complete q code aux payload := ⟨_, rfl⟩
  obtain ⟨w, hw, hwout, hwtag, hwopen, hwonly⟩ := complete_shows hposted code aux payload hv
  obtain ⟨hvout, hvopen, hvonly⟩ := hostSend_shows w q.slot q.seq _ hw
  rw [← hv] at ht
  clear hv hw
  rw [hslot] at hvonly hwonly
  have huv : RspOnly slot u v := hwonly.trans hvonly
  have hut : RspOnly slot u t := ⟨by rw [ht, settle_regs_only]; exact huv.1, ht ▸ KeepsRegs.settle _ _ _ huv.2⟩
  have hvnk : t.vnk = v.vnk := by rw [ht, settle_vnk]
  have haddr : w.outAddr .rsp q.slot = t.outAddr .rsp q.slot := by
    rw [hslot, outAddr_keeps slot hut.2, outAddr_keeps slot hwonly.2]
  refine ⟨⟨?_, ?_⟩, hut⟩
  · rw [hvnk, hvout, hwout, hwtag, hout, hrtag, haddr]
  · rw [hvnk, hvopen, hwopen, hopen]

/-! #### The intake of a request -/

/-- A request that is heard is checked, and its transaction begins or is refused. -/
theorem vnkIntake_heard {m : Mod} {r : VnkReq} {k : Nat} (h : m.Hears r k) (op : Nat) (payload : List Nat) (cyc : Nat) (f : Txn → Txn) {t : Txn}
    (ht : t = f (m.txnOf r k op payload)) :
    m.vnkIntake r op payload cyc f = if m.vnkCheck t false = 0 then (m.updHeard k).vnkBegin t cyc else m.vnkFail t (m.vnkCheck t false) := by
  obtain ⟨hen, hrun, htakes, hinit, hnp, hform, hwin, -, -, -⟩ := h
  have htxn : f
      { slot := k, seq := r.seq.toNat, op := op, win := r.win.toNat % 64, posted := false,
        addr := r.addr.toNat, aux := r.aux.toNat, payload := payload, tick := m.tick, port := r.port } = t := by
    rw [ht, txnOf, Nat.mod_eq_of_lt hwin]
  have hcond : ¬ (¬ m.on VNK.EN = true ∨ 2 ≤ m.pstate ∨ ¬ m.bbTakes r.port = true) := by
    rintro (hc | hc | hc)
    · exact hc hen
    · omega
    · exact hc htakes
  unfold vnkIntake
  rw [if_neg hcond]
  simp only [initiator, hinit, hnp, hform, Bool.false_and, Bool.or_false, htxn, decide_eq_false (show ¬ 64 ≤ r.win.toNat by omega)]

/-- The checks of a first request (R333). -/
theorem vnkCheck_first {m : Mod} {t : Txn} (hopen : m.vnk.open_ = []) (hhist : SMap.get [] m.vnk.hist t.slot = []) :
    m.vnkCheck t false = if t.badForm then 5 else if ¬ opFits t.op (m.rd (VNK.WIN_TYPE t.win)) then 4 else if t.op = 0xC then 0
      else if ¬ m.on (VNK.WIN_EN t.win) then 2 else if ¬ m.permits t then 1 else if m.badAddr t then 3 else 0 := by
  have hrep : m.repeated t = none := by rw [repeated, hhist]; rfl
  have hfull : m.full t = false := by
    rw [full, hopen]
    cases t.posted <;> rfl
  simp only [vnkCheck, hrep, hfull, Bool.false_or, Option.isSome_none, Bool.false_eq_true, if_false]

/-- A refused request that is not posted is answered with its code. -/
theorem vnkFail_answers {m t : Mod} {q : Txn} (slot : Fin 16) (hslot : q.slot = slot) (hposted : q.posted = false) {code : Nat} (hcode : code ≠ 0xA)
    (ht : t = (m.vnkFail q code).settle) : m.Answers q code 0 [] t ∧ t.mem = m.mem ∧ m.KeepsRegs (rspFlds slot) t := by
  have hfail : m.vnkFail q code = m.complete q code 0 [] := by
    unfold vnkFail
    rw [if_neg (by simp [hposted]), if_neg hcode]
  rw [hfail] at ht
  obtain ⟨hans, honly⟩ := complete_answers slot hslot hposted code 0 [] ht rfl rfl rfl
  exact ⟨hans, honly.mem, honly.2⟩

/-! #### A transaction that is open alone -/

/-- The state in which a first transaction of slot `k` is open. -/
theorem opened_shows {m : Mod} {k : Fin 16} {t : Txn} (hopen : m.vnk.open_ = []) (hslot : t.slot = k) {u : Mod} (hu : u = (m.updHeard k).vnkOpen t) :
    u.vnk = { m.vnk with open_ := [t] } ∧ { u with regs := m.regs, vnk := m.vnk, upd := m.upd } = m ∧ u.upd = (m.updHeard k).upd ∧
      (t.posted = false → u.rd (VNK.INIT_OPEN k) = 1) ∧ (∀ g : Fld, (VNK.INIT_OPEN k).key ≠ g.key → u.rd g = m.rd g) := by
  subst hu
  have hheard : ∀ v : Mod, v = m.updHeard k → v.vnk = m.vnk ∧ v.regs = m.regs ∧ { v with upd := m.upd } = m := by
    rintro v rfl
    unfold updHeard
    split <;> exact ⟨rfl, rfl, rfl⟩
  obtain ⟨v, hv⟩ : ∃ v, v = m.updHeard k := ⟨_, rfl⟩
  obtain ⟨hvnk, hregs, honly⟩ := hheard v hv
  rw [← hv]
  obtain ⟨n, hn⟩ : ∃ n, n = ((v.vnk.open_ ++ [t]).filter fun e => e.slot = t.slot ∧ ¬ e.posted).length := ⟨_, rfl⟩
  have hopened : v.vnkOpen t = (v.onVnk fun x => { x with open_ := x.open_ ++ [t] }).wr (VNK.INIT_OPEN k) n := by rw [hn, ← hslot]; rfl
  rw [hopened]
  refine ⟨?_, ?_, rfl, fun hposted => ?_, fun g hg => ?_⟩
  · rw [wr_vnk]
    simp only [onVnk, hvnk, hopen, List.nil_append]
  · exact (congrArg (fun x : Mod => { x with regs := m.regs, vnk := m.vnk }) honly)
  · have hone : n = 1 := by
      rw [hn, hvnk, hopen]
      simp [hposted]
    rw [rd_wr_same, hone]
    rfl
  · rw [rd_wr_other _ _ _ _ hg]
    exact rd_congr hregs g

/-- The registers of the windows are not the counts of open transactions. -/
theorem winFlds_ne (k : Fin 16) (w : Nat) : ∀ g ∈ [VNK.WIN_EN w, VNK.WIN_TYPE w, VNK.WIN_RD w, VNK.WIN_WR w, VNK.RD_PREF w, VNK.WIN_SEL w, VNK.WIN_BASE w,
    VNK.WIN_SIZE w, VNK.INIT_MASK w], (VNK.INIT_OPEN k).key ≠ g.key := by
  simp only [List.mem_cons, List.not_mem_nil, or_false, forall_eq_or_imp, forall_eq, VNK.INIT_OPEN, VNK.WIN_EN, VNK.WIN_TYPE, VNK.WIN_RD, VNK.WIN_WR,
    VNK.RD_PREF, VNK.WIN_SEL, VNK.WIN_BASE, VNK.WIN_SIZE, VNK.INIT_MASK, Fld.key, ResetClass.code]
  omega

theorem initOpen_ne (k : Fin 16) {g : Fld} (h : g.key / 524288 ≠ 0x3E) : (VNK.INIT_OPEN k).key ≠ g.key := by
  have hpage : (VNK.INIT_OPEN k).key / 524288 = 0x3E := by
    simp only [VNK.INIT_OPEN, Fld.key, ResetClass.code]
    omega
  exact fun he => h (he ▸ hpage)

/-- The one open transaction is served. -/
theorem vnkServe_single {u : Mod} {t : Txn} (h : u.vnk.open_ = [t]) : u.vnkServe = u.vnkRun t := by
  have hturn : u.inTurn = [t] := by
    have hlt : (t.slot + 15 - SMap.get 0 u.vnk.turn t.win % 16) % 16 < 16 := Nat.mod_lt _ (by decide)
    have hpick : ∀ j, (u.vnk.open_.filter fun e => (e.slot + 15 - SMap.get 0 u.vnk.turn e.win % 16) % 16 = j) =
        if (t.slot + 15 - SMap.get 0 u.vnk.turn t.win % 16) % 16 = j then [t] else [] := by
      intro j
      rw [h, List.filter_cons, List.filter_nil]
      simp only [decide_eq_true_eq]
    simp only [inTurn, hpick]
    generalize (t.slot + 15 - SMap.get 0 u.vnk.turn t.win % 16) % 16 = j at *
    obtain h | h | h | h | h | h | h | h | h | h | h | h | h | h | h | h : j = 0 ∨ j = 1 ∨ j = 2 ∨ j = 3 ∨ j = 4 ∨ j = 5 ∨ j = 6 ∨ j = 7 ∨ j = 8 ∨
        j = 9 ∨ j = 10 ∨ j = 11 ∨ j = 12 ∨ j = 13 ∨ j = 14 ∨ j = 15 := by omega
    all_goals
      rw [h]
      rfl
  rw [vnkServe, hturn]
  rfl

theorem vnkServe_none {u : Mod} (h : u.vnk.open_ = []) : u.vnkServe = u := by
  have hturn : u.inTurn = [] := by simp [inTurn, h]
  rw [vnkServe, hturn]
  rfl

/-- The one open transaction is not held back, where its far side's domain is awake. -/
theorem vnkRun_free {u : Mod} {t : Txn} (h : u.vnk.open_ = [t]) (hfwd : t.fwd = false) (hop : t.op ≠ 8)
    (hfar : ((u.farPort t.win).any fun d => !u.awake d) = false) :
    (u.rd (VNK.WIN_TYPE t.win) = 0 → u.vnkRun t = u.pageRun t) ∧ (u.rd (VNK.WIN_TYPE t.win) = 3 → u.vnkRun t = u.tpRun t) ∧
      (u.rd (VNK.WIN_TYPE t.win) = 5 → u.vnkRun t = u.updRun t) := by
  have hblocked : u.txnBlocked t = false := by simp [txnBlocked, h]
  have hfree : ¬ (¬ u.vnk.open_.contains t = true ∨ t.fwd = true ∨ t.op = 8 ∨ u.txnBlocked t = true) := by
    simp [h, hfwd, hop, hblocked]
  unfold vnkRun
  rw [if_neg hfree, if_neg (by rw [hfar]; decide)]
  refine ⟨fun hty => ?_, fun hty => ?_, fun hty => ?_⟩
  all_goals simp only [hty]

/-- A transaction that passes the checks, neither an IDENTIFY nor a PROMISE, is opened and served. -/
theorem vnkBegin_serves {m : Mod} {t : Txn} (cyc : Nat) (hidn : t.op ≠ 0xC) (hprm : t.op ≠ 8) : m.vnkBegin t cyc = (m.vnkOpen t).vnkServe := by
  rw [vnkBegin, if_neg hidn, if_neg hprm]

end Mod

end Sys2Proof.Machine

/-! ### The checks of a READ in their order (R333) -/
namespace Sys2Proof.Machine

open Machine.Mod Reg

/-- A READ that a check refuses is answered with the check's code. -/
theorem read_refused {s : State} {r : VnkReq} (k : Fin 16) (h : s.mod.Hears r k) {code : Nat} (hcode : code ≠ 0xA) (hne : code ≠ 0)
    (hcheck : s.mod.vnkCheck (s.mod.txnOf r k 1 []) false = code) :
    s.Runs (.read r []) fun m t => m.Answers (s.mod.txnOf r k 1 []) code 0 [] t ∧ t.mem = m.mem ∧ m.KeepsRegs (rspFlds k) t := by
  refine State.runs_next s _ _ _ rfl ?_
  rw [vnkIntake_heard h 1 [] 0 _ (t := s.mod.txnOf r k 1 []) rfl, hcheck, if_neg hne]
  exact vnkFail_answers k rfl rfl hcode rfl

/-- Settles O41: the chain of checks, the first that fails. -/
theorem vinkoChecksInOrder : Obligations.VinkoChecksInOrder := by
  intro s r k h q w base replies
  have hcheck := vnkCheck_first (m := s.mod) (t := q) h.2.2.2.2.2.2.2.1 h.2.2.2.2.2.2.2.2.1
  have hreply (code : Nat) (hcode : code ≠ 0xA) (hne : code ≠ 0) (hc : s.mod.vnkCheck q false = code) : replies code := read_refused k h hcode hne hc
  have hop : q.op = 1 := rfl
  have hform : q.badForm = true ↔ q.aux < 4 ∨ 1024 < q.aux ∨ q.aux % 4 ≠ 0 := by
    simp [Txn.badForm, hop, or_assoc]
  have hfits : ¬ opFits q.op (s.mod.rd (VNK.WIN_TYPE q.win)) = true ↔ s.mod.rd (VNK.WIN_TYPE w) = 1 ∨ 5 ≤ s.mod.rd (VNK.WIN_TYPE w) := by
    change ¬ opFits 1 (s.mod.rd (VNK.WIN_TYPE w)) = true ↔ _
    simp [opFits]
    omega
  have hen : ¬ s.mod.on (VNK.WIN_EN q.win) = true ↔ s.mod.rd (VNK.WIN_EN w) = 0 := by
    change ¬ s.mod.on (VNK.WIN_EN w) = true ↔ _
    simp [on]
  have hperm : ¬ s.mod.permits q = true ↔ s.mod.bit (VNK.INIT_MASK w) k = false ∨ s.mod.rd (VNK.WIN_RD w) = 0 := by
    change ¬ (s.mod.bit (VNK.INIT_MASK w) k && s.mod.on (VNK.WIN_RD w)) = true ↔ _
    simp [on, Decidable.imp_iff_not_or]
  have haddr : s.mod.badAddr q = true ↔ (q.addr + base) % 4 ≠ 0 ∨ q.addr % 4 ≠ 0 ∨ s.mod.rd (VNK.WIN_SIZE w) < q.addr + q.aux := by
    change ((q.addr + base) % 4 ≠ 0 || q.addr % 4 ≠ 0 || (true && decide (s.mod.rd (VNK.WIN_SIZE w) < q.addr + q.aux))) = true ↔ _
    simp [or_assoc]
  by_cases c5 : q.aux < 4 ∨ 1024 < q.aux ∨ q.aux % 4 ≠ 0
  · rw [if_pos c5]
    exact hreply 5 (by decide) (by decide) (by rw [hcheck, if_pos (hform.2 c5)])
  rw [if_neg c5]
  rw [if_neg (fun hc => c5 (hform.1 hc))] at hcheck
  by_cases c4 : s.mod.rd (VNK.WIN_TYPE w) = 1 ∨ 5 ≤ s.mod.rd (VNK.WIN_TYPE w)
  · rw [if_pos c4]
    exact hreply 4 (by decide) (by decide) (by rw [hcheck, if_pos (hfits.2 c4)])
  rw [if_neg c4]
  rw [if_neg (fun hc => c4 (hfits.1 hc)), if_neg (by rw [hop]; decide)] at hcheck
  by_cases c2 : s.mod.rd (VNK.WIN_EN w) = 0
  · rw [if_pos c2]
    exact hreply 2 (by decide) (by decide) (by rw [hcheck, if_pos (hen.2 c2)])
  rw [if_neg c2]
  rw [if_neg (fun hc => c2 (hen.1 hc))] at hcheck
  by_cases c1 : s.mod.bit (VNK.INIT_MASK w) k = false ∨ s.mod.rd (VNK.WIN_RD w) = 0
  · rw [if_pos c1]
    exact hreply 1 (by decide) (by decide) (by rw [hcheck, if_pos (hperm.2 c1)])
  rw [if_neg c1]
  rw [if_neg (fun hc => c1 (hperm.1 hc))] at hcheck
  by_cases c3 : (q.addr + base) % 4 ≠ 0 ∨ q.addr % 4 ≠ 0 ∨ s.mod.rd (VNK.WIN_SIZE w) < q.addr + q.aux
  · rw [if_pos c3]
    exact hreply 3 (by decide) (by decide) (by rw [hcheck, if_pos (haddr.2 c3)])
  rw [if_neg c3]
  trivial

end Sys2Proof.Machine

/-! ### One word of SRAM through a window (R330, R333) -/
namespace Sys2Proof.Machine

theorem beNum_beBytes_word (v : Word) : beNum (beBytes 4 v.toNat) = v.toNat := by
  have hv : v.toNat < 2 ^ 32 := v.isLt
  simp only [beBytes, beNum, List.foldl]
  omega

theorem beWords_word (v : Word) (l : List Nat) : beWords (beBytes 4 v.toNat ++ l) = v.toNat :: beWords l := by
  have hnum := beNum_beBytes_word v
  simp only [beBytes, List.cons_append, List.nil_append, beWords] at hnum ⊢
  rw [hnum]

theorem beBytes_length (n v : Nat) : (beBytes n v).length = n := by
  induction n with
  | zero => rfl
  | succ n ih => simp [beBytes, ih]

/-- The whole word replaced. -/
theorem merged_full (old : Nat) (v : Word) : old &&& (0xFFFFFFFF ^^^ 0xFFFFFFFF) ||| v.toNat &&& 0xFFFFFFFF = v.toNat := by
  rw [Nat.xor_self, Nat.and_zero, Nat.zero_or, show (0xFFFFFFFF : Nat) = 2 ^ 32 - 1 from rfl, Nat.and_two_pow_sub_one_eq_mod]
  exact Nat.mod_eq_of_lt v.isLt

theorem merged_lt (old : Nat) (v mask : Word) : old &&& (0xFFFFFFFF ^^^ mask.toNat) ||| v.toNat &&& mask.toNat < 2 ^ 32 :=
  Nat.or_lt_two_pow (Nat.and_lt_two_pow _ (Nat.xor_lt_two_pow (by decide) mask.isLt)) (Nat.and_lt_two_pow _ mask.isLt)

namespace Mod
open Reg

/-- The address of a window's word. -/
def winAddr (m : Mod) (t : Txn) : Nat := (m.rd (VNK.WIN_BASE t.win) + t.addr) % 2 ^ 32

/-- A transaction on one word of SRAM that passes the checks: READ, WRITE or WRITE_M through a granted window. -/
def WordTxn (m : Mod) (t : Txn) (slot : Nat) : Prop :=
  t.slot = slot ∧ t.posted = false ∧ t.fwd = false ∧ t.ecc = [] ∧ t.span = 4 ∧ t.badForm = false ∧ (t.op = 1 ∨ t.op = 2 ∨ t.op = 3) ∧
    m.rd (VNK.WIN_BASE t.win) % 4 = 0 ∧ t.addr % 4 = 0 ∧ t.addr + 4 ≤ m.rd (VNK.WIN_SIZE t.win) ∧ region (m.winAddr t) = .sram ∧
    m.rd (VNK.RD_PREF t.win) = 0

theorem WordTxn.checked {m : Mod} {r : VnkReq} {k : Fin 16} {t : Txn} (hh : m.Hears r k) (hg : m.Grants r k 0) (hwin : t.win = r.win.toNat)
    (h : m.WordTxn t k) : m.vnkCheck t false = 0 := by
  obtain ⟨hslot, -, -, -, hspan, hform, hop, hbase, haddr, hsize, -, -⟩ := h
  obtain ⟨hty, hen, hmask, hrd, hwr⟩ := hg
  obtain ⟨-, -, -, -, -, -, -, hopen, hhist, -⟩ := hh
  have hfits : opFits t.op (m.rd (VNK.WIN_TYPE t.win)) = true := by
    rw [hwin, hty]
    rcases hop with h | h | h <;> rw [h] <;> rfl
  have hidn : t.op ≠ 0xC := by omega
  have hperm : m.permits t = true := by
    rcases hop with h | h | h <;> simp [permits, hwin, hslot, hmask, h, hrd, hwr]
  have hin : m.badAddr t = false := by
    simp [badAddr, haddr, hspan]
    omega
  rw [vnkCheck_first hopen (by rw [hslot]; exact hhist), if_neg (by rw [hform]; decide), if_neg (by rw [hfits]; decide), if_neg hidn,
    if_neg (by rw [hwin, hen]; decide), if_neg (by rw [hperm]; decide), if_neg (by rw [hin]; decide)]

/-- A transaction on a word of SRAM waits for no domain. -/
theorem pageRun_sram {u : Mod} {t : Txn} (hpref : u.vnk.pref = []) (hspan : t.span = 4) (hreg : region (u.winAddr t) = .sram) :
    u.pageAddrs t = [u.winAddr t] ∧ u.pageRun t = if t.op = 1 then u.pageRead t else u.pageWrite t := by
  have haddrs : u.pageAddrs t = [u.winAddr t] := by simp [pageAddrs, hspan, winAddr]
  have hsleep : u.sleeper (u.winAddr t) = none := by simp only [sleeper, hreg]
  have hhit : u.prefHit t [u.winAddr t] = none := by
    rw [prefHit, hpref]
    rfl
  refine ⟨haddrs, ?_⟩
  rw [pageRun, haddrs, hhit, if_pos (.inl rfl)]
  simp only [List.filterMap_cons, hsleep, List.filterMap_nil, ne_eq, not_true_eq_false, if_false]

theorem pageRead_sram {u : Mod} {t : Txn} (hpref : u.vnk.pref = []) (haddrs : u.pageAddrs t = [u.winAddr t]) (hecc : t.ecc = [])
    (hreg : region (u.winAddr t) = .sram) (hnopref : u.rd (VNK.RD_PREF t.win) = 0) :
    u.pageRead t = u.complete t 0 0 (beBytes 4 (u.load (u.winAddr t) 4)) := by
  have hhit : u.prefHit t [u.winAddr t] = none := by
    rw [prefHit, hpref]
    rfl
  have hdrop : u.prefDrop t.slot = u := by
    rw [prefDrop, hpref]
    rfl
  have hread : u.vnkRead t.slot (u.winAddr t) none = (u, some (u.load (u.winAddr t) 4)) := by
    unfold vnkRead
    simp only [hreg, reduceCtorEq, false_and, if_false]
  have hreads : u.vnkReads t.slot [] [u.winAddr t] = (u, some [u.load (u.winAddr t) 4]) := by
    simp only [vnkReads, List.find?_nil, Option.map_none, hread, Option.map_some]
  have hon : u.on (VNK.RD_PREF t.win) = false := by simp [on, hnopref]
  rw [pageRead, haddrs, hhit]
  simp only [hdrop, hecc, hreads, hon, Bool.false_eq_true, if_false, List.flatMap_cons, List.flatMap_nil, List.append_nil]

theorem pageWrite_sram {u : Mod} {t : Txn} {v mask : Nat} (hpref : u.vnk.pref = []) (haddrs : u.pageAddrs t = [u.winAddr t]) (hreg : region (u.winAddr t) = .sram)
    (hwrites : t.writes = [(v, mask)]) :
    u.pageWrite t = (u.store (u.winAddr t) 4 (u.load (u.winAddr t) 4 &&& (0xFFFFFFFF ^^^ mask) ||| v &&& mask)).complete t 0 0 [] := by
  have hwrite : u.prefWrite t.win = u := by
    refine forN_induction (P := fun a : Mod => a = u) 16 (fun i _ a ha => ?_) rfl
    simp only [ha, hpref, SMap.find?]
  have hfirst : u.firstRefused [(u.winAddr t, v, mask)] = none := by
    simp only [firstRefused, wordRefused, hreg]
  rw [pageWrite, haddrs, hwrites, hwrite]
  simp only [List.zip_cons_cons, List.zip_nil_right, hfirst, List.foldl_cons, List.foldl_nil, vnkWrite, hreg]

/-- A word transaction in the state in which it is open. -/
theorem WordTxn.runs {m : Mod} {r : VnkReq} {k : Fin 16} {t : Txn} (hh : m.Hears r k) (hg : m.Grants r k 0) (hwin : t.win = r.win.toNat)
    (h : m.WordTxn t k) {op : Nat} {payload : List Nat} {f : Txn → Txn} (ht : t = f (m.txnOf r k op payload)) {u : Mod} (hu : u = (m.updHeard k).vnkOpen t) :
    u.winAddr t = m.winAddr t ∧ u.pageAddrs t = [u.winAddr t] ∧ u.mem = m.mem ∧ u.vnk = { m.vnk with open_ := [t] } ∧ m.KeepsRegs (rspFlds k) u ∧
      u.rd (VNK.RD_PREF t.win) = 0 ∧ m.vnkIntake r op payload 0 f = if t.op = 1 then u.pageRead t else u.pageWrite t := by
  have hcheck := h.checked hh hg hwin
  obtain ⟨hslot, -, hfwd, -, hspan, -, hop, -, -, -, hreg, hpref⟩ := h
  have hopen := hh.2.2.2.2.2.2.2.1
  have hnopref := hh.2.2.2.2.2.2.2.2.2
  obtain ⟨hvnk, honly, -, -, hrd⟩ := opened_shows hopen hslot hu
  have hwinrd (g : Fld) (hm : g ∈ [VNK.WIN_EN t.win, VNK.WIN_TYPE t.win, VNK.WIN_RD t.win, VNK.WIN_WR t.win, VNK.RD_PREF t.win, VNK.WIN_SEL t.win,
      VNK.WIN_BASE t.win, VNK.WIN_SIZE t.win, VNK.INIT_MASK t.win]) : u.rd g = m.rd g := hrd g (winFlds_ne k t.win g hm)
  have haddr : u.winAddr t = m.winAddr t := by rw [winAddr, winAddr, hwinrd _ (by simp)]
  have hty : u.rd (VNK.WIN_TYPE t.win) = 0 := by rw [hwinrd _ (by simp), hwin, hg.1]
  have hfar : u.farPort t.win = none := by simp [farPort, hty]
  have hupref : u.vnk.pref = [] := by rw [hvnk]; exact hnopref
  obtain ⟨haddrs, hrun⟩ := pageRun_sram hupref hspan (by rw [haddr]; exact hreg)
  have hmem : u.mem = m.mem := (show ({ u with regs := m.regs, vnk := m.vnk, upd := m.upd } : Mod).mem = m.mem by rw [honly])
  refine ⟨haddr, haddrs, hmem, hvnk, fun g hg => hrd g (hg _ (List.mem_append_right _ (by simp [rspFlds]))), by rw [hwinrd _ (by simp), hpref], ?_⟩
  have huopen : u.vnk.open_ = [t] := by rw [hvnk]
  have hserve := (vnkRun_free huopen hfwd (by omega) (by rw [hfar]; rfl)).1 hty
  rw [vnkIntake_heard hh op payload 0 f ht, hcheck, if_pos rfl, vnkBegin_serves 0 (by omega) (by omega), ← hu, vnkServe_single huopen, hserve, hrun]

/-- A word of SRAM is read. -/
theorem word_read {m : Mod} {r : VnkReq} {k : Fin 16} {t : Txn} (hh : m.Hears r k) (hg : m.Grants r k 0) (hwin : t.win = r.win.toNat) (h : m.WordTxn t k)
    {op : Nat} {payload : List Nat} {f : Txn → Txn} (ht : t = f (m.txnOf r k op payload)) (hop : t.op = 1) {w : Mod} (hw : w = (m.vnkIntake r op payload 0 f).settle) :
    m.Answers t 0 0 (beBytes 4 (m.load (m.winAddr t) 4)) w ∧ w.mem = m.mem ∧ m.KeepsRegs (rspFlds k) w := by
  obtain ⟨u, hu⟩ : ∃ u, u = (m.updHeard k).vnkOpen t := ⟨_, rfl⟩
  obtain ⟨haddr, haddrs, hmem, hvnk, hkeep, hpref, hrun⟩ := h.runs hh hg hwin ht hu
  obtain ⟨hslot, hposted, -, hecc, -, -, -, -, -, -, hreg, -⟩ := h
  have hopen := hh.2.2.2.2.2.2.2.1
  rw [← haddr] at hreg
  rw [if_pos hop, pageRead_sram (by rw [hvnk]; exact hh.2.2.2.2.2.2.2.2.2) haddrs hecc hreg hpref, haddr, load_congr hmem] at hrun
  rw [hrun] at hw
  obtain ⟨hans, honly⟩ := complete_answers (m := m) k hslot hposted 0 0 _ hw (by rw [hvnk]) (by rw [hvnk]) (by rw [hvnk, hopen]; simp)
  exact ⟨hans, honly.mem.trans hmem, hkeep.trans honly.2⟩

/-- A word of SRAM is written under a mask. -/
theorem word_written {m : Mod} {r : VnkReq} {k : Fin 16} {t : Txn} (hh : m.Hears r k) (hg : m.Grants r k 0) (hwin : t.win = r.win.toNat) (h : m.WordTxn t k)
    {op : Nat} {payload : List Nat} {f : Txn → Txn} (ht : t = f (m.txnOf r k op payload)) (hop : t.op ≠ 1) {v mask : Nat} (hwrites : t.writes = [(v, mask)])
    {x : Nat} (hx : x = (m.load (m.winAddr t) 4 &&& (0xFFFFFFFF ^^^ mask) ||| v &&& mask)) (hlt : x < 2 ^ 32)
    {w : Mod} (hw : w = (m.vnkIntake r op payload 0 f).settle) :
    m.Answers t 0 0 [] w ∧ w.load (m.winAddr t) 4 = x ∧ (∀ b, (b < m.winAddr t ∨ m.winAddr t + 4 ≤ b) → w.byte b = m.byte b) ∧ m.KeepsRegs (rspFlds k) w := by
  obtain ⟨u, hu⟩ : ∃ u, u = (m.updHeard k).vnkOpen t := ⟨_, rfl⟩
  obtain ⟨haddr, haddrs, hmem, hvnk, hkeep, -, hrun⟩ := h.runs hh hg hwin ht hu
  obtain ⟨hslot, hposted, -, -, -, -, -, -, -, -, hreg, -⟩ := h
  have hopen := hh.2.2.2.2.2.2.2.1
  rw [← haddr] at hreg
  rw [if_neg hop, pageWrite_sram (by rw [hvnk]; exact hh.2.2.2.2.2.2.2.2.2) haddrs hreg hwrites, haddr, load_congr hmem, ← hx] at hrun
  rw [hrun] at hw
  have hvs : (u.store (m.winAddr t) 4 x).vnk = { m.vnk with open_ := [t] } := by rw [store_only]; exact hvnk
  obtain ⟨hans, honly⟩ := complete_answers (m := m) k hslot hposted 0 0 _ hw (by rw [hvs]) (by rw [hvs]) (by rw [hvs, hopen]; simp)
  refine ⟨hans, ?_, fun b hb => ?_, (KeepsRegs.of_regs _ _ u _ hkeep (store_regs _ _ _ _)).trans honly.2⟩
  · rw [load_congr honly.mem, load_store_same]
    exact Nat.mod_eq_of_lt hlt
  · rw [byte_congr honly.mem, byte_store_other _ _ _ _ _ hb, byte_congr hmem]

end Mod

open Machine.Mod Reg

/-- The identity is answered to any initiator. -/
theorem identify_runs (s : State) (r : VnkReq) (k : Fin 16) (h : s.mod.Hears r k) : s.Runs (.identify r) fun m t =>
    m.Answers (m.txnOf r k 0xC []) 0 0 ((List.range 32).flatMap fun i => beBytes 4 (m.idnWord i)) t ∧ t.mem = m.mem ∧ m.KeepsRegs (rspFlds k) t := by
  refine State.runs_next s _ _ _ rfl ?_
  have hopen := h.2.2.2.2.2.2.2.1
  have hhist := h.2.2.2.2.2.2.2.2.1
  have hop : (s.mod.txnOf r k 0xC []).op = 0xC := rfl
  have hform : (s.mod.txnOf r k 0xC []).badForm = false := by simp [Txn.badForm, txnOf]
  have hcheck : s.mod.vnkCheck (s.mod.txnOf r k 0xC []) false = 0 := by
    rw [vnkCheck_first hopen hhist, if_neg (by rw [hform]; decide), if_neg (by rw [hop]; simp [opFits]), if_pos hop]
  rw [vnkIntake_heard h 0xC [] 0 id (t := s.mod.txnOf r k 0xC []) rfl, hcheck, if_pos rfl, vnkBegin, if_pos hop]
  have hheard : ∀ v : Mod, v = s.mod.updHeard k → v.vnk = s.mod.vnk ∧ v.regs = s.mod.regs ∧ v.mem = s.mod.mem ∧ ∀ i, v.idnWord i = s.mod.idnWord i := by
    rintro v rfl
    unfold updHeard
    split <;> exact ⟨rfl, rfl, rfl, fun _ => rfl⟩
  generalize s.mod.updHeard k = v at *
  obtain ⟨hvnk, hregs, hmem, hidn⟩ := hheard v rfl
  simp only [hidn]
  obtain ⟨hans, honly⟩ := complete_answers (m := s.mod) (u := v) (q := s.mod.txnOf r k 0xC []) k rfl rfl 0 0 _ rfl (by rw [hvnk]) (by rw [hvnk])
    (by rw [hvnk])
  exact ⟨hans, honly.mem.trans hmem, (KeepsRegs.of_regs _ _ s.mod _ (KeepsRegs.refl _ _) hregs).trans honly.2⟩

/-- Settles O42. -/
theorem vinkoReadsAndWritesWords : Obligations.VinkoReadsAndWritesWords := by
  intro s r k hh
  refine ⟨identify_runs s r k hh, ?_⟩
  intro hg haddr hsize hpref a hbase hreg
  refine ⟨fun haux => State.runs_next s _ _ _ rfl ?_, fun v => State.runs_next s _ _ _ rfl ?_, fun v mask => State.runs_next s _ _ _ rfl ?_⟩
  · exact word_read hh hg rfl (t := s.mod.txnOf r k 1 [])
      ⟨rfl, rfl, rfl, rfl, by simp [Txn.span, txnOf, haux], by simp [Txn.badForm, txnOf, haux], .inl rfl, hbase, haddr, hsize, hreg, hpref⟩ rfl rfl rfl
  · have hlen : (beBytes 4 v.toNat).length = 4 := beBytes_length _ _
    have hpayload : [v].flatMap (fun v : Word => beBytes 4 v.toNat) = beBytes 4 v.toNat := by simp
    have hwrites : (s.mod.txnOf r k 2 (beBytes 4 v.toNat)).writes = [(v.toNat, 0xFFFFFFFF)] := by
      have hw := beWords_word v []
      rw [List.append_nil] at hw
      simp only [Txn.writes, txnOf, hw]
      rfl
    rw [hpayload]
    exact word_written hh hg rfl (t := s.mod.txnOf r k 2 (beBytes 4 v.toNat))
      ⟨rfl, rfl, rfl, rfl, by simp [Txn.span, txnOf, hlen], by simp [Txn.badForm, txnOf, beBytes], .inr (.inl rfl), hbase, haddr, hsize, hreg, hpref⟩
      rfl (by simp [txnOf]) hwrites (merged_full _ v).symm v.isLt rfl
  · have hlen : (beBytes 4 v.toNat ++ beBytes 4 mask.toNat).length = 8 := by simp [beBytes_length]
    have hpayload : [(v, mask)].flatMap (fun v : Word × Word => beBytes 4 v.1.toNat ++ beBytes 4 v.2.toNat) = beBytes 4 v.toNat ++ beBytes 4 mask.toNat := by simp
    have hwrites : (s.mod.txnOf r k 3 (beBytes 4 v.toNat ++ beBytes 4 mask.toNat)).writes = [(v.toNat, mask.toNat)] := by
      have hw := beWords_word mask []
      rw [List.append_nil] at hw
      simp only [Txn.writes, txnOf, beWords_word, hw]
      rfl
    rw [hpayload]
    exact word_written hh hg rfl (t := s.mod.txnOf r k 3 (beBytes 4 v.toNat ++ beBytes 4 mask.toNat))
      ⟨rfl, rfl, rfl, rfl, by simp [Txn.span, txnOf, hlen], by simp [Txn.badForm, txnOf, beBytes], .inr (.inr rfl), hbase, haddr, hsize, hreg, hpref⟩
      rfl (by simp [txnOf]) hwrites rfl (merged_lt _ v mask) rfl

end Sys2Proof.Machine

/-! ### Far sides (R340, R345) and the refusals of ACTIVATE (R468) -/
namespace Sys2Proof.Machine

namespace Mod
open Reg

/-- The outcome of the one open transaction, which is not posted and with a T1S node. -/
theorem farComplete_node {m : Mod} {q : Txn} (seq result : Nat) (data : List Nat) (hopen : m.vnk.open_ = [q]) (hseq : q.seq = seq) (hposted : q.posted = false)
    (hfwd : q.fwd = true) (hty : m.rd (VNK.WIN_TYPE q.win) = 4) (hop : q.op = 1) (hlate : m.vnk.late = []) :
    m.farComplete q.slot seq result data = m.complete q (if result = 0 then 0 else 8) (if result = 0 then 0 else 768 + result)
      (if result = 0 then data.take q.aux else []) := by
  have htxn : m.farTxn q.slot seq = some q := by
    rw [farTxn, hopen, hlate, List.append_nil]
    exact List.find?_cons_of_pos (by simp [hseq, hfwd])
  have hserve (code aux : Nat) (payload : List Nat) : (m.complete q code aux payload).vnkServe = m.complete q code aux payload := by
    obtain ⟨u, hu, -, -, hu_open, -⟩ := complete_shows (m := m) hposted code aux payload rfl
    obtain ⟨-, hsent, -⟩ := hostSend_shows u _ _ _ hu
    exact vnkServe_none (by rw [hsent, hu_open, hopen]; simp)
  have hdone (far : Nat) (payload : List Nat) : m.farDone q far payload = m.complete q (if far = 0 then 0 else 8) far payload := by
    simp [farDone, hlate, hopen, hposted]
  rw [farComplete, htxn]
  by_cases hr : result = 0
  · simp [hty, hop, hr, hdone, hserve]
  · simp [hty, hop, hr, hdone, hserve]

/-- The registers of a CAN_TP session are on another page than Vinko's. -/
theorem tpFlds_own : ∀ n : Fin 16, (∀ g ∈ [BRG.TP_EN n, BRG.TP_CTRL n, BRG.TP_STATE n], g.key / 524288 ≠ 0x3E) ∧ (BRG.TP_STATE n).key ∉ derivedKeys := by decide

/-- A message length opens a session (Table 11-9). -/
theorem tpRun_starts {u : Mod} {t : Txn} {n : Nat} (len : Word) (hopen : u.vnk.open_ = [t]) (hfwd : t.fwd = false) (hop : t.op = 2) (haddr : t.addr = 0x2000)
    (hpayload : t.payload = beBytes 4 len.toNat) (hn : u.rd (VNK.WIN_SEL t.win) % 16 = n) (hlen : 1 ≤ len.toNat) (hmax : len.toNat ≤ 4095)
    (hen : u.on (BRG.TP_EN n) = true) : u.tpRun t = (u.wr (BRG.TP_STATE n) 1).farTaken t := by
  have hspan : t.span = 4 := by
    rw [Txn.span, hop, hpayload]
    exact beBytes_length _ _
  have hwrites : t.writes = [(len.toNat, 0xFFFFFFFF)] := by
    have hw := beWords_word len []
    rw [List.append_nil] at hw
    simp only [Txn.writes, hop, hpayload, hw]
    rfl
  have hvalue : len.toNat &&& 0xFFFFFFFF = len.toNat := by
    rw [show (0xFFFFFFFF : Nat) = 2 ^ 32 - 1 from rfl, Nat.and_two_pow_sub_one_eq_mod]
    exact Nat.mod_eq_of_lt len.isLt
  have hfree : u.tpTaken n = false := by simp [tpTaken, hopen, hfwd]
  have hstart : u.tpStart t n len.toNat = (u.wr (BRG.TP_STATE n) 1).farTaken t := by
    unfold tpStart
    rw [if_neg (by omega), if_neg (by simp [hen, hfree])]
  simp only [tpRun, hop, haddr, hspan, hn, hwrites, List.headD_cons, hvalue, hstart]
  rfl

end Mod

open Machine.Mod Reg

/-- A T1S node's outcome becomes the response. -/
theorem farComplete_runs (s : State) (k : Fin 16) (seq : BitVec 16) (result : Byte) (data : List Byte) (q : Txn) (hopen : s.mod.vnk.open_ = [q])
    (hslot : q.slot = k) (hseq : q.seq = seq.toNat) (hposted : q.posted = false) (hfwd : q.fwd = true) (hty : s.mod.rd (VNK.WIN_TYPE q.win) = 4)
    (hop : q.op = 1) (hlate : s.mod.vnk.late = []) : s.Runs (.farComplete k seq result data) fun m t =>
      m.Answers q (if result = 0 then 0 else 8) (if result = 0 then 0 else 768 + result.toNat) (if result = 0 then (data.map (·.toNat)).take q.aux else []) t ∧
        t.mem = m.mem ∧ m.KeepsRegs (rspFlds k) t := by
  refine State.runs_next s _ _ _ rfl ?_
  have hzero : result.toNat = 0 ↔ result = 0 := by
    rw [← BitVec.toNat_inj]
    rfl
  rw [← hslot, farComplete_node seq.toNat result.toNat _ hopen hseq hposted hfwd hty hop hlate]
  simp only [hzero]
  obtain ⟨hans, honly⟩ := complete_answers (m := s.mod) (u := s.mod) k hslot hposted _ _ _ rfl rfl rfl rfl
  rw [hslot]
  exact ⟨hans, honly.mem, honly.2⟩

/-- A message length starts its session. -/
theorem canTpSend_runs (s : State) (r : VnkReq) (k : Fin 16) (len : Word) (hh : s.mod.Hears r k) (hg : s.mod.Grants r k 3)
    (hbase : s.mod.rd (VNK.WIN_BASE r.win.toNat) % 4 = 0) (hsize : 0x2004 ≤ s.mod.rd (VNK.WIN_SIZE r.win.toNat)) (hlen : 1 ≤ len.toNat)
    (hmax : len.toNat ≤ 4095) {n : Nat} (hn : s.mod.rd (VNK.WIN_SEL r.win.toNat) % 16 = n) (hen : s.mod.on (BRG.TP_EN n) = true)
    (hawake : s.mod.awake (4 + s.mod.rd (BRG.TP_CTRL n)) = true) : s.Runs (.canTpSend r len) fun m t => t.rd (BRG.TP_STATE n) = 1 ∧ t.vnk.out = m.vnk.out ∧
      t.vnk.open_ = [{ m.txnOf r k 2 (beBytes 4 len.toNat) with addr := 0x2000, fwd := true }] ∧ t.mem = m.mem ∧
      m.KeepsRegs [BRG.TP_STATE n, VNK.INIT_OPEN k] t := by
  refine State.runs_next s _ _ _ rfl ?_
  obtain ⟨t, ht⟩ : ∃ t, t = { s.mod.txnOf r k 2 (beBytes 4 len.toNat) with addr := 0x2000 } := ⟨_, rfl⟩
  have hparts : t.slot = k ∧ t.win = r.win.toNat ∧ t.op = 2 ∧ t.addr = 0x2000 ∧ t.fwd = false ∧ t.payload = beBytes 4 len.toNat := by
    subst ht
    exact ⟨rfl, rfl, rfl, rfl, rfl, rfl⟩
  obtain ⟨hslot, hwin, hop, haddr, hfwd, hpayload⟩ := hparts
  have hopen := hh.2.2.2.2.2.2.2.1
  have hhist := hh.2.2.2.2.2.2.2.2.1
  obtain ⟨hty, hwen, hmask, -, hwr⟩ := hg
  have hspan : t.span = 4 := by
    rw [Txn.span, hop, hpayload]
    exact beBytes_length _ _
  have hcheck : s.mod.vnkCheck t false = 0 := by
    have hform : t.badForm = false := by simp [Txn.badForm, hop, hpayload, beBytes]
    have hperm : s.mod.permits t = true := by simp [permits, hwin, hslot, hmask, hop, hwr]
    have hin : s.mod.badAddr t = false := by
      simp [badAddr, haddr, hspan, hwin, hop]
      omega
    rw [vnkCheck_first hopen (by rw [hslot]; exact hhist), if_neg (by rw [hform]; decide), if_neg (by rw [hwin, hty, hop]; decide),
      if_neg (by rw [hop]; decide), if_neg (by rw [hwin, hwen]; decide), if_neg (by rw [hperm]; decide), if_neg (by rw [hin]; decide)]
  obtain ⟨u, hu⟩ : ∃ u, u = (s.mod.updHeard k).vnkOpen t := ⟨_, rfl⟩
  obtain ⟨hvnk, honly, -, -, hrd⟩ := opened_shows hopen hslot hu
  have huopen : u.vnk.open_ = [t] := by rw [hvnk]
  have hn16 : n < 16 := by omega
  obtain ⟨hown, hder⟩ := tpFlds_own ⟨n, hn16⟩
  have htp (g : Fld) (hg : g ∈ [BRG.TP_EN n, BRG.TP_CTRL n, BRG.TP_STATE n]) : u.rd g = s.mod.rd g := hrd g (initOpen_ne k (hown g hg))
  have hwinrd (g : Fld) (hm : g ∈ [VNK.WIN_EN t.win, VNK.WIN_TYPE t.win, VNK.WIN_RD t.win, VNK.WIN_WR t.win, VNK.RD_PREF t.win, VNK.WIN_SEL t.win,
      VNK.WIN_BASE t.win, VNK.WIN_SIZE t.win, VNK.INIT_MASK t.win]) : u.rd g = s.mod.rd g := hrd g (winFlds_ne k t.win g hm)
  have hutype : u.rd (VNK.WIN_TYPE t.win) = 3 := by rw [hwinrd _ (by simp), hwin, hty]
  have husel : u.rd (VNK.WIN_SEL t.win) % 16 = n := by rw [hwinrd _ (by simp), hwin, hn]
  have hfar : u.farPort t.win = some (4 + s.mod.rd (BRG.TP_CTRL n)) := by
    simp only [farPort, hutype, husel, htp (BRG.TP_CTRL n) (by simp)]
    rfl
  have huawake : u.awake (4 + s.mod.rd (BRG.TP_CTRL n)) = true := by
    rw [awake, bit, hrd PWR.DOM_STAT (initOpen_ne k (by decide))]
    exact hawake
  have hrun := (vnkRun_free huopen hfwd (by omega) (by rw [hfar]; simp [huawake])).2.1 hutype
  have hmem : u.mem = s.mod.mem := (show ({ u with regs := s.mod.regs, vnk := s.mod.vnk, upd := s.mod.upd } : Mod).mem = s.mod.mem by rw [honly])
  have huen : u.on (BRG.TP_EN n) = true := by
    rw [on, htp _ (by simp)]
    exact hen
  rw [vnkIntake_heard hh 2 _ 0 _ ht, hcheck, if_pos rfl, vnkBegin_serves 0 (by omega) (by omega), ← hu, vnkServe_single huopen, hrun,
    tpRun_starts len huopen hfwd hop haddr hpayload husel hlen hmax huen]
  obtain ⟨v, hv⟩ : ∃ v, v = (u.wr (BRG.TP_STATE n) 1).farTaken t := ⟨_, rfl⟩
  have hvv : v.regs = (u.wr (BRG.TP_STATE n) 1).regs ∧ v.mem = u.mem ∧ v.vnk.out = u.vnk.out ∧ v.vnk.open_ = [{ t with fwd := true }] := by
    subst hv
    refine ⟨rfl, rfl, rfl, ?_⟩
    simp [farTaken, onVnk, huopen]
  rw [← hv]
  obtain ⟨hvregs, hvmem, hvout, hvopen⟩ := hvv
  refine ⟨?_, by rw [settle_vnk, hvout, hvnk], by rw [settle_vnk, hvopen, ht], by rw [settle_mem, hvmem, hmem], KeepsRegs.settle _ _ _ ?_⟩
  · rw [rd_settle _ _ hder, rd_congr hvregs, rd_wr_same]
    rfl
  · refine KeepsRegs.of_regs _ _ (u.wr (BRG.TP_STATE n) 1) _ ?_ hvregs
    rw [keepsRegs_wr (by simp)]
    exact fun g hg => hrd g (hg _ (List.mem_append_right _ (by simp)))

/-- Settles O44. -/
theorem vinkoFarSidesAnswer : Obligations.VinkoFarSidesAnswer := by
  intro s r k
  refine ⟨fun seq result data q hopen hslot hseq hposted hfwd hty hop hlate => farComplete_runs s k seq result data q hopen hslot hseq hposted hfwd hty hop hlate, ?_⟩
  intro len hh hg hbase hsize hlen hmax n hen hawake
  exact canTpSend_runs s r k len hh hg hbase hsize hlen hmax rfl hen hawake

end Sys2Proof.Machine

/-! ### The refusals of ACTIVATE (R468) -/
namespace Sys2Proof.Machine

namespace Mod
open Reg

/-- ACTIVATE's first refusal, in the order of its checks. -/
def activateRefusal (m : Mod) (tt : Nat) : Nat :=
  if ¬ (m.upd.verified = true ∧ m.rd UPD.TARGET = m.inactive tt) then 0x18 else if m.rd PWR.CHANGING = 1 then 0x17 else 0x16

theorem updActivate_refused {m : Mod} {tt param : Nat}
    (h : ¬ (m.upd.verified = true ∧ m.rd UPD.TARGET = m.inactive tt) ∨ m.rd PWR.CHANGING = 1 ∨ (m.rd PWR.CHANGING = 0 ∧ m.rd UPD.PROBATION = 1)) :
    m.updActivate tt param = (m.wr UPD.RESULT (m.activateRefusal tt), m.activateRefusal tt) := by
  unfold updActivate activateRefusal
  by_cases hver : m.upd.verified = true ∧ m.rd UPD.TARGET = m.inactive tt
  · have hver' : ¬ (¬ m.upd.verified = true ∨ m.rd UPD.TARGET ≠ m.inactive tt) := by
      rw [not_or, Decidable.not_not, Decidable.not_not]
      exact hver
    simp only
    rw [if_neg hver', if_neg (not_not_intro hver)]
    by_cases hchg : m.rd PWR.CHANGING = 1
    · rw [if_pos (by simp [on, hchg]), if_pos hchg]
    · rcases h with h | h | ⟨h0, hprob⟩
      · exact absurd hver h
      · exact absurd h hchg
      · have hbar : m.updBarred tt = true := by simp [updBarred, on, hprob]
        rw [if_neg (by simp [on, h0]), if_pos (.inl hbar), if_neg hchg]
  · have hver' : ¬ m.upd.verified = true ∨ m.rd UPD.TARGET ≠ m.inactive tt := Decidable.not_and_iff_not_or_not.1 hver
    simp only
    rw [if_pos hver', if_pos hver]

/-- The registers that ACTIVATE's checks read. -/
theorem updFlds_ne (k : Fin 16) : ∀ g ∈ [UPD.HOLDER_PORT, UPD.HOLDER_SLOT, UPD.TARGET, UPD.PROBATION, PWR.CHANGING, BOOT.ACT_BANK, BOOT.ACT_CFG],
    (VNK.INIT_OPEN k).key ≠ g.key := fun g hg =>
  initOpen_ne k ((by decide : ∀ g ∈ [UPD.HOLDER_PORT, UPD.HOLDER_SLOT, UPD.TARGET, UPD.PROBATION, PWR.CHANGING, BOOT.ACT_BANK, BOOT.ACT_CFG],
    g.key / 524288 ≠ 0x3E) g hg)

end Mod

open Machine.Mod Reg

/-- A refused ACTIVATE of the session's holder. -/
theorem activate_refused (s : State) (r : VnkReq) (k : Fin 16) (hh : s.mod.Hears r k) (hg : s.mod.Grants r k 5) (haddr : r.addr.toNat % 4 = 0)
    (hbase : s.mod.rd (VNK.WIN_BASE r.win.toNat) % 4 = 0) (hsession : s.mod.rd UPD.HOLDER_PORT ≠ 0xFF) (hholder : s.mod.rd UPD.HOLDER_SLOT = k)
    (hno : ¬ (s.mod.upd.verified = true ∧ s.mod.rd UPD.TARGET = s.mod.inactive (fld r.aux.toNat 23 16)) ∨ s.mod.rd PWR.CHANGING = 1 ∨
      (s.mod.rd PWR.CHANGING = 0 ∧ s.mod.rd UPD.PROBATION = 1)) {res : Nat} (hres : res = s.mod.activateRefusal (fld r.aux.toNat 23 16)) :
    s.Runs (.activate r) fun m t =>
      m.Answers { s.mod.txnOf r k 0x10 [] with aux := 5 * 2 ^ 24 + r.aux.toNat % 2 ^ 24 } 8 res [] t ∧
        t.rd UPD.RESULT = res ∧ t.upd = { m.upd with lastTick := m.tick } ∧ t.boot = m.boot ∧ t.mem = m.mem ∧ m.KeepsRegs (UPD.RESULT :: rspFlds k) t := by
  refine State.runs_next s _ _ _ rfl ?_
  obtain ⟨t, ht⟩ : ∃ t, t = { s.mod.txnOf r k 0x10 [] with aux := 5 * 2 ^ 24 + r.aux.toNat % 2 ^ 24 } := ⟨_, rfl⟩
  have hparts : t.slot = k ∧ t.win = r.win.toNat ∧ t.op = 0x10 ∧ t.addr = r.addr.toNat ∧ t.fwd = false ∧ t.posted = false ∧ t.payload = [] ∧
      t.aux = 5 * 2 ^ 24 + r.aux.toNat % 2 ^ 24 := by
    subst ht
    exact ⟨rfl, rfl, rfl, rfl, rfl, rfl, rfl, rfl⟩
  have htxn : t = (fun t : Txn => { t with aux := 5 * 2 ^ 24 + t.aux % 2 ^ 24, sig := false }) (s.mod.txnOf r k 0x10 []) := ht
  rw [← ht]
  obtain ⟨hslot, hwin, hop, hta, hfwd, hposted, hpayload, haux⟩ := hparts
  have hopen := hh.2.2.2.2.2.2.2.1
  have hhist := hh.2.2.2.2.2.2.2.2.1
  obtain ⟨hty, hwen, hmask, -, -⟩ := hg
  have hcheck : s.mod.vnkCheck t false = 0 := by
    have hform : t.badForm = false := by simp [Txn.badForm, hop, hpayload]
    have hperm : s.mod.permits t = true := by simp [permits, hwin, hslot, hmask, hop]
    have hin : s.mod.badAddr t = false := by
      simp [badAddr, hta, hwin, hop]
      omega
    rw [vnkCheck_first hopen (by rw [hslot]; exact hhist), if_neg (by rw [hform]; decide), if_neg (by rw [hwin, hty, hop]; decide),
      if_neg (by rw [hop]; decide), if_neg (by rw [hwin, hwen]; decide), if_neg (by rw [hperm]; decide), if_neg (by rw [hin]; decide)]
  obtain ⟨u, hu⟩ : ∃ u, u = (s.mod.updHeard k).vnkOpen t := ⟨_, rfl⟩
  obtain ⟨hvnk, honly, hupd, -, hrd⟩ := opened_shows hopen hslot hu
  have huopen : u.vnk.open_ = [t] := by rw [hvnk]
  have hurd (g : Fld) (hg : g ∈ [UPD.HOLDER_PORT, UPD.HOLDER_SLOT, UPD.TARGET, UPD.PROBATION, PWR.CHANGING, BOOT.ACT_BANK, BOOT.ACT_CFG]) :
      u.rd g = s.mod.rd g := hrd g (updFlds_ne k g hg)
  have hutype : u.rd (VNK.WIN_TYPE t.win) = 5 := by rw [hrd _ (winFlds_ne k t.win _ (by simp)), hwin, hty]
  have hfar : u.farPort t.win = none := by simp [farPort, hutype]
  have hrun := (vnkRun_free huopen hfwd (by omega) (by rw [hfar]; rfl)).2.2 hutype
  have hupd' : u.upd = { s.mod.upd with lastTick := s.mod.tick } := by
    rw [hupd, updHeard, if_pos ⟨by simp [session, hsession], hholder⟩]
    rfl
  have hmem : u.mem = s.mod.mem := (show ({ u with regs := s.mod.regs, vnk := s.mod.vnk, upd := s.mod.upd } : Mod).mem = s.mod.mem by rw [honly])
  have hboot : u.boot = s.mod.boot := (show ({ u with regs := s.mod.regs, vnk := s.mod.vnk, upd := s.mod.upd } : Mod).boot = s.mod.boot by rw [honly])
  obtain ⟨a, ha⟩ : ∃ a, a = r.aux.toNat := ⟨_, rfl⟩
  rw [← ha] at haux hno hres
  have hcode : t.aux / 16777216 = 5 := by omega
  have htt : fld t.aux 23 16 = fld a 23 16 := by
    rw [fld_eq, fld_eq]
    omega
  have hinactive : ∀ tt, u.inactive tt = s.mod.inactive tt := fun tt => by
    rw [inactive, inactive, hurd BOOT.ACT_BANK (by simp), hurd BOOT.ACT_CFG (by simp)]
  have hrefusal : u.activateRefusal (fld a 23 16) = s.mod.activateRefusal (fld a 23 16) := by
    simp only [activateRefusal, hupd', hurd UPD.TARGET (by simp), hurd PWR.CHANGING (by simp), hinactive]
  have hrefused : ∀ param, u.updActivate (fld a 23 16) param =
      (u.wr UPD.RESULT (s.mod.activateRefusal (fld a 23 16)), s.mod.activateRefusal (fld a 23 16)) := fun param => by
    rw [← hrefusal]
    refine updActivate_refused ?_
    rw [hupd', hurd UPD.TARGET (by simp), hurd PWR.CHANGING (by simp), hurd UPD.PROBATION (by simp), hinactive]
    exact hno
  have hresne : res ≠ 1 ∧ res < 256 := by
    rw [hres, activateRefusal]
    repeat' split
    all_goals decide
  have husession : u.session = true := by simp [session, hurd UPD.HOLDER_PORT (by simp), hsession]
  have huholder : u.rd UPD.HOLDER_SLOT = t.slot := by rw [hurd UPD.HOLDER_SLOT (by simp), hholder, hslot]
  have hupdrun : u.updRun t = (u.wr UPD.RESULT res).complete t 8 res [] := by
    rw [hres]
    simp [updRun, hcode, husession, huholder, htt, hrefused, updAnswer, ← hres, hresne.1]
  have hintake : s.mod.updIntake r 5 [] false = (u.wr UPD.RESULT res).complete t 8 res [] := by
    rw [updIntake, vnkIntake_heard hh 0x10 [] 0 _ htxn, hcheck, if_pos rfl, vnkBegin_serves 0 (by omega) (by omega), ← hu, vnkServe_single huopen, hrun,
      hupdrun]
  rw [hintake]
  obtain ⟨hans, hrsp⟩ := complete_answers (m := s.mod) (u := u.wr UPD.RESULT res) k hslot hposted 8 res [] rfl (by rw [wr_vnk, hvnk]) (by rw [wr_vnk, hvnk])
    (by rw [wr_vnk, hvnk, hopen]; simp)
  have hresult : ∀ j : Fin 16, ∀ f ∈ shown ++ rspFlds j, f.key ≠ UPD.RESULT.key := by decide
  refine ⟨hans, ?_, by rw [hrsp.upd, wr_upd, hupd'], by rw [hrsp.boot, wr_boot, hboot], by rw [hrsp.mem, wr_mem, hmem], ?_⟩
  · rw [hrsp.2 UPD.RESULT (hresult k), rd_wr_same]
    exact Nat.mod_eq_of_lt hresne.2
  · refine KeepsRegs.trans ?_ (hrsp.2.mono (List.subset_cons_self _ _))
    rw [keepsRegs_wr (by simp)]
    exact fun g hg => hrd g (hg _ (List.mem_append_right _ (by simp [rspFlds])))

/-- Settles O58: the refusals in the order of the checks. -/
theorem activateRefusalsCarryResults : Obligations.ActivateRefusalsCarryResults := by
  intro s r k hh hg haddr hbase hsession hholder tt _ q verified refused
  refine ⟨fun hver => ?_, fun hver hchg => ?_, fun hver hchg hprob => ?_⟩
  · exact activate_refused s r k hh hg haddr hbase hsession hholder (.inl hver) (if_pos hver).symm
  · have hres : 0x17 = s.mod.activateRefusal tt := by rw [activateRefusal, if_neg (not_not_intro hver), if_pos hchg]
    exact activate_refused s r k hh hg haddr hbase hsession hholder (.inr (.inl hchg)) hres
  · have hres : 0x16 = s.mod.activateRefusal tt := by rw [activateRefusal, if_neg (not_not_intro hver), if_neg (by omega)]
    exact activate_refused s r k hh hg haddr hbase hsession hholder (.inr (.inr ⟨hchg, hprob⟩)) hres

end Sys2Proof.Machine

/-! ### A bead that is due (R43 to R45) -/
namespace Sys2Proof.Machine

theorem testBit_field_mask (lo n i : Nat) : ((2 ^ n - 1) * 2 ^ lo).testBit i = (decide (lo ≤ i) && decide (i - lo < n)) := by
  rw [Nat.testBit_mul_two_pow, Nat.testBit_two_pow_sub_one]

/-- A field of a word that is 0 meets no bit of its mask. -/
theorem and_field_eq_zero {w lo n : Nat} (h : w / 2 ^ lo % 2 ^ n = 0) : w &&& (2 ^ n - 1) * 2 ^ lo = 0 := by
  refine Nat.eq_of_testBit_eq fun i => ?_
  rw [Nat.testBit_and, testBit_field_mask, Nat.zero_testBit]
  by_cases hlo : lo ≤ i
  · by_cases hn : i - lo < n
    · have hbit : (w / 2 ^ lo % 2 ^ n).testBit (i - lo) = false := by rw [h, Nat.zero_testBit]
      rw [Nat.testBit_mod_two_pow, decide_eq_true hn, Bool.true_and, Nat.testBit_div_two_pow, Nat.sub_add_cancel hlo] at hbit
      rw [hbit, Bool.false_and]
    · simp [hn]
  · simp [hlo]

/-- A word of a listed opcode whose reserved bits are 0 and whose operands are in range decodes. -/
theorem decodeBead_ok {w op r : Nat} {b : Bead} (hop : fld w 31 26 = op) (hres : beadReserved op = some r) (hzero : w &&& r = 0) (hb : beadOf op w = b)
    (hrange : b.inRange = true) : decodeBead w = .ok b := by
  have hne : ¬ w &&& r ≠ 0 := not_not_intro hzero
  simp only [decodeBead, hop, hres, hb, if_neg hne, hrange, if_true]

/-- The operand bits of a row. -/
theorem operands_toNat {x : Nat} (h : x < 2 ^ 26) : (BitVec.ofNat 26 x).toNat = x := by
  rw [BitVec.toNat_ofNat]
  exact Nat.mod_eq_of_lt h

namespace Mod
open Reg

/-- A due bead whose domains are awake has its effect, and its slot goes on. -/
theorem beadAt_due {m : Mod} {slot : Fin 3} {pos : Fin 56} (h : m.beadDue slot pos) {w : Nat} {b : Bead} (hw : decodeBead w = .ok b)
    (hawake : ∀ d ∈ b.domains, m.awake d = true) (ecc : Option (Nat × Bool)) :
    m.beadAt slot pos w ecc = (m.onSlot slot fun y => { y with next := pos + 1 }).beadEffect b (m.beadSrc slot pos) ecc := by
  obtain ⟨hfetched, hrunning, hloaded, hcount, hended, hnext⟩ := h
  have hfetch : m.fetch = m := by
    unfold fetch
    rw [if_neg (by simp [hfetched])]
  have hopen : m.slotOpen slot pos = true := by simp [slotOpen, hrunning, hloaded, hcount, hended, hnext]
  have hds : (b.domains.filter fun d => !(m.onSlot slot fun y => { y with next := pos + 1 }).awake d) = [] := by
    rw [List.filter_eq_nil_iff]
    intro d hd
    have hd' : (m.onSlot slot fun y => { y with next := pos + 1 }).awake d = true := hawake d hd
    simp [hd']
  unfold beadAt
  rw [hfetch, if_pos hopen]
  simp only [runBead, hw]
  rw [if_pos hds]
  rfl

/-- What the step of a slot to its next bead leaves. -/
theorem onSlot_leaves (m : Mod) (s : Nat) (f : SlotRun → SlotRun) : (m.onSlot s f).regs = m.regs ∧ (m.onSlot s f).mem = m.mem ∧
    (m.onSlot s f).frm.staged = m.frm.staged ∧ (m.onSlot s f).slotX s = f (m.slotX s) :=
  ⟨rfl, rfl, rfl, SMap.get_set_same _ _ _ _⟩

/-- One effect staged. -/
theorem staged_one {m : Mod} {slot : Fin 3} {pos : Fin 56} (f : SlotRun → SlotRun) (e : Effect) {t : Mod}
    (ht : t = ((m.onSlot slot f).stage (m.beadSrc slot pos) e).settle) : m.Staged slot pos [e] t := by
  subst ht
  refine ⟨?_, by rw [settle_mem]; rfl, by rw [settle_chans]; rfl, by rw [settle_prm]; rfl, KeepsRegs.settle _ _ _ (KeepsRegs.refl _ _)⟩
  rw [settle_frm]
  rfl

/-- The effects of a mask's bits staged in their order. -/
theorem stageEach (m : Mod) (src : Src) (p : Nat → Bool) (e : Nat → Effect) (n : Nat) :
    forN n (fun (m : Mod) j => if p j then m.stage src (e j) else m) m =
      { m with frm := { m.frm with staged := m.frm.staged ++ ((List.range n).filter p).map fun j => ⟨src, e j⟩ } } := by
  induction n with
  | zero => simp [forN]
  | succ n ih =>
    rw [forN] at ih
    rw [forN, List.range_succ, List.foldl_append, ih]
    cases hp : p n with
    | false => simp [hp, List.filter_append]
    | true => simp [hp, List.filter_append, stage]

theorem staged_each {m : Mod} {slot : Fin 3} {pos : Fin 56} (f : SlotRun → SlotRun) (p : Nat → Bool) (e : Nat → Effect) {t : Mod}
    (ht : t = (forN 8 (fun (m' : Mod) j => if p j then m'.stage (m.beadSrc slot pos) (e j) else m') (m.onSlot slot f)).settle) :
    m.Staged slot pos (((List.range 8).filter p).map e) t := by
  rw [stageEach] at ht
  subst ht
  refine ⟨?_, by rw [settle_mem]; rfl, by rw [settle_chans]; rfl, by rw [settle_prm]; rfl, KeepsRegs.settle _ _ _ (KeepsRegs.refl _ _)⟩
  rw [settle_frm, List.map_map]
  rfl

end Mod

end Sys2Proof.Machine

/-! ### The command beads (R48) -/
namespace Sys2Proof.Machine

theorem decode_chSet (q : Fin 4) (c : Fin 20) (act : Fin 6) (arg : BitVec 16) :
    decodeBead (0x01 * 2 ^ 26 + (BitVec.ofNat 26 (q * 2 ^ 24 + c * 2 ^ 19 + act * 2 ^ 16 + arg.toNat)).toNat) = .ok (.chSet q c act arg.toNat) := by
  have harg := arg.isLt
  generalize arg.toNat = a at *
  rw [operands_toNat (by omega)]
  refine decodeBead_ok (op := 0x01) (by rw [fld_eq]; omega) rfl (Nat.and_zero _) ?_ (by simp [Bead.inRange]; omega)
  simp only [beadOf, fld_eq, Bead.chSet.injEq]
  omega

theorem decode_bankSet (k : Fin 8) (mask val : BitVec 8) :
    decodeBead (0x02 * 2 ^ 26 + (BitVec.ofNat 26 (k * 2 ^ 23 + mask.toNat * 2 ^ 8 + val.toNat)).toNat) = .ok (.bankSet k mask.toNat val.toNat) := by
  have hm := mask.isLt
  have hv := val.isLt
  generalize mask.toNat = a at *
  generalize val.toNat = b at *
  rw [operands_toNat (by omega)]
  refine decodeBead_ok (op := 0x02) (by rw [fld_eq]; omega) rfl (and_field_eq_zero (lo := 16) (n := 7) (by omega)) ?_ rfl
  simp only [beadOf, fld_eq, Bead.bankSet.injEq]
  omega

theorem decode_motCmd (k : Fin 8) (mode : Fin 5) (duty : BitVec 12) :
    decodeBead (0x03 * 2 ^ 26 + (BitVec.ofNat 26 (k * 2 ^ 23 + mode * 2 ^ 20 + duty.toNat * 2 ^ 8)).toNat) = .ok (.motCmd k mode duty.toNat) := by
  have hd := duty.isLt
  generalize duty.toNat = a at *
  rw [operands_toNat (by omega)]
  refine decodeBead_ok (op := 0x03) (by rw [fld_eq]; omega) rfl (and_field_eq_zero (lo := 0) (n := 8) (by omega)) ?_ (by simp [Bead.inRange]; omega)
  simp only [beadOf, fld_eq, Bead.motCmd.injEq]
  omega

theorem decode_lsSet (mask val : BitVec 8) :
    decodeBead (0x04 * 2 ^ 26 + (BitVec.ofNat 26 (mask.toNat * 2 ^ 8 + val.toNat)).toNat) = .ok (.lsSet mask.toNat val.toNat) := by
  have hm := mask.isLt
  have hv := val.isLt
  generalize mask.toNat = a at *
  generalize val.toNat = b at *
  rw [operands_toNat (by omega)]
  refine decodeBead_ok (op := 0x04) (by rw [fld_eq]; omega) rfl (and_field_eq_zero (lo := 16) (n := 10) (by omega)) ?_ rfl
  simp only [beadOf, fld_eq, Bead.lsSet.injEq]
  omega

theorem decode_ledSet (n : Fin 48) (duty : BitVec 16) :
    decodeBead (0x05 * 2 ^ 26 + (BitVec.ofNat 26 (n * 2 ^ 20 + duty.toNat)).toNat) = .ok (.ledSet n duty.toNat) := by
  have hd := duty.isLt
  generalize duty.toNat = a at *
  rw [operands_toNat (by omega)]
  refine decodeBead_ok (op := 0x05) (by rw [fld_eq]; omega) rfl (and_field_eq_zero (lo := 16) (n := 4) (by omega)) ?_ (by simp [Bead.inRange])
  simp only [beadOf, fld_eq, Bead.ledSet.injEq]
  omega

theorem decode_topCtl (e : Fin 4) (op : Fin 5) (addr : BitVec 8) :
    decodeBead (0x06 * 2 ^ 26 + (BitVec.ofNat 26 (e * 2 ^ 24 + op * 2 ^ 21 + addr.toNat)).toNat) = .ok (.topCtl e op addr.toNat) := by
  have ha := addr.isLt
  generalize addr.toNat = a at *
  rw [operands_toNat (by omega)]
  refine decodeBead_ok (op := 0x06) (by rw [fld_eq]; omega) rfl (and_field_eq_zero (lo := 8) (n := 13) (by omega)) ?_ (by simp [Bead.inRange]; omega)
  simp only [beadOf, fld_eq, Bead.topCtl.injEq]
  omega

theorem decode_canTxq (n : Fin 12) (o : BitVec 12) :
    decodeBead (0x12 * 2 ^ 26 + (BitVec.ofNat 26 (n * 2 ^ 22 + o.toNat)).toNat) = .ok (.canTxq n o.toNat) := by
  have ho := o.isLt
  generalize o.toNat = a at *
  rw [operands_toNat (by omega)]
  refine decodeBead_ok (op := 0x12) (by rw [fld_eq]; omega) rfl (and_field_eq_zero (lo := 12) (n := 10) (by omega)) ?_ (by simp [Bead.inRange])
  simp only [beadOf, fld_eq, Bead.canTxq.injEq]
  omega

theorem decode_linHdr (p : Fin 8) (id : Fin 64) :
    decodeBead (0x13 * 2 ^ 26 + (BitVec.ofNat 26 (p * 2 ^ 23 + id * 2 ^ 16)).toNat) = .ok (.linHdr p id) := by
  rw [operands_toNat (by omega)]
  have hlow : (0x13 * 2 ^ 26 + (p.val * 2 ^ 23 + id.val * 2 ^ 16)) &&& (2 ^ 16 - 1) * 2 ^ 0 = 0 := and_field_eq_zero (lo := 0) (n := 16) (by omega)
  have hbit : (0x13 * 2 ^ 26 + (p.val * 2 ^ 23 + id.val * 2 ^ 16)) &&& (2 ^ 1 - 1) * 2 ^ 22 = 0 := and_field_eq_zero (lo := 22) (n := 1) (by omega)
  have hmask : (0x040FFFF : Nat) = (2 ^ 16 - 1) * 2 ^ 0 ||| (2 ^ 1 - 1) * 2 ^ 22 := by decide
  refine decodeBead_ok (op := 0x13) (by rw [fld_eq]; omega) rfl (by rw [hmask, Nat.and_or_distrib_left, hlow, hbit, Nat.or_zero]) ?_ rfl
  simp only [beadOf, fld_eq, Bead.linHdr.injEq]
  omega

theorem decode_diagReq (q : Fin 4) (c : Fin 20) (kind : Fin 6) :
    decodeBead (0x1A * 2 ^ 26 + (BitVec.ofNat 26 (q * 2 ^ 24 + c * 2 ^ 19 + kind * 2 ^ 16)).toNat) = .ok (.diagReq q c kind) := by
  rw [operands_toNat (by omega)]
  refine decodeBead_ok (op := 0x1A) (by rw [fld_eq]; omega) rfl (and_field_eq_zero (lo := 0) (n := 16) (by omega)) ?_ (by simp [Bead.inRange]; omega)
  simp only [beadOf, fld_eq, Bead.diagReq.injEq]
  omega

open Machine.Mod Reg

/-- Settles O8. -/
theorem commandBeadsStageTheirEffects : Obligations.CommandBeadsStageTheirEffects := by
  intro s slot pos hdue
  refine ⟨fun q c act arg hq => State.runs_next s _ _ _ rfl ?_, fun k mode duty hk h29 => State.runs_next s _ _ _ rfl ?_,
    fun n duty h28 => State.runs_next s _ _ _ rfl ?_, fun e op addr h28 => State.runs_next s _ _ _ rfl ?_,
    fun k mask val hk => State.runs_next s _ _ _ rfl ?_, fun mask val h29 => State.runs_next s _ _ _ rfl ?_,
    fun p id hp => State.runs_next s _ _ _ rfl ?_, fun q c kind hq => State.runs_next s _ _ _ rfl ?_,
    fun n o hn => State.runs_next s _ _ _ rfl ?_⟩
  · rw [beadAt_due hdue (decode_chSet q c act arg) (by simpa [Bead.domains] using hq)]
    exact staged_one _ _ rfl
  · rw [beadAt_due hdue (decode_motCmd k mode duty) (by simpa [Bead.domains] using ⟨hk, h29⟩)]
    exact staged_one _ _ rfl
  · rw [beadAt_due hdue (decode_ledSet n duty) (by simpa [Bead.domains] using h28)]
    exact staged_one _ _ rfl
  · rw [beadAt_due hdue (decode_topCtl e op addr) (by simpa [Bead.domains] using h28)]
    exact staged_one _ _ rfl
  · rw [beadAt_due hdue (decode_bankSet k mask val) (by simpa [Bead.domains] using hk)]
    exact staged_each _ mask.getLsbD (fun j => .ch (k / 2) (10 * (k % 2) + j) (if val.getLsbD j then 1 else 0) 0) rfl
  · rw [beadAt_due hdue (decode_lsSet mask val) (by simpa [Bead.domains] using h29)]
    exact staged_each _ mask.getLsbD (fun j => .ls j (val.getLsbD j)) rfl
  · rw [beadAt_due hdue (decode_linHdr p id) (by simpa [Bead.domains] using hp)]
    exact staged_one _ _ rfl
  · rw [beadAt_due hdue (decode_diagReq q c kind) (by simpa [Bead.domains] using hq)]
    exact staged_one _ _ rfl
  · rw [beadAt_due hdue (decode_canTxq n o) (by simpa [Bead.domains] using hn)]
    exact staged_one _ _ rfl

end Sys2Proof.Machine

/-! ### The beads that steer the Frame (R43, R71, R86, R383) -/
namespace Sys2Proof.Machine

theorem decode_dispatch (task : BitVec 10) (budget : BitVec 11) (hb : 1 ≤ budget.toNat) (hmax : budget.toNat ≤ 2000) :
    decodeBead (0x18 * 2 ^ 26 + (BitVec.ofNat 26 (task.toNat * 2 ^ 16 + budget.toNat)).toNat) = .ok (.dispatch task.toNat budget.toNat) := by
  have ht := task.isLt
  generalize task.toNat = a at *
  generalize budget.toNat = b at *
  rw [operands_toNat (by omega)]
  refine decodeBead_ok (op := 0x18) (by rw [fld_eq]; omega) rfl (and_field_eq_zero (lo := 11) (n := 5) (by omega)) ?_ (by simp [Bead.inRange]; omega)
  simp only [beadOf, fld_eq, Bead.dispatch.injEq]
  omega

theorem decode_prmDone (num : BitVec 16) (hn : num ≠ 0) :
    decodeBead (0x19 * 2 ^ 26 + (BitVec.ofNat 26 num.toNat).toNat) = .ok (.prmDone num.toNat) := by
  have hlt := num.isLt
  have hne : num.toNat ≠ 0 := fun h => hn (BitVec.eq_of_toNat_eq h)
  generalize num.toNat = a at *
  rw [operands_toNat (by omega)]
  refine decodeBead_ok (op := 0x19) (by rw [fld_eq]; omega) rfl (and_field_eq_zero (lo := 16) (n := 10) (by omega)) ?_ (by simp [Bead.inRange, hne])
  simp only [beadOf, fld_eq, Bead.prmDone.injEq]
  omega

theorem decode_domWake (d : Fin 30) : decodeBead (0x1B * 2 ^ 26 + (BitVec.ofNat 26 d).toNat) = .ok (.domWake d) := by
  rw [operands_toNat (by omega)]
  refine decodeBead_ok (op := 0x1B) (by rw [fld_eq]; omega) rfl (and_field_eq_zero (lo := 5) (n := 21) (by omega)) ?_ rfl
  simp only [beadOf, fld_eq, Bead.domWake.injEq]
  omega

theorem decode_skipIf (i : BitVec 8) (bit : Fin 32) (pol : Bool) (n : Fin 56) (hn : n.val ≠ 0) (hi : i.toNat < 32) :
    decodeBead (0x1C * 2 ^ 26 + (BitVec.ofNat 26 (i.toNat * 2 ^ 21 + bit * 2 ^ 16 + (if pol then 2 ^ 15 else 0) + n)).toNat) =
      .ok (.skipIf i.toNat bit pol n) := by
  generalize i.toNat = a at *
  obtain ⟨p, hp⟩ : ∃ p, p = if pol then 1 else 0 := ⟨_, rfl⟩
  have hpol : (if pol then 2 ^ 15 else 0) = p * 2 ^ 15 := by rw [hp]; cases pol <;> rfl
  have hp1 : p < 2 := by rw [hp]; cases pol <;> decide
  have hbit : (0x1C * 2 ^ 26 + (a * 2 ^ 21 + bit.val * 2 ^ 16 + p * 2 ^ 15 + n.val)).testBit 15 = pol := by
    have hdiv : (0x1C * 2 ^ 26 + (a * 2 ^ 21 + bit.val * 2 ^ 16 + p * 2 ^ 15 + n.val)) / 2 ^ 15 % 2 = p := by omega
    rw [Nat.testBit_eq_decide_div_mod_eq, hdiv, hp]
    cases pol <;> rfl
  rw [hpol, operands_toNat (by omega)]
  refine decodeBead_ok (op := 0x1C) (by rw [fld_eq]; omega) rfl (and_field_eq_zero (lo := 6) (n := 9) (by omega)) ?_ (by simp [Bead.inRange]; omega)
  simp only [beadOf, fld_eq, hbit, Bead.skipIf.injEq, true_and]
  clear hbit hpol hp
  omega

theorem decode_event (cls : Fin 3) (code : BitVec 16) :
    decodeBead (0x1D * 2 ^ 26 + (BitVec.ofNat 26 (cls * 2 ^ 24 + code.toNat)).toNat) = .ok (.event cls code.toNat) := by
  have hc := code.isLt
  generalize code.toNat = a at *
  rw [operands_toNat (by omega)]
  refine decodeBead_ok (op := 0x1D) (by rw [fld_eq]; omega) rfl (and_field_eq_zero (lo := 16) (n := 8) (by omega)) ?_ (by simp [Bead.inRange]; omega)
  simp only [beadOf, fld_eq, Bead.event.injEq]
  omega

namespace Mod
open Reg

/-- A domain that sleeps is waking after the wake. -/
theorem wakeDom_waking {m : Mod} (d : Fin 30) (h : m.awake d = false) : ((m.wakeDom d).rd PWR.DOM_WAKING).testBit d = true ∧
    m.KeepsRegs [PWR.DOM_WAKING] (m.wakeDom d) ∧ (m.wakeDom d).mem = m.mem := by
  have hwake : m.wakeDom d = m.wrBit PWR.DOM_WAKING d true := by
    unfold wakeDom
    rw [if_neg (by simp [h])]
  rw [hwake]
  refine ⟨?_, ?_, by rw [wrBit_mem]⟩
  · exact bit_wrBit_same _ _ _ (by have := d.isLt; exact Nat.lt_trans this (by decide))
  · rw [keepsRegs_wrBit (by simp)]
    exact KeepsRegs.refl _ _

/-- A slice whose budget fits the tick joins those of the next tick. -/
theorem dispatch_fits (m : Mod) (task : Nat) {budget : Nat} (src : Src) (h : (m.frm.dispNext.map (·.budget)).sum + budget ≤ 2000) :
    ∃ n, m.dispatch task budget src = (m.onFrm fun x => { x with dispNext := x.dispNext ++ [⟨task, budget, n⟩] }).wr FRM.DISPATCH_SUM
      ((m.frm.dispNext.map (·.budget)).sum + budget) := by
  refine ⟨((m.prm.open_.find? fun p => p.cls = 2 && p.hasBead src m.tick).map (·.num)).getD 0, ?_⟩
  unfold dispatch
  exact if_neg (by omega)

end Mod

open Machine.Mod Reg

/-- Settles O10. -/
theorem sequencingBeadsSteer : Obligations.SequencingBeadsSteer := by
  intro s slot pos hdue
  refine ⟨State.runs_next s _ _ _ rfl ?_, fun task budget hb hsum => State.runs_next s _ _ _ rfl ?_, fun num hn => State.runs_next s _ _ _ rfl ?_,
    fun d hd => State.runs_next s _ _ _ rfl ?_, fun i bit pol n hn hi => State.runs_next s _ _ _ rfl ?_,
    fun cls code hroom => State.runs_next s _ _ _ rfl ?_, State.runs_next s _ _ _ rfl ?_⟩
  · rw [beadAt_due hdue (b := .nop) rfl (fun d hd => by cases hd)]
    obtain ⟨hregs, hmem, hstaged, hnext⟩ := onSlot_leaves s.mod slot fun y => { y with next := pos + 1 }
    refine ⟨?_, by rw [settle_mem]; exact hmem, by rw [settle_frm]; exact hstaged, KeepsRegs.settle _ _ _ (KeepsRegs.refl _ _)⟩
    rw [slotX, settle_frm]
    exact congrArg SlotRun.next hnext
  · rw [beadAt_due hdue (decode_dispatch task budget hb (by omega)) (fun d hd => by cases hd)]
    obtain ⟨n, hn⟩ := dispatch_fits ((s.mod.onSlot slot fun y => { y with next := pos + 1 })) task.toNat (s.mod.beadSrc slot pos) hsum
    simp only [beadEffect]
    rw [hn]
    refine ⟨⟨n, by rw [settle_frm]; rfl⟩, ?_, by rw [settle_mem]; rfl, KeepsRegs.settle _ _ _ ?_⟩
    · rw [rd_settle _ _ (by decide), rd_wr_same]
      exact Nat.mod_eq_of_lt (Nat.lt_of_le_of_lt hsum (by decide))
    · rw [keepsRegs_wr (by simp)]
      exact KeepsRegs.refl _ _
  · rw [beadAt_due hdue (decode_prmDone num hn) (fun d hd => by cases hd)]
    refine ⟨by rw [settle_frm]; rfl, by rw [settle_mem]; rfl, by rw [settle_prm]; rfl, KeepsRegs.settle _ _ _ (KeepsRegs.refl _ _)⟩
  · rw [beadAt_due hdue (decode_domWake d) (fun d hd => by cases hd)]
    have hne : ¬ d.val = 30 := by omega
    simp only [beadEffect, domWakeBead, if_neg hne]
    obtain ⟨hbit, hkeep, hmem⟩ := wakeDom_waking (m := s.mod.onSlot slot fun y => { y with next := pos + 1 }) d hd
    refine ⟨?_, by rw [settle_mem, hmem]; rfl, KeepsRegs.settle _ _ _ hkeep⟩
    rw [rd_settle _ _ (by decide)]
    exact hbit
  · rw [beadAt_due hdue (decode_skipIf i bit pol n hn hi) (fun d hd => by cases hd)]
    obtain ⟨-, -, -, hnext⟩ := onSlot_leaves s.mod slot fun y => { y with next := pos + 1 }
    simp only [beadEffect]
    have hsame : (s.mod.onSlot slot fun y => { y with next := pos + 1 }).bit (FRM.SAMPLE i.toNat) bit = s.mod.bit (FRM.SAMPLE i.toNat) bit := rfl
    rw [hsame]
    split
    · refine ⟨?_, by rw [settle_mem]; rfl, KeepsRegs.settle _ _ _ (KeepsRegs.refl _ _)⟩
      rw [slotX, settle_frm]
      exact congrArg SlotRun.next hnext
    · refine ⟨?_, by rw [settle_mem]; rfl, KeepsRegs.settle _ _ _ (KeepsRegs.refl _ _)⟩
      rw [slotX, settle_frm]
      exact congrArg SlotRun.next (onSlot_leaves _ _ _).2.2.2
  · rw [beadAt_due hdue (decode_event cls code) (fun d hd => by cases hd)]
    obtain ⟨-, -, -, hnext⟩ := onSlot_leaves s.mod slot fun y => { y with next := pos + 1 }
    have htag : ((s.mod.onSlot slot fun y => { y with next := pos + 1 }).slotX slot).tag = (s.mod.slotX slot).tag := by
      rw [hnext]
    simp only [beadEffect]
    refine ⟨?_, by rw [settle_mem, ev_mem]; rfl, KeepsRegs.settle _ _ _ ?_⟩
    · rw [← htag]
      exact reported_settle.2 (reported_ev _ _ _ _ rfl rfl hroom)
    · rw [keepsRegs_ev (fun _ h => h) (by omega)]
      exact KeepsRegs.refl _ _
  · rw [beadAt_due hdue (b := .stop) rfl (fun d hd => by cases hd)]
    refine ⟨?_, by rw [settle_mem]; rfl, KeepsRegs.settle _ _ _ (KeepsRegs.refl _ _)⟩
    rw [slotX, settle_frm]
    exact congrArg SlotRun.ended (onSlot_leaves _ _ _).2.2.2

end Sys2Proof.Machine

/-! ### The beads that move a frame (R270, R275, R421) -/
namespace Sys2Proof.Machine

theorem decode_movC2e (k : Fin 8) (o : BitVec 12) :
    decodeBead (0x10 * 2 ^ 26 + (BitVec.ofNat 26 (k * 2 ^ 23 + o.toNat)).toNat) = .ok (.movC2e k o.toNat) := by
  have ho := o.isLt
  generalize o.toNat = a at *
  rw [operands_toNat (by omega)]
  refine decodeBead_ok (op := 0x10) (by rw [fld_eq]; omega) rfl (and_field_eq_zero (lo := 12) (n := 11) (by omega)) ?_ rfl
  simp only [beadOf, fld_eq, Bead.movC2e.injEq]
  omega

theorem decode_movE2c (k : Fin 8) (o : BitVec 12) :
    decodeBead (0x11 * 2 ^ 26 + (BitVec.ofNat 26 (k * 2 ^ 23 + o.toNat)).toNat) = .ok (.movE2c k o.toNat) := by
  have ho := o.isLt
  generalize o.toNat = a at *
  rw [operands_toNat (by omega)]
  refine decodeBead_ok (op := 0x11) (by rw [fld_eq]; omega) rfl (and_field_eq_zero (lo := 12) (n := 11) (by omega)) ?_ rfl
  simp only [beadOf, fld_eq, Bead.movE2c.injEq]
  omega

namespace Mod
open Reg

/-- An uncorrectable read in its registers. -/
theorem eccHit_shows (m : Mod) (k : Fin 4) (a : Nat) (ha : a < 2 ^ 32) {t : Mod} (ht : t = m.eccHit ⟨k, BitVec.ofNat 32 a, true⟩) :
    t.rd EVT.UE_CNT = Nat.min (m.rd EVT.UE_CNT + 1) EVT.UE_CNT.max ∧ t.rd EVT.ECC_ADDR = a ∧ t.rd EVT.ECC_MEM = k ∧ t.rd EVT.ECC_UE = 1 ∧
      m.OnlyPages [0x08] t ∧ t.mem = m.mem ∧ t.prm = m.prm ∧ t.frm = m.frm := by
  have haddr : (BitVec.ofNat 32 a).toNat = a := by
    rw [BitVec.toNat_ofNat]
    exact Nat.mod_eq_of_lt ha
  obtain ⟨u, hu⟩ : ∃ u, u = (((m.wr EVT.ECC_ADDR a).wr EVT.ECC_MEM k).wrB EVT.ECC_UE true).wr EVT.ECC_TICK16 m.tick := ⟨_, rfl⟩
  have hu' : u.rd EVT.UE_CNT = m.rd EVT.UE_CNT ∧ u.rd EVT.ECC_ADDR = a ∧ u.rd EVT.ECC_MEM = k ∧ u.rd EVT.ECC_UE = 1 ∧ m.OnlyPages [0x08] u ∧
      u.mem = m.mem ∧ u.prm = m.prm ∧ u.frm = m.frm := by
    subst hu
    refine ⟨?_, ?_, ?_, ?_, ?_, rfl, rfl, rfl⟩
    · simp (disch := decide) only [wrB, rd_wr_other]
    · simp (disch := decide) only [wrB, rd_wr_other, rd_wr_same]
      exact Nat.mod_eq_of_lt ha
    · simp (disch := decide) only [wrB, rd_wr_other, rd_wr_same]
      exact Nat.mod_eq_of_lt k.isLt
    · simp (disch := decide) only [wrB, rd_wr_other, rd_wr_same]
      rfl
    · rw [onlyPages_wr (by decide), onlyPages_wrB (by decide), onlyPages_wr (by decide), onlyPages_wr (by decide)]
      exact onlyPages_refl _ _
  obtain ⟨hcnt, haddr', hmem, hue, hpages, hm, hp, hf⟩ := hu'
  have hhit : m.eccHit ⟨k, BitVec.ofNat 32 a, true⟩ = (u.inc EVT.UE_CNT).ev 0x08 err 0x0F02 [sj k, sj32 a] := by
    rw [hu]
    simp only [eccHit, haddr, if_true]
    rfl
  rw [ht, hhit]
  have hev (g : Fld) (hg : g ∈ [EVT.UE_CNT, EVT.ECC_ADDR, EVT.ECC_MEM, EVT.ECC_UE]) (l : List Item) :
      ((u.inc EVT.UE_CNT).ev 0x08 err 0x0F02 l).rd g = (u.inc EVT.UE_CNT).rd g :=
    rd_ev_other _ _ _ _ _ _ (by decide) ((by decide : ∀ g ∈ [EVT.UE_CNT, EVT.ECC_ADDR, EVT.ECC_MEM, EVT.ECC_UE], ∀ f ∈ evtFlds 0x08, f.key ≠ g.key) g hg)
  refine ⟨?_, ?_, ?_, ?_, ?_, by rw [ev_mem]; exact hm, by rw [ev_prm]; exact hp, by rw [ev_frm]; exact hf⟩
  · rw [hev _ (by simp), rd_inc_same, hcnt]
  · rw [hev _ (by simp), rd_inc_other _ _ _ (by decide), haddr']
  · rw [hev _ (by simp), rd_inc_other _ _ _ (by decide), hmem]
  · rw [hev _ (by simp), rd_inc_other _ _ _ (by decide), hue]
  · rw [onlyPages_ev (by decide) (by decide) (by decide), onlyPages_inc (by decide)]
    exact hpages

/-- NEW of an object cleared. -/
theorem newCleared (m : Mod) (o : Nat) : (m.setObjBit o 18 false).objBit o 18 = false ∧
    (∀ a, (a < objAddr o + 8 ∨ objAddr o + 12 ≤ a) → (m.setObjBit o 18 false).byte a = m.byte a) :=
  ⟨objBit_setObjBit_same _ _ _ _ (by decide), fun _ ha => byte_store_other _ _ _ _ _ ha⟩

/-- The frame of an object is in memory. -/
theorem bytes_congr {m t : Mod} (h : t.mem = m.mem) (n : Nat) : ∀ a, t.bytes a n = m.bytes a n := by
  induction n with
  | zero => exact fun _ => rfl
  | succ n ih => exact fun a => by rw [bytes, bytes, byte_congr h, ih]

theorem chainFrom_congr {m t : Mod} (h : t.mem = m.mem) (k : Nat) : ∀ s, t.chainFrom k s = m.chainFrom k s := by
  induction k with
  | zero => exact fun _ => rfl
  | succ k ih => exact fun s => by rw [chainFrom, chainFrom, load_congr h, ih]

theorem objData_congr {m t : Mod} (h : t.mem = m.mem) (o : Nat) : t.objData o = m.objData o := by
  have hword : ∀ k, t.objWord o k = m.objWord o k := fun _ => load_congr h _ _
  have hxl : t.objXl o = m.objXl o := by rw [objXl, objXl, hword]
  have hchain : t.objChain o = m.objChain o := by
    rw [objChain, objChain, hxl, load_congr h]
    simp only [chainFrom_congr h]
  rw [objData, objData, hxl, hword, hchain]
  simp only [bytes_congr h]

theorem objFrame_congr {m t : Mod} (h : t.mem = m.mem) (o : Nat) : t.objFrame o = m.objFrame o := by
  simp only [objFrame, objData_congr h, objWord, load_congr h]

/-- The step of a slot is in no frame. -/
theorem c2eFrame_onSlot (m : Mod) (i : Nat) (g : SlotRun → SlotRun) (o : Nat) : (m.onSlot i g).c2eFrame o = m.c2eFrame o := by
  have htick : (m.onSlot i g).stamp 1999 = m.stamp 1999 := by
    rw [stamp, stamp]
    rfl
  have hfull : (m.onSlot i g).fullStamp ((m.onSlot i g).objWord o 3) = m.fullStamp (m.objWord o 3) := by
    simp only [fullStamp, htick]
    rfl
  rw [c2eFrame, c2eFrame, hfull, objFrame_congr (t := m.onSlot i g) (m := m) rfl]
  rfl

/-- The frame of an object leaves as a message. -/
theorem movC2e_shows {m : Mod} {slot : Fin 3} (g : SlotRun → SlotRun) (k : Nat) {o : Nat} (src : Src) {f : CanFrame} {ts : Nat} (hframe : m.c2eFrame o = some (f, ts))
    {t : Mod} (ht : t = ((m.onSlot slot g).beadEffect (.movC2e k o) src none).settle) :
    t.frm.staged = m.frm.staged ++ [⟨src, .c2e k o (acfCan (m.objCtrl o) f (m.vehicleNs ts))⟩] ∧ t.objBit o 18 = false ∧ m.KeepsRegs [] t ∧
      (∀ a, (a < objAddr o + 8 ∨ objAddr o + 12 ≤ a) → t.byte a = m.byte a) := by
  have hparts : ∀ u : Mod, u = m.onSlot slot g → u.c2eFrame o = some (f, ts) ∧ u.objCtrl o = m.objCtrl o ∧ u.vehicleNs ts = m.vehicleNs ts ∧ u.regs = m.regs ∧
      u.mem = m.mem ∧ u.frm.staged = m.frm.staged := by
    rintro u rfl
    exact ⟨(c2eFrame_onSlot _ _ _ _).trans hframe, rfl, rfl, rfl, rfl, rfl⟩
  generalize m.onSlot slot g = u at *
  obtain ⟨hu, hctrl, hns, hregs, hmem, hstaged⟩ := hparts u rfl
  simp only [beadEffect, beadRead, moveC2e, Option.any_none, Bool.false_eq_true, if_false, hu, hctrl, hns] at ht
  obtain ⟨v, hv⟩ : ∃ v, v = u.onPromises (fun p => p.cls = 7 ∧ p.obj = some o) fun p => { p with moved := true } := ⟨_, rfl⟩
  have hv' : v.regs = m.regs ∧ v.mem = m.mem ∧ v.frm.staged = m.frm.staged := by
    subst hv
    exact ⟨hregs, hmem, hstaged⟩
  rw [← hv] at ht
  obtain ⟨hvregs, hvmem, hvstaged⟩ := hv'
  obtain ⟨hnew, hbytes⟩ := newCleared v o
  have htm : t.mem = (v.setObjBit o 18 false).mem := by
    rw [ht, settle_mem]
    rfl
  refine ⟨?_, by rw [objBit_congr htm, hnew], ?_, fun a ha => by rw [byte_congr htm, hbytes a ha, byte_congr hvmem]⟩
  · rw [ht, settle_frm, stage, setObjBit, store_only]
    simp only [hvstaged]
  · rw [ht]
    exact KeepsRegs.settle _ _ _ (KeepsRegs.of_regs _ _ m _ (KeepsRegs.refl _ _) ((setObjBit_regs v o 18 false).trans hvregs))

/-- An object that cannot be read is not sent. -/
theorem movC2e_unread {m : Mod} {slot : Fin 3} (g : SlotRun → SlotRun) {k : Nat} {o : BitVec 12} {src : Src} (w : Fin 20) (hopen : m.prm.open_ = [])
    {t : Mod} (ht : t = ((m.onSlot slot g).beadEffect (.movC2e k o.toNat) src (some (w, true))).settle) :
    t.frm.staged = m.frm.staged ∧ t.objBit o.toNat 18 = false ∧ t.rd EVT.UE_CNT = Nat.min (m.rd EVT.UE_CNT + 1) EVT.UE_CNT.max ∧
      t.rd EVT.ECC_ADDR = objAddr o.toNat + 4 * w ∧ t.rd EVT.ECC_MEM = 1 ∧ t.rd EVT.ECC_UE = 1 ∧ m.OnlyPages [0x08] t ∧
      (∀ a, (a < objAddr o.toNat + 8 ∨ objAddr o.toNat + 12 ≤ a) → t.byte a = m.byte a) := by
  obtain ⟨n, hn⟩ : ∃ n, n = o.toNat := ⟨_, rfl⟩
  have hlt : n < 4096 := hn ▸ o.isLt
  rw [← hn] at ht ⊢
  have haddr : objAddr n + 4 * w < 2 ^ 32 := by
    rw [objAddr]
    omega
  obtain ⟨u, hu⟩ : ∃ u, u = (m.onSlot slot g).eccHit ⟨1, BitVec.ofNat 32 (objAddr n + 4 * w), true⟩ := ⟨_, rfl⟩
  obtain ⟨hcnt, had, hem, hue, hpages, hmem, hprm, hfrm⟩ := eccHit_shows _ 1 _ haddr hu
  have hstaged : u.frm.staged = m.frm.staged := by rw [hfrm]; rfl
  have hvmem : u.mem = m.mem := hmem
  have hpages' : m.OnlyPages [0x08] u := hpages
  have hbreach : (u.setObjBit n 18 false).breachNow (fun p => p.cls = 7 ∧ p.obj = some n ∧ ¬ p.moved) 8 = u.setObjBit n 18 false := by
    have hnone : (u.setObjBit n 18 false).prm.open_ = [] := by
      rw [setObjBit, store_only]
      change u.prm.open_ = []
      rw [hprm]
      exact hopen
    rw [breachNow, hnone]
    rfl
  simp only [beadEffect, beadRead, moveC2e, objHit, Option.any_some, if_true] at ht
  rw [← hu, hbreach] at ht
  clear hu
  obtain ⟨hnew, hbytes⟩ := newCleared u n
  have hregs : (u.setObjBit n 18 false).regs = u.regs := setObjBit_regs _ _ _ _
  have hrd (f : Fld) (hf : f.key ∉ derivedKeys) : t.rd f = u.rd f := by rw [ht, rd_settle _ _ hf, rd_congr hregs]
  have htm : t.mem = (u.setObjBit n 18 false).mem := by rw [ht, settle_mem]
  refine ⟨?_, by rw [objBit_congr htm, hnew], (hrd _ (by decide)).trans hcnt, (hrd _ (by decide)).trans had, (hrd _ (by decide)).trans hem,
    (hrd _ (by decide)).trans hue, ?_, fun a ha => by rw [byte_congr htm, hbytes a ha, byte_congr hvmem]⟩
  · rw [ht, settle_frm, setObjBit, store_only]
    exact hstaged
  · rw [ht, onlyPages_settle]
    exact fun p hp hg => (rd_congr hregs p).trans (hpages' p hp hg)

/-- The counters of busy objects are no derived registers. -/
theorem e2cBusy_own : ∀ n : Fin 16, (CAN.E2C_BUSY_CNT n).key ∉ derivedKeys := by decide

/-- The head of an ingress queue goes to its object, or waits for it. -/
theorem movE2c_shows {m : Mod} {slot : Fin 3} (g : SlotRun → SlotRun) (k o : Nat) {src : Src} {x} {rest} (hin : SMap.get [] m.prm.ingress k = x :: rest)
    {t : Mod} (ht : t = ((m.onSlot slot g).beadEffect (.movE2c k o) src none).settle) :
    t.mem = m.mem ∧ (if m.objBit o 21 = true then
      t.rd (CAN.E2C_BUSY_CNT (m.objCtrl o)) = Nat.min (m.rd (CAN.E2C_BUSY_CNT (m.objCtrl o)) + 1) (CAN.E2C_BUSY_CNT (m.objCtrl o)).max ∧
        t.frm.staged = m.frm.staged ∧ m.KeepsRegs [CAN.E2C_BUSY_CNT (m.objCtrl o)] t
      else t.frm.staged = m.frm.staged ++ [⟨src, .e2c k o x.frame x.prm⟩] ∧ SMap.get [] t.prm.ingress k = rest ∧ m.KeepsRegs [] t) := by
  have hparts : ∀ u : Mod, u = m.onSlot slot g → u.objBit o 21 = m.objBit o 21 ∧ u.objCtrl o = m.objCtrl o ∧ u.prm = m.prm ∧ u.regs = m.regs ∧
      u.mem = m.mem ∧ u.frm.staged = m.frm.staged := by
    rintro u rfl
    exact ⟨rfl, rfl, rfl, rfl, rfl, rfl⟩
  generalize m.onSlot slot g = u at *
  obtain ⟨hbit, hctrl, hprm, hregs, hmem, hstaged⟩ := hparts u rfl
  simp only [beadEffect, takeE2c, hprm, hin, hbit, hctrl] at ht
  have hn : m.objCtrl o < 16 := by
    rw [objCtrl, fld_eq]
    exact Nat.mod_lt _ (by decide)
  split
  next hbusy =>
    rw [if_pos hbusy] at ht
    refine ⟨by rw [ht, settle_mem]; exact hmem, ?_, by rw [ht, settle_frm]; exact hstaged, ?_⟩
    · rw [ht, rd_settle _ _ (e2cBusy_own ⟨_, hn⟩)]
      refine (rd_congr (u := u.inc (CAN.E2C_BUSY_CNT (m.objCtrl o))) rfl _).trans ?_
      rw [rd_inc_same, rd_congr hregs]
    · rw [ht]
      refine KeepsRegs.settle _ _ _ (KeepsRegs.of_regs _ _ (u.inc (CAN.E2C_BUSY_CNT (m.objCtrl o))) _ ?_ rfl)
      rw [keepsRegs_inc (by simp)]
      exact KeepsRegs.of_regs _ _ m _ (KeepsRegs.refl _ _) hregs
  next hfree =>
    rw [if_neg hfree] at ht
    refine ⟨by rw [ht, settle_mem]; exact hmem, ?_, ?_, ?_⟩
    · rw [ht, settle_frm]
      exact congrArg (· ++ [_]) hstaged
    · rw [ht, settle_prm]
      exact SMap.get_set_same _ _ _ _
    · rw [ht]
      exact KeepsRegs.settle _ _ _ (KeepsRegs.of_regs _ _ m _ (KeepsRegs.refl _ _) hregs)

end Mod

open Machine.Mod Reg

/-- Settles O37. -/
theorem moveBeadsCarryObjects : Obligations.MoveBeadsCarryObjects := by
  intro s slot pos hdue k o
  refine ⟨fun f ts hframe => State.runs_next s _ _ _ rfl ?_, fun w hopen => State.runs_next s _ _ _ rfl ?_, fun x rest hin => State.runs_next s _ _ _ rfl ?_⟩
  · rw [beadAt_due hdue (decode_movC2e k o) (fun d hd => by cases hd)]
    exact movC2e_shows _ _ _ hframe rfl
  · rw [beadAt_due hdue (decode_movC2e k o) (fun d hd => by cases hd)]
    exact movC2e_unread _ w hopen rfl
  · rw [beadAt_due hdue (decode_movE2c k o) (fun d hd => by cases hd)]
    exact movE2c_shows _ _ _ hin rfl

end Sys2Proof.Machine

/-! ### Step S9 of the start: what the settings of a port leave alone -/
namespace Sys2Proof.Machine

namespace Mod
open Reg

/-- The start goes on: memory, the state of the start and the port that S9 has reached are as before. -/
structure S9Kept (m t : Mod) : Prop where
  mem : t.mem = m.mem
  boot : t.boot = m.boot
  port : t.rd BOOT.S9_PORT = m.rd BOOT.S9_PORT

theorem S9Kept.refl (m : Mod) : m.S9Kept m := ⟨rfl, rfl, rfl⟩

theorem S9Kept.trans {m t u : Mod} (h : m.S9Kept t) (hu : t.S9Kept u) : m.S9Kept u :=
  ⟨hu.mem.trans h.mem, hu.boot.trans h.boot, hu.port.trans h.port⟩

theorem S9Kept.wrKey {m t : Mod} {f : Fld} (h : m.S9Kept t) (hf : f.key ≠ BOOT.S9_PORT.key) (v : Nat) : m.S9Kept (t.wr f v) :=
  ⟨h.mem, h.boot, (rd_wr_other _ _ _ _ hf).trans h.port⟩

theorem key_ne_s9 {f : Fld} (hf : 6 ≤ f.page) : f.key ≠ BOOT.S9_PORT.key := by
  have hge := key_ge_of_page hf
  have hs9 : BOOT.S9_PORT.key < 6 * 524288 := by decide
  omega

theorem S9Kept.wr {m t : Mod} {f : Fld} (h : m.S9Kept t) (hf : 6 ≤ f.page) (v : Nat) : m.S9Kept (t.wr f v) := h.wrKey (key_ne_s9 hf) v

theorem S9Kept.inc {m t : Mod} {f : Fld} (h : m.S9Kept t) (hf : 6 ≤ f.page) : m.S9Kept (t.inc f) := h.wr hf _

theorem S9Kept.wrB {m t : Mod} {f : Fld} (h : m.S9Kept t) (hf : 6 ≤ f.page) (b : Bool) : m.S9Kept (t.wrB f b) := h.wr hf _

theorem S9Kept.ite {m t u : Mod} {c : Prop} [Decidable c] (ht : m.S9Kept t) (hu : m.S9Kept u) : m.S9Kept (if c then t else u) := by
  split
  · exact ht
  · exact hu

theorem S9Kept.wrBit {m t : Mod} {f : Fld} (h : m.S9Kept t) (hf : f.key ≠ BOOT.S9_PORT.key) (i : Nat) (b : Bool) : m.S9Kept (t.wrBit f i b) := by
  unfold Mod.wrBit
  exact .ite h (h.wrKey hf _)

theorem S9Kept.ev {m t : Mod} (h : m.S9Kept t) {cls : Nat} (hc : cls < 4) (pg code : Nat) (l : List Item) : m.S9Kept (t.ev pg cls code l) :=
  ⟨(ev_mem ..).trans h.mem, (ev_boot ..).trans h.boot, (rd_ev_own _ _ _ _ _ _ hc (by decide) (by decide)).trans h.port⟩

theorem S9Kept.onTrx {m t : Mod} (h : m.S9Kept t) (p : Nat) (f : TrxX → TrxX) : m.S9Kept (t.onTrx p f) := ⟨h.mem, h.boot, h.port⟩

theorem S9Kept.onNm {m t : Mod} (h : m.S9Kept t) (n : Nat) (f : NmX → NmX) : m.S9Kept (t.onNm n f) := ⟨h.mem, h.boot, h.port⟩

theorem S9Kept.onPwr {m t : Mod} (h : m.S9Kept t) (f : PwrX → PwrX) : m.S9Kept (t.onPwr f) := ⟨h.mem, h.boot, h.port⟩

theorem S9Kept.irq {m t : Mod} {pg : Nat} (h : m.S9Kept t) (hpg : 6 ≤ pg) (i : Nat) : m.S9Kept (t.irq pg i) :=
  .ite (h.wrBit (key_ne_s9 (f := COM.PAGE_IRQ pg) hpg) _ _) h

theorem S9Kept.foldl {α : Type} {f : Mod → α → Mod} {l : List α} (hf : ∀ (m : Mod), ∀ a ∈ l, m.S9Kept (f m a)) (m : Mod) : m.S9Kept (l.foldl f m) := by
  induction l generalizing m with
  | nil => exact .refl m
  | cons a l ih => exact (hf m a (by simp)).trans (ih (fun m b hb => hf m b (List.mem_cons_of_mem a hb)) _)

/-! #### Register words -/

theorem s9Kept_fieldWrite (m : Mod) {f : Fld} (hf : 6 ≤ f.page) (v mask : Nat) : m.S9Kept (m.fieldWrite f v mask) := by
  have h := S9Kept.refl m
  unfold fieldWrite
  split
  · exact h.wr hf _
  · exact .ite (h.wr hf _) h
  · exact h.wr hf _
  · exact h.wr hf _
  · exact h

theorem s9Kept_plainWrite (m : Mod) {pg off : Nat} (hf : ∀ f ∈ fieldsAt pg off, 6 ≤ f.page) (v mask : Nat) (skip : List Nat) :
    m.S9Kept (m.plainWrite pg off v mask skip) :=
  .foldl (fun m f hmem => .ite (.refl m) (s9Kept_fieldWrite m (hf f hmem) v mask)) m

theorem s9Kept_keyReject (m : Mod) (pg off vinko : Nat) : m.S9Kept (m.keyReject pg off vinko) := by
  have h := S9Kept.refl m
  exact ((((h.wrKey (f := SYS.KEY_REJ_CNT) (by decide) _).wrKey (f := SYS.KEY_REJ_PAGE) (by decide) _).wrKey (f := SYS.KEY_REJ_OFF) (by decide) _).wrKey
    (f := SYS.KEY_REJ_SRC) (by decide) _).ev (by decide) _ _ _

/-! #### Transceivers -/

theorem portPage_ge (p : Nat) : 6 ≤ portPage p := by
  unfold portPage
  repeat' split
  all_goals omega

theorem s9Kept_wakeDom (m : Mod) (d : Nat) : m.S9Kept (m.wakeDom d) :=
  .ite (.refl m) ((S9Kept.refl m).wrBit (f := PWR.DOM_WAKING) (by decide) d true)

theorem s9Kept_aonWake (m : Mod) (w : Wake) : m.S9Kept (m.aonWake w) := by
  have h := S9Kept.refl m
  exact .ite (.ite ((h.onPwr _).wrKey (f := AON.LATCHED) (by decide) 1) h) (.ite (h.onPwr _) h)

theorem s9Kept_busWakeRecord (m : Mod) (p : Nat) (podl : Bool) : m.S9Kept (m.busWakeRecord p podl) := by
  have hpg := portPage_ge p
  have hshown : m.S9Kept ((((m.wr (TRX.WAKE (portPage p)) 1).wr (TRX.KIND (portPage p)) 1).wr (TRX.WAKE_TICK (portPage p)) m.tick).inc
      (TRX.WAKE_CNT (portPage p))) := ((((S9Kept.refl m).wr hpg _).wr hpg _).wr hpg _).inc hpg
  simp only [busWakeRecord]
  refine S9Kept.trans ?_ (s9Kept_aonWake ..)
  generalize hu : onPwr _ _ = u
  have hkept : m.S9Kept u := by
    rw [← hu]
    refine S9Kept.onPwr ?_ _
    refine S9Kept.trans (t := ite ..) (.ite (hshown.wr hpg _) hshown) (.ite ((S9Kept.refl _).irq hpg 6) (.refl _))
  have hlatched : m.S9Kept (match u.engineOf p with
      | some n => u.onNm n fun x => { x with lWake := true }
      | none => u) := by
    split
    · exact hkept.onNm _ _
    · exact hkept
  exact .ite (hlatched.trans (s9Kept_wakeDom ..)) hlatched

theorem s9Kept_trxRequest (m : Mod) (p t kind : Nat) : m.S9Kept (m.trxRequest p t kind) := by
  have h := S9Kept.refl m
  have hpg := portPage_ge p
  simp only [trxRequest]
  refine .ite (h.onTrx _ _) (.ite ?_ ?_)
  · split
    · exact .ite ((h.onTrx _ _).onNm _ _) (h.onTrx _ _)
    · exact h.onTrx _ _
  · have hbusy (b : Bool) (f : TrxX → TrxX) := ((h.wr (f := TRX.BUSY (portPage p)) hpg 1).wrB (f := TRX.VCC_ON (portPage p)) hpg b).onTrx p f
    have hraised (b : Bool) (f : TrxX → TrxX) (tick : Nat) :=
      ((hbusy b f).wr (f := TRX.KIND (portPage p)) hpg kind).wr (f := TRX.WAKE_TICK (portPage p)) hpg tick
    exact .ite (.ite (((hraised _ _ _).irq hpg 6).ev (by decide) _ _ _) (hraised _ _ _)) (hbusy _ _)

theorem s9Kept_trxWrite (m : Mod) (p v : Nat) : m.S9Kept (m.trxWrite p v) := by
  have h := S9Kept.refl m
  exact .ite h (.ite (h.inc (f := NM.REQ_REJ_CNT) (show 6 ≤ 0x3F by decide)) ((h.wr (portPage_ge p) _).trans (s9Kept_trxRequest ..)))

theorem s9Kept_trxDone (m : Mod) (p : Nat) : m.S9Kept (m.trxDone p) := by
  have h := S9Kept.refl m
  have hpg := portPage_ge p
  simp only [trxDone]
  split
  next => exact h
  next t _ =>
    generalize hu : Mod.onTrx _ _ _ = u
    have hkept : m.S9Kept u := by
      rw [← hu]
      exact (((h.wr hpg _).wr hpg _).wrB hpg _).onTrx _ _
    generalize hw : (if (Mod.trx _ p).latched = true ∧ t ≤ 1 then _ else u) = w
    have hwoken : m.S9Kept w := by
      rw [← hw]
      exact .ite (hkept.trans (s9Kept_busWakeRecord ..)) hkept
    have hfirst (k : Nat) (b : Bool) (f : NmX → NmX) := (hwoken.wrB (f := NM.WAKE_LATCH k) (show 6 ≤ 0x3F by decide) b).onNm k f
    have hlatch {n : Option Nat} {c : Nat → Prop} [DecidablePred c] {b : Bool} {f : NmX → NmX} : m.S9Kept (match n with
        | some n => if c n then (w.wrB (NM.WAKE_LATCH n) b).onNm n f else w
        | none => w) := by
      cases n with
      | none => exact hwoken
      | some n => exact .ite (hfirst n b f) hwoken
    split
    · exact hlatch.trans (s9Kept_trxRequest ..)
    · exact hlatch

theorem s9Kept_portOut (m : Mod) (p : Nat) : m.S9Kept (m.portOut p) :=
  (((S9Kept.refl m).wrBit (f := BOOT.PORT_OOS) (by decide) p true).wrBit (f := PWR.DOM_STAT) (by decide) p false).ev (by decide) _ _ _

theorem s9Kept_portUp (m : Mod) (p : Nat) (ok : Bool) : m.S9Kept (m.portUp p ok) := by
  simp only [portUp]
  generalize hu : (if (m.engineOf p).isSome = true ∨ m.on (TRX.BUSY (portPage p)) = true then m else _) = u
  have hkept : m.S9Kept u := by
    rw [← hu]
    exact .ite (.refl m) (s9Kept_trxRequest ..)
  exact .ite (.ite (hkept.trans (s9Kept_trxDone ..)) hkept) (hkept.trans (s9Kept_portOut ..))

/-! #### The entries of a port -/

/-- The word holds the transceiver's request of a port. -/
theorem s9Kept_trxWord (m : Mod) {p : Nat} (hp : p < 24) (v mask : Nat) (w : Writer) : m.S9Kept (m.wordWrite (portPage p) 0x200 v mask w) := by
  obtain ⟨hmapped, hhq, hdom, hflds⟩ : mapped (portPage p) = true ∧ ¬ (0x10 ≤ portPage p ∧ portPage p ≤ 0x13) ∧ pageDomain (portPage p) < 24 ∧
      ∀ f ∈ fieldsAt (portPage p) 0x200, 6 ≤ f.page := (by decide : ∀ p : Fin 24, mapped (portPage p) = true ∧ ¬ (0x10 ≤ portPage p ∧ portPage p ≤ 0x13) ∧
      pageDomain (portPage p) < 24 ∧ ∀ f ∈ fieldsAt (portPage p) 0x200, 6 ≤ f.page) ⟨p, hp⟩
  simp only [wordWrite]
  generalize hu : (if m.keyOpen (portPage p) = false ∧ m.rwlChanges (portPage p) 0x200 v mask = true then _ else m) = u
  have hkey : m.S9Kept u := by
    rw [← hu]
    exact .ite (s9Kept_keyReject ..) (.refl m)
  refine .ite hkey (hkey.trans ?_)
  rw [if_neg (by decide), if_neg (by decide), if_neg hhq, if_pos ⟨trivial, hdom⟩]
  exact .ite (s9Kept_plainWrite _ hflds ..) ((s9Kept_plainWrite _ hflds ..).trans (s9Kept_trxWrite ..))

/-- The word is one of network management. -/
theorem s9Kept_nmWord (m : Mod) {off : Nat} (hoff : 0x100 ≤ off) (hflds : ∀ f ∈ fieldsAt 0x3F off, 6 ≤ f.page) (v mask : Nat) (w : Writer) :
    m.S9Kept (m.wordWrite 0x3F off v mask w) := by
  have hdom : ¬ (off = 0x200 ∧ pageDomain 0x3F < 24) := fun h => absurd h.2 (by decide)
  simp only [wordWrite]
  generalize hu : (if m.keyOpen 0x3F = false ∧ m.rwlChanges 0x3F off v mask = true then _ else m) = u
  have hkey : m.S9Kept u := by
    rw [← hu]
    exact .ite (s9Kept_keyReject ..) (.refl m)
  refine .ite hkey (hkey.trans ?_)
  rw [if_neg (by omega), if_neg (by omega), if_neg (by decide), if_neg hdom, if_neg (by decide), if_neg (by decide), if_neg (by decide), if_neg (by decide),
    if_neg (by decide), if_neg (by decide), if_pos trivial]
  have hplain (u : Mod) (skip : List Nat) := s9Kept_plainWrite u hflds v mask skip
  simp only [nmWrite]
  have hhold (x : Mod) (n : Nat) (b : Bool) : x.S9Kept (x.nmHold n b) := ((S9Kept.refl x).wrB (f := NM.HOLD n) (show 6 ≤ 0x3F by decide) b).onNm n _
  have hrpt (x : Mod) (n : Nat) : x.S9Kept (x.nmRptReq n) := .ite ((S9Kept.refl x).onNm n _) (.refl x)
  have hheld (n : Nat) (b : Bool) : u.S9Kept (if mask.testBit 0 then (u.plainWrite 0x3F off v mask [0]).nmHold n b else u.plainWrite 0x3F off v mask [0]) :=
    .ite ((hplain u _).trans (hhold ..)) (hplain u _)
  exact .ite (.ite ((hheld _ _).trans (hrpt ..)) (hheld _ _)) (hplain u _)

/-- The words that a port's entries name. -/
def PortWord (p a : Nat) : Prop :=
  a = regAddr (portPage p) 0x200 ∨ ∃ n, portEngine p = some n ∧ (a = regAddr 0x3F (NM.HOLD n).off ∨ a = regAddr 0x3F (NM.NM_EN n).off)

theorem portEntries_word {m : Mod} {p e : Nat} (he : e ∈ m.portEntries p) : PortWord p (m.load e 4) := by
  unfold portEntries at he
  split at he
  · exact absurd he List.not_mem_nil
  · have hword := (List.mem_filter.mp he).2
    simp only [Bool.or_eq_true, decide_eq_true_eq, Option.any_eq_true] at hword
    exact hword

theorem portEngine_lt {p n : Nat} (hp : p < 24) (h : portEngine p = some n) : n < 22 := by
  unfold portEngine at h
  split at h
  · cases h
  split at h
  all_goals
    have := Option.some.inj h
    omega

theorem nmWord_own : ∀ n : Fin 22, (∀ f ∈ fieldsAt 0x3F (NM.HOLD n).off, 6 ≤ f.page) ∧ (∀ f ∈ fieldsAt 0x3F (NM.NM_EN n).off, 6 ≤ f.page) := by decide

/-- An entry of a port is applied. -/
theorem s9Kept_regEntry (m : Mod) {p e : Nat} (hp : p < 24) (hword : PortWord p (m.load e 4)) : m.S9Kept (m.regEntry e) := by
  unfold regEntry
  rcases hword with ha | ⟨n, hn, ha⟩
  · have hpg : portPage p < 0x40 := (by decide : ∀ p : Fin 24, portPage p < 0x40) ⟨p, hp⟩
    have hparts : (m.load e 4 - 0x40000000) / 0x1000 = portPage p ∧ m.load e 4 % 0x1000 = 0x200 := by
      rw [ha, regAddr]
      omega
    simp only [hparts.1, hparts.2]
    exact s9Kept_trxWord m hp ..
  · have hlt := portEngine_lt hp hn
    obtain ⟨hhold, hen⟩ := nmWord_own ⟨n, hlt⟩
    have hparts (off : Nat) (hoff : off < 0x1000) (ha : m.load e 4 = regAddr 0x3F off) : (m.load e 4 - 0x40000000) / 0x1000 = 0x3F ∧ m.load e 4 % 0x1000 = off := by
      rw [ha, regAddr]
      omega
    rcases ha with ha | ha
    · obtain ⟨hpg, hoff⟩ := hparts _ (show 0x114 + 0x20 * n < 0x1000 by omega) ha
      simp only [hpg, hoff]
      exact s9Kept_nmWord m (show 0x100 ≤ 0x114 + 0x20 * n by omega) hhold ..
    · obtain ⟨hpg, hoff⟩ := hparts _ (show 0x100 + 0x20 * n < 0x1000 by omega) ha
      simp only [hpg, hoff]
      exact s9Kept_nmWord m (show 0x100 ≤ 0x100 + 0x20 * n by omega) hen ..

/-- Entries at addresses that memory does not lose are applied in turn. -/
theorem s9Kept_regEntries {p : Nat} (hp : p < 24) : ∀ (l : List Nat) (m : Mod), (∀ e ∈ l, PortWord p (m.load e 4)) → m.S9Kept (l.foldl regEntry m)
  | [], m, _ => .refl m
  | e :: l, m, hl => by
    have hfirst := s9Kept_regEntry m hp (hl e (by simp))
    refine hfirst.trans (s9Kept_regEntries hp l _ fun e' he' => ?_)
    rw [load_congr hfirst.mem]
    exact hl e' (List.mem_cons_of_mem e he')

theorem s9Kept_portEntries (m : Mod) {p : Nat} (hp : p < 24) : m.S9Kept ((m.portEntries p).foldl regEntry m) :=
  s9Kept_regEntries hp _ m fun _ he => portEntries_word he

/-- One port at S9. -/
theorem s9Kept_stepPort (skip : Option Nat) (ports : Nat) (m : Mod) {p : Nat} (hp : p < 24) : (m.wr BOOT.S9_PORT p).S9Kept (stepPort skip ports m p) := by
  have h := s9Kept_portEntries (m.wr BOOT.S9_PORT p) hp
  refine .ite (s9Kept_portOut ..) ?_
  exact S9Kept.trans (.ite (h.wr (portPage_ge p) _) h) (s9Kept_portUp ..)

/-- S9 hangs at a port: the start stands where it stood, and the port shows. -/
theorem portsHang_shows {m : Mod} (hstep : m.boot.step = 9) {p : Nat} (hp : p < 24) (ports : Nat) :
    (m.portsHang p ports).boot = m.boot ∧ (m.portsHang p ports).rd BOOT.S9_PORT = p := by
  have hforN (skip : Option Nat) : ∀ k, k ≤ p → (forN k (stepPort skip ports) m).boot = m.boot := by
    intro k hk
    induction k with
    | zero => rfl
    | succ k ih =>
      rw [forN, List.range_succ, List.foldl_append, List.foldl_cons, List.foldl_nil]
      exact ((s9Kept_stepPort skip ports _ (by omega)).boot).trans (ih (by omega))
  have hmod : p % 2 ^ BOOT.S9_PORT.w = p := Nat.mod_eq_of_lt (by simp only [BOOT.S9_PORT]; omega)
  simp only [portsHang, hstep, ne_eq, not_true_eq_false, if_false]
  generalize hu : (forN p _ m).wr BOOT.S9_PORT p = u
  have hboot : u.boot = m.boot := by
    rw [← hu]
    exact hforN _ p (Nat.le_refl p)
  have hrd : u.rd BOOT.S9_PORT = p := by
    rw [← hu, rd_wr_same, hmod]
  have hkept := s9Kept_portEntries u hp
  exact ⟨hkept.boot.trans hboot, hkept.port.trans hrd⟩

end Mod

end Sys2Proof.Machine

/-! ### The start: its steps, its failure and its end (R441 to R443, R450) -/
namespace Sys2Proof.Machine

theorem find?_filter_of {α : Type} {p : Nat × α → Bool} {k : Nat} (hk : ∀ v, p (k, v) = true) (l : SMap α) :
    SMap.find? (l.filter p) k = SMap.find? l k := by
  induction l with
  | nil => rfl
  | cons e l ih =>
    obtain ⟨j, v⟩ := e
    by_cases hj : j = k
    · subst hj
      rw [List.filter_cons_of_pos (hk v), SMap.find?_cons, SMap.find?_cons, ih]
    · by_cases hp : p (j, v) = true
      · rw [List.filter_cons_of_pos hp, SMap.find?_cons, SMap.find?_cons, ih]
      · rw [List.filter_cons_of_neg hp, SMap.find?_cons, if_neg hj, ih]

theorem find?_filter_not {α : Type} {p : Nat × α → Bool} {k : Nat} (hk : ∀ v, p (k, v) = false) (l : SMap α) : SMap.find? (l.filter p) k = none := by
  induction l with
  | nil => rfl
  | cons e l ih =>
    obtain ⟨j, v⟩ := e
    by_cases hp : p (j, v) = true
    · have hj : j ≠ k := by
        rintro rfl
        exact absurd hp (by simp [hk])
      rw [List.filter_cons_of_pos hp, SMap.find?_cons, if_neg hj, ih]
    · rw [List.filter_cons_of_neg hp, ih]

namespace Mod
open Reg

/-! #### An erased range -/

theorem byte_eraseMem_other (m : Mod) {a n b : Nat} (h : b < a ∨ a + n ≤ b) : (m.eraseMem a n).byte b = m.byte b := by
  rw [byte, byte, eraseMem, SMap.get, SMap.get, find?_filter_of fun _ => by simpa using h]

theorem byte_eraseMem_same (m : Mod) {a n b : Nat} (ha : a ≤ b) (hn : b < a + n) : (m.eraseMem a n).byte b = (blankByte b).toNat := by
  rw [byte, eraseMem, SMap.get, find?_filter_not fun _ => by simp; omega, Option.getD_none]

/-! #### A step passes -/

theorem goStep_shows {m u t : Mod} {k : Nat} (hk : k < 16) (ht : t = (u.goStep k).settle) {l : List Fld} (hmem : BOOT.REACHED ∈ l) (hkept : m.KeepsRegs l u) :
    t.boot.step = k ∧ t.rd BOOT.REACHED = k ∧ (∀ g, BOOT.REACHED.key ≠ g.key → g.key ∉ derivedKeys → t.rd g = u.rd g) ∧ t.mem = u.mem ∧ m.KeepsRegs l t := by
  subst ht
  refine ⟨by rw [settle_boot]; rfl, ?_, fun g hne hg => ?_, by rw [settle_mem]; rfl, ?_⟩
  · rw [rd_settle _ _ (by decide)]
    exact (rd_wr_same ..).trans (Nat.mod_eq_of_lt hk)
  · rw [rd_settle _ _ hg]
    exact rd_wr_other _ _ _ _ hne
  · rw [keepsRegs_settle]
    exact (keepsRegs_wr hmem m u k).mpr hkept

/-! #### A step fails -/

/-- A step of the start that fails leaves its number, is counted and reported, and asks for a Warm reset. -/
def StepFailed (m : Mod) (cause : Nat) (t : Mod) : Prop :=
  t.boot.step = 15 ∧ t.boot.resetDue = 3 ∧ t.rd BOOT.LAST_FAIL = m.boot.step ∧
    t.rd BOOT.FAIL_CNT = Nat.min (m.rd BOOT.FAIL_CNT + 1) BOOT.FAIL_CNT.max ∧ m.Reported t 0x05 err 0x1001 [sj m.boot.step, sj cause] ∧
    t.mem = m.mem ∧ m.KeepsRegs ([BOOT.REACHED, BOOT.LAST_FAIL, BOOT.FAIL_CNT] ++ evtFlds 0x05) t

/-- A failed step shows its number, is counted and reported. -/
theorem stepFail_reported {m u : Mod} {k cause : Nat} (hk : k ≤ 10) (hu : u = (((m.wr BOOT.REACHED k).wr BOOT.LAST_FAIL k).inc BOOT.FAIL_CNT).ev 0x05 err 0x1001 [sj k, sj cause]) :
    u.rd BOOT.S9_PORT = m.rd BOOT.S9_PORT ∧ u.rd BOOT.LAST_FAIL = k ∧ u.rd BOOT.REACHED = k ∧
      u.rd BOOT.FAIL_CNT = Nat.min (m.rd BOOT.FAIL_CNT + 1) BOOT.FAIL_CNT.max ∧ (m.Room 1 → m.Reported u 0x05 err 0x1001 [sj k, sj cause]) ∧
      u.mem = m.mem ∧ u.boot = m.boot ∧ m.KeepsRegs ([BOOT.REACHED, BOOT.LAST_FAIL, BOOT.FAIL_CNT] ++ evtFlds 0x05) u := by
  subst hu
  obtain ⟨v, hv⟩ : ∃ v, v = (m.wr BOOT.REACHED k).wr BOOT.LAST_FAIL k := ⟨_, rfl⟩
  have hreached : v.rd BOOT.REACHED = k := by
    rw [hv, rd_wr_other _ _ _ _ (by decide), rd_wr_same]
    exact Nat.mod_eq_of_lt (show k < 16 by omega)
  have hfail : v.rd BOOT.LAST_FAIL = k := by
    rw [hv, rd_wr_same]
    exact Nat.mod_eq_of_lt (show k < 16 by omega)
  have hother (g : Fld) (h1 : BOOT.REACHED.key ≠ g.key) (h2 : BOOT.LAST_FAIL.key ≠ g.key) : v.rd g = m.rd g := by
    rw [hv, rd_wr_other _ _ _ _ h2, rd_wr_other _ _ _ _ h1]
  have hown (g : Fld) (hg : BOOT.FAIL_CNT.key ≠ g.key) (h8 : g.key / 524288 ≠ 8) (hoff : 0x100 ≤ g.key / 128 % 4096) :
      ((v.inc BOOT.FAIL_CNT).ev 0x05 err 0x1001 [sj k, sj cause]).rd g = v.rd g := by
    rw [rd_ev_own _ _ _ _ _ _ (by decide) h8 hoff]
    exact rd_wr_other _ _ _ _ hg
  rw [← hv]
  refine ⟨?_, ?_, ?_, ?_, fun hroom => reported_ev _ _ _ _ ?_ ?_ hroom, ?_, ?_, ?_⟩
  · rw [hown _ (by decide) (by decide) (by decide), hother _ (by decide) (by decide)]
  · rw [hown _ (by decide) (by decide) (by decide), hfail]
  · rw [hown _ (by decide) (by decide) (by decide), hreached]
  · rw [rd_ev_own _ _ _ _ _ _ (by decide) (by decide) (by decide), rd_inc_same, hother _ (by decide) (by decide)]
  · rw [hv]
    rfl
  · rw [hv]
    rfl
  · rw [ev_mem, hv]
    rfl
  · rw [ev_boot, hv]
    rfl
  · have hv_kept : m.KeepsRegs ([BOOT.REACHED, BOOT.LAST_FAIL, BOOT.FAIL_CNT] ++ evtFlds 0x05) v := by
      rw [hv, keepsRegs_wr (by simp), keepsRegs_wr (by simp)]
      exact keepsRegs_refl _ m
    rw [keepsRegs_ev (List.subset_append_right _ _) (by decide), keepsRegs_inc (by simp)]
    exact hv_kept

theorem stepFail_shows {m t : Mod} {cause : Nat} (hstep : m.boot.step ≤ 10) (hdue : m.boot.resetDue = 0) (hroom : m.Room 1)
    (ht : t = (m.stepFail cause).settle) : m.StepFailed cause t := by
  obtain ⟨u, hu⟩ : ∃ u, u = (((m.wr BOOT.REACHED m.boot.step).wr BOOT.LAST_FAIL m.boot.step).inc BOOT.FAIL_CNT).ev 0x05 err 0x1001 [sj m.boot.step, sj cause] := ⟨_, rfl⟩
  obtain ⟨-, hlast, -, hcnt, hrep, hmem, hboot, hkept⟩ := stepFail_reported hstep hu
  have hrun : m.stepFail cause = u.onBoot fun x => { x with step := 15, counting := false, resetDue := if x.resetDue = 0 then 3 else x.resetDue } := by
    rw [stepFail, show Nat.min m.boot.step 10 = m.boot.step from Nat.min_eq_left hstep, hu]
  rw [hrun] at ht
  subst ht
  refine ⟨by rw [settle_boot]; rfl, ?_, ?_, ?_, ?_, ?_, ?_⟩
  · rw [settle_boot]
    exact if_pos (by rw [hboot, hdue])
  · rw [rd_settle _ _ (by decide)]
    exact hlast
  · rw [rd_settle _ _ (by decide)]
    exact hcnt
  · rw [reported_settle]
    exact hrep hroom
  · rw [settle_mem]
    exact hmem
  · rw [keepsRegs_settle]
    exact hkept

/-- What a failed step leaves of the register that names the port, and of the start. -/
theorem stepFail_leaves {m t : Mod} {cause : Nat} (hstep : m.boot.step = 9) (hdue : m.boot.resetDue = 0) (ht : t = (m.stepFail cause).settle) :
    t.rd BOOT.S9_PORT = m.rd BOOT.S9_PORT ∧ t.rd BOOT.LAST_FAIL = 9 ∧ t.rd BOOT.REACHED = 9 ∧ t.boot.step = 15 ∧ t.boot.resetDue = 3 := by
  obtain ⟨u, hu⟩ : ∃ u, u = (((m.wr BOOT.REACHED 9).wr BOOT.LAST_FAIL 9).inc BOOT.FAIL_CNT).ev 0x05 err 0x1001 [sj 9, sj cause] := ⟨_, rfl⟩
  obtain ⟨hport, hlast, hreached, -, -, -, hboot, -⟩ := stepFail_reported (by decide) hu
  have hrun : m.stepFail cause = u.onBoot fun x => { x with step := 15, counting := false, resetDue := if x.resetDue = 0 then 3 else x.resetDue } := by
    rw [stepFail, hstep, hu]
    rfl
  rw [hrun] at ht
  subst ht
  refine ⟨?_, ?_, ?_, by rw [settle_boot]; rfl, ?_⟩
  · rw [rd_settle _ _ (by decide)]
    exact hport
  · rw [rd_settle _ _ (by decide)]
    exact hlast
  · rw [rd_settle _ _ (by decide)]
    exact hreached
  · rw [settle_boot]
    exact if_pos (by rw [hboot, hdue])

/-! #### The end of the start -/

/-- The hundredth heartbeat completes the start. -/
def StartCompleted (m : Mod) (ms : Nat) (t : Mod) : Prop :=
  t.rd BOOT.REACHED = 0xF ∧ t.rd BOOT.ALT_TRY = 0xF ∧ t.rd BOOT.START_MS = ms ∧
    t.rd BOOT.START_CNT = Nat.min (m.rd BOOT.START_CNT + 1) BOOT.START_CNT.max ∧ m.Reported t 0x05 info 0x1004 [vl16 ms] ∧
    t.boot.counting = false ∧ t.boot.step = 15 ∧ t.mem = m.mem ∧
    m.KeepsRegs ([BOOT.REACHED, BOOT.ALT_TRY, BOOT.START_MS, BOOT.START_CNT] ++ evtFlds 0x05) t

theorem startComplete_shows {m t : Mod} {ms : Nat} (hcount : m.boot.counting = true) (hhb : 100 ≤ m.boot.hb) (htrial : m.boot.onTrial = false) (hroom : m.Room 1)
    (hms : ms < 65536) (ht : t = (m.startComplete ms).settle) : m.StartCompleted ms t := by
  obtain ⟨v, hv⟩ : ∃ v, v = (m.wr BOOT.REACHED 0xF).wr BOOT.ALT_TRY 0xF := ⟨_, rfl⟩
  obtain ⟨u, hu⟩ : ∃ u, u = ((v.inc BOOT.START_CNT).wr BOOT.START_MS ms).ev 0x05 info 0x1004 [vl16 ms] := ⟨_, rfl⟩
  have hle : ms ≤ 65535 := by omega
  have hsat : (v.inc BOOT.START_CNT).sat BOOT.START_MS ms = (v.inc BOOT.START_CNT).wr BOOT.START_MS ms := by
    rw [sat, show Nat.min ms BOOT.START_MS.max = ms from Nat.min_eq_left hle]
  have huboot : u.boot = m.boot := by
    rw [hu, ev_boot, hv]
    rfl
  have hrun : m.startComplete ms = (u.onPwr fun x => { x with vpodBlocked := false }).onBoot fun x => { x with step := 15, counting := false } := by
    simp only [startComplete, hcount, Nat.not_lt.mpr hhb, ← hv, hsat, show Nat.min ms 65535 = ms from Nat.min_eq_left hle, ← hu, not_true_eq_false, or_self, if_false]
    rw [if_neg]
    simp [onBoot, onPwr, huboot, htrial]
  rw [hrun] at ht
  have hother (g : Fld) (h1 : BOOT.START_CNT.key ≠ g.key) (h2 : BOOT.START_MS.key ≠ g.key) (h8 : g.key / 524288 ≠ 8) (hoff : 0x100 ≤ g.key / 128 % 4096) :
      u.rd g = v.rd g := by
    rw [hu, rd_ev_own _ _ _ _ _ _ (by decide) h8 hoff, rd_wr_other _ _ _ _ h2]
    exact rd_wr_other _ _ _ _ h1
  subst ht
  refine ⟨?_, ?_, ?_, ?_, ?_, by rw [settle_boot]; rfl, by rw [settle_boot]; rfl, ?_, ?_⟩
  · rw [rd_settle _ _ (by decide)]
    refine (hother _ (by decide) (by decide) (by decide) (by decide)).trans ?_
    rw [hv, rd_wr_other _ _ _ _ (by decide), rd_wr_same]
    rfl
  · rw [rd_settle _ _ (by decide)]
    refine (hother _ (by decide) (by decide) (by decide) (by decide)).trans ?_
    rw [hv, rd_wr_same]
    rfl
  · rw [rd_settle _ _ (by decide)]
    show u.rd _ = _
    rw [hu, rd_ev_own _ _ _ _ _ _ (by decide) (by decide) (by decide), rd_wr_same]
    exact Nat.mod_eq_of_lt hms
  · rw [rd_settle _ _ (by decide)]
    show u.rd _ = _
    rw [hu, rd_ev_own _ _ _ _ _ _ (by decide) (by decide) (by decide), rd_wr_other _ _ _ _ (by decide), rd_inc_same, hv, rd_wr_other _ _ _ _ (by decide),
      rd_wr_other _ _ _ _ (by decide)]
  · rw [reported_settle]
    show m.Reported u _ _ _ _
    rw [hu]
    refine reported_ev _ _ _ _ ?_ ?_ hroom <;> rw [hv] <;> rfl
  · rw [settle_mem]
    show u.mem = _
    rw [hu, ev_mem, hv]
    rfl
  · rw [keepsRegs_settle]
    show m.KeepsRegs _ u
    rw [hu, keepsRegs_ev (List.subset_append_right _ _) (by decide), keepsRegs_wr (by simp), keepsRegs_inc (by simp), hv, keepsRegs_wr (by simp),
      keepsRegs_wr (by simp)]
    exact keepsRegs_refl _ m

end Mod

open Machine.Mod Reg

theorem not_alt {m : Mod} {k : Nat} (halt : m.boot.altStep = 15) (hstep : m.boot.step = k) (hk : k < 15) : m.alt = false := by
  have hne : m.boot.altStep ≠ m.boot.step := by omega
  simp [alt, hne]

/-- S1 selects the supply. -/
theorem startSupply_runs (s : State) (r : StepRes) (halt : s.mod.boot.altStep = 15) (hstep : s.mod.boot.step = 1) (hkind : s.mod.boot.kind ≠ 2) (hsrc : r.src ≠ 0) :
    s.Runs (.startStepComplete r) fun m t => t.boot.step = 2 ∧ t.rd BOOT.REACHED = 2 ∧
      t.rd PWR.SRC = r.src ∧ t.rd PWR.VBL_LOW = 0 ∧ t.mem = m.mem ∧ m.KeepsRegs [BOOT.REACHED, PWR.SRC, PWR.VBL_LOW] t := by
  refine State.runs_next s _ _ _ rfl ?_
  obtain ⟨m, hm⟩ : ∃ m, m = s.mod := ⟨_, rfl⟩
  rw [← hm] at halt hstep hkind ⊢
  obtain ⟨u, hu⟩ : ∃ u, u = (m.wr PWR.SRC r.src).wr PWR.VBL_LOW 0 := ⟨_, rfl⟩
  have hsrc' : ¬ ((r.src : Nat) = 0) := fun h => hsrc (Fin.ext h)
  have hrun : m.startStep r = u.goStep 2 := by
    simp [startStep, hstep, stepSupply, not_alt halt hstep (by decide), hkind, hsrc, hu]
  have hkept : m.KeepsRegs [BOOT.REACHED, PWR.SRC, PWR.VBL_LOW] u := by
    rw [hu, keepsRegs_wr (by simp), keepsRegs_wr (by simp)]
    exact keepsRegs_refl _ m
  obtain ⟨hgo, hreached, hrd, hmem, hregs⟩ := goStep_shows (m := m) (u := u) (k := 2) (by decide) rfl (by simp) hkept
  rw [hrun]
  refine ⟨hgo, hreached, ?_, ?_, hmem.trans (by rw [hu]; rfl), hregs⟩
  · rw [hrd _ (by decide) (by decide), hu, rd_wr_other _ _ _ _ (by decide), rd_wr_same]
    exact Nat.mod_eq_of_lt (Nat.lt_trans r.src.isLt (by decide))
  · rw [hrd _ (by decide) (by decide), hu, rd_wr_same]
    rfl

/-- S2 shows the clocks. -/
theorem startClocks_runs (s : State) (r : StepRes) (halt : s.mod.boot.altStep = 15) (hstep : s.mod.boot.step = 2) (hpass : r.pass = true) :
    s.Runs (.startStepComplete r) fun m t => t.boot.step = 3 ∧ t.rd BOOT.REACHED = 3 ∧
      t.rd CLK.XTAL_OK = 1 ∧ t.rd CLK.PLL_PAIR = 1 ∧ t.rd CLK.PLL_SEQ = 1 ∧ t.mem = m.mem ∧
      m.KeepsRegs [BOOT.REACHED, CLK.XTAL_OK, CLK.PLL_PAIR, CLK.PLL_SEQ] t := by
  refine State.runs_next s _ _ _ rfl ?_
  obtain ⟨m, hm⟩ : ∃ m, m = s.mod := ⟨_, rfl⟩
  rw [← hm] at halt hstep ⊢
  obtain ⟨u, hu⟩ : ∃ u, u = m.clocksUp := ⟨_, rfl⟩
  have hrun : m.startStep r = u.goStep 3 := by simp [startStep, hstep, stepClocks, not_alt halt hstep (by decide), hpass, hu]
  have hkept : m.KeepsRegs [BOOT.REACHED, CLK.XTAL_OK, CLK.PLL_PAIR, CLK.PLL_SEQ] u := by
    rw [hu, clocksUp, keepsRegs_wr (by simp), keepsRegs_wr (by simp), keepsRegs_wr (by simp)]
    exact keepsRegs_refl _ m
  obtain ⟨hgo, hreached, hrd, hmem, hregs⟩ := goStep_shows (m := m) (u := u) (k := 3) (by decide) rfl (by simp) hkept
  rw [hrun]
  refine ⟨hgo, hreached, ?_, ?_, ?_, hmem.trans (by rw [hu]; rfl), hregs⟩
  · rw [hrd _ (by decide) (by decide), hu, clocksUp, rd_wr_other _ _ _ _ (by decide), rd_wr_other _ _ _ _ (by decide), rd_wr_same]
    rfl
  · rw [hrd _ (by decide) (by decide), hu, clocksUp, rd_wr_other _ _ _ _ (by decide), rd_wr_same]
    rfl
  · rw [hrd _ (by decide) (by decide), hu, clocksUp, rd_wr_same]
    rfl

/-- S3 of a Cold start clears the SRAM. -/
theorem startMemory_runs (s : State) (r : StepRes) (hstep : s.mod.boot.step = 3) (hkind : s.mod.boot.kind = 0) (hpass : r.pass = true) :
    s.Runs (.startStepComplete r) fun m t => t.boot.step = 4 ∧
      (∀ a, 0x20000000 ≤ a → a < 0x20200000 → t.byte a = 0) ∧ (∀ a, a < 0x20000000 ∨ 0x22080000 ≤ a → t.byte a = m.byte a) ∧
      m.KeepsRegs [BOOT.REACHED] t := by
  refine State.runs_next s _ _ _ rfl ?_
  obtain ⟨m, hm⟩ : ∃ m, m = s.mod := ⟨_, rfl⟩
  rw [← hm] at hstep hkind ⊢
  obtain ⟨u, hu⟩ : ∃ u, u = ((m.eraseMem 0x20000000 0x200000).eraseMem 0x21000000 0x80000).eraseMem 0x22000000 0x80000 := ⟨_, rfl⟩
  have hrun : m.startStep r = u.goStep 4 := by simp [startStep, hstep, stepMemory, hkind, hpass, hu]
  have hkept : m.KeepsRegs [BOOT.REACHED] u := by
    rw [hu]
    exact keepsRegs_refl _ m
  obtain ⟨hgo, -, -, hmem, hregs⟩ := goStep_shows (m := m) (u := u) (k := 4) (by decide) rfl (by simp) hkept
  rw [hrun]
  refine ⟨hgo, fun a hlo hhi => ?_, fun a ha => ?_, hregs⟩
  · rw [byte_congr hmem, hu, byte_eraseMem_other _ (by omega), byte_eraseMem_other _ (by omega), byte_eraseMem_same _ (by omega) (by omega), blankByte,
      if_neg (by omega)]
    rfl
  · rw [byte_congr hmem, hu, byte_eraseMem_other _ (by omega), byte_eraseMem_other _ (by omega), byte_eraseMem_other _ (by omega)]

/-- S4 shows the injection test passed. -/
theorem startComparator_runs (s : State) (r : StepRes) (hstep : s.mod.boot.step = 4) (hinj : r.inj = none) :
    s.Runs (.startStepComplete r) fun m t => t.boot.step = 5 ∧ t.rd PAIR.INJ_RESULT = 1 ∧ t.mem = m.mem ∧ m.OnlyPages [0x05, 0x09] t := by
  refine State.runs_next s _ _ _ rfl ?_
  obtain ⟨m, hm⟩ : ∃ m, m = s.mod := ⟨_, rfl⟩
  rw [← hm] at hstep ⊢
  obtain ⟨u, hu⟩ : ∃ u, u = (m.inc PAIR.INJ_RUNS).wr PAIR.INJ_RESULT 1 := ⟨_, rfl⟩
  have hrun : m.startStep r = u.goStep 5 := by simp [startStep, hstep, stepComparator, injResult, hinj, hu]
  have hkept : m.KeepsRegs [BOOT.REACHED, PAIR.INJ_RUNS, PAIR.INJ_RESULT] u := by
    rw [hu, keepsRegs_wr (by simp), keepsRegs_inc (by simp)]
    exact keepsRegs_refl _ m
  obtain ⟨hgo, -, hrd, hmem, hregs⟩ := goStep_shows (m := m) (u := u) (k := 5) (by decide) rfl (by simp) hkept
  rw [hrun]
  refine ⟨hgo, ?_, hmem.trans (by rw [hu]; rfl), hregs.onlyPages (by decide)⟩
  rw [hrd _ (by decide) (by decide), hu, rd_wr_same]
  rfl

/-- S10 passes with a heartbeat. -/
theorem startHeartbeat_runs (s : State) (r : StepRes) (hstep : s.mod.boot.step = 10) (hhb : 1 ≤ s.mod.boot.hb) :
    s.Runs (.startStepComplete r) fun m t => t.boot.step = 15 ∧ t.mem = m.mem ∧ m.KeepsRegs [] t := by
  refine State.runs_next s _ _ _ rfl ?_
  have hne : s.mod.boot.hb ≠ 0 := by omega
  have hrun : s.mod.startStep r = s.mod.onBoot fun x => { x with step := 15 } := by simp [startStep, hstep, hne]
  rw [hrun, settle_boot, settle_mem, keepsRegs_settle]
  exact ⟨rfl, rfl, keepsRegs_refl [] s.mod⟩

/-- The watchdog of a step other than S9 fails it. -/
theorem startWatchdog_fails (s : State) (p : Fin 24) (l : BitVec 24) (hroom : s.mod.Room 1) (hstep : s.mod.boot.step ≤ 10) (hdue : s.mod.boot.resetDue = 0)
    (hne : s.mod.boot.step ≠ 9) : s.Runs (.startWatchdog p l) fun m t => m.StepFailed 2 t := by
  refine State.runs_next s _ _ _ rfl (stepFail_shows hstep hdue hroom ?_)
  rw [if_pos hstep, portsHang, if_pos hne]

/-- Clocks that do not come up fail S2. -/
theorem startClocks_fail (s : State) (r : StepRes) (hroom : s.mod.Room 1) (hdue : s.mod.boot.resetDue = 0) (hstep : s.mod.boot.step = 2) (hpass : r.pass = false) :
    s.Runs (.startStepComplete r) fun m t => m.StepFailed 1 t := by
  refine State.runs_next s _ _ _ rfl (stepFail_shows (by omega) hdue hroom ?_)
  simp [startStep, hstep, stepClocks, hpass]

/-- The watchdog at S9 leaves the port that hung. -/
theorem startWatchdog_atPort (s : State) (p : Fin 24) (l : BitVec 24) (hstep : s.mod.boot.step = 9) (hdue : s.mod.boot.resetDue = 0) :
    s.Runs (.startWatchdog p l) fun _ t => t.rd BOOT.S9_PORT = p ∧ t.rd BOOT.LAST_FAIL = 9 ∧ t.rd BOOT.REACHED = 9 ∧ t.boot.step = 15 ∧ t.boot.resetDue = 3 := by
  refine State.runs_next s _ _ _ rfl ?_
  obtain ⟨hboot, hport⟩ := portsHang_shows hstep p.isLt l.toNat
  rw [if_pos (by omega)]
  obtain ⟨hkept, hleft⟩ := stepFail_leaves (cause := 2) (by rw [hboot, hstep]) (by rw [hboot, hdue]) rfl
  exact ⟨hkept.trans hport, hleft⟩

/-- The hundredth heartbeat completes the start. -/
theorem startComplete_runs (s : State) (ms : BitVec 16) (hcount : s.mod.boot.counting = true) (hhb : 100 ≤ s.mod.boot.hb) (htrial : s.mod.boot.onTrial = false)
    (hroom : s.mod.Room 1) : s.Runs (.startComplete ms) fun m t => m.StartCompleted ms.toNat t :=
  State.runs_next s _ _ _ rfl (startComplete_shows hcount hhb htrial hroom ms.isLt rfl)

/-- Settles O55: each step that passes goes on by `goStep_shows`, each that fails ends in `stepFail_shows`; at S9 the settings of the ports leave memory, the
state of the start and the port's number alone (`portsHang_shows`). -/
theorem startStepsAdvanceOrFail : Obligations.StartStepsAdvanceOrFail := by
  unfold Obligations.StartStepsAdvanceOrFail
  intro s r halt
  exact ⟨startSupply_runs s r halt, startClocks_runs s r halt, startMemory_runs s r, startComparator_runs s r, startHeartbeat_runs s r,
    fun hroom hstep hdue => ⟨fun hne p l => startWatchdog_fails s p l hroom hstep hdue hne, fun htwo hpass => startClocks_fail s r hroom hdue htwo hpass⟩,
    startWatchdog_atPort s, startComplete_runs s⟩

end Sys2Proof.Machine

/-! ### What the blocks' operations leave to the tick boundary

One rule per operation: none of them moves the tick, the held tick or the watchdog's count. The rules compose by `simp`, along the calls of each definition;
where a definition matches, the proof names the split. -/
namespace Sys2Proof.Machine

namespace Mod
open Reg

/-- What a tick boundary alone moves: the tick, the tick that a rollback holds, the frames that the watchdog of the pair has counted. -/
def pace (m : Mod) : Nat × Option HeldTick × Nat := (m.frm.tick, m.frm.held, m.pair.wdt)

theorem pace_congr {m t : Mod} (hfrm : t.frm = m.frm) (hpair : t.pair = m.pair) : t.pace = m.pace := by rw [pace, hfrm, hpair, pace]

@[simp] theorem pace_mk (m : Mod) (regs mem evt prm chans banks quads dia brs qds watches sinks led engs top clr lss cis fio img cans trxs lins t1s
    nms vnk bbs ets pwr boot sec uds upd poolUsed) :
    pace ⟨regs, mem, evt, m.frm, prm, chans, banks, quads, dia, brs, qds, m.pair, watches, sinks, led, engs, top, clr, lss, cis, fio, img, cans, trxs,
      lins, t1s, nms, vnk, bbs, ets, pwr, boot, sec, uds, upd, poolUsed⟩ = m.pace := pace_congr rfl rfl

@[simp] theorem pace_ite (c : Prop) [Decidable c] (a b : Mod) : (if c then a else b).pace = if c then a.pace else b.pace := apply_ite pace c a b

@[simp] theorem pace_foldl {α : Type} {f : Mod → α → Mod} (hf : ∀ (m : Mod) a, (f m a).pace = m.pace) (l : List α) (m : Mod) : (l.foldl f m).pace = m.pace := by
  induction l generalizing m with
  | nil => rfl
  | cons a l ih => exact (ih _).trans (hf m a)

@[simp] theorem pace_forN {f : Mod → Nat → Mod} (hf : ∀ (m : Mod) i, (f m i).pace = m.pace) (n : Nat) (m : Mod) : (forN n f m).pace = m.pace :=
  pace_foldl hf _ m

@[simp] theorem pace_setByte (m : Mod) (a v : Nat) : (m.setByte a v).pace = m.pace := pace_congr rfl rfl
@[simp] theorem pace_store (m : Mod) (a n v : Nat) : (m.store a n v).pace = m.pace := by rw [store_only]; rfl
@[simp] theorem pace_setBytes (m : Mod) (a : Nat) (l : List Nat) : (m.setBytes a l).pace = m.pace := by rw [setBytes_only]; rfl
@[simp] theorem pace_onBoot (m : Mod) (f : BootX → BootX) : (m.onBoot f).pace = m.pace := pace_congr rfl rfl
@[simp] theorem pace_onLs (m : Mod) (k : Nat) (f : LsX → LsX) : (m.onLs k f).pace = m.pace := pace_congr rfl rfl

@[simp] theorem pace_onFrm (m : Mod) (f : FrmX → FrmX) (htick : (f m.frm).tick = m.frm.tick) (hheld : (f m.frm).held = m.frm.held) :
    (m.onFrm f).pace = m.pace := by rw [pace, pace, onFrm_frm, htick, hheld, onFrm_pair]

/-! #### Events, interrupts, domains -/

@[simp] theorem pace_wr (m : Mod) (f : Fld) (v : Nat) : (m.wr f v).pace = m.pace := pace_congr rfl rfl
@[simp] theorem pace_wrB (m : Mod) (f : Fld) (b : Bool) : (m.wrB f b).pace = m.pace := pace_congr rfl rfl
@[simp] theorem pace_add (m : Mod) (f : Fld) (n : Nat) : (m.add f n).pace = m.pace := pace_congr rfl rfl
@[simp] theorem pace_inc (m : Mod) (f : Fld) : (m.inc f).pace = m.pace := pace_congr rfl rfl
@[simp] theorem pace_wrBit (m : Mod) (f : Fld) (i : Nat) (b : Bool) : (m.wrBit f i b).pace = m.pace := by simp [wrBit]
@[simp] theorem pace_irq (m : Mod) (pg i : Nat) : (m.irq pg i).pace = m.pace := by simp [irq]
@[simp] theorem pace_dropped (m : Mod) (c : Nat) : (m.dropped c).pace = m.pace := by simp [dropped]

@[simp] theorem pace_intake (m : Mod) (e : EvtIn) : (m.intake e).pace = m.pace := by
  simp only [intake]
  split
  · simp
  · split <;> simp

@[simp] theorem pace_countEvt (m : Mod) (pg code : Nat) : (m.countEvt pg code).pace = m.pace := by simp [countEvt]
@[simp] theorem pace_probationEvt (m : Mod) (pg cls : Nat) : (m.probationEvt pg cls).pace = m.pace := by simp [probationEvt]
@[simp] theorem pace_ev (m : Mod) (pg cls code : Nat) (items : List Item) : (m.ev pg cls code items).pace = m.pace := by simp [ev]
@[simp] theorem pace_wakeDom (m : Mod) (d : Nat) : (m.wakeDom d).pace = m.pace := by simp [wakeDom]
@[simp] theorem pace_keyReject (m : Mod) (pg off vinko : Nat) : (m.keyReject pg off vinko).pace = m.pace := by simp [keyReject]

/-! #### The host port -/

@[simp] theorem pace_onVnk (m : Mod) (f : VnkX → VnkX) : (m.onVnk f).pace = m.pace := pace_congr rfl rfl
@[simp] theorem pace_onBb (m : Mod) (n : Nat) (f : BbX → BbX) : (m.onBb n f).pace = m.pace := pace_congr rfl rfl
@[simp] theorem pace_bbSent (m : Mod) (n : Nat) : (m.bbSent n).pace = m.pace := by simp [bbSent]
@[simp] theorem pace_outPut (m : Mod) (kind : OutKind) (dest seq rtag : Nat) (body : List Nat) :
    (m.outPut kind dest seq rtag body).pace = m.pace := by simp [outPut]
@[simp] theorem pace_hostSend (m : Mod) (kind : OutKind) (dest seq : Nat) (body : List Nat) :
    (m.hostSend kind dest seq body).pace = m.pace := by simp [hostSend]
@[simp] theorem pace_notice (m : Mod) (slot kind : Nat) (body : List Nat) : (m.notice slot kind body).pace = m.pace := by simp [notice]
@[simp] theorem pace_promiseNotice (m : Mod) (slot kind cls num ref code detail deadline : Nat) :
    (m.promiseNotice slot kind cls num ref code detail deadline).pace = m.pace := by simp [promiseNotice]

/-! #### Power channels and bridges (chapters 3 and 6) -/

@[simp] theorem pace_setChan (m : Mod) (q c : Nat) (x : ChanX) : (m.setChan q c x).pace = m.pace := pace_congr rfl rfl
@[simp] theorem pace_onChan (m : Mod) (q c : Nat) (f : ChanX → ChanX) : (m.onChan q c f).pace = m.pace := pace_congr rfl rfl
@[simp] theorem pace_onBank (m : Mod) (b : Nat) (f : BankX → BankX) : (m.onBank b f).pace = m.pace := pace_congr rfl rfl
@[simp] theorem pace_onQuad (m : Mod) (q : Nat) (f : QuadX → QuadX) : (m.onQuad q f).pace = m.pace := pace_congr rfl rfl
@[simp] theorem pace_onBr (m : Mod) (k : Nat) (f : BrX → BrX) : (m.onBr k f).pace = m.pace := pace_congr rfl rfl
@[simp] theorem pace_qevPage (m : Mod) (q pg cls code : Nat) (items : List Item) : (m.qevPage q pg cls code items).pace = m.pace := by simp [qevPage]
@[simp] theorem pace_qev (m : Mod) (q cls code : Nat) (items : List Item) : (m.qev q cls code items).pace = m.pace := by simp [qev]
@[simp] theorem pace_syncPermit (m : Mod) (q c : Nat) : (m.syncPermit q c).pace = m.pace := by simp [syncPermit]
@[simp] theorem pace_showQueue (m : Mod) (q b : Nat) : (m.showQueue q b).pace = m.pace := by simp [showQueue]
@[simp] theorem pace_enqueue (m : Mod) (q c : Nat) : (m.enqueue q c).pace = m.pace := by simp [enqueue]
@[simp] theorem pace_dequeue (m : Mod) (q c : Nat) : (m.dequeue q c).pace = m.pace := by simp [dequeue]
@[simp] theorem pace_diagBusy (m : Mod) (q c : Nat) (b : Bool) : (m.diagBusy q c b).pace = m.pace := by simp [diagBusy]
@[simp] theorem pace_diagCode (m : Mod) (q c code v : Nat) : (m.diagCode q c code v).pace = m.pace := by simp [diagCode]
@[simp] theorem pace_diagResult (m : Mod) (q c code v : Nat) : (m.diagResult q c code v).pace = m.pace := by simp [diagResult]
@[simp] theorem pace_offPhaseDrop (m : Mod) (q c : Nat) : (m.offPhaseDrop q c).pace = m.pace := by simp [offPhaseDrop]
@[simp] theorem pace_diagLeaveOff (m : Mod) (q c : Nat) : (m.diagLeaveOff q c).pace = m.pace := by simp [diagLeaveOff]
@[simp] theorem pace_diagLeaveOn (m : Mod) (q c : Nat) (prot : Bool) : (m.diagLeaveOn q c prot).pace = m.pace := by simp [diagLeaveOn]
@[simp] theorem pace_offCore (m : Mod) (q c : Nat) (prot : Bool) : (m.offCore q c prot).pace = m.pace := by simp [offCore]
@[simp] theorem pace_offOne (m : Mod) (q c : Nat) (prot : Bool) : (m.offOne q c prot).pace = m.pace := by simp [offOne]
@[simp] theorem pace_onOne (m : Mod) (q c out duty first : Nat) : (m.onOne q c out duty first).pace = m.pace := by simp [onOne]
@[simp] theorem pace_onUnit (m : Mod) (q c : Nat) (f : ChanX → ChanX) : (m.onUnit q c f).pace = m.pace := by simp [onUnit]
@[simp] theorem pace_outUnit (m : Mod) (q c v : Nat) : (m.outUnit q c v).pace = m.pace := by simp [outUnit]
@[simp] theorem pace_onGroup (m : Mod) (q c out duty : Nat) : (m.onGroup q c out duty).pace = m.pace := by simp [onGroup]
@[simp] theorem pace_offGroup (m : Mod) (q c : Nat) (prot : Bool) : (m.offGroup q c prot).pace = m.pace := by simp [offGroup]
@[simp] theorem pace_overplan (m : Mod) (q c : Nat) : (m.overplan q c).pace = m.pace := by simp [overplan]
@[simp] theorem pace_moveTo (m : Mod) (q c : Nat) (want : Cmd) (auto : Bool) : (m.moveTo q c want auto).pace = m.pace := by simp [moveTo]
@[simp] theorem pace_bridgeCurrent (m : Mod) (k : Nat) : (m.bridgeCurrent k).pace = m.pace := by simp [bridgeCurrent]
@[simp] theorem pace_setApplied (m : Mod) (k mode : Nat) : (m.setApplied k mode).pace = m.pace := by simp [setApplied]
@[simp] theorem pace_brDrive (m : Mod) (k : Nat) (auto : Bool) : (m.brDrive k auto).pace = m.pace := by simp [brDrive]
@[simp] theorem pace_brAfresh (m : Mod) (k duty : Nat) : (m.brAfresh k duty).pace = m.pace := by simp [brAfresh]
@[simp] theorem pace_brStart (m : Mod) (k mode duty : Nat) (auto : Bool) : (m.brStart k mode duty auto).pace = m.pace := by simp [brStart]
@[simp] theorem pace_brFrame (m : Mod) (k mode duty : Nat) (auto : Bool) : (m.brFrame k mode duty auto).pace = m.pace := by simp [brFrame]
@[simp] theorem pace_drive (m : Mod) (q c : Nat) (auto : Bool) : (m.drive q c auto).pace = m.pace := by simp [drive]
@[simp] theorem pace_protOff (m : Mod) (q c : Nat) : (m.protOff q c).pace = m.pace := by simp [protOff]
@[simp] theorem pace_clearPermit (m : Mod) (q c i : Nat) : (m.clearPermit q c i).pace = m.pace := by simp [clearPermit]
@[simp] theorem pace_raisePermit (m : Mod) (q c i : Nat) : (m.raisePermit q c i).pace = m.pace := by simp [raisePermit]

@[simp] theorem pace_permitRose (m : Mod) (q c i : Nat) : (m.permitRose q c i).pace = m.pace := by
  simp only [permitRose]
  split
  · simp
  · split <;> simp

@[simp] theorem pace_setPermit (m : Mod) (q c i : Nat) : (m.setPermit q c i).pace = m.pace := by simp [setPermit]
@[simp] theorem pace_syncOwner (m : Mod) (q c : Nat) : (m.syncOwner q c).pace = m.pace := by simp [syncOwner]
@[simp] theorem pace_brOwner (m : Mod) (k : Nat) : (m.brOwner k).pace = m.pace := by simp [brOwner]
@[simp] theorem pace_ownerChanged (m : Mod) (q c : Nat) : (m.ownerChanged q c).pace = m.pace := by simp [ownerChanged]
@[simp] theorem pace_keepHold (m : Mod) (q c : Nat) : (m.keepHold q c).pace = m.pace := by simp [keepHold]
@[simp] theorem pace_keepSafe (m : Mod) (q c : Nat) : (m.keepSafe q c).pace = m.pace := by simp [keepSafe]
@[simp] theorem pace_assertOwner (m : Mod) (q c o : Nat) : (m.assertOwner q c o).pace = m.pace := by simp [assertOwner]
@[simp] theorem pace_releaseOwner (m : Mod) (q c o : Nat) : (m.releaseOwner q c o).pace = m.pace := by simp [releaseOwner]
@[simp] theorem pace_lock (m : Mod) (q c : Nat) : (m.lock q c).pace = m.pace := by simp [lock]

/-! #### The command path of channels and bridges -/

@[simp] theorem pace_cmdReject (m : Mod) (q c cause : Nat) : (m.cmdReject q c cause).pace = m.pace := by simp [cmdReject]
@[simp] theorem pace_motReject (m : Mod) (k cause : Nat) : (m.motReject k cause).pace = m.pace := by simp [motReject]
@[simp] theorem pace_chRelease (m : Mod) (q c act arg : Nat) : (m.chRelease q c act arg).pace = m.pace := by simp [chRelease]
@[simp] theorem pace_pairEn (m : Mod) (q v : Nat) : (m.pairEn q v).pace = m.pace := by simp [pairEn]
@[simp] theorem pace_brEn (m : Mod) (k v : Nat) : (m.brEn k v).pace = m.pace := by simp [brEn]
@[simp] theorem pace_baseplate (m : Mod) (t0 t1 t2 t3 : Nat) : (m.baseplate t0 t1 t2 t3).pace = m.pace := by simp [baseplate]

/-! #### Protection (chapter 4) -/

@[simp] theorem pace_wireModel (m : Mod) (q c : Nat) : (m.wireModel q c).pace = m.pace := by simp [wireModel]
@[simp] theorem pace_wireJudge (m : Mod) (q c : Nat) : (m.wireJudge q c).pace = m.pace := by simp [wireJudge]
@[simp] theorem pace_wireFrame (m : Mod) (q c : Nat) : (m.wireFrame q c).pace = m.pace := by simp [wireFrame]
@[simp] theorem pace_setClampB (m : Mod) (q c : Nat) (b : Rat) : (m.setClampB q c b).pace = m.pace := by simp [setClampB]
@[simp] theorem pace_clampFrame (m : Mod) (q c : Nat) : (m.clampFrame q c).pace = m.pace := by simp [clampFrame]
@[simp] theorem pace_quadFrame (m : Mod) (q : Nat) : (m.quadFrame q).pace = m.pace := by simp [quadFrame]
@[simp] theorem pace_hedgeFrame (m : Mod) : (m.hedgeFrame).pace = m.pace := by simp [hedgeFrame]
@[simp] theorem pace_pauseFrom (m : Mod) (q less : Nat) : (m.pauseFrom q less).pace = m.pace := by simp [pauseFrom]
@[simp] theorem pace_parkFrame (m : Mod) : (m.parkFrame).pace = m.pace := by simp [parkFrame]
@[simp] theorem pace_latchClr (m : Mod) (q c : Nat) : (m.latchClr q c).pace = m.pace := by simp [latchClr]
@[simp] theorem pace_freeze (m : Mod) (q : Nat) : (m.freeze q).pace = m.pace := by simp [freeze]
@[simp] theorem pace_unfreeze (m : Mod) (q : Nat) : (m.unfreeze q).pace = m.pace := by simp [unfreeze]
@[simp] theorem pace_assertAll (m : Mod) (q o : Nat) : (m.assertAll q o).pace = m.pace := by simp [assertAll]
@[simp] theorem pace_releaseAll (m : Mod) (q o : Nat) : (m.releaseAll q o).pace = m.pace := by simp [releaseAll]
@[simp] theorem pace_quadHold (m : Mod) (q : Nat) : (m.quadHold q).pace = m.pace := by simp [quadHold]
@[simp] theorem pace_quadSafeRel (m : Mod) (q : Nat) : (m.quadSafeRel q).pace = m.pace := by simp [quadSafeRel]

/-! #### Load diagnostics (chapter 5) -/

@[simp] theorem pace_diagAtOnce (m : Mod) (q c kind code : Nat) : (m.diagAtOnce q c kind code).pace = m.pace := by simp [diagAtOnce]
@[simp] theorem pace_diagStart (m : Mod) (q c kind : Nat) (run : DiagRun) : (m.diagStart q c kind run).pace = m.pace := by simp [diagStart]
@[simp] theorem pace_diagRequest (m : Mod) (q c kind : Nat) : (m.diagRequest q c kind).pace = m.pace := by simp [diagRequest]

/-! #### Motors and the position unit (chapter 6) -/

@[simp] theorem pace_brCommand (m : Mod) (k mode duty : Nat) : (m.brCommand k mode duty).pace = m.pace := by simp [brCommand]
@[simp] theorem pace_motRelease (m : Mod) (k mode duty : Nat) : (m.motRelease k mode duty).pace = m.pace := by simp [motRelease]
@[simp] theorem pace_rampStep (m : Mod) (k : Nat) : (m.rampStep k).pace = m.pace := by simp [rampStep]
@[simp] theorem pace_onQd (m : Mod) (j : Nat) (f : QdX → QdX) : (m.onQd j f).pace = m.pace := pace_congr rfl rfl
@[simp] theorem pace_qdPosSet (m : Mod) (j v : Nat) (boundary : Bool) : (m.qdPosSet j v boundary).pace = m.pace := by simp [qdPosSet]

/-! #### Watched blocks -/

@[simp] theorem pace_onWatch (m : Mod) (b : Nat) (f : WatchX → WatchX) : (m.onWatch b f).pace = m.pace := pace_congr rfl rfl
@[simp] theorem pace_blockEv (m : Mod) (b pg : Nat) (lost : Fld) (cls code : Nat) (items : List Item) :
    (m.blockEv b pg lost cls code items).pace = m.pace := by simp [blockEv]
@[simp] theorem pace_wev (m : Mod) (w : Watched) (cls code : Nat) (items : List Item) : (m.wev w cls code items).pace = m.pace := by simp [wev]

@[simp] theorem pace_blockHold {w : Watched} (hassert : ∀ (m : Mod) o, (w.assert m o).pace = m.pace) (m : Mod) : (m.blockHold w).pace = m.pace := by
  simp [blockHold, hassert]

@[simp] theorem pace_blockSafeRel {w : Watched} (hrelease : ∀ (m : Mod) o, (w.release m o).pace = m.pace) (m : Mod) : (m.blockSafeRel w).pace = m.pace := by
  simp [blockSafeRel, hrelease]

/-! #### Lighting (chapter 7) -/

@[simp] theorem pace_onSink (m : Mod) (n : Nat) (f : SinkX → SinkX) : (m.onSink n f).pace = m.pace := pace_congr rfl rfl
@[simp] theorem pace_onEng (m : Mod) (e : Nat) (f : EngX → EngX) : (m.onEng e f).pace = m.pace := pace_congr rfl rfl
@[simp] theorem pace_ledEv (m : Mod) (pg cls code : Nat) (items : List Item) : (m.ledEv pg cls code items).pace = m.pace := by simp [ledEv]

@[simp] theorem pace_setLoopDuty (m : Mod) (n v : Nat) : (m.setLoopDuty n v).pace = m.pace := by
  simp only [setLoopDuty]
  split <;> simp

@[simp] theorem pace_sinkOff (m : Mod) (n : Nat) : (m.sinkOff n).pace = m.pace := by simp [sinkOff]
@[simp] theorem pace_sinkRelease (m : Mod) (n o : Nat) : (m.sinkRelease n o).pace = m.pace := by simp [sinkRelease]
@[simp] theorem pace_sinkAssert (m : Mod) (n o : Nat) : (m.sinkAssert n o).pace = m.pace := by simp [sinkAssert]
@[simp] theorem pace_ledAssert (m : Mod) (o : Nat) : (ledW.assert m o).pace = m.pace := by simp [ledW]
@[simp] theorem pace_ledRelease (m : Mod) (o : Nat) : (ledW.release m o).pace = m.pace := by simp [ledW]
@[simp] theorem pace_thClear (m : Mod) : (m.thClear).pace = m.pace := by simp [thClear]
@[simp] theorem pace_nbGo (m : Mod) : (m.nbGo).pace = m.pace := by simp [nbGo]
@[simp] theorem pace_setPc (m : Mod) (e pc : Nat) : (m.setPc e pc).pace = m.pace := by simp [setPc]
@[simp] theorem pace_pcNext (m : Mod) (e : Nat) : (m.pcNext e).pace = m.pace := by simp [pcNext]
@[simp] theorem pace_engFault (m : Mod) (e cause : Nat) : (m.engFault e cause).pace = m.pace := by simp [engFault]

@[simp] theorem pace_engRampStep (m : Mod) (e : Nat) : (m.engRampStep e).pace = m.pace := by
  simp only [engRampStep]
  split <;> simp

@[simp] theorem pace_setCounter (m : Mod) (e c v : Nat) : (m.setCounter e c v).pace = m.pace := by simp [setCounter]

@[simp] theorem pace_topiRun (m : Mod) (e : Nat) (i : Topi) : (m.topiRun e i).1.pace = m.pace := by
  cases i <;> simp [topiRun, apply_ite Prod.fst]

@[simp] theorem pace_engRun (e n : Nat) : ∀ m : Mod, (m.engRun e n).pace = m.pace := by
  induction n with
  | zero => exact fun _ => rfl
  | succ n ih =>
    intro m
    simp only [engRun]
    split
    · simp
    · split <;> simp [ih]

@[simp] theorem pace_engStep (m : Mod) (e : Nat) : (m.engStep e).pace = m.pace := by
  simp only [engStep]
  split
  · simp
  · split <;> simp

@[simp] theorem pace_flagsLand (m : Mod) : (m.flagsLand).pace = m.pace := by simp [flagsLand]
@[simp] theorem pace_engines (m : Mod) : (m.engines).pace = m.pace := by simp [engines]
@[simp] theorem pace_enginesStep (m : Mod) (own : Bool) : (m.enginesStep own).pace = m.pace := by simp [enginesStep]

@[simp] theorem pace_enginesFrame (m : Mod) : (m.enginesFrame).pace = m.pace := by
  simp only [enginesFrame]
  split
  · simp
  · split <;> simp

@[simp] theorem pace_engStop (m : Mod) (e : Nat) : (m.engStop e).pace = m.pace := by simp [engStop]

@[simp] theorem pace_engCommand (m : Mod) (e op addr : Nat) : (m.engCommand e op addr).pace = m.pace := by
  unfold engCommand
  split
  case h_2 =>
    dsimp only
    generalize hu : List.foldl _ _ _ = u
    have hcleared : u.pace = m.pace := by
      rw [← hu, pace_foldl fun _ _ => pace_wr ..]
      simp
    split <;> simp [hcleared]
  all_goals simp

@[simp] theorem pace_targetReject (m : Mod) (t cause : Nat) : (m.targetReject t cause).pace = m.pace := by simp [targetReject]
@[simp] theorem pace_targetApply (m : Mod) (t : Nat) : (m.targetApply t).pace = m.pace := by simp [targetApply]
@[simp] theorem pace_rawTransfer (m : Mod) (v : Nat) : (m.rawTransfer v).pace = m.pace := by simp [rawTransfer]
@[simp] theorem pace_progWrite (m : Mod) (e i v : Nat) : (m.progWrite e i v).pace = m.pace := by simp [progWrite]

/-! #### Field I/O (chapter 8) -/

@[simp] theorem pace_onCi (m : Mod) (j : Nat) (f : CiX → CiX) : (m.onCi j f).pace = m.pace := pace_congr rfl rfl
@[simp] theorem pace_onFio (m : Mod) (f : FioX → FioX) : (m.onFio f).pace = m.pace := pace_congr rfl rfl
@[simp] theorem pace_cleanStart (m : Mod) (i : Nat) : (m.cleanStart i).pace = m.pace := by simp [cleanStart]
@[simp] theorem pace_filtTake (m : Mod) (i : Nat) : (m.filtTake i).pace = m.pace := by simp [filtTake]
@[simp] theorem pace_rawShow (m : Mod) (i : Nat) : (m.rawShow i).pace = m.pace := by simp [rawShow]
@[simp] theorem pace_lsApply (m : Mod) (k : Nat) : (m.lsApply k).pace = m.pace := by simp [lsApply]
@[simp] theorem pace_lsCommand (m : Mod) (k : Nat) (on : Bool) : (m.lsCommand k on).pace = m.pace := by simp [lsCommand]
@[simp] theorem pace_lsAssert (m : Mod) (k o : Nat) : (m.lsAssert k o).pace = m.pace := by simp [lsAssert]
@[simp] theorem pace_lsRelease (m : Mod) (k o : Nat) : (m.lsRelease k o).pace = m.pace := by simp [lsRelease]
@[simp] theorem pace_fioAssert (m : Mod) (o : Nat) : (fioW.assert m o).pace = m.pace := by simp [fioW]
@[simp] theorem pace_fioRelease (m : Mod) (o : Nat) : (fioW.release m o).pace = m.pace := by simp [fioW]
@[simp] theorem pace_lsCmdWord (m : Mod) (v : Nat) : (m.lsCmdWord v).pace = m.pace := by simp [lsCmdWord]
@[simp] theorem pace_fioDiag (m : Mod) (ch kind : Nat) : (m.fioDiag ch kind).pace = m.pace := by simp [fioDiag]

@[simp] theorem pace_diagWrite (m : Mod) (w : Writer) : (m.diagWrite w).pace = m.pace := by
  simp only [diagWrite]
  split <;> simp

/-! #### Promises (chapter 2) -/

@[simp] theorem pace_onPrm (m : Mod) (f : PrmX → PrmX) : (m.onPrm f).pace = m.pace := pace_congr rfl rfl
@[simp] theorem pace_onPromises (m : Mod) (p : Promise → Bool) (f : Promise → Promise) : (m.onPromises p f).pace = m.pace := by simp [onPromises]
@[simp] theorem pace_blame (m : Mod) (p : Promise → Bool) (cause : Nat) : (m.blame p cause).pace = m.pace := by simp [blame]
@[simp] theorem pace_closePromise (m : Mod) (p : Promise) : (m.closePromise p).pace = m.pace := by simp [closePromise]

@[simp] theorem pace_keepPromise (m : Mod) (p : Promise) : (m.keepPromise p).pace = m.pace := by
  simp only [keepPromise]
  split <;> simp

@[simp] theorem pace_breachWith (m : Mod) (p : Promise) (cause d16 : Nat) (withdrawn : Bool) : (m.breachWith p cause d16 withdrawn).pace = m.pace := by
  simp only [breachWith]
  split <;> simp

@[simp] theorem pace_breach (m : Mod) (p : Promise) (cause : Nat) : (m.breach p cause).pace = m.pace := by simp [breach]

@[simp] theorem pace_judge (m : Mod) (num : Nat) : (m.judge num).pace = m.pace := by
  simp only [judge]
  split <;> simp

@[simp] theorem pace_promiseReleased (m : Mod) (num : Nat) : (m.promiseReleased num).pace = m.pace := by
  simp only [promiseReleased]
  split <;> simp

@[simp] theorem pace_envStart (m : Mod) (port : Nat) (boundary : Bool) : (m.envStart port boundary).pace = m.pace := by simp [envStart]
@[simp] theorem pace_envAdd (m : Mod) (port cycles frames : Nat) : (m.envAdd port cycles frames).pace = m.pace := by simp [envAdd]

/-! #### Transceivers -/

@[simp] theorem pace_onTrx (m : Mod) (p : Nat) (f : TrxX → TrxX) : (m.onTrx p f).pace = m.pace := pace_congr rfl rfl
@[simp] theorem pace_onNm (m : Mod) (n : Nat) (f : NmX → NmX) : (m.onNm n f).pace = m.pace := pace_congr rfl rfl
@[simp] theorem pace_onPwr (m : Mod) (f : PwrX → PwrX) : (m.onPwr f).pace = m.pace := pace_congr rfl rfl
@[simp] theorem pace_aonWake (m : Mod) (w : Wake) : (m.aonWake w).pace = m.pace := by simp [aonWake]

@[simp] theorem pace_trxRequest (m : Mod) (p t kind : Nat) : (m.trxRequest p t kind).pace = m.pace := by
  simp only [trxRequest]
  split
  · simp
  · split
    · split <;> simp
    · simp

@[simp] theorem pace_trxWrite (m : Mod) (p v : Nat) : (m.trxWrite p v).pace = m.pace := by simp [trxWrite]

/-! #### CAN (chapter 9) -/

@[simp] theorem pace_onCan (m : Mod) (n : Nat) (f : CanX → CanX) : (m.onCan n f).pace = m.pace := pace_congr rfl rfl
@[simp] theorem pace_setObjBit (m : Mod) (o b : Nat) (v : Bool) : (m.setObjBit o b v).pace = m.pace := by simp [setObjBit]
@[simp] theorem pace_stepSeq (m : Mod) (o : Nat) : (m.stepSeq o).pace = m.pace := by simp [stepSeq]
@[simp] theorem pace_poolSet (m : Mod) (l : List Nat) : (m.poolSet l).pace = m.pace := by simp [poolSet]

@[simp] theorem pace_putChain (l : List Nat) : ∀ (m : Mod) (d : List Nat), (m.putChain l d).pace = m.pace := by
  induction l with
  | nil => exact fun m d => rfl
  | cons k l ih =>
    intro m d
    rw [putChain, ih, pace_store, pace_setBytes]

@[simp] theorem pace_putFrame (m : Mod) (o : Nat) (f : CanFrame) : (m.putFrame o f).pace = m.pace := by simp [putFrame]
@[simp] theorem pace_poolDrop (m : Mod) (n o : Nat) (f : CanFrame) : (m.poolDrop n o f).pace = m.pace := by simp [poolDrop]
@[simp] theorem pace_badObj (m : Mod) (o cause : Nat) : (m.badObj o cause).pace = m.pace := by simp [badObj]
@[simp] theorem pace_setQueue (m : Mod) (n : Nat) (q : List (Nat × Nat)) : (m.setQueue n q).pace = m.pace := by simp [setQueue]
@[simp] theorem pace_arbitrate (m : Mod) (n : Nat) : (m.arbitrate n).pace = m.pace := by simp [arbitrate]
@[simp] theorem pace_e2cStore (m : Mod) (o : Nat) (f : CanFrame) (prm : Nat) : (m.e2cStore o f prm).pace = m.pace := by simp [e2cStore]

@[simp] theorem pace_landWrites (m : Mod) (n : Nat) : (m.landWrites n).pace = m.pace := by
  refine (pace_foldl (fun t d => ?_) _ _).trans (pace_onCan ..)
  split
  · rw [pace_stepSeq, pace_setObjBit, pace_store]
  · split
    · exact pace_e2cStore ..
    · rfl

@[simp] theorem pace_emptyQueue (m : Mod) (n : Nat) : (m.emptyQueue n).pace = m.pace := by simp [emptyQueue]
@[simp] theorem pace_canOff (m : Mod) (n : Nat) : (m.canOff n).pace = m.pace := by simp [canOff]
@[simp] theorem pace_modeTake (m : Mod) (n mode : Nat) : (m.modeTake n mode).pace = m.pace := by simp [modeTake]
@[simp] theorem pace_objContent (m : Mod) (o a v : Nat) : (m.objContent o a v).pace = m.pace := by simp [objContent]

@[simp] theorem pace_canEnter (m : Mod) (n o : Nat) : (m.canEnter n o).pace = m.pace := by
  simp only [canEnter]
  split
  · simp
  · split
    · simp
    · split
      · split <;> simp
      · split
        · simp
        · rw [pace_arbitrate]
          split <;> simp

@[simp] theorem pace_canMode (m : Mod) (n mode : Nat) (busy : Bool) : (m.canMode n mode busy).pace = m.pace := by simp [canMode]

@[simp] theorem pace_canBuild (m : Mod) (n : Nat) : (m.canBuild n).pace = m.pace := by
  simp only [canBuild]
  split
  · simp
  · split <;> simp

@[simp] theorem pace_condClear (m : Mod) (o v : Nat) : (m.condClear o v).pace = m.pace := by simp [condClear]
@[simp] theorem pace_moveE2c (m : Mod) (o : Nat) (f : CanFrame) (prm : Nat) : (m.moveE2c o f prm).pace = m.pace := by simp [moveE2c]
@[simp] theorem pace_canRestart (m : Mod) (n : Nat) : (m.canRestart n).pace = m.pace := by simp [canRestart]

/-! #### LIN and 10BASE-T1S (chapter 10) -/

@[simp] theorem pace_onLin (m : Mod) (p : Nat) (f : LinX → LinX) : (m.onLin p f).pace = m.pace := pace_congr rfl rfl
@[simp] theorem pace_onTseg (m : Mod) (n : Nat) (f : T1sX → T1sX) : (m.onTseg n f).pace = m.pace := pace_congr rfl rfl
@[simp] theorem pace_setPub (m : Mod) (p id : Nat) (l : List Nat) : (m.setPub p id l).pace = m.pace := by simp [setPub]

@[simp] theorem pace_linHeader (m : Mod) (p id : Nat) (boundary : Bool) : (m.linHeader p id boundary).pace = m.pace := by
  simp only [linHeader]
  split <;>
  · split
    · simp
    · split
      · simp
      · simp only [pace_onLin, pace_envStart, pace_wr]
        repeat' split
        all_goals simp

@[simp] theorem pace_pulseOccupy (m : Mod) (p : Nat) : (m.pulseOccupy p).pace = m.pace := by
  simp only [pulseOccupy]
  split <;> simp

@[simp] theorem pace_linOccupy (m : Mod) (p cyc : Nat) : (m.linOccupy p cyc).pace = m.pace := by simp [linOccupy]
@[simp] theorem pace_linWakeTx (m : Mod) (p : Nat) : (m.linWakeTx p).pace = m.pace := by simp [linWakeTx]

/-! #### Network management (chapter 12) -/

@[simp] theorem pace_nmCanSend (m : Mod) (n : Nat) (b : List Nat) : (m.nmCanSend n b).pace = m.pace := by simp [nmCanSend]
@[simp] theorem pace_nmSend (m : Mod) (n : Nat) (b : List Nat) : (m.nmSend n b).pace = m.pace := by simp [nmSend]
@[simp] theorem pace_nmHold (m : Mod) (n : Nat) (v : Bool) : (m.nmHold n v).pace = m.pace := by simp [nmHold]
@[simp] theorem pace_nmRptReq (m : Mod) (n : Nat) : (m.nmRptReq n).pace = m.pace := by simp [nmRptReq]

/-! #### The log and the scrubber (chapter 15) -/

@[simp] theorem pace_onEvt (m : Mod) (f : EvtX → EvtX) : (m.onEvt f).pace = m.pace := pace_congr rfl rfl
@[simp] theorem pace_flashBad (m : Mod) (region block : Nat) : (m.flashBad region block).pace = m.pace := by simp [flashBad]
@[simp] theorem pace_scrubFw (m : Mod) : (m.scrubFw).pace = m.pace := by simp [scrubFw]
@[simp] theorem pace_scrubCfg (m : Mod) : (m.scrubCfg).pace = m.pace := by simp [scrubCfg]
@[simp] theorem pace_scrubFlash (m : Mod) : (m.scrubFlash).pace = m.pace := by simp [scrubFlash]
@[simp] theorem pace_raiseWord (m : Mod) (v : Nat) : (m.raiseWord v).pace = m.pace := by simp [raiseWord]

/-! #### The scrubber of the flash -/

@[simp] theorem pace_onSec (m : Mod) (f : SecX → SecX) : (m.onSec f).pace = m.pace := pace_congr rfl rfl

/-! #### The Hold order -/

@[simp] theorem pace_holdOrder (m : Mod) : (m.holdOrder).pace = m.pace := by simp [holdOrder]

/-! #### The backbone (chapter 11) -/

@[simp] theorem pace_sakTake (m : Mod) (n : Nat) : (m.sakTake n).pace = m.pace := by
  simp only [sakTake]
  split <;> simp

/-! #### Power states (chapter 13) -/

@[simp] theorem pace_voteCount (m : Mod) (cnt : Nat → Fld) (v : Vote) : (m.voteCount cnt v).pace = m.pace := by
  simp only [voteCount]
  split <;> simp

@[simp] theorem pace_voteReport (m : Mod) (t : Nat) (abort : Bool) (v : Vote) : (m.voteReport t abort v).pace = m.pace := by simp [voteReport]

@[simp] theorem pace_refused (m : Mod) (t : Nat) (vs : List Vote) : (m.refused t vs).pace = m.pace := by
  simp only [refused]
  split <;> simp

@[simp] theorem pace_changeStart (m : Mod) (t by_ : Nat) : (m.changeStart t by_).pace = m.pace := by
  simp only [changeStart]
  split
  · split <;> simp
  · simp

@[simp] theorem pace_powerRequest (m : Mod) (t by_ : Nat) : (m.powerRequest t by_).pace = m.pace := by simp [powerRequest]
@[simp] theorem pace_sleepRequest (m : Mod) (mask : Nat) : (m.sleepRequest mask).pace = m.pace := by simp [sleepRequest]

/-! #### Register words (chapter 17) -/

@[simp] theorem pace_fieldWrite (m : Mod) (f : Fld) (v mask : Nat) : (m.fieldWrite f v mask).pace = m.pace := by
  simp only [fieldWrite]
  split <;> simp

@[simp] theorem pace_plainWrite (m : Mod) (pg off v mask : Nat) (skip : List Nat) : (m.plainWrite pg off v mask skip).pace = m.pace := by simp [plainWrite]
@[simp] theorem pace_keyWrite (m : Mod) (pg t mask : Nat) : (m.keyWrite pg t mask).pace = m.pace := by simp [keyWrite]

@[simp] theorem pace_runWrite (m : Mod) (v : Bool) : (m.runWrite v).pace = m.pace := by
  have hpend (u : Mod) (stop start : Bool) : (u.onFrm fun x => { x with stopPend := stop, startPend := start }).pace = u.pace := pace_onFrm _ _ rfl rfl
  cases v <;> simp [runWrite, hpend]

@[simp] theorem pace_tabWrite (m : Mod) (t off v mask : Nat) : (m.tabWrite t off v mask).pace = m.pace := by simp [tabWrite]
@[simp] theorem pace_softReset (m : Mod) : (m.softReset).pace = m.pace := by simp [softReset]
@[simp] theorem pace_envWrite (m : Mod) (p off v mask : Nat) : (m.envWrite p off v mask).pace = m.pace := by simp [envWrite]
@[simp] theorem pace_otpGo (m : Mod) : (m.otpGo).pace = m.pace := by simp [otpGo]
@[simp] theorem pace_cakWrite (m : Mod) (i v : Nat) : (m.cakWrite i v).pace = m.pace := by simp [cakWrite]
@[simp] theorem pace_stWrite (m : Mod) (n id t : Nat) : (m.stWrite n id t).pace = m.pace := by simp [stWrite]
@[simp] theorem pace_ciWrite (m : Mod) (j off v mask : Nat) : (m.ciWrite j off v mask).pace = m.pace := by simp [ciWrite]
@[simp] theorem pace_winWrite (m : Mod) (w off v mask : Nat) : (m.winWrite w off v mask).pace = m.pace := by simp [winWrite]
@[simp] theorem pace_autoOff (m : Mod) (q c : Nat) : (m.autoOff q c).pace = m.pace := by simp [autoOff]
@[simp] theorem pace_hqWrite (m : Mod) (q off v mask t : Nat) : (m.hqWrite q off v mask t).pace = m.pace := by simp [hqWrite]
@[simp] theorem pace_motWrite (m : Mod) (off v mask : Nat) (boundary : Bool) : (m.motWrite off v mask boundary).pace = m.pace := by simp [motWrite]
@[simp] theorem pace_lightWrite (m : Mod) (pg off v mask t : Nat) : (m.lightWrite pg off v mask t).pace = m.pace := by simp [lightWrite]
@[simp] theorem pace_fioWrite (m : Mod) (off v mask t : Nat) (w : Writer) : (m.fioWrite off v mask t w).pace = m.pace := by simp [fioWrite]
@[simp] theorem pace_canWrite (m : Mod) (n off v mask t : Nat) : (m.canWrite n off v mask t).pace = m.pace := by simp [canWrite]
@[simp] theorem pace_linWrite (m : Mod) (n off v mask t : Nat) : (m.linWrite n off v mask t).pace = m.pace := by simp [linWrite]
@[simp] theorem pace_frmWrite (m : Mod) (off v mask : Nat) : (m.frmWrite off v mask).pace = m.pace := by simp [frmWrite]
@[simp] theorem pace_nmWrite (m : Mod) (off v mask t : Nat) : (m.nmWrite off v mask t).pace = m.pace := by simp [nmWrite]
@[simp] theorem pace_updCtl (m : Mod) (t : Nat) : (m.updCtl t).pace = m.pace := by simp [updCtl]
@[simp] theorem pace_tileRefuse (m : Mod) (r : Nat) (w : Writer) : (m.tileRefuse r w).pace = m.pace := by simp [tileRefuse]

/-! #### The release (chapter 1) -/

@[simp] theorem pace_conflict (m : Mod) (a b : Src) : (m.conflict a b).pace = m.pace := by simp [conflict]

@[simp] theorem pace_breachDue (m : Mod) (late : Option Nat) (num cause : Nat) : (m.breachDue late num cause).pace = m.pace := by
  simp only [breachDue]
  split
  · simp
  · split <;> simp

@[simp] theorem pace_delivered (m : Mod) (late : Option Nat) (num : Nat) : (m.delivered late num).pace = m.pace := by simp [delivered]
@[simp] theorem pace_talk (m : Mod) (g : Nat) (body : List Nat) : (m.talk g body).pace = m.pace := by simp [talk]
@[simp] theorem pace_eventFrame (m : Mod) (k : Nat) (body : List Nat) : (m.eventFrame k body).pace = m.pace := by simp [eventFrame]

@[simp] theorem pace_applyEffect (m : Mod) (late : Option Nat) (e : Effect) : (m.applyEffect late e).pace = m.pace := by
  simp only [applyEffect]
  split <;> simp

@[simp] theorem pace_releaseStaged (m : Mod) (t : Nat) (late : Option Nat) (e : Sys2Proof.Machine.Staged) :
    (m.releaseStaged t late e).pace = m.pace := by simp [releaseStaged]

end Mod

end Sys2Proof.Machine

/-! ### A rollback's release (R59, R91): it ends the held tick and moves no other -/
namespace Sys2Proof.Machine

namespace Mod
open Reg

theorem pace_foldl_fst {α β : Type} {f : Mod × β → α → Mod × β} (hf : ∀ a x, (f a x).1.pace = a.1.pace) (l : List α) (a : Mod × β) :
    (l.foldl f a).1.pace = a.1.pace := by
  induction l generalizing a with
  | nil => rfl
  | cons x l ih => exact (ih _).trans (hf a x)

@[simp] theorem pace_objWrite (m : Mod) (a v : Nat) (vinko : Bool) : (m.objWrite a v vinko).1.pace = m.pace := by simp [objWrite, apply_ite Prod.fst]

@[simp] theorem pace_mergePair (m : Mod) (t : Nat) (l : List Sys2Proof.Machine.Staged) (es : List Commit) : (m.mergePair t l es).1.pace = m.pace := by
  refine pace_foldl_fst (fun a f => ?_) _ _
  split
  · exact pace_conflict ..
  · rfl

/-- A word other than the watchdog's kick. -/
theorem pace_wordWrite (m : Mod) {pg off : Nat} (hkick : ¬ (pg = 0x09 ∧ off = 0x134)) (v mask : Nat) (w : Writer) :
    (m.wordWrite pg off v mask w).pace = m.pace := by simp [wordWrite, hkick]

/-- The tick, and the tick that a rollback holds. -/
def clock (m : Mod) : Nat × Option HeldTick := (m.frm.tick, m.frm.held)

theorem clock_of_pace {m t : Mod} (h : t.pace = m.pace) : t.clock = m.clock := congrArg (fun p => (p.1, p.2.1)) h

theorem clock_foldl {α : Type} {f : Mod → α → Mod} (hf : ∀ (m : Mod) a, (f m a).clock = m.clock) (l : List α) (m : Mod) : (l.foldl f m).clock = m.clock := by
  induction l generalizing m with
  | nil => rfl
  | cons a l ih => exact (ih _).trans (hf m a)

theorem clock_ite {m t u : Mod} {c : Prop} [Decidable c] (ht : t.clock = m.clock) (hu : u.clock = m.clock) : (if c then t else u).clock = m.clock := by
  split
  · exact ht
  · exact hu

/-- The watchdog's kick moves its count alone. -/
theorem clock_kick (m : Mod) (key : Nat) : (m.kick key).clock = m.clock := clock_ite rfl rfl

theorem clock_wordWrite (m : Mod) (pg off v mask : Nat) (w : Writer) : (m.wordWrite pg off v mask w).clock = m.clock := by
  by_cases hkick : pg = 0x09 ∧ off = 0x134
  · obtain ⟨rfl, rfl⟩ := hkick
    simp only [wordWrite]
    generalize hu : (if m.keyOpen 9 = false ∧ m.rwlChanges 9 308 v mask = true then _ else m) = u
    have hkeyed : u.clock = m.clock := by
      rw [← hu]
      exact clock_ite (clock_of_pace (pace_keyReject ..)) rfl
    refine clock_ite hkeyed ?_
    simp [clock_kick, hkeyed]
  · exact clock_of_pace (pace_wordWrite m hkick v mask w)

/-! #### The release -/

theorem clock_commitPage (m : Mod) (e : Commit) : (m.commitPage e).clock = m.clock := by
  simp only [commitPage]
  refine clock_ite (clock_wordWrite ..) (clock_ite rfl (clock_ite (clock_wordWrite ..) (clock_of_pace ?_)))
  simp

theorem clock_commitEntry (m : Mod) (e : Commit) : (m.commitEntry e).clock = m.clock := by
  simp only [commitEntry]
  split
  · exact clock_commitPage ..
  all_goals exact clock_of_pace (by simp)

theorem clock_releaseCommit (m : Mod) (h : HeldTick) (es : List Commit) (kept : List Nat) (late : Option Nat) :
    (m.releaseCommit h es kept late).clock = m.clock := by
  have hstaged (l : List Sys2Proof.Machine.Staged) (u : Mod) : (l.foldl (fun m e => m.releaseStaged h.tick late e) u).clock = u.clock :=
    clock_foldl (fun _ _ => clock_of_pace (pace_releaseStaged ..)) l u
  have hentries (l : List Commit) (u : Mod) : (l.foldl commitEntry u).clock = u.clock := clock_foldl clock_commitEntry l u
  have hdelivered (l : List Nat) (u : Mod) : (l.foldl (fun m n => m.delivered late n) u).clock = u.clock :=
    clock_foldl (fun _ _ => clock_of_pace (pace_delivered ..)) l u
  have hbreached (l : List Nat) (u : Mod) : (l.foldl (fun m n => m.breachDue late n 7) u).clock = u.clock :=
    clock_foldl (fun _ _ => clock_of_pace (pace_breachDue ..)) l u
  have hblamed (u : Mod) (p : Promise → Bool) : (u.blame p 7).clock = u.clock := clock_of_pace (pace_blame ..)
  simp only [releaseCommit, hdelivered, hbreached, hblamed, hentries, hstaged]
  exact clock_of_pace (pace_mergePair ..)

/-- The re-executed tick is released: it is held no longer, and `TICK` stays. -/
theorem clock_rollbackRelease {m : Mod} {h : HeldTick} (delay : Nat) (hheld : m.frm.held = some h) (hagreed : m.pair.reagreed = true)
    (hwithhold : m.frm.withhold = false) (hdue : m.boot.resetDue = 0) : (m.rollbackRelease delay).clock = (m.frm.tick, none) := by
  have hjudged (l : List Promise) (u : Mod) : (l.foldl (fun m p => m.judge p.num) u).clock = u.clock :=
    clock_foldl (fun _ _ => clock_of_pace (pace_judge ..)) l u
  have hcarried (u : Mod) : (forN 4 (fun (m : Mod) j => m.onQd j fun x => { x with carry := 0 }) u).clock = u.clock :=
    clock_of_pace (pace_forN (fun _ _ => pace_onQd ..) _ _)
  simp only [rollbackRelease, hheld, hagreed, hwithhold, hdue, hjudged, hcarried, clock_releaseCommit, Bool.true_eq_false, Bool.false_eq_true, ne_eq, not_true_eq_false,
    or_self, if_false]
  rfl

end Mod
end Sys2Proof.Machine

/-! ### The boundaries of frames and superframes (R17, R42), the loss of vehicle time (R28) and a rod's reload (R50, R51) -/
namespace Sys2Proof.Machine

namespace Mod
open Reg

/-- What a superframe boundary swaps and clears, the envelope settings that wait for it, and the tick are as before. -/
structure SwapKept (m t : Mod) : Prop where
  next : t.rd FRM.TAB_NEXT = m.rd FRM.TAB_NEXT
  act : t.rd FRM.TAB_ACT = m.rd FRM.TAB_ACT
  count : t.rd PAIR.SF_RB = m.rd PAIR.SF_RB
  pend : t.prm.envPend = m.prm.envPend
  tick : t.frm.tick = m.frm.tick

theorem SwapKept.refl (m : Mod) : m.SwapKept m := ⟨rfl, rfl, rfl, rfl, rfl⟩

theorem SwapKept.trans {m t u : Mod} (h : m.SwapKept t) (hu : t.SwapKept u) : m.SwapKept u :=
  ⟨hu.next.trans h.next, hu.act.trans h.act, hu.count.trans h.count, hu.pend.trans h.pend, hu.tick.trans h.tick⟩

/-- Neither the registers nor the waiting settings nor the tick change. -/
theorem SwapKept.of {m t u : Mod} (h : m.SwapKept t) (hregs : u.regs = t.regs) (hpend : u.prm.envPend = t.prm.envPend)
    (htick : u.frm.tick = t.frm.tick) : m.SwapKept u :=
  h.trans ⟨rd_congr hregs _, rd_congr hregs _, rd_congr hregs _, hpend, htick⟩

theorem SwapKept.wrKey {m t : Mod} {f : Fld} (h : m.SwapKept t) (hf : f.key ∉ [FRM.TAB_NEXT.key, FRM.TAB_ACT.key, PAIR.SF_RB.key]) (v : Nat) :
    m.SwapKept (t.wr f v) := by
  simp only [List.mem_cons, List.not_mem_nil, or_false, not_or] at hf
  obtain ⟨hnext, hact, hcount⟩ := hf
  exact h.trans ⟨rd_wr_other _ _ _ _ hnext, rd_wr_other _ _ _ _ hact, rd_wr_other _ _ _ _ hcount, rfl, rfl⟩

/-- The registers above the pages of the Frame and the pair. -/
theorem SwapKept.wr {m t : Mod} {f : Fld} (h : m.SwapKept t) (hf : 0x0B ≤ f.page) (v : Nat) : m.SwapKept (t.wr f v) :=
  h.wrKey (fun hmem => by
    have hge := key_ge_of_page hf
    have hlow : ∀ k ∈ [FRM.TAB_NEXT.key, FRM.TAB_ACT.key, PAIR.SF_RB.key], k < 0x0B * 524288 := by decide
    exact absurd (hlow _ hmem) (by omega)) v

theorem SwapKept.inc {m t : Mod} {f : Fld} (h : m.SwapKept t) (hf : 0x0B ≤ f.page) : m.SwapKept (t.inc f) := h.wr hf _

theorem SwapKept.wrB {m t : Mod} {f : Fld} (h : m.SwapKept t) (hf : 0x0B ≤ f.page) (b : Bool) : m.SwapKept (t.wrB f b) := h.wr hf _

theorem SwapKept.ev {m t : Mod} (h : m.SwapKept t) {cls : Nat} (hc : cls < 4) (pg code : Nat) (l : List Item) : m.SwapKept (t.ev pg cls code l) :=
  h.trans ⟨rd_ev_own _ _ _ _ _ _ hc (by decide) (by decide), rd_ev_own _ _ _ _ _ _ hc (by decide) (by decide),
    rd_ev_own _ _ _ _ _ _ hc (by decide) (by decide), by rw [ev_prm], by rw [ev_frm]⟩

theorem SwapKept.onQuad {m t : Mod} (h : m.SwapKept t) (q : Nat) (f : QuadX → QuadX) : m.SwapKept (t.onQuad q f) := h.of rfl rfl rfl

theorem SwapKept.onChan {m t : Mod} (h : m.SwapKept t) (q c : Nat) (f : ChanX → ChanX) : m.SwapKept (t.onChan q c f) := h.of rfl rfl rfl

theorem SwapKept.onQd {m t : Mod} (h : m.SwapKept t) (j : Nat) (f : QdX → QdX) : m.SwapKept (t.onQd j f) := h.of rfl rfl rfl

theorem SwapKept.ite {m t u : Mod} {c : Prop} [Decidable c] (ht : m.SwapKept t) (hu : m.SwapKept u) : m.SwapKept (if c then t else u) := by
  split
  · exact ht
  · exact hu

theorem swapKept_foldl {α : Type} {f : Mod → α → Mod} (hf : ∀ (m : Mod) a, m.SwapKept (f m a)) (l : List α) (m : Mod) : m.SwapKept (l.foldl f m) := by
  induction l generalizing m with
  | nil => exact .refl m
  | cons a l ih => exact (hf m a).trans (ih _)

theorem swapKept_forN {f : Mod → Nat → Mod} (hf : ∀ (m : Mod) i, m.SwapKept (f m i)) (n : Nat) (m : Mod) : m.SwapKept (forN n f m) := swapKept_foldl hf _ m

/-! #### The reports of a superframe -/

theorem page_hq (q : Nat) : 0x0B ≤ 0x10 + q := by omega

theorem swapKept_countEvt (m : Mod) {pg : Nat} (hpg : 0x0B ≤ pg) (code : Nat) : m.SwapKept (m.countEvt pg code) := by
  exact .ite (.refl m) (((SwapKept.refl m).inc (f := COM.RAISED pg) hpg).wr (f := COM.LAST_CODE pg) hpg code)

theorem swapKept_qev (m : Mod) (q : Nat) {cls : Nat} (hc : cls < 4) (code : Nat) (l : List Item) : m.SwapKept (m.qev q cls code l) := by
  have h := SwapKept.refl m
  have hcounted := swapKept_countEvt m (page_hq q) code
  simp only [qev, qevPage]
  exact .ite (.ite (hcounted.of rfl rfl rfl) (hcounted.inc (f := HQ.QEVT_LOST q) (page_hq q))) (h.ev hc _ _ _)

theorem swapKept_pairShare (m : Mod) (q : Nat) : m.SwapKept (m.pairShare q) := by
  have h := SwapKept.refl m
  have hshare (v : Nat) := h.wr (f := HQ.SHARE q) (page_hq q) v
  have himbal (v w : Nat) := (hshare v).wr (f := HQ.IMBAL q) (page_hq q) w
  simp only [pairShare]
  exact .ite h (.ite ((himbal _ _).trans (swapKept_qev _ _ (by decide) _ _)) (.ite (hshare _) (himbal _ _)))

theorem swapKept_moduleLimits (m : Mod) : m.SwapKept m.moduleLimits := by
  unfold moduleLimits
  extract_lets m1 m2 m3 m4 m5 m6 m7 m8
  have hquad (u : Mod) (q a b : Nat) : u.SwapKept ((u.wr (HQ.QDISS q) a).wr (HQ.FEED_MEAN q) b) :=
    ((SwapKept.refl u).wr (f := HQ.QDISS q) (page_hq q) a).wr (f := HQ.FEED_MEAN q) (page_hq q) b
  have hover {u : Mod} (hu : m.SwapKept u) {f : Fld} (hf : 0x0B ≤ f.page) (q code : Nat) (l : List Item) : m.SwapKept ((u.inc f).qev q warn code l) :=
    (hu.inc hf).trans (swapKept_qev _ _ (by decide) _ _)
  have h1 : m.SwapKept m1 := swapKept_forN swapKept_pairShare 4 m
  have h2 : m.SwapKept m2 := h1.trans (swapKept_forN (fun u q =>
    .ite ((hquad u q _ _).trans (((SwapKept.refl _).inc (f := HQ.OVER_CNT q) (page_hq q)).trans (swapKept_qev _ _ (by decide) _ _))) (hquad u q _ _)) 4 m1)
  have h3 : m.SwapKept m3 := h2.wr (f := HQ.MOD_I_MEAN) (by decide) _
  have h4 : m.SwapKept m4 := h3.wr (f := HQ.MOD_ESTIMATE) (by decide) _
  have h5 : m.SwapKept m5 := .ite (hover h4 (f := HQ.AGG_OVER_CNT) (by decide) _ _ _) h4
  have h6 : m.SwapKept m6 := .ite (hover h5 (f := HQ.DISS_OVER_CNT) (by decide) _ _ _) h5
  have h7 : m.SwapKept m7 := .ite (h6.trans (swapKept_qev _ _ (by decide) _ _)) h6
  have h8 : m.SwapKept m8 := h7.trans (swapKept_forN (fun u q => (SwapKept.refl u).onQuad q _) 4 m7)
  exact h8.trans (swapKept_forN (fun u o => (SwapKept.refl u).onChan (o / 20) (o % 20) _) 80 m8)

theorem swapKept_qdReport (m : Mod) (j : Nat) : m.SwapKept (m.qdReport j) := by
  unfold qdReport
  extract_lets n
  split
  · exact .refl m
  · exact SwapKept.onQd ((SwapKept.refl m).ev (by decide) _ _ _) j _

theorem swapKept_t1sReport (m : Mod) (n : Nat) : m.SwapKept (m.t1sReport n) := by
  unfold t1sReport
  extract_lets k
  have hcleared : m.SwapKept (m.onTseg n fun x => { x with colSf := 0 }) := (SwapKept.refl m).of rfl rfl rfl
  split
  · exact .refl m
  · exact hcleared.ev (by decide) _ _ _

theorem swapKept_amend (m : Mod) (pg code detail : Nat) : m.SwapKept (m.amend pg code detail) := by
  simp only [amend]
  split
  · exact (SwapKept.refl m).of rfl rfl rfl
  · split
    · exact (SwapKept.refl m).of rfl rfl rfl
    · exact .refl m

theorem swapKept_secReport (m : Mod) (n : Nat) : m.SwapKept (m.secReport n) :=
  .ite (.refl m) ((swapKept_amend ..).of rfl rfl rfl)

theorem swapKept_lostNotices (m : Mod) : m.SwapKept m.lostNotices := by
  have hcleared : m.SwapKept (m.onVnk fun x => { x with lostSf := 0, unknownSf := false }) := (SwapKept.refl m).of rfl rfl rfl
  exact .ite hcleared (hcleared.ev (by decide) _ _ _)

theorem swapKept_dropReport (m : Mod) : m.SwapKept m.dropReport := by
  have hcleared : m.SwapKept (m.onEvt fun x => { x with rises := [] }) := (SwapKept.refl m).of rfl rfl rfl
  simp only [dropReport]
  exact .ite (.refl m) (hcleared.ev (by decide) _ _ _)

theorem swapKept_calibrate (m : Mod) (period temp : Nat) : m.SwapKept (m.calibrate period temp) := by
  have hkept (l : List Nat) : m.SwapKept (m.onPwr fun x => { x with cal := l }) := (SwapKept.refl m).of rfl rfl rfl
  simp only [calibrate]
  exact .ite (.refl m) (((hkept _).wrKey (f := AON.CAL_PERIOD) (by decide) _).wrKey (f := AON.CAL_TEMP) (by decide) _)

/-! #### The fetch of a tick -/

theorem swapKept_notice (m : Mod) (slot kind : Nat) (body : List Nat) : m.SwapKept (m.notice slot kind body) := by
  have h := SwapKept.refl m
  have hlost {t : Mod} (ht : m.SwapKept t) : m.SwapKept ((t.inc VNK.NOTICE_LOST_CNT).onVnk fun x => { x with lostSf := x.lostSf + 1 }) :=
    (ht.inc (f := VNK.NOTICE_LOST_CNT) (by decide)).of rfl rfl rfl
  simp only [notice]
  exact .ite (h.of rfl rfl rfl) (.ite (hlost (h.of rfl rfl rfl)) (hlost h))

theorem swapKept_breachWith (m : Mod) (p : Promise) (cause d16 : Nat) (withdrawn : Bool) : m.SwapKept (m.breachWith p cause d16 withdrawn) := by
  unfold breachWith
  extract_lets m1 m2 m3 m4 m5
  have h1 : m.SwapKept m1 := (SwapKept.refl m).of rfl rfl rfl
  have h2 : m.SwapKept m2 := (h1.inc (f := PRM.BREACH_CNT) (by decide)).inc (f := PRM.BREACH_BY cause) (show 0x0B ≤ 0x0B by decide)
  have h3 : m.SwapKept m3 := (((h2.wr (f := PRM.BR_NUM) (by decide) _).wr (f := PRM.BR_CAUSE) (by decide) _).wr (f := PRM.BR_CLASS) (by decide) _).wr
    (f := PRM.BR_SOURCE) (by decide) _
  have h4 : m.SwapKept m4 := h3.ev (by decide) _ _ _
  have h5 : m.SwapKept m5 := .ite (h4.of rfl rfl rfl) h4
  split
  · exact h5.trans (swapKept_notice ..)
  · exact h5

/-- A rod without a copy breaches the promises that depend on it. -/
theorem swapKept_skipRod (m : Mod) (r : Nat) : m.SwapKept (m.skipRod r) := swapKept_foldl (fun _ _ => swapKept_breachWith ..) _ m

theorem swapKept_tilFail (m : Mod) (r copies check : Nat) (scrub : Bool) : m.SwapKept (m.tilFail r copies check scrub) := by
  unfold tilFail
  extract_lets m1 m2 m3
  have h1 : m.SwapKept m1 := (((SwapKept.refl m).wr (f := TIL.FAIL_ROD) (by decide) _).wr (f := TIL.FAIL_COPY) (by decide) _).wrB (f := TIL.FAIL_HDR) (by decide) _
  have h2 : m.SwapKept m2 := (h1.wrB (f := TIL.FAIL_SCRUB) (by decide) _).wr (f := TIL.FAIL_TICK16) (by decide) _
  have h3 : m.SwapKept m3 := .ite (h2.inc (f := TIL.FAIL_A_CNT) (by decide)) h2
  exact .ite (h3.inc (f := TIL.FAIL_B_CNT) (by decide)) h3

theorem swapKept_tilDouble (m : Mod) (r check serves : Nat) (scrub : Bool) : m.SwapKept (m.tilDouble r check serves scrub) := by
  unfold tilDouble
  extract_lets m1
  have h1 : m.SwapKept m1 := ((swapKept_tilFail ..).inc (f := TIL.DOUBLE_CNT) (by decide)).ev (by decide) _ _ _
  exact .ite (h1.of rfl rfl rfl) (h1.of rfl rfl rfl)

theorem swapKept_loadRod (m : Mod) (r : Nat) (asAlt : Bool) : m.SwapKept (m.loadRod r asAlt).1 := by
  unfold loadRod
  extract_lets gen ca e cb m1
  have he (u : Mod) : u.SwapKept (e u) := (SwapKept.refl u).ev (by decide) _ _ _
  have h1 : m.SwapKept m1 := (swapKept_tilFail ..).trans (he _)
  split
  · exact .refl m
  · split
    · exact h1.of rfl rfl rfl
    · exact (he m).trans (swapKept_tilDouble ..)

theorem swapKept_fetchSlot (m : Mod) (k : Nat) : m.SwapKept (m.fetchSlot k) := by
  unfold fetchSlot
  extract_lets run out r
  have hrun {u : Mod} (hu : m.SwapKept u) (x : SlotRun) : m.SwapKept (run u x) := hu.of rfl rfl rfl
  have hskip {u : Mod} (hu : m.SwapKept u) (r : Nat) : m.SwapKept (run (u.skipRod r) {}) := hrun (hu.trans (swapKept_skipRod u r)) _
  have hloaded {u v : Mod} (hu : m.SwapKept u) {r : Nat} {asAlt : Bool} {b : Option (List Nat)} (hv : u.loadRod r asAlt = (v, b)) : m.SwapKept v := by
    have hkept := swapKept_loadRod u r asAlt
    rw [hv] at hkept
    exact hu.trans hkept
  have h := SwapKept.refl m
  refine .ite (hrun h _) (.ite (hskip h _) ?_)
  split
  next u hu => exact hskip (hloaded h hu) _
  next u b hu =>
    have hfirst := hloaded h hu
    refine .ite (.ite (hrun hfirst _) (.ite (hskip hfirst _) ?_)) (hrun hfirst _)
    split
    next v hv => exact hskip (hloaded hfirst hv) _
    next v b hv => exact hrun (hloaded hfirst hv) _

theorem swapKept_fetch (m : Mod) : m.SwapKept m.fetch := .ite ((swapKept_forN swapKept_fetchSlot 3 m).of rfl rfl rfl) (.refl m)

end Mod
end Sys2Proof.Machine

/-! ### The boundaries (R17, R42), the loss of vehicle time (R28), a rod's reload (R50, R51) and a rollback's release (R59) -/
namespace Sys2Proof.Machine

namespace Mod
open Reg

/-- A frame boundary counts a frame for the pair's watchdog and moves no tick. -/
theorem pace_frameBoundary {m : Mod} (t0 t1 t2 t3 : Nat) (busy : List (Nat × Nat × Bool)) (htick : m.tick % 100 = 0) (hstate : m.pstate < 2)
    (hphase : m.pwr.phase ≠ 4) : (m.frameBoundary t0 t1 t2 t3 busy).pace = (m.frm.tick, m.frm.held, m.pair.wdt + 1) := by
  have hcounted {u : Mod} (hu : u.pace = m.pace) : (u.onPair fun x => { x with wdt := x.wdt + 1 }).pace = (m.frm.tick, m.frm.held, m.pair.wdt + 1) :=
    congrArg (fun p => (p.1, p.2.1, p.2.2 + 1)) hu
  rw [frameBoundary, if_neg (by omega), if_neg (by omega)]
  exact hcounted (by simp)

/-! #### The superframe -/

theorem envSettle_none {m : Mod} (h : m.prm.envPend = []) : m.envSettle = m.onPrm fun x => { x with envPend := [] } := by
  rw [envSettle, h]
  rfl

theorem SwapKept.envSettle {m t : Mod} (h : m.SwapKept t) (hpend : t.prm.envPend = []) : m.SwapKept t.envSettle := by
  rw [envSettle_none hpend]
  exact h.of rfl hpend.symm rfl

theorem SwapKept.onFrm {m t : Mod} (h : m.SwapKept t) {f : FrmX → FrmX} (hf : (f t.frm).tick = t.frm.tick) : m.SwapKept (t.onFrm f) := h.of rfl rfl hf

/-- A superframe boundary swaps the tables and clears the count of rollbacks. -/
theorem superframeBoundary_swaps {m : Mod} (period temp : Nat) (htick : m.tick % 100000 = 0) (hstate : m.pstate < 2) (hphase : m.pwr.phase ≠ 4)
    (hpend : m.prm.envPend = []) : (m.superframeBoundary period temp).frm.tick = m.frm.tick ∧
      (m.superframeBoundary period temp).rd FRM.TAB_ACT = m.rd FRM.TAB_NEXT % 2 ∧ (m.superframeBoundary period temp).rd PAIR.SF_RB = 0 := by
  rw [superframeBoundary, if_neg (by omega)]
  extract_lets m1 m2 m3 m4 m5
  have h1 : m.SwapKept m1 := (swapKept_moduleLimits m).trans (swapKept_forN swapKept_qdReport 4 _)
  have h2 : m.SwapKept m2 := h1.trans ((swapKept_t1sReport ..).trans (swapKept_t1sReport ..))
  have h3 : m.SwapKept m3 :=
    h2.trans (((swapKept_secReport ..).trans (swapKept_secReport ..)).trans ((swapKept_lostNotices _).trans (swapKept_dropReport _)))
  obtain ⟨u, hu⟩ : ∃ u, u = (m3.calibrate period temp).envSettle := ⟨_, rfl⟩
  have hcal := swapKept_calibrate m3 period temp
  have hsettled : m3.SwapKept u := by
    rw [hu]
    exact hcal.envSettle (hcal.pend.trans (h3.pend.trans hpend))
  have h4 : m4 = (u.wr FRM.TAB_ACT (m3.rd FRM.TAB_NEXT)).wr PAIR.SF_RB 0 := by rw [hu]
  clear_value m4
  have h5 : m4.SwapKept m5 := .ite ((SwapKept.refl m4).onFrm rfl) (.refl m4)
  have hfetched := h5.trans (swapKept_fetch m5)
  refine ⟨?_, ?_, ?_⟩
  · rw [hfetched.tick, h4]
    exact hsettled.tick.trans h3.tick
  · rw [hfetched.act, h4, rd_wr_other _ _ _ _ (by decide), rd_wr_same, h3.next]
    rfl
  · rw [hfetched.count, h4, rd_wr_same]
    rfl

/-! #### The loss of vehicle time -/

/-- A state of the clock that is left with a warning. -/
theorem syncGo_warns {m t : Mod} {k : Nat} (hk : k < 4) (hroom : m.Room 1) (ht : t = (m.syncGo k true).settle) :
    t.rd FRM.SYNC = k ∧ t.frm.good = 0 ∧ t.frm.bad = 0 ∧ m.Reported t 0x0A warn 0x0102 [sj k, vl16 (m.rd FRM.PHASE_ERR)] ∧ t.mem = m.mem ∧
      m.KeepsRegs (FRM.SYNC :: evtFlds 0x0A) t := by
  obtain ⟨u, hu⟩ : ∃ u, u = (m.wr FRM.SYNC k).onFrm fun x =>
    { x with good := 0, bad := 0, holdSf := 0, freq := if k = 0 then 0 else x.freq, freqAcc := if k = 0 then 0 else x.freqAcc } := ⟨_, rfl⟩
  have hphase : u.rd FRM.PHASE_ERR = m.rd FRM.PHASE_ERR := by
    rw [hu]
    exact rd_wr_other _ _ _ _ (by decide)
  have hrun : m.syncGo k true = u.ev 0x0A warn 0x0102 [sj k, vl16 (m.rd FRM.PHASE_ERR)] := by
    simp only [syncGo, ← hu, hphase, if_true]
  rw [hrun] at ht
  subst ht
  refine ⟨?_, ?_, ?_, ?_, ?_, ?_⟩
  · rw [rd_settle _ _ (by decide), rd_ev_own _ _ _ _ _ _ (by decide) (by decide) (by decide), hu]
    exact (rd_wr_same ..).trans (Nat.mod_eq_of_lt hk)
  · rw [settle_frm, ev_frm, hu]
    rfl
  · rw [settle_frm, ev_frm, hu]
    rfl
  · rw [reported_settle]
    exact reported_ev _ _ _ _ (by rw [hu]; rfl) (by rw [hu]; rfl) hroom
  · rw [settle_mem, ev_mem, hu]
    rfl
  · rw [keepsRegs_settle, keepsRegs_ev (List.subset_cons_self _ _) (by decide), hu]
    exact (keepsRegs_wr (by simp) m m k).mpr (keepsRegs_refl _ m)

/-! #### A rod's reload -/

/-- The registers of a reload lie apart from the rods out of service. -/
theorem oos_key : ∀ i : Fin 32, (TIL.OOS i).key / 524288 = 0x0C ∧ (TIL.OOS i).key ∉ derivedKeys ∧ (TIL.OOS i).key ≠ TIL.OOS_ANY.key ∧
    (TIL.OOS i).key ≠ TIL.RELOAD_BUSY.key ∧ 0x100 ≤ (TIL.OOS i).key / 128 % 4096 := by decide

/-- A rod for which no image has a copy goes out of service. -/
theorem reloadDone_noImage {m t : Mod} {r : Nat} {l : List Nat} (hreload : m.frm.reload = r :: l) (hslot : m.boot.cfgSlot = none) (hr : r < 1024)
    (ht : t = m.reloadDone.settle) : t.frm.reload = l ∧ t.rd TIL.RELOAD_BUSY = (if l = [] then 0 else 1) ∧
      (t.rd (TIL.OOS (r / 32))).testBit (r % 32) = true ∧ t.rd TIL.OOS_ANY = 1 ∧ t.mem = m.mem ∧ m.OnlyPages [0x0C, 0x08] t := by
  obtain ⟨u, hu⟩ : ∃ u, u = ((m.onFrm fun x => { x with reload := l }).wr TIL.RELOAD_ROD (l.headD 0x3FF)).wrB TIL.RELOAD_BUSY (!l.isEmpty) := ⟨_, rfl⟩
  obtain ⟨v, hv⟩ : ∃ v, v = u.wrBit (TIL.OOS (r / 32)) (r % 32) true := ⟨_, rfl⟩
  have hrun : m.reloadDone = (v.wr TIL.OOS_ANY 1).ev 0x0C crit 0x0106 [sj16 r] := by
    have hkept : u.boot.cfgSlot = none := by
      rw [hu]
      exact hslot
    rw [reloadDone, hreload]
    simp only [← hu, hkept, hv]
  obtain ⟨hpage, hderived, hany, hbusy, hoff⟩ := oos_key ⟨r / 32, by omega⟩
  have hparts : v = { u with regs := v.regs } := by
    rw [hv]
    exact wrBit_only ..
  have hmem : v.mem = m.mem := by
    rw [hparts, hu]
    rfl
  have hfrm : v.frm.reload = l := by
    rw [hparts, hu]
    rfl
  rw [hrun] at ht
  subst ht
  refine ⟨?_, ?_, ?_, ?_, ?_, ?_⟩
  · rw [settle_frm, ev_frm]
    exact hfrm
  · rw [rd_settle _ _ (by decide), rd_ev_own _ _ _ _ _ _ (by decide) (by decide) (by decide), rd_wr_other _ _ _ _ (by decide), hv,
      rd_wrBit_other _ _ _ _ _ hbusy, hu, rd_wrB_same]
    cases l <;> rfl
  · rw [rd_settle _ _ hderived, rd_ev_own _ _ _ _ _ _ (by decide) (by omega) hoff, rd_wr_other _ _ _ _ hany.symm, hv]
    exact bit_wrBit_same u (TIL.OOS (r / 32)) true (show r % 32 < 32 by omega)
  · rw [rd_settle _ _ (by decide), rd_ev_own _ _ _ _ _ _ (by decide) (by decide) (by decide), rd_wr_same]
    rfl
  · rw [settle_mem, ev_mem]
    exact hmem
  · rw [onlyPages_settle, onlyPages_ev (by simp) (by simp) (by decide), onlyPages_wr (by decide), hv, onlyPages_wrBit (by rw [hpage]; simp), hu,
      onlyPages_wrB (by decide), onlyPages_wr (by decide)]
    exact onlyPages_refl _ m

end Mod

open Machine.Mod Reg

/-- A frame boundary. -/
theorem frameBoundary_runs (s : State) (t0 t1 t2 t3 : Byte) (busy : List (Fin 22 × Span)) (htick : s.mod.tick % 100 = 0) (hstate : s.mod.pstate < 2)
    (hphase : s.mod.pwr.phase ≠ 4) : s.Runs (.frameBoundary t0 t1 t2 t3 busy) fun m t => t.tick = m.tick ∧ t.pair.wdt = m.pair.wdt + 1 := by
  refine State.runs_next s _ _ _ rfl ?_
  have hpace := pace_frameBoundary t0.toNat t1.toNat t2.toNat t3.toNat (busy.map fun b => (2 + b.1, b.2.occ.toNat, b.2.sof)) htick hstate hphase
  rw [tick, tick, settle_frm, settle_pair]
  exact ⟨congrArg (·.1) hpace, congrArg (·.2.2) hpace⟩

/-- A superframe boundary. -/
theorem superframeBoundary_runs (s : State) (period : BitVec 24) (temp : Byte) (htick : s.mod.tick % 100000 = 0) (hstate : s.mod.pstate < 2)
    (hphase : s.mod.pwr.phase ≠ 4) (hpend : s.mod.prm.envPend = []) : s.Runs (.superframeBoundary period temp) fun m t =>
      t.tick = m.tick ∧ t.rd FRM.TAB_ACT = m.rd FRM.TAB_NEXT % 2 ∧ t.rd PAIR.SF_RB = 0 := by
  refine State.runs_next s _ _ _ rfl ?_
  obtain ⟨hkept, hact, hcount⟩ := superframeBoundary_swaps period.toNat temp.toNat htick hstate hphase hpend
  rw [tick, settle_frm, rd_settle _ _ (by decide), rd_settle _ _ (by decide)]
  exact ⟨hkept, hact, hcount⟩

/-- Three update intervals without an update. -/
theorem holdoverEntry_runs (s : State) (hsync : s.mod.rd FRM.SYNC = 1 ∨ s.mod.rd FRM.SYNC = 2) (hlate : s.mod.frm.lastUpd + 3 * s.mod.updateTicks ≤ s.mod.tick)
    (hroom : s.mod.Room 1) : s.Runs .holdoverEntry fun m t => t.rd FRM.SYNC = 3 ∧ t.frm.good = 0 ∧ t.frm.bad = 0 ∧
      m.Reported t 0x0A warn 0x0102 [sj 3, vl16 (m.rd FRM.PHASE_ERR)] ∧ t.mem = m.mem ∧ m.KeepsRegs (FRM.SYNC :: evtFlds 0x0A) t := by
  refine State.runs_next s _ _ _ rfl (syncGo_warns (by decide) hroom ?_)
  rw [holdoverEntry, if_pos ⟨hsync, hlate⟩]

/-- The superframes of a Holdover are over. -/
theorem holdoverExpire_runs (s : State) (hsync : s.mod.rd FRM.SYNC = 3) (hlim : s.mod.rd FRM.HOLDOVER_LIM ≤ s.mod.frm.holdSf) (hroom : s.mod.Room 1) :
    s.Runs .holdoverExpire fun m t => t.rd FRM.SYNC = 0 ∧ m.Reported t 0x0A warn 0x0102 [sj 0, vl16 (m.rd FRM.PHASE_ERR)] ∧ t.mem = m.mem ∧
      m.KeepsRegs (FRM.SYNC :: evtFlds 0x0A) t := by
  refine State.runs_next s _ _ _ rfl ?_
  rw [holdoverExpire, if_pos ⟨hsync, hlim⟩]
  obtain ⟨hgone, -, -, hshown⟩ := syncGo_warns (m := s.mod) (k := 0) (by decide) hroom rfl
  exact ⟨hgone, hshown⟩

/-- The re-executed tick is released. -/
theorem rollbackRelease_runs (s : State) (delay : BitVec 16) (h : HeldTick) (hheld : s.mod.frm.held = some h) (hagreed : s.mod.pair.reagreed = true)
    (hwithhold : s.mod.frm.withhold = false) (hdue : s.mod.boot.resetDue = 0) : s.Runs (.rollbackRelease delay) fun m t =>
      t.frm.held = none ∧ t.tick = m.tick := by
  refine State.runs_next s _ _ _ rfl ?_
  have hclock := clock_rollbackRelease delay.toNat hheld hagreed hwithhold hdue
  rw [tick, settle_frm]
  exact ⟨congrArg (·.2) hclock, congrArg (·.1) hclock⟩

/-- Settles O20: what a frame boundary and a rollback's release run leaves the tick alone (`pace`, `clock`), and what a superframe
boundary runs before and after its swap leaves the swapped registers alone (`SwapKept`). -/
theorem boundariesSwapCountAndRelease : Obligations.BoundariesSwapCountAndRelease := by
  unfold Obligations.BoundariesSwapCountAndRelease
  intro s
  exact ⟨frameBoundary_runs s, superframeBoundary_runs s, holdoverEntry_runs s, holdoverExpire_runs s,
    fun r l hreload hslot hr => State.runs_next s _ _ _ rfl (reloadDone_noImage hreload hslot hr rfl), rollbackRelease_runs s⟩

end Sys2Proof.Machine
